-- ==== Sys2Proof/Word.lean ====
section
/-! DEFINITION. Word.lean: the two bit-vector types of the model: a 64-bit register word (R7) and a byte of memory. -/

namespace Sys2Proof

/-- A control and status register, 64 bits, little-endian (R7). -/
abbrev Word := BitVec 64

/-- One byte of HBM, of a tile store, of an operand cache or of a message. -/
abbrev Byte := BitVec 8

end Sys2Proof
end

