-- ==== Sys2Proof/Syntax.lean ====
section
/-! DEFINITION. Syntax.lean: the commands of the block, one constructor per row of the opcode table, in the table's order,
with the operands each brings from outside (log entry 4). The table gives no command any bits. -/

namespace Sys2Proof

/-- Flit types of R260. -/
inductive FlitType where
  | write | readReq | readData | queueItem | syncAdd | collData | ack | control | link
deriving DecidableEq, Repr

/-- Type codes of R260. -/
def FlitType.code : FlitType → Nat
  | .write => 0 | .readReq => 1 | .readData => 2 | .queueItem => 3 | .syncAdd => 4 | .collData => 5 | .ack => 6 | .control => 7
  | .link => 8

/-- A fabric flit: the envelope fields of R260 and 64 to 256 bytes of payload. -/
structure Flit where
  dstModule : Nat
  dstAddr : Nat
  srcModule : Nat
  epoch : Nat
  seq : Nat
  type : FlitType
  cls : Nat
  nonmin : Bool
  hops : Nat
  poison : Nat
  jobId : Nat
  step : Nat
  replay : Nat
  via : Nat
  ordered : Bool
  payload : List Byte
  /-- The crc word, formed and checked by the link layer (R292). -/
  crc : Nat := 0
  /-- The optical port it arrives on, or leaves by; not a field of the envelope. -/
  port : Nat := 0
deriving DecidableEq, Repr

/-- A hardware thread: logical core, scalar core 0 to 127 and thread slot 0 to 31 (R130). -/
structure ThreadRef where
  core : Nat
  scalar : Nat
  slot : Nat
deriving DecidableEq, Repr

/-- Who waits on a sync counter (R191, R196); threads by physical core and thread number. -/
inductive Waiter where
  | thread (phys t : Nat)
  | ring (r : Nat)
  | wing (core : Nat) (hw : Bool)
  | molt
deriving DecidableEq, Repr

/-- A piece of the copy pass (R251): a stripe of the shard, or, from the number of stripes on, the factor vectors of an entry; and
whether the engine's pair disagrees on it (R227). -/
structure CopyWork where
  stripe : Nat
  mismatch : Bool := false
deriving DecidableEq, Repr

/-- What the code of an HBM granule finds as the granule leaves its controller (R167): how many symbols are in error, whether the
pattern lies within 3 symbols of another codeword, and whether the read returned another location's data. `demand` is the granule of a demand read
(R169); with none it is the patrol scrub that reads (R168). -/
structure CodeCheck where
  symbols : Nat
  other : Bool := false
  moved : Bool := false
  demand : Option Nat := none
deriving DecidableEq, Repr

/-- The control complex reads carve-out memory (R172): the address, and whether its memory-failure handling contains poison met there. -/
structure CarveRead where
  addr : Nat
  contained : Bool := true
deriving DecidableEq, Repr

/-- A directive as its body carries it (R355): sequence number, instance, job, epoch and the operand words 2 and 3. -/
structure Directive where
  fmSeq : Nat
  inst : Nat
  job : Nat
  epoch : Nat
  w2 : Nat
  w3 : Nat
deriving DecidableEq, Repr

/-- Axis sizes of one branch (R22). -/
structure BranchShape where
  d : Nat
  p : Nat
  t : Nat
  e : Nat
  s : Nat
deriving DecidableEq, Repr

/-- What the runtime loads at a job start (R22, R25, R162): the job, this module's rank, the branch shapes, the
mapping table by rank (entries of R24), the sizes of regions 0 to 6 in 64 MiB units, the bank size of the rank whose
mirror this module holds, the base of the partner's mirror region (R327), the instar the job starts from, and 64 bits of the
true random generator (R159). -/
structure JobDesc where
  jobId : Nat
  seed : Nat
  nanTrap : Bool
  rank : Nat
  shapes : List BranchShape
  map : List Nat
  regions : List Nat
  heldBank : Nat
  mirrorBase : Nat
  instar : Nat
  random : Nat
deriving DecidableEq, Repr

/-- The header of a management message that has arrived (R425): the port it came by (0 A, 1 B), its session, seq and ack, and whether
its tag verifies. -/
structure Mgmt where
  port : Nat
  session : Nat
  seq : Nat
  ack : Nat
  tagOk : Bool
deriving DecidableEq, Repr

/-- SESSION_INIT (R426): the peer's key ID, the last event it has processed, its encapsulation key, its nonce, the bytes that
its signature covers, and the signature. -/
structure SessionInit where
  port : Nat
  keyId : Nat
  lastEvent : Nat
  kemKey : List Byte
  nonce : List Byte
  signed : List Byte
  sig : List Byte
deriving DecidableEq, Repr

/-- What the power controller measures in one loop (R393): input voltages (mV) and powers (W), and the draw of each domain of R394
over the last 100 ms (W). -/
structure PowerSample where
  mainMv : Nat
  auxMv : Nat
  mainW : Nat
  auxW : Nat
  domains : List Nat
deriving DecidableEq, Repr

/-- A live key that MKA agrees for a port's secure channels (R298): GCM-AES-XPN-256 or GCM-AES-256, the replay window, and the first
packet number of the peer's channel. -/
structure MacsecKey where
  xpn : Bool
  window : Nat
  first : Nat
deriving DecidableEq, Repr

/-- What an Ethernet frame brings to the front-end engine (R296 to R298): an MKA frame, after which a key is live or none is; priority
flow control with the priorities it pauses, or a plain pause frame; IPv4; neighbour discovery with a neighbour's address, or with the
address that autoconfiguration forms; a queue pair's connection for a queue of an NVMe controller (queue 0 its admin queue) and its
end; SEND, RDMA WRITE and RDMA READ of the peer on a queue pair; a congestion notification; an operation that the subset lacks;
and other IPv6 traffic. -/
inductive FeBody where
  | mka (key : Option MacsecKey)
  | pfc (paused : Nat)
  | pause
  | ipv4
  | neighbour (addr : Nat)
  | autoconf (addr : Nat)
  | connect (qp ctrl queue : Nat)
  | disconnect (qp : Nat)
  | send (qp : Nat) (data : List Byte)
  | rdmaWrite (qp addr : Nat) (data : List Byte)
  | rdmaRead (qp addr len : Nat)
  | cnp (qp : Nat)
  | unsupported
  | other
deriving DecidableEq, Repr

/-- An Ethernet frame at a front-end port (R296, R298): its length, destination MAC address, VLAN tag, IPv6 destination address, whether it
carries the ECN mark, its MACsec packet number and whether its integrity check passes where it is protected, and its content. -/
structure FeFrame where
  length : Nat
  mac : Nat
  vlan : Option Nat
  addr : Nat
  marked : Bool
  secured : Option (Nat × Bool)
  body : FeBody
deriving DecidableEq, Repr

/-- An access to CSR space: its address and its width in bytes (R7). -/
structure CsrRef where
  addr : Nat
  size : Nat := 8
deriving DecidableEq, Repr


/-- The commands. Each docstring names the rule the table gives the row. -/
inductive Instr where
  /-- AUX_POWER_UP (R385) -/
  | auxPowerUp (straps : Nat) (resetHigh present mainGood : Bool)
  /-- AUX_REMOVED (R387) -/
  | auxRemoved
  /-- MAIN_REMOVED (R387) -/
  | mainRemoved
  /-- MAIN_OVERVOLTAGE (R386) -/
  | mainOvervoltage
  /-- MAIN_GOOD (R445) -/
  | mainGood
  /-- RESET_N_ASSERT (R445) -/
  | resetNAssert
  /-- RESET_N_RELEASE (R445) -/
  | resetNRelease (straps : Nat)
  /-- PRSNT_N_LOSS (R445) -/
  | prsntNLoss
  /-- WAKE_N (R447) -/
  | wakeN
  /-- RAILS_GOOD (R388) -/
  | railsGood
  /-- BOOT_START (R410) -/
  | bootStart (failed : List Nat)
  /-- BOOT_COMPLETE (R410) -/
  | bootComplete
  /-- RECOVERY_REQ_TIMER (R412) -/
  | recoveryReqTimer
  /-- RECOVERY_IMAGE (R412) -/
  | recoveryImage (chunks : List (Nat × List Byte))
  /-- STEWARD_WATCHDOG (R405) -/
  | stewardWatchdog
  /-- JOB_START (R25) -/
  | jobStart (j : JobDesc)
  /-- SCRUB_COMPLETE (R21) -/
  | scrubComplete
  /-- STEP_OPEN (R222) -/
  | stepOpen
  /-- STEP_REPLAY (R33) -/
  | stepReplay
  /-- MB_ADMIT (R212) -/
  | mbAdmit
  /-- SEGMENT_START (R211) -/
  | segmentStart (core : Nat) (hw : Bool)
  /-- EPILOGUE_ENTRY (R209) -/
  | epilogueEntry (core : Nat) (hw : Bool)
  /-- SEGMENT_COMPLETE (R211) -/
  | segmentComplete (core : Nat) (hw : Bool)
  /-- COCOON_ALLOC_REQUEST (R214) -/
  | cocoonAllocRequest (core : Nat) (hw : Bool)
  /-- COCOON_ALLOC_GRANT (R215) -/
  | cocoonAllocGrant
  /-- COCOON_STALL_TIMEOUT (R215) -/
  | cocoonStallTimeout (core : Nat) (hw : Bool)
  /-- MB_DEADLINE_EXPIRY (R218) -/
  | mbDeadlineExpiry (mb : Nat) (backward : Bool)
  /-- MB_HARD_LIMIT_EXPIRY (R218) -/
  | mbHardLimitExpiry (mb : Nat) (backward : Bool)
  /-- STANDIN_TAKEOVER (R217) -/
  | standinTakeover (core : Nat)
  /-- ARBITER_GRANT (R213) -/
  | arbiterGrant (core : Nat)
  /-- CHECK_MISMATCH (R97) -/
  | checkMismatch (core checkers : Nat)
  /-- RETRY_RESTART (R99) -/
  | retryRestart (core : Nat)
  /-- INJECT_MISMATCH (R100) -/
  | injectMismatch (core : Nat)
  /-- TILE_COMPLETE (R76) -/
  | tileComplete (core : Nat) (hw : Bool)
  /-- REQUANT_PREPASS_DONE (R82) -/
  | requantPrepassDone (core : Nat) (hw : Bool)
  /-- ROW_TILE_ACCEPT (R104) -/
  | rowTileAccept (core : Nat) (hw : Bool)
  /-- SOFTMAX_EXP_PASS (R113) -/
  | softmaxExpPass (core ctx : Nat)
  /-- ATTN_MERGE_TILE (R114) -/
  | attnMergeTile (core : Nat)
  /-- ROW_CMD_START (R109) -/
  | rowCmdStart (core : Nat)
  /-- ROW_CMD_RUN (R109) -/
  | rowCmdRun (core : Nat)
  /-- ROW_CONTEXT_COMPLETE (R111) -/
  | rowContextComplete (core : Nat)
  /-- ROW_FLUSH_CTX (R105) -/
  | rowFlushCtx (core : Nat)
  /-- VEC_LAUNCH (R139) -/
  | vecLaunch (core : Nat)
  /-- VEC_LAUNCH_COMPLETE (R139) -/
  | vecLaunchComplete (core : Nat)
  /-- FLUSH_ICACHE (R145) -/
  | flushIcache (core : Nat)
  /-- THREAD_RESUME (R152) -/
  | threadResume (core : Nat)
  /-- ADD (R148) -/
  | add (th : ThreadRef)
  /-- SUB (R148) -/
  | sub (th : ThreadRef)
  /-- MUL (R148) -/
  | mul (th : ThreadRef)
  /-- MULHI (R148) -/
  | mulhi (th : ThreadRef)
  /-- MULHU (R148) -/
  | mulhu (th : ThreadRef)
  /-- AND (R148) -/
  | and (th : ThreadRef)
  /-- OR (R148) -/
  | or (th : ThreadRef)
  /-- XOR (R148) -/
  | xor (th : ThreadRef)
  /-- SHL (R148) -/
  | shl (th : ThreadRef)
  /-- SHR (R148) -/
  | shr (th : ThreadRef)
  /-- SRA (R148) -/
  | sra (th : ThreadRef)
  /-- MIN (R148) -/
  | min (th : ThreadRef)
  /-- MAX (R148) -/
  | max (th : ThreadRef)
  /-- MINU (R148) -/
  | minu (th : ThreadRef)
  /-- MAXU (R148) -/
  | maxu (th : ThreadRef)
  /-- ADDS (R148) -/
  | adds (th : ThreadRef)
  /-- SUBS (R148) -/
  | subs (th : ThreadRef)
  /-- MAD (R148) -/
  | mad (th : ThreadRef)
  /-- SEL (R148) -/
  | sel (th : ThreadRef)
  /-- MOV (R148) -/
  | mov (th : ThreadRef)
  /-- INT_EQ (R148) -/
  | intEq (th : ThreadRef)
  /-- INT_NE (R148) -/
  | intNe (th : ThreadRef)
  /-- INT_LT (R148) -/
  | intLt (th : ThreadRef)
  /-- INT_LE (R148) -/
  | intLe (th : ThreadRef)
  /-- INT_LTU (R148) -/
  | intLtu (th : ThreadRef)
  /-- INT_LEU (R148) -/
  | intLeu (th : ThreadRef)
  /-- FADD (R150) -/
  | fadd (th : ThreadRef)
  /-- FSUB (R150) -/
  | fsub (th : ThreadRef)
  /-- FMUL (R150) -/
  | fmul (th : ThreadRef)
  /-- FFMA (R150) -/
  | ffma (th : ThreadRef)
  /-- FFMS (R150) -/
  | ffms (th : ThreadRef)
  /-- FNMA (R150) -/
  | fnma (th : ThreadRef)
  /-- FMIN (R150) -/
  | fmin (th : ThreadRef)
  /-- FMAX (R150) -/
  | fmax (th : ThreadRef)
  /-- FABS (R150) -/
  | fabs (th : ThreadRef)
  /-- FNEG (R150) -/
  | fneg (th : ThreadRef)
  /-- FSQRT (R150) -/
  | fsqrt (th : ThreadRef)
  /-- FRCPE (R150) -/
  | frcpe (th : ThreadRef)
  /-- FRSQE (R150) -/
  | frsqe (th : ThreadRef)
  /-- FEXP2 (R150) -/
  | fexp2 (th : ThreadRef)
  /-- FSCALE (R148) -/
  | fscale (th : ThreadRef)
  /-- FEXPO (R150) -/
  | fexpo (th : ThreadRef)
  /-- FP_EQ (R150) -/
  | fpEq (th : ThreadRef)
  /-- FP_LT (R150) -/
  | fpLt (th : ThreadRef)
  /-- FP_LE (R150) -/
  | fpLe (th : ThreadRef)
  /-- FP_UN (R150) -/
  | fpUn (th : ThreadRef)
  /-- HADD2 (R148) -/
  | hadd2 (th : ThreadRef)
  /-- HMUL2 (R148) -/
  | hmul2 (th : ThreadRef)
  /-- HFMA2 (R148) -/
  | hfma2 (th : ThreadRef)
  /-- HMIN2 (R148) -/
  | hmin2 (th : ThreadRef)
  /-- HMAX2 (R148) -/
  | hmax2 (th : ThreadRef)
  /-- HDOT2 (R148) -/
  | hdot2 (th : ThreadRef)
  /-- CVT (R149) -/
  | cvt (th : ThreadRef)
  /-- PAND (R148) -/
  | pand (th : ThreadRef)
  /-- POR (R148) -/
  | por (th : ThreadRef)
  /-- PXOR (R148) -/
  | pxor (th : ThreadRef)
  /-- PNOT (R148) -/
  | pnot (th : ThreadRef)
  /-- PMOV (R148) -/
  | pmov (th : ThreadRef)
  /-- MOVI (R147) -/
  | movi (th : ThreadRef)
  /-- MOVHI (R147) -/
  | movhi (th : ThreadRef)
  /-- ADDI (R147) -/
  | addi (th : ThreadRef)
  /-- LD (R147) -/
  | ld (th : ThreadRef)
  /-- ST (R142) -/
  | st (th : ThreadRef)
  /-- FADD_M (R147) -/
  | faddM (th : ThreadRef)
  /-- FMUL_M (R147) -/
  | fmulM (th : ThreadRef)
  /-- FFMA_M (R147) -/
  | ffmaM (th : ThreadRef)
  /-- HFMA2_M (R147) -/
  | hfma2M (th : ThreadRef)
  /-- HDOT2_M (R147) -/
  | hdot2M (th : ThreadRef)
  /-- IADD_M (R147) -/
  | iaddM (th : ThreadRef)
  /-- DMA_ISSUE (R144) -/
  | dmaIssue (th : ThreadRef)
  /-- DMA_TRANSFER_COMPLETE (R144) -/
  | dmaTransferComplete (xfer : Nat) (fail : Bool)
  /-- SQ_PUSH (R151) -/
  | sqPush (th : ThreadRef)
  /-- SQ_POP (R151) -/
  | sqPop (th : ThreadRef)
  /-- SQ_STAT (R151) -/
  | sqStat (th : ThreadRef)
  /-- SYNC_ADD (R151) -/
  | syncAdd (th : ThreadRef)
  /-- SYNC_ADDR (R151) -/
  | syncAddr (th : ThreadRef)
  /-- SYNC_SET (R151) -/
  | syncSet (th : ThreadRef)
  /-- SYNC_READLO (R151) -/
  | syncReadlo (th : ThreadRef)
  /-- SYNC_READHI (R151) -/
  | syncReadhi (th : ThreadRef)
  /-- SYNC_WAIT (R151) -/
  | syncWait (th : ThreadRef)
  /-- BR (R135) -/
  | br (th : ThreadRef)
  /-- CALL (R147) -/
  | call (th : ThreadRef)
  /-- NOP (R147) -/
  | nop (th : ThreadRef)
  /-- EXIT (R136) -/
  | exit (th : ThreadRef)
  /-- RET (R147) -/
  | ret (th : ThreadRef)
  /-- FENCE_OC (R142) -/
  | fenceOc (th : ThreadRef)
  /-- FENCE_DMA (R144) -/
  | fenceDma (th : ThreadRef)
  /-- GANG_MASKP (R136) -/
  | gangMaskp (th : ThreadRef)
  /-- GANG_PUSH (R136) -/
  | gangPush (th : ThreadRef)
  /-- GANG_POP (R136) -/
  | gangPop (th : ThreadRef)
  /-- LANEID (R148) -/
  | laneid (th : ThreadRef)
  /-- BCAST (R148) -/
  | bcast (th : ThreadRef)
  /-- GANG_VOTE (R148) -/
  | gangVote (th : ThreadRef)
  /-- MASKRD (R148) -/
  | maskrd (th : ThreadRef)
  /-- LRED (R137) -/
  | lred (th : ThreadRef)
  /-- HINT_HEAVY (R396) -/
  | hintHeavy (th : ThreadRef)
  /-- HINT_LIGHT (R396) -/
  | hintLight (th : ThreadRef)
  /-- TRAP (R152) -/
  | trap (th : ThreadRef)
  /-- TICK (R148) -/
  | tick (th : ThreadRef)
  /-- TICKH (R148) -/
  | tickh (th : ThreadRef)
  /-- TID (R148) -/
  | tid (th : ThreadRef)
  /-- FLAGS (R148) -/
  | flags (th : ThreadRef)
  /-- CLRF (R148) -/
  | clrf (th : ThreadRef)
  /-- FTZ (R148) -/
  | ftz (th : ThreadRef)
  /-- SRT (R148) -/
  | srt (th : ThreadRef)
  /-- SRI (R148) -/
  | sri (th : ThreadRef)
  /-- ILLEGAL (R154) -/
  | illegal (th : ThreadRef)
  /-- PATROL_SCRUB (R168) -/
  | patrolScrub (check : CodeCheck)
  /-- SRAM_SCRUB (R165) -/
  | sramScrub (core : Nat) (ocache corrected uncorrectable : Bool) (offset : Nat)
  /-- MEM_CE_HOURLY (R169) -/
  | memCeHourly
  /-- IMBALANCE_WINDOW (R161) -/
  | imbalanceWindow (depths : List Nat)
  /-- REFETCH_REPLY (R173) -/
  | refetchReply (granule instar : Nat) (data : List Byte) (poison : Bool)
  /-- RESEND_REQUEST (R172) -/
  | resendRequest (granule instar src : Nat)
  /-- TS_RESIDENT_WRITE (R166) -/
  | tsResidentWrite (index value : Nat)
  /-- QUEUE_ENABLE (R177) -/
  | queueEnable (queue value : Nat)
  /-- QUEUE_WAIT_TIMEOUT (R190) -/
  | queueWaitTimeout (queue : Nat) (thread : Option ThreadRef)
  /-- ROUTER_FORWARD_ITEM (R186) -/
  | routerForwardItem (queue : Nat)
  /-- CREDIT_RETURN (R186) -/
  | creditReturn (queue count : Nat)
  /-- WAIT_TIMEOUT (R195) -/
  | waitTimeout (who : Waiter)
  /-- SYN_VALUE_WRITE (R193) -/
  | synValueWrite (counter value : Nat)
  /-- SYN_ADD_WRITE (R191) -/
  | synAddWrite (counter value : Nat)
  /-- SYN_WAITS_READ (R203) -/
  | synWaitsRead
  /-- RING_DOORBELL (R199) -/
  | ringDoorbell (ring value : Nat)
  /-- COMMAND_COMPLETE (R199) -/
  | commandComplete (ring : Nat)
  /-- RING_ENABLE (R200) -/
  | ringEnable (ring : Nat)
  /-- RING_DISABLE (R200) -/
  | ringDisable (ring : Nat)
  /-- RING_ABORT (R200) -/
  | ringAbort (ring : Nat)
  /-- RING_RESTART (R199) -/
  | ringRestart (ring : Nat)
  /-- RING_CPL_ACK (R199) -/
  | ringCplAck (ring value : Nat)
  /-- CMD_NOP (R198) -/
  | cmdNop (ring seq : Nat)
  /-- QUEUE_PUSH (R198) -/
  | queuePush (ring seq : Nat)
  /-- CMD_SYNC_ADD (R198) -/
  | cmdSyncAdd (ring seq : Nat)
  /-- CMD_SYNC_SET (R198) -/
  | cmdSyncSet (ring seq : Nat)
  /-- CMD_SYNC_READ (R198) -/
  | cmdSyncRead (ring seq : Nat)
  /-- CMD_SYNC_WAIT (R198) -/
  | cmdSyncWait (ring seq : Nat)
  /-- CMD_DMA (R198) -/
  | cmdDma (ring seq : Nat)
  /-- STEP_LOAD (R223) -/
  | stepLoad (ring seq : Nat)
  /-- STEP_RUN (R221) -/
  | stepRun (ring seq : Nat)
  /-- STEP_STOP (R221) -/
  | stepStop (ring seq : Nat)
  /-- STEP_WAIT (R221) -/
  | stepWait (ring seq : Nat)
  /-- JOB_END (R221) -/
  | jobEnd (ring seq : Nat)
  /-- JOB_CANCEL (R221) -/
  | jobCancel (ring seq : Nat)
  /-- STRIPE_UPDATE (R226) -/
  | stripeUpdate (engine stripe : Nat) (mismatch : Bool)
  /-- FACTOR_PASS (R244) -/
  | factorPass (entry : Nat) (mismatch : Bool)
  /-- HEADER_WRITE (R234) -/
  | headerWrite (mismatch : Bool)
  /-- COPY_PASS (R251) -/
  | copyPass (work : CopyWork)
  /-- REGENERATION_PASS (R246) -/
  | regenerationPass
  /-- LOAD_TABLE (R233) -/
  | loadTable
  /-- LOAD_UCODE (R245) -/
  | loadUcode
  /-- UC_END (R239) -/
  | ucEnd
  /-- UC_LD (R240) -/
  | ucLd (rd sel : Nat)
  /-- UC_LDK (R239) -/
  | ucLdk (rd sel : Nat)
  /-- UC_ST (R242) -/
  | ucSt (ra sel : Nat)
  /-- UC_ADD (R239) -/
  | ucAdd (rd ra rb : Nat)
  /-- UC_SUB (R239) -/
  | ucSub (rd ra rb : Nat)
  /-- UC_FMA (R239) -/
  | ucFma (rd ra rb rc : Nat)
  /-- UC_MUL (R239) -/
  | ucMul (rd ra rb : Nat)
  /-- UC_DIV (R239) -/
  | ucDiv (rd ra rb : Nat)
  /-- UC_SQRT (R239) -/
  | ucSqrt (rd ra : Nat)
  /-- UC_MAX (R239) -/
  | ucMax (rd ra rb : Nat)
  /-- UC_MIN (R239) -/
  | ucMin (rd ra rb : Nat)
  /-- UC_ABS (R239) -/
  | ucAbs (rd ra : Nat)
  /-- UC_NEG (R239) -/
  | ucNeg (rd ra : Nat)
  /-- UC_SIGN (R239) -/
  | ucSign (rd ra : Nat)
  /-- WRITE (R262) -/
  | write (f : Flit)
  /-- READ_REQ (R262) -/
  | readReq (f : Flit)
  /-- READ_DATA (R262) -/
  | readData (f : Flit)
  /-- QUEUE_ITEM (R187) -/
  | queueItem (f : Flit)
  /-- SYNC_ADD_FLIT (R192) -/
  | syncAddFlit (f : Flit)
  /-- COLL_DATA (R273) -/
  | collData (f : Flit)
  /-- ACK (R262) -/
  | ack (f : Flit)
  /-- ACK_TIMER (R262) -/
  | ackTimer (src : Nat) (ordered : Bool)
  /-- RETRANSMIT_TIMEOUT (R262) -/
  | retransmitTimeout (dst : Nat) (ordered : Bool) (seq : Nat)
  /-- HOT_LINK_TIMER (R269) -/
  | hotLinkTimer (output depth : Nat)
  /-- HOTSPOT_TIMER (R269) -/
  | hotspotTimer (output : Nat)
  /-- HEARTBEAT_TIMER (R280) -/
  | heartbeatTimer (port : Nat)
  /-- LINK_SILENCE (R280) -/
  | linkSilence (port : Nat)
  /-- ALL_REDUCE (R272) -/
  | allReduce
  /-- REDUCE_SCATTER (R272) -/
  | reduceScatter
  /-- ALL_GATHER (R272) -/
  | allGather
  /-- ALL_TO_ALL (R272) -/
  | allToAll
  /-- BROADCAST (R272) -/
  | broadcast
  /-- COLL_COMPLETE (R277) -/
  | collComplete (collSeq : Nat)
  /-- PORT_BRINGUP (R286) -/
  | portBringup (port : Nat)
  /-- BRINGUP_RETRY_TIMER (R286) -/
  | bringupRetryTimer (port : Nat)
  /-- BRINGUP_TIMEOUT (R286) -/
  | bringupTimeout (port : Nat)
  /-- HELLO (R289) -/
  | hello (port : Nat) (body : List Byte)
  /-- HELLO_ACK (R288) -/
  | helloAck (port : Nat) (body : List Byte)
  /-- HEARTBEAT (R287) -/
  | heartbeat (port : Nat) (body : List Byte)
  /-- LINK_ACK (R292) -/
  | linkAck (port : Nat) (body : List Byte)
  /-- RETRY_REQ (R292) -/
  | retryReq (port : Nat) (body : List Byte)
  /-- RETRAIN (R293) -/
  | retrain (port : Nat) (body : List Byte)
  /-- HOT_SET (R269) -/
  | hotSet (port : Nat) (body : List Byte)
  /-- KEEPALIVE (R294) -/
  | keepalive (port : Nat) (body : List Byte)
  /-- WAKE (R294) -/
  | wake (port : Nat) (body : List Byte)
  /-- KEEPALIVE_IDLE_TIMER (R294) -/
  | keepaliveIdleTimer (port : Nat)
  /-- LANE_FAIL (R293) -/
  | laneFail (port lanes : Nat)
  /-- RETRAIN_TIMEOUT (R293) -/
  | retrainTimeout (port : Nat)
  /-- LIGHT_SOURCE_FAIL (R283) -/
  | lightSourceFail (engine source wavelengths : Nat)
  /-- PORT_BER_HOURLY (R295) -/
  | portBerHourly (corrected : List Nat)
  /-- PORT_RETRAIN (R286) -/
  | portRetrain (port : Nat)
  /-- PORT_ENABLE (R286) -/
  | portEnable (port : Nat) (enable : Bool)
  /-- BRIDGE_DOORBELL (R302) -/
  | bridgeDoorbell (value : Nat)
  /-- BRIDGE_TRANSFER_COMPLETE (R302) -/
  | bridgeTransferComplete (peerError : Bool) (data : List Byte)
  /-- BRIDGE_RING_RESUME (R302) -/
  | bridgeRingResume
  /-- BRIDGE_PEER_WRITE (R301) -/
  | bridgePeerWrite (port addr : Nat) (data : List Byte)
  /-- BRIDGE_PEER_MESSAGE (R301) -/
  | bridgePeerMessage (port : Nat) (data : List Byte)
  /-- KEPT_NEXT_READY (R305) -/
  | keptNextReady (value : Nat)
  /-- KEPT_REPAIR_DONE (R307) -/
  | keptRepairDone
  /-- MODULE_VOTE (R311) -/
  | moduleVote
  /-- VOTE (R311) -/
  | vote (f : Flit)
  /-- DECISION (R313) -/
  | decision (f : Flit)
  /-- RECORD (R312) -/
  | record (f : Flit)
  /-- RECORD_ACK (R312) -/
  | recordAck (f : Flit)
  /-- DIGEST (R321) -/
  | digest (f : Flit)
  /-- MIRROR_DONE (R329) -/
  | mirrorDone (f : Flit)
  /-- VOTE_TIMEOUT (R314) -/
  | voteTimeout
  /-- CANARY_START (R324) -/
  | canaryStart (entry unit : Nat)
  /-- CANARY_COMPLETE (R325) -/
  | canaryComplete (entry unit : Nat) (ok : Bool)
  /-- MIRROR_BUILD_END (R329) -/
  | mirrorBuildEnd (held : Bool)
  /-- STATE_PULL_DONE (R330) -/
  | statePullDone (instar : Nat) (record heldComplete : Bool)
  /-- ROTATION_DUE (R335) -/
  | rotationDue (quadrant : Nat)
  /-- CORE_TEST_COMPLETE (R336) -/
  | coreTestComplete (phys : Nat) (passed : Bool)
  /-- SPARE_TEST_DUE (R337) -/
  | spareTestDue (phys : Nat)
  /-- TEST_DEFER_TIMER (R339) -/
  | testDeferTimer
  /-- TEST_OVERDUE_TIMER (R339) -/
  | testOverdueTimer
  /-- CHK_TEST_NOW (R337) -/
  | chkTestNow
  /-- JOB_HEARTBEAT_TIMER (R352) -/
  | jobHeartbeatTimer
  /-- JOB_HEARTBEAT (R352) -/
  | jobHeartbeat (f : Flit)
  /-- JOB_HB_TIMEOUT (R352) -/
  | jobHbTimeout (module : Nat)
  /-- LOSS_NOTICE (R353) -/
  | lossNotice (f : Flit)
  /-- REMAP_WAIT_TIMEOUT (R354) -/
  | remapWaitTimeout
  /-- STATUS_TIMER (R429) -/
  | statusTimer
  /-- FM_SILENCE_TIMEOUT (R356) -/
  | fmSilenceTimeout
  /-- REMAP (R357) -/
  | remap (m : Mgmt) (d : Directive)
  /-- DISCARD_STEP (R316) -/
  | discardStep (m : Mgmt) (d : Directive)
  /-- REPLAY (R357) -/
  | replay (m : Mgmt) (d : Directive)
  /-- HOLD (R28) -/
  | hold (m : Mgmt) (d : Directive)
  /-- RESUME (R28) -/
  | resume (m : Mgmt) (d : Directive)
  /-- CHRYSALIS (R357) -/
  | chrysalis (m : Mgmt) (d : Directive)
  /-- RETIRE_PORT (R357) -/
  | retirePort (m : Mgmt) (d : Directive)
  /-- TEST_NOW (R337) -/
  | testNow (m : Mgmt) (d : Directive)
  /-- DRAIN (R357) -/
  | drain (m : Mgmt) (d : Directive)
  /-- WAKE_SPARE (R358) -/
  | wakeSpare (m : Mgmt) (d : Directive)
  /-- ECLOSION_COMPLETE (R358) -/
  | eclosionComplete (ok : Bool)
  /-- PUPA_RETURN_TIMEOUT (R358) -/
  | pupaReturnTimeout
  /-- CORE_RETRY_HOURLY (R344) -/
  | coreRetryHourly
  /-- HUB_WATCHDOG_EXPIRY (R345) -/
  | hubWatchdogExpiry (unit : Nat)
  /-- COALESCE_WINDOW_CLOSE (R348) -/
  | coalesceWindowClose (code unit : Nat)
  /-- CUT (R368) -/
  | cut (f : Flit)
  /-- DONE (R378) -/
  | done (f : Flit)
  /-- REQUEST (R367) -/
  | request (f : Flit)
  /-- STAGING_COPY_DONE (R372) -/
  | stagingCopyDone
  /-- WRITE_COMMAND_COMPLETE (R370) -/
  | writeCommandComplete (index : Nat) (ok : Bool)
  /-- CHRYSALIS_DONE_TIMEOUT (R379) -/
  | chrysalisDoneTimeout
  /-- POWER_LOOP (R393) -/
  | powerLoop (sample : PowerSample)
  /-- FREQ_HANDOFF (R398) -/
  | freqHandoff (quadrant : Nat)
  /-- DROOP_ASSERT (R397) -/
  | droopAssert (phys : Nat)
  /-- DROOP_RELEASE (R397) -/
  | droopRelease (phys : Nat)
  /-- HINT_EXPIRY (R396) -/
  | hintExpiry (phys t : Nat)
  /-- ENERGY_INTEGRATE (R400) -/
  | energyIntegrate (mj : Nat)
  /-- THERMAL_SAMPLE (R401) -/
  | thermalSample (dies : List (List Int)) (package : Int)
  /-- CORE_CLOCK_GATE (R390) -/
  | coreClockGate (phys : Nat)
  /-- SESSION_INIT (R426) -/
  | sessionInit (m : SessionInit)
  /-- MGMT_ACK (R427) -/
  | mgmtAck (m : Mgmt) (last : Nat)
  /-- MGMT_ACK_TIMER (R427) -/
  | mgmtAckTimer (session : Nat)
  /-- MGMT_RETRANSMIT (R427) -/
  | mgmtRetransmit (session seq : Nat)
  /-- SESSION_TIMEOUT (R426) -/
  | sessionTimeout (session : Nat)
  /-- JOURNAL_READ (R430) -/
  | journalRead (m : Mgmt) (first count : Nat)
  /-- ATTEST_REQ (R424) -/
  | attestReq (m : Mgmt) (nonce : List Byte)
  /-- MGMT_READ (R428) -/
  | mgmtRead (m : Mgmt) (chain : Bool) (addr count : Nat)
  /-- CSR_WRITE (R428) -/
  | csrWrite (m : Mgmt) (addr value : Nat)
  /-- MODULE_RESET (R431) -/
  | moduleReset (m : Mgmt)
  /-- STEWARD_RESTART (R431) -/
  | stewardRestart (m : Mgmt)
  /-- POWER_CYCLE (R431) -/
  | powerCycle (m : Mgmt)
  /-- CONTROL_COMPLEX_RESTART (R431) -/
  | controlComplexRestart (m : Mgmt)
  /-- FLASH_WRITE (R432) -/
  | flashWrite (m : Mgmt) (flash offset : Nat) (data : List Byte)
  /-- FLASH_COMMIT (R432) -/
  | flashCommit (m : Mgmt) (flash : Nat)
  /-- SETTINGS_WRITE (R419) -/
  | settingsWrite (m : Mgmt) (key : Nat) (delete : Bool) (data : List Byte) (failA failB : Bool)
  /-- OTP_BURN (R417) -/
  | otpBurn (m : Mgmt) (field : Nat) (data readBack : List Byte)
  /-- CONSOLE_OPERATOR_KEY (R421) -/
  | consoleOperatorKey (key : List Byte)
  /-- MBOX_SEND (R434) -/
  | mboxSend
  /-- SEC_RNG_READ (R433) -/
  | secRngRead
  /-- I3C_STATUS_READ (R449) -/
  | i3cStatusRead
  /-- I3C_ACK_WRITE (R449) -/
  | i3cAckWrite (value : Nat)
  /-- I3C_ADDRESS_ASSIGN (R449) -/
  | i3cAddressAssign (addr : Nat)
  /-- JTAG_BYPASS (R451) -/
  | jtagBypass
  /-- JTAG_SAMPLE_PRELOAD (R451) -/
  | jtagSamplePreload
  /-- JTAG_EXTEST (R451) -/
  | jtagExtest
  /-- JTAG_IDCODE (R451) -/
  | jtagIdcode
  /-- REGISTER_WRITE (R9) -/
  | registerWrite (addr : CsrRef) (value : Nat)
  /-- PRSNT_N_RETURN (R445) -/
  | prsntNReturn (straps : Nat)
  /-- CARVE_OUT_POISON_READ (R172) -/
  | carveOutPoisonRead (read : CarveRead)
  /-- FLIT_CRC_FAIL (R292) -/
  | flitCrcFail (port : Nat) (fec : Bool)
  /-- FEC_ALIGNMENT_LOSS (R293) -/
  | fecAlignmentLoss (port : Nat)
  /-- LOSS_OF_LIGHT (R286) -/
  | lossOfLight (port : Nat)
  /-- FEC_ALIGNED (R286) -/
  | fecAligned (port lanes : Nat) (power : List Nat)
  /-- HELLO_RESEND (R286) -/
  | helloResend (port : Nat)
  /-- FRONT_END_PORT_DOWN (R299) -/
  | frontEndPortDown (front : Nat)
  /-- FRONT_END_FRAME (R298) -/
  | frontEndFrame (front : Nat) (frame : FeFrame)
  /-- STACK_TEMPERATURE_REPORT (R401) -/
  | stackTemperatureReport (temps : List Int)
  /-- DEBUG_INSTRUCTION (R451) -/
  | debugInstruction
deriving DecidableEq, Repr

end Sys2Proof
end

