-- ==== Sys2Proof/Config.lean ====
section
/-! DEFINITION. Config.lean: what the manual leaves open, as constants with no value (each is free: no proof can see what it
is), and the cryptographic functions the manual names without defining them (log entries 5 and 11). -/

namespace Sys2Proof

/-- A byte of tile store or operand cache that a molt or a discard left undefined (R12, R166): by generation and place. -/
opaque Config.memFill : Nat → Nat → Byte

/-- A score that the array does not write, beyond the extents of the feeding descriptor and inside its context's (R89, R107): by draw and
place in the tile. -/
opaque Config.scoreFill : Nat → Nat → BitVec 32

/-- Where the piece of a rank lies in a slot of the store, by slot, rank and part (0 controller, 1 namespace, 2 first block, 3 blocks used): the
coordinator's piece list names it, and no message brings it (R375, R378). -/
opaque Config.pieceArea : Nat → Nat → Nat → Nat

/-- The least canary_pass over all pieces of a chrysalis, by instar: no message brings it to the coordinator (R378). -/
opaque Config.canaryBound : Nat → Nat

/-- The security engine's true random generator (R159, R433): the n-th draw of 64 bits. -/
opaque Config.random : Nat → Nat

/-- Constant k of the image of ROM slot (R239, R241), where the listing of R241 does not give it. -/
opaque Config.romConst : Nat → Nat → Nat

/-- The two units of an update engine disagree in a regeneration pass (R227, R246): by draw. -/
opaque Config.pairMismatch : Nat → Bool

/-- SHAKE256 with a 32-byte output, as a number (R320, R423). -/
opaque Config.shake256 : List Byte → Nat

/-- The ML-DSA-65 signature of 3,309 bytes by the module's identity key (R376, R378, R424). -/
opaque Config.sign : List Byte → List Byte

/-- The random numbers that the router draws for its routes (R264): by draw and number of the choice. -/
opaque Config.router : Nat → Nat → Nat

/-- What the router knows of the other slots of its group: the module at the other end of a global port, by tick, slot and port;
39,968 and above for none. The manual does not say how a router learns it (R263; log entry 35). -/
opaque Config.slotLink : Nat → Nat → Nat → Nat

/-- The error figure of a lane in a HEARTBEAT of Mynov 4.2 (R291): by tick, port and lane. -/
opaque Config.laneErrors : Nat → Nat → Nat → Nat

/-- An ML-DSA-65 signature verifies: public key, message, signature (R411, R414, R426). -/
opaque Config.verifies : List Byte → List Byte → List Byte → Bool

/-- The boot ROM's digest of the public key of a firmware signing key index (R411). -/
opaque Config.romKey : Nat → Nat

/-- The module's public identity key, from the OTP identity seed (R422). -/
opaque Config.idKey : List Byte → List Byte

/-- The ML-KEM-768 ciphertext for an encapsulation key and a draw of the random generator (R426). -/
opaque Config.kem : List Byte → Nat → List Byte

/-- ABI versions of the hub firmware: 0 the front-end tables (R299), 1 the mailbox and settings (R434). -/
opaque Config.abi : Nat → Nat

/-- Yerdabel's 11-bit manufacturer identity in the JTAG IDCODE register (R451). -/
opaque Config.jedec : Nat

/-- How many steps of 25 MHz, and of issue duty, a limiter takes in a loop: by draw (R393, R395). -/
opaque Config.limiter : Nat → Nat

/-- What a counter of clocks or of memory traffic shows: by register field and tick (R128, R156, R175, R254). -/
opaque Config.clocks : Nat → Nat → Nat

end Sys2Proof
end

