-- ==== Sys2Proof/Machine/Sparse.lean ====
section
/-! DEFINITION. Machine/Sparse.lean: sparse maps from a number to a value, as lists in one canonical form: keys strictly
rising, and (for `sset`) no entry equal to what an unlisted key reads as. Registers, memories, queues and counters are held so. -/

namespace Sys2Proof.Machine

/-- A sparse map from a number to a value. -/
abbrev Sparse (α : Type) := List (Nat × α)

/-- The entry of a key, if it is listed. -/
def sget? {α : Type} : Sparse α → Nat → Option α
  | [], _ => none
  | (k, v) :: m, i => if i = k then some v else sget? m i

/-- The value of a key, `d` where it is not listed. -/
def sget {α : Type} (d : α) (m : Sparse α) (i : Nat) : α := (sget? m i).getD d

/-- List an entry at its place in the rising order. -/
def sput {α : Type} : Sparse α → Nat → α → Sparse α
  | [], i, v => [(i, v)]
  | (k, w) :: m, i, v =>
    if i < k then (i, v) :: (k, w) :: m
    else if i = k then (i, v) :: m
    else (k, w) :: sput m i v

/-- Drop the entry of a key. -/
def sdel {α : Type} : Sparse α → Nat → Sparse α
  | [], _ => []
  | (k, w) :: m, i => if i = k then sdel m i else (k, w) :: sdel m i

/-- Set a key: the default value is not listed. -/
def sset {α : Type} [DecidableEq α] (d : α) (m : Sparse α) (i : Nat) (v : α) : Sparse α :=
  if v = d then sdel m i else sput m i v

/-- Keep the entries whose key satisfies a test. -/
def skeep {α : Type} (p : Nat → Bool) : Sparse α → Sparse α
  | [] => []
  | (k, w) :: m => if p k then (k, w) :: skeep p m else skeep p m

/-- Apply a function to the value of every listed key. -/
def smap {α β : Type} (f : Nat → α → β) : Sparse α → Sparse β
  | [] => []
  | (k, w) :: m => (k, f k w) :: smap f m

/-- Every key of the map lies above `b`. -/
def sabove {α : Type} (b : Nat) : Sparse α → Bool
  | [] => true
  | (k, _) :: m => decide (b < k) && sabove b m

/-- The keys rise strictly. -/
def ssorted {α : Type} : Sparse α → Bool
  | [] => true
  | (k, _) :: m => sabove k m && ssorted m

/-- No listed value is the default. -/
def snodefault {α : Type} [DecidableEq α] (d : α) : Sparse α → Bool
  | [] => true
  | (_, v) :: m => decide (v ≠ d) && snodefault d m

/-- The canonical form: keys rise strictly and no entry is the default. -/
def scanon {α : Type} [DecidableEq α] (d : α) (m : Sparse α) : Bool := ssorted m && snodefault d m

end Sys2Proof.Machine
end

