-- ==== Sys2Proof/Machine/Flags.lean ====
section
/-! DEFINITION. Machine/Flags.lean: the arithmetic flags of R66 as one record, how they gather (R67, R92), and the bit
orders in which the engines show them (R103, R126, R156, R254, R281). -/

namespace Sys2Proof.Machine

/-- The flags of R66. -/
structure Flags where
  nv : Bool := false
  of : Bool := false
  uf : Bool := false
  nx : Bool := false
  sat : Bool := false
  scaleOvf : Bool := false
  scaleUf : Bool := false
deriving DecidableEq, Repr

def Flags.none : Flags := {}
def Flags.NV : Flags := { nv := true }
def Flags.OF : Flags := { of := true }
def Flags.UF : Flags := { uf := true }
def Flags.SAT : Flags := { sat := true }

/-- Flags are sticky: they gather by OR (R67). -/
def Flags.join (a b : Flags) : Flags :=
  { nv := a.nv || b.nv, of := a.of || b.of, uf := a.uf || b.uf, nx := a.nx || b.nx, sat := a.sat || b.sat,
    scaleOvf := a.scaleOvf || b.scaleOvf, scaleUf := a.scaleUf || b.scaleUf }

/-- NX belongs to the vector cluster only (R66). -/
def Flags.dropNx (a : Flags) : Flags := { a with nx := false }

def bit (b : Bool) : Nat := if b then 1 else 0

/-- Bits of ARR_FLAGS (R103): nv, of, uf, sat, scale_ovf, scale_uf from bit 0. -/
def Flags.arrBits (a : Flags) : Nat :=
  bit a.nv + 2 * bit a.of + 4 * bit a.uf + 8 * bit a.sat + 16 * bit a.scaleOvf + 32 * bit a.scaleUf

/-- Bits of ROW_FLAGS, UPD_FLAGS and FAB_COLL_FLAGS: nv, of, uf from bit 0. -/
def Flags.bits3 (a : Flags) : Nat := bit a.nv + 2 * bit a.of + 4 * bit a.uf

/-- Bits of VEC_FLAGS (R156): nv, of, uf, nx, sat from bit 0. -/
def Flags.vecBits (a : Flags) : Nat := bit a.nv + 2 * bit a.of + 4 * bit a.uf + 8 * bit a.nx + 16 * bit a.sat

/-- OR of two bit sets given as numbers. -/
def orBits (a b : Nat) : Nat := a ||| b

end Sys2Proof.Machine
end

