-- ==== Sys2Proof/Machine/Operands.lean ====
section
/-! DEFINITION. Machine/Operands.lean: the number formats of 02_number_formats: the format codes of R38, the encodings of
R39 and R44, exact values, the conversions of R54 to R61, stochastic rounding (R62 to R64) and the storage of R42. -/

namespace Sys2Proof.Machine

/-! ### Formats -/

/-- The formats of R38. -/
inductive Fmt where
  | fp32 | bf16 | fp16 | e4m3 | e5m2 | ue5m3
  | mxE4m3 | mxE5m2 | mxE2m3 | mxE3m2 | mxE2m1 | mxInt8 | mxUe5m3
  | int8 | uint8 | int4 | uint4 | int32
deriving DecidableEq, Repr

/-- The 5-bit format codes of R38; the others are reserved. -/
def Fmt.ofCode : Nat → Option Fmt
  | 0x00 => some .fp32 | 0x01 => some .bf16 | 0x02 => some .fp16 | 0x03 => some .e4m3 | 0x04 => some .e5m2
  | 0x05 => some .ue5m3 | 0x08 => some .mxE4m3 | 0x09 => some .mxE5m2 | 0x0A => some .mxE2m3 | 0x0B => some .mxE3m2
  | 0x0C => some .mxE2m1 | 0x0D => some .mxInt8 | 0x0E => some .mxUe5m3 | 0x10 => some .int8 | 0x11 => some .uint8
  | 0x12 => some .int4 | 0x13 => some .uint4 | 0x14 => some .int32 | _ => none

/-- Bits of one stored element (R38, less the shared scale). -/
def Fmt.bits : Fmt → Nat
  | .fp32 | .int32 => 32
  | .bf16 | .fp16 => 16
  | .mxE2m3 | .mxE3m2 => 6
  | .mxE2m1 | .int4 | .uint4 => 4
  | _ => 8

/-- Block-scaled formats (R41). -/
def Fmt.isMx : Fmt → Bool
  | .mxE4m3 | .mxE5m2 | .mxE2m3 | .mxE3m2 | .mxE2m1 | .mxInt8 | .mxUe5m3 => true
  | _ => false

/-- Integer formats (R44). -/
def Fmt.isInt : Fmt → Bool
  | .int8 | .uint8 | .int4 | .uint4 | .int32 => true
  | _ => false

/-- The operand classes of R46. -/
inductive OpClass where
  | floating | block | integer
deriving DecidableEq, Repr

/-- The class of an array operand format; none where R38 gives the array no such operand. -/
def Fmt.opClass : Fmt → Option OpClass
  | .bf16 | .fp16 => some .floating
  | .e4m3 | .e5m2 | .mxE4m3 | .mxE5m2 | .mxE2m3 | .mxE3m2 | .mxE2m1 | .mxInt8 => some .block
  | .int8 | .uint8 | .int4 | .uint4 => some .integer
  | _ => none

/-- Output formats each class allows (R46). -/
def OpClass.allowsOut (c : OpClass) (f : Fmt) : Bool :=
  match c with
  | .integer => decide (f = .int32 ∨ f = .fp32)
  | _ => match f with
    | .fp32 | .bf16 | .fp16 | .e4m3 | .e5m2 | .mxE4m3 | .mxE5m2 | .mxE2m3 | .mxE3m2 | .mxE2m1 | .mxInt8 => true
    | _ => false

/-! ### Exact values -/

/-- A value an engine computes with: a NaN (signalling or not), an infinity, or the exact number (−1)^neg × m × 2^e. -/
inductive FVal where
  | nan (sig : Bool)
  | inf (neg : Bool)
  | fin (neg : Bool) (m : Nat) (e : Int)
deriving DecidableEq, Repr

def FVal.zero : FVal := .fin false 0 0
def FVal.one : FVal := .fin false 1 0

def FVal.isNan : FVal → Bool
  | .nan _ => true
  | _ => false

def FVal.isSnan : FVal → Bool
  | .nan s => s
  | _ => false

def FVal.isInf : FVal → Bool
  | .inf _ => true
  | _ => false

def FVal.isZero : FVal → Bool
  | .fin _ 0 _ => true
  | _ => false

def FVal.isFinite : FVal → Bool
  | .fin _ _ _ => true
  | _ => false

/-- The sign of a number or an infinity. -/
def FVal.sign : FVal → Bool
  | .nan _ => false
  | .inf s => s
  | .fin s _ _ => s

/-- floor(log2(m × 2^e)) of a positive magnitude. -/
def flog2 (m : Nat) (e : Int) : Int := (Nat.log2 m : Int) + e

/-- m × 2^e compared with n × 2^f. -/
def magLt (m : Nat) (e : Int) (n : Nat) (f : Int) : Bool :=
  if e ≤ f then decide (m < n * 2 ^ (f - e).toNat) else decide (m * 2 ^ (e - f).toNat < n)

/-- The magnitude scaled by 2^k, exactly. -/
def FVal.scale (v : FVal) (k : Int) : FVal :=
  match v with
  | .fin s m e => .fin s m (e + k)
  | w => w

def FVal.neg : FVal → FVal
  | .fin s m e => .fin (!s) m e
  | .inf s => .inf (!s)
  | w => w

def FVal.abs : FVal → FVal
  | .fin _ m e => .fin false m e
  | .inf _ => .inf false
  | w => w

/-- The exact value of an integer. -/
def FVal.ofInt (i : Int) : FVal := .fin (decide (i < 0)) i.natAbs 0

/-! ### Floating-point encodings (R39) -/

/-- How a format spends its top exponent: IEEE infinities and NaNs; NaN in the all-ones code only (E4M3, and UE5M3
where 0xFF alone is NaN); nothing reserved. -/
inductive Top where
  | ieee | allOnes | plain
deriving DecidableEq, Repr

structure FpFmt where
  ebits : Nat
  mbits : Nat
  bias : Int
  top : Top
  unsigned : Bool
  /-- Canonical NaN (R70); 0 where the format has none (R61 writes zero there). -/
  canon : Nat
deriving DecidableEq, Repr

def FpFmt.fp32 : FpFmt := ⟨8, 23, 127, .ieee, false, 0x7FC00000⟩
def FpFmt.bf16 : FpFmt := ⟨8, 7, 127, .ieee, false, 0x7FC0⟩
def FpFmt.fp16 : FpFmt := ⟨5, 10, 15, .ieee, false, 0x7E00⟩
def FpFmt.e4m3 : FpFmt := ⟨4, 3, 7, .allOnes, false, 0x7F⟩
def FpFmt.e5m2 : FpFmt := ⟨5, 2, 15, .ieee, false, 0x7E⟩
def FpFmt.e2m3 : FpFmt := ⟨2, 3, 1, .plain, false, 0⟩
def FpFmt.e3m2 : FpFmt := ⟨3, 2, 3, .plain, false, 0⟩
def FpFmt.e2m1 : FpFmt := ⟨2, 1, 1, .plain, false, 0⟩
def FpFmt.ue5m3 : FpFmt := ⟨5, 3, 15, .allOnes, true, 0xFF⟩

/-- The floating-point encoding of an element of a format; none for the integer formats and MXINT8. -/
def Fmt.fp : Fmt → Option FpFmt
  | .fp32 => some .fp32 | .bf16 => some .bf16 | .fp16 => some .fp16
  | .e4m3 | .mxE4m3 => some .e4m3
  | .e5m2 | .mxE5m2 => some .e5m2
  | .ue5m3 | .mxUe5m3 => some .ue5m3
  | .mxE2m3 => some .e2m3 | .mxE3m2 => some .e3m2 | .mxE2m1 => some .e2m1
  | _ => none

/-- The largest element exponent of an MX format (table of 02_number_formats). -/
def Fmt.emax : Fmt → Int
  | .mxE4m3 => 8 | .mxE5m2 => 15 | .mxE2m3 => 2 | .mxE3m2 => 4 | .mxE2m1 => 2 | .mxInt8 => 0 | .mxUe5m3 => 16
  | _ => 0

/-- Exponent of the smallest normal value. -/
def FpFmt.emin (f : FpFmt) : Int := 1 - f.bias

/-- The code of the largest finite magnitude (R39). -/
def FpFmt.maxCode (f : FpFmt) : Nat :=
  match f.top with
  | .ieee => 2 ^ (f.ebits + f.mbits) - 2 ^ f.mbits - 1
  | .allOnes => 2 ^ (f.ebits + f.mbits) - 2
  | .plain => 2 ^ (f.ebits + f.mbits) - 1

/-- The magnitude of a code without its sign bit, as a normal or subnormal number. -/
def FpFmt.magnitude (f : FpFmt) (c : Nat) : Nat × Int :=
  let ex := c / 2 ^ f.mbits
  let fr := c % 2 ^ f.mbits
  if ex = 0 then (fr, f.emin - f.mbits) else (2 ^ f.mbits + fr, (ex : Int) - f.bias - f.mbits)

/-- The value an encoding stands for (R39). -/
def FpFmt.decode (f : FpFmt) (code : Nat) : FVal :=
  let mag := code % 2 ^ (f.ebits + f.mbits)
  let neg := !f.unsigned && (code / 2 ^ (f.ebits + f.mbits)) % 2 == 1
  let fr := mag % 2 ^ f.mbits
  let special := match f.top with
    | .ieee => mag / 2 ^ f.mbits == 2 ^ f.ebits - 1
    | .allOnes => mag == 2 ^ (f.ebits + f.mbits) - 1
    | .plain => false
  if special then
    if f.top == .ieee && fr == 0 then .inf neg
    else .nan (f.top == .ieee && decide (10 ≤ f.ebits + f.mbits) && fr / 2 ^ (f.mbits - 1) == 0)
  else
    let p := f.magnitude mag
    .fin neg p.1 p.2

/-- Two's complement value of the low `w` bits of a code. -/
def sext (w c : Nat) : Int :=
  let c := c % 2 ^ w
  if c < 2 ^ (w - 1) then (c : Int) else (c : Int) - 2 ^ w

/-- The low `w` bits of an integer. -/
def toCode (w : Nat) (i : Int) : Nat := (i % (2 ^ w : Int)).toNat

/-- The integer an encoding of R44 stands for. -/
def Fmt.intVal (f : Fmt) (c : Nat) : Int :=
  match f with
  | .uint8 => (c % 256 : Nat)
  | .uint4 => (c % 16 : Nat)
  | .int4 => sext 4 c
  | .int32 => sext 32 c
  | _ => sext 8 c

/-- The value of a stored element under scale byte `sc` (R41, R43: 0x7F for the formats without a scale plane). -/
def Fmt.value (f : Fmt) (c sc : Nat) : FVal :=
  if f.isMx && sc == 0xFF then .nan false
  else
    let v : FVal := match f with
      | .mxInt8 => (FVal.ofInt (sext 8 c)).scale (-6)
      | .int8 | .uint8 | .int4 | .uint4 | .int32 => FVal.ofInt (f.intVal c)
      | g => match g.fp with
        | some p => p.decode c
        | none => .zero
    if f.isMx then v.scale ((sc : Int) - 127) else v

/-! ### Random bits (R62) -/

def u64 (x : Nat) : Nat := x % 2 ^ 64
def mixG : Nat := 0x6A09E667F3BCC909
def mixM1 : Nat := 0xD1B54A32D192ED03
def mixM2 : Nat := 0xAEF17502108EF2D9

/-- The mixer of R62. -/
def mix (x : Nat) : Nat :=
  let x := u64 x
  let x := x ^^^ (x >>> 32)
  let x := u64 (x * mixM1)
  let x := x ^^^ (x >>> 29)
  let x := u64 (x * mixM2)
  x ^^^ (x >>> 32)

def stepKey (seed step : Nat) : Nat := mix (u64 seed ^^^ mix (u64 (step + mixG)))
def useKey (key use : Nat) : Nat := if use = 0 then key else mix (u64 (key + use * mixG))
def rbits (key tensorId index : Nat) : Nat :=
  let ctr := u64 (tensorId * 2 ^ 40 + index)
  mix (key ^^^ mix (u64 (ctr + mixG))) % 2 ^ 24

/-! ### Rounding -/

/-- A rounding mode with, for stochastic rounding, the 24 random bits of the element (R54, R64). -/
inductive Rnd where
  | nearest
  | stochastic (r : Nat)
deriving DecidableEq, Repr

/-- Round m × 2^e to a multiple k × 2^u; also whether it was inexact. Nearest takes ties to even; stochastic compares
the 24 bits after the kept ones with the random bits (R64). -/
def roundAt (md : Rnd) (m : Nat) (e u : Int) : Nat × Bool :=
  if u ≤ e then (m * 2 ^ (e - u).toNat, false)
  else
    let sh := (u - e).toNat
    let q := m / 2 ^ sh
    let r := m % 2 ^ sh
    if r = 0 then (q, false)
    else
      let up : Bool := match md with
        | .nearest => decide (2 ^ sh < 2 * r) || (decide (2 * r = 2 ^ sh) && decide (q % 2 = 1))
        | .stochastic b =>
          let q24 := if 24 ≤ sh then r / 2 ^ (sh - 24) else r * 2 ^ (24 - sh)
          decide (2 ^ 24 ≤ q24 + b % 2 ^ 24)
      (if up then q + 1 else q, true)

/-- Round to `p` significant bits with an unbounded exponent: mantissa, its unit exponent, inexact. -/
def roundSig (md : Rnd) (p : Nat) (m : Nat) (e : Int) : Nat × Int × Bool :=
  let u := flog2 m e - (p - 1 : Nat)
  let r := roundAt md m e u
  (r.1, u, r.2)

/-- The code of an exactly representable magnitude k × 2^u. -/
def FpFmt.encodeMag (f : FpFmt) (k : Nat) (u : Int) : Nat :=
  if k = 0 then 0
  else
    let l := flog2 k u
    if l < f.emin then k * 2 ^ (u - (f.emin - f.mbits)).toNat
    else
      let ex := (l + f.bias).toNat
      let lg := Nat.log2 k
      let fr := (if lg ≤ f.mbits then k * 2 ^ (f.mbits - lg) else k / 2 ^ (lg - f.mbits)) - 2 ^ f.mbits
      ex * 2 ^ f.mbits + fr

def FpFmt.withSign (f : FpFmt) (neg : Bool) (c : Nat) : Nat :=
  if neg && !f.unsigned then c + 2 ^ (f.ebits + f.mbits) else c

/-- How a converting engine treats results below the smallest normal value: the array flushes them (R58), the other
engines keep subnormals (R59), and MX elements keep them and set UF only for a non-zero element that becomes zero. -/
inductive Under where
  | flush | keep | element
deriving DecidableEq, Repr

/-- Convert a value to a floating-point format by the three steps of 02_number_formats: rounding (R54), overflow (R56,
R57) and underflow (R58, R59), with R40 for UE5M3. `clamp` is R61: a finite value beyond the largest finite one takes it
with no flag. -/
def FpFmt.convert (f : FpFmt) (md : Rnd) (saturate : Bool) (under : Under) (clamp : Bool) (v : FVal) : Nat × Flags :=
  match v with
  | .nan sig => (f.canon, if f.unsigned || sig then .NV else .none)
  | .inf neg =>
    if f.unsigned then (if neg then (0, .UF) else (f.maxCode, .OF))
    else if f.top == .ieee && !saturate then (f.withSign neg (2 ^ (f.ebits + f.mbits) - 2 ^ f.mbits), .none)
    else (f.withSign neg f.maxCode, .OF)
  | .fin neg m e =>
    if m = 0 then (f.withSign neg 0, .none)
    else if f.unsigned && neg then (0, { uf := true, nx := true })
    else
      let s1 := roundSig md (f.mbits + 1) m e
      let top := f.magnitude f.maxCode
      if magLt top.1 top.2 s1.1 s1.2.1 then
        if clamp then (f.withSign neg f.maxCode, { nx := true })
        else if f.top == .ieee && !saturate then
          (f.withSign neg (2 ^ (f.ebits + f.mbits) - 2 ^ f.mbits), { of := true, nx := true })
        else (f.withSign neg f.maxCode, { of := true, nx := true })
      else
        let tiny := decide (flog2 s1.1 s1.2.1 < f.emin)
        if tiny then
          match under with
          | .flush => (f.withSign neg 0, { uf := true, nx := true })
          | .keep =>
            let r := roundAt md m e (f.emin - f.mbits)
            (f.withSign neg (f.encodeMag r.1 (f.emin - f.mbits)), { uf := r.2, nx := r.2 })
          | .element =>
            let r := roundAt md m e (f.emin - f.mbits)
            (f.withSign neg (f.encodeMag r.1 (f.emin - f.mbits)), { uf := decide (r.1 = 0), nx := r.2 })
        else
          if s1.2.1 < f.emin - f.mbits ∧ under ≠ .flush then
            let r := roundAt md m e (f.emin - f.mbits)
            (f.withSign neg (f.encodeMag r.1 (f.emin - f.mbits)), { nx := r.2 })
          else (f.withSign neg (f.encodeMag s1.1 s1.2.1), { nx := s1.2.2 })

/-- Convert to FP32 as the vector cluster, the row engine, the update engine and the reduction units do (R55, R59). -/
def toF32 (v : FVal) : Nat × Flags := FpFmt.fp32.convert .nearest false .keep false v

/-- The value of an FP32 register. -/
def f32val (c : Nat) : FVal := FpFmt.fp32.decode c

/-- Convert to an integer format of `w` bits: NaN gives 0 with NV, an infinity the limit of its sign with NV, a finite
value beyond the range the nearer limit with SAT and, being inexact, NX (R57, R66); otherwise rounded. -/
def toInt (w : Nat) (signed : Bool) (md : Rnd) (v : FVal) : Nat × Flags :=
  let hi : Int := if signed then 2 ^ (w - 1) - 1 else 2 ^ w - 1
  let lo : Int := if signed then -(2 ^ (w - 1)) else 0
  match v with
  | .nan _ => (0, .NV)
  | .inf neg => (toCode w (if neg then lo else hi), .NV)
  | .fin neg m e =>
    let r := roundAt md m e 0
    let i : Int := if neg then -(r.1 : Int) else r.1
    if hi < i then (toCode w hi, { sat := true, nx := true })
    else if i < lo then (toCode w lo, { sat := true, nx := true })
    else (toCode w i, { nx := r.2 })

/-! ### MX blocks (R60, R61) -/

/-- The largest finite magnitude of a block, as (m, e); (0, 0) where there is none. -/
def blockAmax : List FVal → Nat × Int
  | [] => (0, 0)
  | v :: vs =>
    let r := blockAmax vs
    match v with
    | .fin _ m e => if m = 0 then r else if r.1 = 0 then (m, e) else if magLt r.1 r.2 m e then (m, e) else r
    | _ => r

/-- `mx_scale` of R60: the scale byte, and whether the scale was clamped at 127. -/
def mxScale (f : Fmt) (vs : List FVal) : Nat × Bool :=
  if vs.any FVal.isNan then (0xFF, false)
  else
    let a := blockAmax vs
    if a.1 = 0 then (0x7F, false)
    else
      let x := flog2 a.1 a.2 - f.emax
      if 127 < x then (254, true) else if x < -127 then (0, false) else ((x + 127).toNat, false)

/-- One element of an MX block under its scale (R57, R61): `saturate` decides what an infinity becomes. A NaN becomes the
MXINT8 element 0 with NV, as in any conversion to an integer. A negative infinity in an MXUE5M3 block gives 0x00 with UF
(log entry 80). -/
def mxElement (f : Fmt) (md : Rnd) (saturate : Bool) (sc : Nat) (v : FVal) : Nat × Flags :=
  let w := v.scale (127 - (sc : Int))
  match f.fp with
  | some p => p.convert md saturate .element true w
  | none =>
    -- MXINT8: i × 2^-6, clamped to −127 to 127
    match w with
    | .nan _ => (0, .NV)
    | .inf neg => (toCode 8 (if neg then -127 else 127), .OF)
    | .fin neg m e =>
      let r := roundAt md m (e + 6) 0
      let k := min r.1 127
      (toCode 8 (if neg then -(k : Int) else k), { uf := decide (m ≠ 0) && decide (k = 0), nx := r.2 || decide (127 < r.1) })

/-- A fresh MX block: scale, element codes, flags. `rnd k` is the rounding of element k. A block with a NaN takes scale
0xFF, canonical NaN elements for E4M3 and E5M2 and zeros for every other element type, UE5M3 among them (R61). -/
def mxBlock (f : Fmt) (rnd : Nat → Rnd) (saturate : Bool) (vs : List FVal) : Nat × List Nat × Flags :=
  let s := mxScale f vs
  if s.1 = 0xFF then
    let c := match f, f.fp with
      | .mxUe5m3, _ => 0
      | _, some p => p.canon
      | _, none => 0
    (0xFF, vs.map (fun _ => c),
      if vs.any FVal.isSnan || f == .mxUe5m3 then .NV else .none)
  else
    let es := vs.zipIdx.map (fun p => mxElement f (rnd p.2) saturate s.1 p.1)
    (s.1, es.map Prod.fst, es.foldl (fun a x => a.join x.2) { of := s.2 })

/-- Whether an overflow mode saturates for a format (R56). -/
def saturates (ovf : Nat) (f : Fmt) : Bool :=
  if ovf = 1 then false
  else if ovf = 2 then true
  else match f with
    | .fp32 | .bf16 | .fp16 => false
    | _ => true

/-- Convert one value to a format without a block scale. -/
def convertScalar (f : Fmt) (md : Rnd) (ovf : Nat) (under : Under) (v : FVal) : Nat × Flags :=
  match f with
  | .int8 => toInt 8 true md v
  | .uint8 => toInt 8 false md v
  | .int4 => toInt 4 true md v
  | .uint4 => toInt 4 false md v
  | .int32 => toInt 32 true .nearest v
  | .fp32 => FpFmt.fp32.convert .nearest (saturates ovf .fp32) under false v
  | g => match g.fp with
    | some p => p.convert md (saturates ovf g) under false v
    | none => (0, .none)

/-! ### Bytes and packing (R7, R42) -/

/-- Little-endian value of a list of bytes. -/
def leNat : List Byte → Nat
  | [] => 0
  | b :: bs => b.toNat + 256 * leNat bs

/-- `n` little-endian bytes of a number. -/
def leBytes : Nat → Nat → List Byte
  | 0, _ => []
  | n + 1, v => BitVec.ofNat 8 v :: leBytes n (v / 256)

/-- Field [hi:lo] of a number. -/
def fld (w hi lo : Nat) : Nat := (w / 2 ^ lo) % 2 ^ (hi + 1 - lo)

/-- Bit k of a number. -/
def bitAt (w k : Nat) : Bool := (w / 2 ^ k) % 2 == 1

/-- Pack element codes as R42 stores them: little-endian, `bits` each, padded to whole bytes. -/
def packNat (bits : Nat) : List Nat → Nat
  | [] => 0
  | c :: cs => c % 2 ^ bits + 2 ^ bits * packNat bits cs

def packBytes (bits : Nat) (cs : List Nat) : List Byte := leBytes ((cs.length * bits + 7) / 8) (packNat bits cs)

/-- Unpack `n` element codes from bytes. -/
def unpackNat (bits : Nat) : Nat → Nat → List Nat
  | 0, _ => []
  | n + 1, v => v % 2 ^ bits :: unpackNat bits n (v / 2 ^ bits)

def unpackBytes (bits n : Nat) (bs : List Byte) : List Nat := unpackNat bits n (leNat bs)

/-- Split a list into runs of `n`, `k` of them at most. -/
def chunksOf {α : Type} (n : Nat) : Nat → List α → List (List α)
  | 0, _ => []
  | k + 1, l => if l.isEmpty then [] else l.take n :: chunksOf n k (l.drop n)

end Sys2Proof.Machine
end

