-- ==== Sys2Proof/Machine/Fp.lean ====
section
/-! DEFINITION. Machine/Fp.lean: arithmetic on exact values: FP32 and BF16 operations rounded once (R59, R68, R112, R150),
the wide accumulator of the tensor array (R48 to R53) and the fixed summation trees of R65. -/

namespace Sys2Proof.Machine

/-! ### Exact operations -/

/-- The exact sum of two numbers; an exact zero is +0 unless both addends are −0 (R50, IEEE 754 nearest). -/
def exactAdd (s : Bool) (m : Nat) (e : Int) (t : Bool) (n : Nat) (f : Int) : FVal :=
  let g := min e f
  let a : Int := (if s then -1 else 1) * (m * 2 ^ (e - g).toNat : Nat)
  let b : Int := (if t then -1 else 1) * (n * 2 ^ (f - g).toNat : Nat)
  let c := a + b
  if c = 0 then .fin (s && t) 0 0 else .fin (decide (c < 0)) c.natAbs g

/-- Invalid operation: the canonical NaN with NV. -/
def invalid : FVal × Flags := (.nan false, .NV)

/-- The NaN result of an operation with NaN operands: NV only for a signalling one (R69). -/
def nanOf (vs : List FVal) : FVal × Flags := (.nan false, if vs.any FVal.isSnan then .NV else .none)

/-- a + b before rounding. -/
def addVal (a b : FVal) : FVal × Flags :=
  match a, b with
  | .nan _, _ | _, .nan _ => nanOf [a, b]
  | .inf s, .inf t => if s = t then (.inf s, .none) else invalid
  | .inf s, _ => (.inf s, .none)
  | _, .inf t => (.inf t, .none)
  | .fin s m e, .fin t n f => (exactAdd s m e t n f, .none)

/-- a × b before rounding. -/
def mulVal (a b : FVal) : FVal × Flags :=
  match a, b with
  | .nan _, _ | _, .nan _ => nanOf [a, b]
  | .inf s, .inf t => (.inf (s != t), .none)
  | .inf s, .fin t n _ => if n = 0 then invalid else (.inf (s != t), .none)
  | .fin s m _, .inf t => if m = 0 then invalid else (.inf (s != t), .none)
  | .fin s m e, .fin t n f => (.fin (s != t) (m * n) (e + f), .none)

/-- a × b + c before rounding. 0 × ∞ is invalid whatever the addend, a quiet NaN included (R66). -/
def fmaVal (a b c : FVal) : FVal × Flags :=
  match a, b with
  | .inf _, .fin _ 0 _ | .fin _ 0 _, .inf _ => invalid
  | _, _ =>
    let p := mulVal a b
    if p.1.isNan || c.isNan then nanOf [a, b, c]
    else addVal p.1 c

/-! ### Roots, quotients and powers -/

/-- Integer square root, bit by bit from bit k. -/
def isqrtFrom (n : Nat) : Nat → Nat → Nat
  | 0, r => if (r + 1) * (r + 1) ≤ n then r + 1 else r
  | k + 1, r => isqrtFrom n k (if (r + 2 ^ (k + 1)) * (r + 2 ^ (k + 1)) ≤ n then r + 2 ^ (k + 1) else r)

def isqrt (n : Nat) : Nat := isqrtFrom n (Nat.log2 n / 2 + 1) 0

/-- A quotient or root to many more bits than any format keeps, with one sticky bit below: it rounds as the exact
value does. -/
def withSticky (q : Nat) (exact : Bool) (e : Int) (neg : Bool) : FVal :=
  .fin neg (2 * q + (if exact then 0 else 1)) (e - 1)

/-- a / b before rounding (R66: a finite non-zero value over zero gives the signed infinity with no flag). -/
def divVal (a b : FVal) : FVal × Flags :=
  match a, b with
  | .nan _, _ | _, .nan _ => nanOf [a, b]
  | .inf _, .inf _ => invalid
  | .inf s, .fin t _ _ => (.inf (s != t), .none)
  | .fin s _ _, .inf t => (.fin (s != t) 0 0, .none)
  | .fin s m e, .fin t n f =>
    if n = 0 then (if m = 0 then invalid else (.inf (s != t), .none))
    else if m = 0 then (.fin (s != t) 0 0, .none)
    else
      let k := 80 + Nat.log2 n
      let q := m * 2 ^ k / n
      (withSticky q (decide (q * n = m * 2 ^ k)) (e - f - k) (s != t), .none)

/-- √a before rounding. -/
def sqrtVal (a : FVal) : FVal × Flags :=
  match a with
  | .nan _ => nanOf [a]
  | .inf s => if s then invalid else (.inf false, .none)
  | .fin s m e =>
    if m = 0 then (.fin s 0 0, .none)
    else if s then invalid
    else
      let odd := e % 2
      let n := m * 2 ^ odd.toNat * 2 ^ 160
      let q := isqrt n
      (withSticky q (decide (q * q = n)) ((e - odd) / 2 - 80) false, .none)

/-- 1 / √a before rounding; 1/√±0 is the infinity of the same sign, 1/√∞ is +0. -/
def rsqrtVal (a : FVal) : FVal × Flags :=
  match a with
  | .nan _ => nanOf [a]
  | .inf s => if s then invalid else (.fin false 0 0, .none)
  | .fin s m e =>
    if m = 0 then (.inf s, .none)
    else if s then invalid
    else
      let odd := e % 2
      let d := m * 2 ^ odd.toNat
      let k := 80 + Nat.log2 d
      let n := 2 ^ (2 * k) / d
      let q := isqrt n
      (withSticky q (decide (q * q * d = 2 ^ (2 * k))) (-((e - odd) / 2) - k) false, .none)

/-- 2^(2^-i) in units of 2^-128, from its predecessor. -/
def expRoot (c : Nat) : Nat := isqrt (c * 2 ^ 128)

/-- Product, over the set bits of `r` from bit `k` - 1 down, of the roots 2^(2^-1), 2^(2^-2), ... starting at `c`,
in units of 2^-128. -/
def exp2Frac : Nat → Nat → Nat → Nat → Nat
  | 0, _, _, acc => acc
  | k + 1, r, c, acc => exp2Frac k r (expRoot c) (if (r / 2 ^ k) % 2 = 1 then acc * c / 2 ^ 128 else acc)

/-- exp2 of R112: x rounded to the nearest multiple of 2^-24, then 2^x′ (log entry 12: 128 bits carry it to the side
of every FP32 rounding boundary on which the irrational value lies). -/
def exp2Val (x : FVal) : FVal × Flags :=
  match x with
  | .nan _ => nanOf [x]
  | .inf s => if s then (.fin false 0 0, .none) else (.inf false, .none)
  | .fin s m e =>
    let q := (roundAt .nearest m e (-24)).1
    let i : Int := if s then -(q : Int) else q
    let i := if 200 * 2 ^ 24 < i then 200 * 2 ^ 24 else if i < -(200 * 2 ^ 24) then -(200 * 2 ^ 24) else i
    let whole := i / 2 ^ 24
    let r := (i % 2 ^ 24).toNat
    if r = 0 then (.fin false 1 whole, .none)
    else (withSticky (exp2Frac 24 r (isqrt (2 ^ 257)) (2 ^ 128)) false (whole - 128) false, .none)

/-- The binary digits of log2 of y in [1, 2) (units of 2^-260): `k` digits after the point. -/
def log2Digits : Nat → Nat → Nat → Nat
  | 0, _, acc => acc
  | k + 1, y, acc =>
    let z := y * y / 2 ^ 260
    if 2 ^ 261 ≤ z then log2Digits k (z / 2) (2 * acc + 1) else log2Digits k z (2 * acc)

/-- log2 of R112 (log entry 12). -/
def log2Val (x : FVal) : FVal × Flags :=
  match x with
  | .nan _ => nanOf [x]
  | .inf s => if s then invalid else (.inf false, .none)
  | .fin s m e =>
    if m = 0 then (.inf true, .none)
    else if s then invalid
    else
      let l := Nat.log2 m
      let w := (l : Int) + e
      if m = 2 ^ l then (.fin (decide (w < 0)) w.natAbs 0, .none)
      else
        let y := if l ≤ 260 then m * 2 ^ (260 - l) else m / 2 ^ (l - 260)
        let d := log2Digits 120 y 0
        -- the value lies strictly between w + d × 2^-120 and one unit above
        let t : Int := 2 * (w * 2 ^ 120 + d) + 1
        (.fin (decide (t < 0)) t.natAbs (-121), .none)

/-! ### Rounded operations -/

/-- Round an exact result to FP32 and gather the flags. -/
def roundF32 (r : FVal × Flags) : Nat × Flags :=
  let c := toF32 r.1
  (c.1, r.2.join c.2)

def fadd (a b : Nat) : Nat × Flags := roundF32 (addVal (f32val a) (f32val b))
def fsub (a b : Nat) : Nat × Flags :=
  match f32val b with
  | .nan _ => roundF32 (addVal (f32val a) (f32val b))
  | v => roundF32 (addVal (f32val a) v.neg)
def fmul (a b : Nat) : Nat × Flags := roundF32 (mulVal (f32val a) (f32val b))
def ffma (a b c : Nat) : Nat × Flags := roundF32 (fmaVal (f32val a) (f32val b) (f32val c))
def fdiv (a b : Nat) : Nat × Flags := roundF32 (divVal (f32val a) (f32val b))
def fsqrt (a : Nat) : Nat × Flags := roundF32 (sqrtVal (f32val a))
def frsqrt (a : Nat) : Nat × Flags := roundF32 (rsqrtVal (f32val a))
def fexp2 (a : Nat) : Nat × Flags := roundF32 (exp2Val (f32val a))
def flog2op (a : Nat) : Nat × Flags := roundF32 (log2Val (f32val a))

/-- a < b of two numbers or infinities, −0 below +0 when `strictZero`. -/
def valLt (strictZero : Bool) (a b : FVal) : Bool :=
  match a, b with
  | .nan _, _ | _, .nan _ => false
  | .inf s, .inf t => s && !t
  | .inf s, _ => s
  | _, .inf t => !t
  | .fin s m e, .fin t n f =>
    if m = 0 ∧ n = 0 then strictZero && s && !t
    else if m = 0 then !t
    else if n = 0 then s
    else match s, t with
      | true, false => true
      | false, true => false
      | false, false => magLt m e n f
      | true, true => magLt n f m e

/-- Equality of numbers: +0 equals −0. -/
def valEq (a b : FVal) : Bool :=
  match a, b with
  | .nan _, _ | _, .nan _ => false
  | _, _ => !valLt false a b && !valLt false b a

/-- IEEE 754 maximum and minimum (R150): a NaN operand gives the canonical NaN, −0 is below +0. -/
def maxVal (a b : FVal) : FVal × Flags :=
  if a.isNan || b.isNan then nanOf [a, b] else (if valLt true a b then b else a, .none)
def minVal (a b : FVal) : FVal × Flags :=
  if a.isNan || b.isNan then nanOf [a, b] else (if valLt true b a then b else a, .none)
def fmax (a b : Nat) : Nat × Flags := roundF32 (maxVal (f32val a) (f32val b))
def fmin (a b : Nat) : Nat × Flags := roundF32 (minVal (f32val a) (f32val b))

/-- The negation and the magnitude of an FP32 number; every NaN written is canonical (R70). -/
def fneg (a : Nat) : Nat × Flags := roundF32 (match f32val a with
  | .nan s => nanOf [.nan s]
  | v => (v.neg, .none))
def fabs (a : Nat) : Nat × Flags := roundF32 (match f32val a with
  | .nan s => nanOf [.nan s]
  | v => (v.abs, .none))

def isNanF32 (c : Nat) : Bool := (f32val c).isNan
def isFiniteF32 (c : Nat) : Bool := (f32val c).isFinite

/-- FP32 value of an integer, nearest even. -/
def f32OfInt (i : Int) : Nat := (toF32 (FVal.ofInt i)).1
/-- 2^k as FP32 (subnormal or infinite at the ends). -/
def f32Pow2 (k : Int) : Nat := (toF32 (.fin false 1 k)).1

/-! ### The wide accumulator (R48 to R53, R68) -/

/-- An exact addend in units of 2^-700 (every product and every WA value is a multiple of it, R49). -/
def fixed (v : FVal) : Int :=
  match v with
  | .fin s m e => (if s then -1 else 1) * (m * 2 ^ (e + 700).toNat : Nat)
  | _ => 0

/-- Round an exact value to WA: 40 significant bits, nearest even (R48). -/
def roundWA (v : FVal) : FVal :=
  match v with
  | .fin s m e => if m = 0 then v else
    let r := roundSig .nearest 40 m e
    .fin s r.1 r.2.1
  | w => w

/-- What the special values of a set of addends make of their sum (R68): a NaN, or both infinities, give NaN; NV where
infinities of both signs meet. -/
def specialSum (vs : List FVal) : Option (FVal × Flags) :=
  let p := vs.any (fun v => v == .inf false)
  let n := vs.any (fun v => v == .inf true)
  if vs.any FVal.isNan then some (.nan false, if p && n then .NV else .none)
  else if p && n then some (.nan false, .NV)
  else if p then some (.inf false, .none)
  else if n then some (.inf true, .none)
  else none

/-- The accumulator after one clock: the exact sum of the products of the clock and the accumulator, rounded once to WA
(R48, R50). -/
def waStep (acc : FVal) (ps : List FVal) : FVal × Flags :=
  match specialSum (acc :: ps) with
  | some r => r
  | none =>
    let sum := ps.foldl (fun a v => a + fixed v) (fixed acc)
    if sum = 0 then (.fin (acc.sign && ps.all FVal.sign) 0 0, .none)
    else (roundWA (.fin (decide (sum < 0)) sum.natAbs (-700)), .none)

/-! ### Fixed trees (R65) -/

/-- One level of a pairwise tree: adjacent pairs; an odd last value passes up. -/
def pairUp {α : Type} (op : α → α → α) : List α → List α
  | a :: b :: t => op a b :: pairUp op t
  | l => l

/-- A pairwise tree of `k` levels. -/
def treeReduce {α : Type} (op : α → α → α) : Nat → List α → List α
  | 0, l => l
  | k + 1, l => treeReduce op k (pairUp op l)

/-- FP32 addition that carries its flags along. -/
def faddF (a b : Nat × Flags) : Nat × Flags :=
  let r := fadd a.1 b.1
  (r.1, (a.2.join b.2).join r.2)

/-- Sum of up to 32 FP32 values in the fixed five-level tree of R65. -/
def treeSum32 (cs : List Nat) : Nat × Flags :=
  (treeReduce faddF 5 (cs.map (fun c => (c, Flags.none)))).headD (0, .none)

end Sys2Proof.Machine
end

