-- ==== Sys2Proof/Machine/Regs.lean ====
section
/-! DEFINITION. Machine/Regs.lean: every register field the manual's field maps give (the home chapters' register tables,
with the addresses of R15 and the register index), as a place (address, stride, lowest bit, width) with its reset value.
A per-core register is kept for each PHYSICAL core 0 to 271; the window of logical core n reaches the core that serves n
(R12, R217). A reset of `—` (from straps, OTP or configuration, R9) stands as 0 until start-up loads it (log entry 3). -/

namespace Sys2Proof.Machine

/-- A field of a register or of an array of registers. -/
structure Field where
  base : Nat
  stride : Nat
  lo : Nat
  width : Nat
  reset : Nat
deriving DecidableEq, Repr

/-- Where the field is kept: register and place in it; and, for element `i` of an array, `i` above that. -/
def Field.slot (f : Field) : Nat := f.base * 64 + f.lo
def Field.key (f : Field) (i : Nat) : Nat := i * 2 ^ 64 + f.slot

/-- Access types of R9. -/
inductive Acc where
  | ro | rw | wo | w1c | w1s | rc
deriving DecidableEq, Repr

/-- A register, or an array of `count` registers `stride` bytes apart; `perCore` arrays run over physical cores. -/
structure RegDesc where
  base : Nat
  stride : Nat
  count : Nat
  perCore : Bool
  fields : List (Field × Acc)
deriving DecidableEq, Repr

/-! ### MOD block -/

-- MOD_ID (R37)
def F.MOD_ID_vendor : Field := ⟨0x20000000000, 0x0, 48, 16, 0x59D1⟩
def F.MOD_ID_product : Field := ⟨0x20000000000, 0x0, 32, 16, 0x9400⟩
def F.MOD_ID_stepping : Field := ⟨0x20000000000, 0x0, 24, 8, 0x10⟩
def F.MOD_ID_power_class : Field := ⟨0x20000000000, 0x0, 16, 8, 0⟩
def F.MOD_ID_max_clock : Field := ⟨0x20000000000, 0x0, 8, 8, 0⟩
-- MOD_SERIAL (R37)
def F.MOD_SERIAL_serial : Field := ⟨0x20000000008, 0x0, 0, 64, 0⟩
-- MOD_STATE (R37)
def F.MOD_STATE_state : Field := ⟨0x20000000010, 0x0, 0, 4, 0⟩
-- MOD_STEP (R37)
def F.MOD_STEP_active_bank : Field := ⟨0x20000000018, 0x0, 8, 1, 0⟩
def F.MOD_STEP_replay_count : Field := ⟨0x20000000018, 0x0, 4, 4, 0⟩
def F.MOD_STEP_step_state : Field := ⟨0x20000000018, 0x0, 0, 3, 0⟩
-- MOD_JOB (R37)
def F.MOD_JOB_rank : Field := ⟨0x20000000020, 0x0, 48, 16, 0⟩
def F.MOD_JOB_rank_count_m1 : Field := ⟨0x20000000020, 0x0, 32, 16, 0⟩
def F.MOD_JOB_job_id : Field := ⟨0x20000000020, 0x0, 0, 32, 0⟩
-- MOD_INSTAR (R37)
def F.MOD_INSTAR_instar : Field := ⟨0x20000000028, 0x0, 0, 64, 0⟩
-- MOD_MAP_EPOCH (R37)
def F.MOD_MAP_EPOCH_epoch : Field := ⟨0x20000000030, 0x0, 0, 32, 0⟩
-- MOD_ADDR (R37)
def F.MOD_ADDR_group : Field := ⟨0x20000000038, 0x0, 5, 11, 0⟩
def F.MOD_ADDR_slot : Field := ⟨0x20000000038, 0x0, 0, 5, 0⟩
-- MOD_TICK (R37)
def F.MOD_TICK_tick : Field := ⟨0x20000000040, 0x0, 0, 64, 0⟩
-- MOD_SPARES (R37)
def F.MOD_SPARES_q3 : Field := ⟨0x20000000048, 0x0, 24, 8, 0⟩
def F.MOD_SPARES_q2 : Field := ⟨0x20000000048, 0x0, 16, 8, 0⟩
def F.MOD_SPARES_q1 : Field := ⟨0x20000000048, 0x0, 8, 8, 0⟩
def F.MOD_SPARES_q0 : Field := ⟨0x20000000048, 0x0, 0, 8, 0⟩
-- MOD_CORE_MAP (R37)
def F.MOD_CORE_MAP_suspect : Field := ⟨0x20000000100, 0x8, 12, 1, 0⟩
def F.MOD_CORE_MAP_phys_core : Field := ⟨0x20000000100, 0x8, 0, 9, 0⟩

/-- The registers of the MOD block, in address order. -/
def regsMOD : List RegDesc := [
  ⟨0x20000000000, 0x0, 1, false, [(F.MOD_ID_vendor, .ro), (F.MOD_ID_product, .ro), (F.MOD_ID_stepping, .ro), (F.MOD_ID_power_class, .ro), (F.MOD_ID_max_clock, .ro)]⟩,
  ⟨0x20000000008, 0x0, 1, false, [(F.MOD_SERIAL_serial, .ro)]⟩,
  ⟨0x20000000010, 0x0, 1, false, [(F.MOD_STATE_state, .ro)]⟩,
  ⟨0x20000000018, 0x0, 1, false, [(F.MOD_STEP_active_bank, .ro), (F.MOD_STEP_replay_count, .ro), (F.MOD_STEP_step_state, .ro)]⟩,
  ⟨0x20000000020, 0x0, 1, false, [(F.MOD_JOB_rank, .ro), (F.MOD_JOB_rank_count_m1, .ro), (F.MOD_JOB_job_id, .ro)]⟩,
  ⟨0x20000000028, 0x0, 1, false, [(F.MOD_INSTAR_instar, .ro)]⟩,
  ⟨0x20000000030, 0x0, 1, false, [(F.MOD_MAP_EPOCH_epoch, .ro)]⟩,
  ⟨0x20000000038, 0x0, 1, false, [(F.MOD_ADDR_group, .ro), (F.MOD_ADDR_slot, .ro)]⟩,
  ⟨0x20000000040, 0x0, 1, false, [(F.MOD_TICK_tick, .ro)]⟩,
  ⟨0x20000000048, 0x0, 1, false, [(F.MOD_SPARES_q3, .ro), (F.MOD_SPARES_q2, .ro), (F.MOD_SPARES_q1, .ro), (F.MOD_SPARES_q0, .ro)]⟩,
  ⟨0x20000000100, 0x8, 256, false, [(F.MOD_CORE_MAP_suspect, .ro), (F.MOD_CORE_MAP_phys_core, .ro)]⟩]

/-! ### PWR block -/

-- PWR_CTRL (R403)
def F.PWR_CTRL_clock_ceiling : Field := ⟨0x20001000000, 0x0, 32, 8, 0⟩
def F.PWR_CTRL_window_s : Field := ⟨0x20001000000, 0x0, 8, 5, 5⟩
def F.PWR_CTRL_hint_enable : Field := ⟨0x20001000000, 0x0, 2, 1, 1⟩
def F.PWR_CTRL_mode : Field := ⟨0x20001000000, 0x0, 0, 2, 0⟩
-- PWR_CAP (R403)
def F.PWR_CAP_limit_w : Field := ⟨0x20001000008, 0x0, 32, 16, 0⟩
def F.PWR_CAP_cap_w : Field := ⟨0x20001000008, 0x0, 0, 16, 0⟩
-- PWR_STATUS (R403)
def F.PWR_STATUS_clock : Field := ⟨0x20001000010, 0x0, 32, 32, 0⟩
def F.PWR_STATUS_issue_duty : Field := ⟨0x20001000010, 0x0, 27, 5, 0x10⟩
def F.PWR_STATUS_hint : Field := ⟨0x20001000010, 0x0, 15, 1, 0⟩
def F.PWR_STATUS_ceiling : Field := ⟨0x20001000010, 0x0, 14, 1, 0⟩
def F.PWR_STATUS_thermal : Field := ⟨0x20001000010, 0x0, 13, 1, 0⟩
def F.PWR_STATUS_total : Field := ⟨0x20001000010, 0x0, 12, 1, 0⟩
def F.PWR_STATUS_hub : Field := ⟨0x20001000010, 0x0, 11, 1, 0⟩
def F.PWR_STATUS_fabric : Field := ⟨0x20001000010, 0x0, 10, 1, 0⟩
def F.PWR_STATUS_hbm : Field := ⟨0x20001000010, 0x0, 9, 1, 0⟩
def F.PWR_STATUS_compute : Field := ⟨0x20001000010, 0x0, 8, 1, 0⟩
-- PWR_INPUT (R403)
def F.PWR_INPUT_avg_w : Field := ⟨0x20001000018, 0x0, 32, 32, 0⟩
def F.PWR_INPUT_main_w : Field := ⟨0x20001000018, 0x0, 16, 16, 0⟩
def F.PWR_INPUT_aux_w : Field := ⟨0x20001000018, 0x0, 0, 16, 0⟩
-- PWR_DOMAIN (R403)
def F.PWR_DOMAIN_budget_w : Field := ⟨0x20001000020, 0x8, 32, 16, 0⟩
def F.PWR_DOMAIN_power_w : Field := ⟨0x20001000020, 0x8, 0, 16, 0⟩
-- PWR_SUPPLY (R403)
def F.PWR_SUPPLY_main_mv : Field := ⟨0x20001000058, 0x0, 48, 16, 0⟩
def F.PWR_SUPPLY_aux_mv : Field := ⟨0x20001000058, 0x0, 32, 16, 0⟩
def F.PWR_SUPPLY_main_lost : Field := ⟨0x20001000058, 0x0, 3, 1, 0⟩
def F.PWR_SUPPLY_ovp : Field := ⟨0x20001000058, 0x0, 2, 1, 0⟩
def F.PWR_SUPPLY_main_good : Field := ⟨0x20001000058, 0x0, 1, 1, 0⟩
def F.PWR_SUPPLY_aux_good : Field := ⟨0x20001000058, 0x0, 0, 1, 1⟩
-- PWR_DROOP_CTRL (R403)
def F.PWR_DROOP_CTRL_trip_mv : Field := ⟨0x20001000060, 0x0, 8, 8, 0x28⟩
-- PWR_DROOP_COUNT (R403)
def F.PWR_DROOP_COUNT_droops : Field := ⟨0x20001000068, 0x0, 32, 32, 0⟩
def F.PWR_DROOP_COUNT_held_steps : Field := ⟨0x20001000068, 0x0, 0, 32, 0⟩
-- PWR_ENERGY_TOTAL (R403)
def F.PWR_ENERGY_TOTAL_count : Field := ⟨0x20001000070, 0x0, 0, 64, 0⟩
-- PWR_ENERGY_JOB (R403)
def F.PWR_ENERGY_JOB_count : Field := ⟨0x20001000078, 0x0, 0, 64, 0⟩
-- PWR_ENERGY_STAMP (R403)
def F.PWR_ENERGY_STAMP_count : Field := ⟨0x20001000080, 0x0, 0, 64, 0⟩
-- PWR_ENERGY_STAMP_INSTAR (R403)
def F.PWR_ENERGY_STAMP_INSTAR_count : Field := ⟨0x20001000088, 0x0, 0, 64, 0⟩
-- PWR_THERM_CTRL (R403)
def F.PWR_THERM_CTRL_throttle_c : Field := ⟨0x20001000090, 0x0, 24, 8, 0x64⟩
def F.PWR_THERM_CTRL_release_c : Field := ⟨0x20001000090, 0x0, 16, 8, 0x61⟩
-- PWR_THERM_STATUS (R403)
def F.PWR_THERM_STATUS_throttling : Field := ⟨0x20001000098, 0x0, 63, 1, 0⟩
def F.PWR_THERM_STATUS_tripped : Field := ⟨0x20001000098, 0x0, 62, 1, 0⟩
def F.PWR_THERM_STATUS_hottest : Field := ⟨0x20001000098, 0x0, 48, 8, 0⟩
def F.PWR_THERM_STATUS_throttle_ms : Field := ⟨0x20001000098, 0x0, 0, 32, 0⟩
-- PWR_TEMP (R403)
def F.PWR_TEMP_failed : Field := ⟨0x200010000A0, 0x8, 40, 8, 0⟩
def F.PWR_TEMP_max_temp : Field := ⟨0x200010000A0, 0x8, 16, 16, 0⟩
def F.PWR_TEMP_sensor : Field := ⟨0x200010000A0, 0x8, 0, 16, 0⟩

/-- The registers of the PWR block, in address order. -/
def regsPWR : List RegDesc := [
  ⟨0x20001000000, 0x0, 1, false, [(F.PWR_CTRL_clock_ceiling, .rw), (F.PWR_CTRL_window_s, .rw), (F.PWR_CTRL_hint_enable, .rw), (F.PWR_CTRL_mode, .rw)]⟩,
  ⟨0x20001000008, 0x0, 1, false, [(F.PWR_CAP_limit_w, .ro), (F.PWR_CAP_cap_w, .rw)]⟩,
  ⟨0x20001000010, 0x0, 1, false, [(F.PWR_STATUS_clock, .ro), (F.PWR_STATUS_issue_duty, .ro), (F.PWR_STATUS_hint, .ro), (F.PWR_STATUS_ceiling, .ro), (F.PWR_STATUS_thermal, .ro), (F.PWR_STATUS_total, .ro), (F.PWR_STATUS_hub, .ro), (F.PWR_STATUS_fabric, .ro), (F.PWR_STATUS_hbm, .ro), (F.PWR_STATUS_compute, .ro)]⟩,
  ⟨0x20001000018, 0x0, 1, false, [(F.PWR_INPUT_avg_w, .ro), (F.PWR_INPUT_main_w, .ro), (F.PWR_INPUT_aux_w, .ro)]⟩,
  ⟨0x20001000020, 0x8, 7, false, [(F.PWR_DOMAIN_budget_w, .ro), (F.PWR_DOMAIN_power_w, .ro)]⟩,
  ⟨0x20001000058, 0x0, 1, false, [(F.PWR_SUPPLY_main_mv, .ro), (F.PWR_SUPPLY_aux_mv, .ro), (F.PWR_SUPPLY_main_lost, .w1c), (F.PWR_SUPPLY_ovp, .w1c), (F.PWR_SUPPLY_main_good, .ro), (F.PWR_SUPPLY_aux_good, .ro)]⟩,
  ⟨0x20001000060, 0x0, 1, false, [(F.PWR_DROOP_CTRL_trip_mv, .rw)]⟩,
  ⟨0x20001000068, 0x0, 1, false, [(F.PWR_DROOP_COUNT_droops, .ro), (F.PWR_DROOP_COUNT_held_steps, .ro)]⟩,
  ⟨0x20001000070, 0x0, 1, false, [(F.PWR_ENERGY_TOTAL_count, .ro)]⟩,
  ⟨0x20001000078, 0x0, 1, false, [(F.PWR_ENERGY_JOB_count, .ro)]⟩,
  ⟨0x20001000080, 0x0, 1, false, [(F.PWR_ENERGY_STAMP_count, .ro)]⟩,
  ⟨0x20001000088, 0x0, 1, false, [(F.PWR_ENERGY_STAMP_INSTAR_count, .ro)]⟩,
  ⟨0x20001000090, 0x0, 1, false, [(F.PWR_THERM_CTRL_throttle_c, .rw), (F.PWR_THERM_CTRL_release_c, .rw)]⟩,
  ⟨0x20001000098, 0x0, 1, false, [(F.PWR_THERM_STATUS_throttling, .ro), (F.PWR_THERM_STATUS_tripped, .ro), (F.PWR_THERM_STATUS_hottest, .ro), (F.PWR_THERM_STATUS_throttle_ms, .ro)]⟩,
  ⟨0x200010000A0, 0x8, 17, false, [(F.PWR_TEMP_failed, .ro), (F.PWR_TEMP_max_temp, .ro), (F.PWR_TEMP_sensor, .ro)]⟩]

/-! ### MEM block -/

-- MEM_CTRL (R175)
def F.MEM_CTRL_scrub_hours : Field := ⟨0x20002000000, 0x0, 8, 5, 8⟩
def F.MEM_CTRL_scrub_enable : Field := ⟨0x20002000000, 0x0, 0, 1, 1⟩
-- MEM_STATUS (R175)
def F.MEM_STATUS_key_id : Field := ⟨0x20002000008, 0x0, 32, 32, 0⟩
def F.MEM_STATUS_self_refresh : Field := ⟨0x20002000008, 0x0, 13, 1, 0⟩
def F.MEM_STATUS_scrub_active : Field := ⟨0x20002000008, 0x0, 12, 1, 0⟩
def F.MEM_STATUS_stack_ok : Field := ⟨0x20002000008, 0x0, 0, 12, 0⟩
-- MEM_REGION (R175)
def F.MEM_REGION_base : Field := ⟨0x20002000010, 0x8, 32, 16, 0⟩
def F.MEM_REGION_size : Field := ⟨0x20002000010, 0x8, 0, 16, 0⟩
-- MEM_IMB_CTRL (R175)
def F.MEM_IMB_CTRL_factor : Field := ⟨0x20002000050, 0x0, 12, 4, 4⟩
def F.MEM_IMB_CTRL_duration_s : Field := ⟨0x20002000050, 0x0, 4, 8, 0xA⟩
def F.MEM_IMB_CTRL_enable : Field := ⟨0x20002000050, 0x0, 0, 1, 1⟩
-- MEM_IMB_STATUS (R175)
def F.MEM_IMB_STATUS_valid : Field := ⟨0x20002000058, 0x0, 63, 1, 0⟩
def F.MEM_IMB_STATUS_pc : Field := ⟨0x20002000058, 0x0, 32, 10, 0⟩
def F.MEM_IMB_STATUS_ratio : Field := ⟨0x20002000058, 0x0, 16, 16, 0⟩
-- MEM_POISON_LAST (R175)
def F.MEM_POISON_LAST_valid : Field := ⟨0x20002000060, 0x0, 63, 1, 0⟩
def F.MEM_POISON_LAST_region : Field := ⟨0x20002000060, 0x0, 60, 3, 0⟩
def F.MEM_POISON_LAST_point : Field := ⟨0x20002000060, 0x0, 56, 4, 0⟩
def F.MEM_POISON_LAST_address : Field := ⟨0x20002000060, 0x0, 0, 48, 0⟩
-- MEM_POISON_COUNT (R175)
def F.MEM_POISON_COUNT_refetches : Field := ⟨0x20002000068, 0x0, 32, 32, 0⟩
def F.MEM_POISON_COUNT_consumed : Field := ⟨0x20002000068, 0x0, 0, 32, 0⟩
-- MEM_CE_THRESH (R175)
def F.MEM_CE_THRESH_per_hour : Field := ⟨0x20002000070, 0x0, 0, 32, 0⟩
-- MEM_SCRUB_STATUS (R175)
def F.MEM_SCRUB_STATUS_passes : Field := ⟨0x20002000078, 0x0, 32, 32, 0⟩
def F.MEM_SCRUB_STATUS_position : Field := ⟨0x20002000078, 0x0, 0, 32, 0⟩
-- MEM_CE_COUNT (R175)
def F.MEM_CE_COUNT_count : Field := ⟨0x20002000080, 0x8, 0, 64, 0⟩
-- MEM_UE_COUNT (R175)
def F.MEM_UE_COUNT_count : Field := ⟨0x200020000E0, 0x8, 0, 64, 0⟩
-- MEM_SRAM_CE (R175)
def F.MEM_SRAM_CE_operand_cache : Field := ⟨0x20002000140, 0x0, 32, 32, 0⟩
def F.MEM_SRAM_CE_tile_store : Field := ⟨0x20002000140, 0x0, 0, 32, 0⟩
-- MEM_RD_GRAN (R175)
def F.MEM_RD_GRAN_count : Field := ⟨0x20002000148, 0x0, 0, 64, 0⟩
-- MEM_WR_GRAN (R175)
def F.MEM_WR_GRAN_count : Field := ⟨0x20002000150, 0x0, 0, 64, 0⟩
-- MEM_TS_RESIDENT (R175)
def F.MEM_TS_RESIDENT_slot_first : Field := ⟨0x20002001000, 0x8, 52, 12, 0⟩
def F.MEM_TS_RESIDENT_slot_count : Field := ⟨0x20002001000, 0x8, 40, 12, 0⟩
def F.MEM_TS_RESIDENT_entry_first : Field := ⟨0x20002001000, 0x8, 28, 12, 0⟩
def F.MEM_TS_RESIDENT_entry_count : Field := ⟨0x20002001000, 0x8, 15, 13, 0⟩
def F.MEM_TS_RESIDENT_valid : Field := ⟨0x20002001000, 0x8, 0, 1, 0⟩

/-- The registers of the MEM block, in address order. -/
def regsMEM : List RegDesc := [
  ⟨0x20002000000, 0x0, 1, false, [(F.MEM_CTRL_scrub_hours, .rw), (F.MEM_CTRL_scrub_enable, .rw)]⟩,
  ⟨0x20002000008, 0x0, 1, false, [(F.MEM_STATUS_key_id, .ro), (F.MEM_STATUS_self_refresh, .ro), (F.MEM_STATUS_scrub_active, .ro), (F.MEM_STATUS_stack_ok, .ro)]⟩,
  ⟨0x20002000010, 0x8, 8, false, [(F.MEM_REGION_base, .ro), (F.MEM_REGION_size, .ro)]⟩,
  ⟨0x20002000050, 0x0, 1, false, [(F.MEM_IMB_CTRL_factor, .rw), (F.MEM_IMB_CTRL_duration_s, .rw), (F.MEM_IMB_CTRL_enable, .rw)]⟩,
  ⟨0x20002000058, 0x0, 1, false, [(F.MEM_IMB_STATUS_valid, .w1c), (F.MEM_IMB_STATUS_pc, .ro), (F.MEM_IMB_STATUS_ratio, .ro)]⟩,
  ⟨0x20002000060, 0x0, 1, false, [(F.MEM_POISON_LAST_valid, .w1c), (F.MEM_POISON_LAST_region, .ro), (F.MEM_POISON_LAST_point, .ro), (F.MEM_POISON_LAST_address, .ro)]⟩,
  ⟨0x20002000068, 0x0, 1, false, [(F.MEM_POISON_COUNT_refetches, .ro), (F.MEM_POISON_COUNT_consumed, .ro)]⟩,
  ⟨0x20002000070, 0x0, 1, false, [(F.MEM_CE_THRESH_per_hour, .rw)]⟩,
  ⟨0x20002000078, 0x0, 1, false, [(F.MEM_SCRUB_STATUS_passes, .ro), (F.MEM_SCRUB_STATUS_position, .ro)]⟩,
  ⟨0x20002000080, 0x8, 12, false, [(F.MEM_CE_COUNT_count, .ro)]⟩,
  ⟨0x200020000E0, 0x8, 12, false, [(F.MEM_UE_COUNT_count, .ro)]⟩,
  ⟨0x20002000140, 0x0, 1, false, [(F.MEM_SRAM_CE_operand_cache, .ro), (F.MEM_SRAM_CE_tile_store, .ro)]⟩,
  ⟨0x20002000148, 0x0, 1, false, [(F.MEM_RD_GRAN_count, .ro)]⟩,
  ⟨0x20002000150, 0x0, 1, false, [(F.MEM_WR_GRAN_count, .ro)]⟩,
  ⟨0x20002001000, 0x8, 1024, false, [(F.MEM_TS_RESIDENT_slot_first, .rw), (F.MEM_TS_RESIDENT_slot_count, .rw), (F.MEM_TS_RESIDENT_entry_first, .rw), (F.MEM_TS_RESIDENT_entry_count, .rw), (F.MEM_TS_RESIDENT_valid, .rw)]⟩]

/-! ### SYN block -/

-- SYN_VALUE (R203)
def F.SYN_VALUE_value : Field := ⟨0x20003000000, 0x20, 0, 64, 0⟩
-- SYN_ADD (R203)
def F.SYN_ADD_operand : Field := ⟨0x20003000008, 0x20, 0, 64, 0⟩
-- SYN_STATUS (R203)
def F.SYN_STATUS_wrap : Field := ⟨0x20003000010, 0x20, 63, 1, 0⟩
def F.SYN_STATUS_waiters : Field := ⟨0x20003000010, 0x20, 0, 15, 0⟩
-- SYN_WAITS (R203)
def F.SYN_WAITS_stalls : Field := ⟨0x20003400000, 0x0, 32, 32, 0⟩
def F.SYN_WAITS_peak : Field := ⟨0x20003400000, 0x0, 15, 15, 0⟩
def F.SYN_WAITS_outstanding : Field := ⟨0x20003400000, 0x0, 0, 15, 0⟩

/-- The registers of the SYN block, in address order. -/
def regsSYN : List RegDesc := [
  ⟨0x20003000000, 0x20, 131072, false, [(F.SYN_VALUE_value, .rw)]⟩,
  ⟨0x20003000008, 0x20, 131072, false, [(F.SYN_ADD_operand, .wo)]⟩,
  ⟨0x20003000010, 0x20, 131072, false, [(F.SYN_STATUS_wrap, .w1c), (F.SYN_STATUS_waiters, .ro)]⟩,
  ⟨0x20003400000, 0x0, 1, false, [(F.SYN_WAITS_stalls, .ro), (F.SYN_WAITS_peak, .rc), (F.SYN_WAITS_outstanding, .ro)]⟩]

/-! ### QUE block -/

-- QUE_CFG (R202)
def F.QUE_CFG_enable : Field := ⟨0x20004000000, 0x100, 63, 1, 0⟩
def F.QUE_CFG_backing : Field := ⟨0x20004000000, 0x100, 61, 2, 0⟩
def F.QUE_CFG_log2_depth : Field := ⟨0x20004000000, 0x100, 56, 5, 4⟩
def F.QUE_CFG_forward : Field := ⟨0x20004000000, 0x100, 55, 1, 0⟩
def F.QUE_CFG_push_sel : Field := ⟨0x20004000000, 0x100, 53, 2, 0⟩
def F.QUE_CFG_consumer_core : Field := ⟨0x20004000000, 0x100, 45, 8, 0⟩
def F.QUE_CFG_cut_through : Field := ⟨0x20004000000, 0x100, 34, 11, 0⟩
-- QUE_BACKING (R202)
def F.QUE_BACKING_base : Field := ⟨0x20004000008, 0x100, 0, 48, 0⟩
-- QUE_FWD (R202)
def F.QUE_FWD_node : Field := ⟨0x20004000010, 0x100, 48, 16, 0⟩
def F.QUE_FWD_rank_mode : Field := ⟨0x20004000010, 0x100, 47, 1, 0⟩
def F.QUE_FWD_remote_log2_depth : Field := ⟨0x20004000010, 0x100, 42, 5, 0⟩
def F.QUE_FWD_remote_queue : Field := ⟨0x20004000010, 0x100, 29, 13, 0⟩
-- QUE_STATUS (R202)
def F.QUE_STATUS_items : Field := ⟨0x20004000018, 0x100, 47, 17, 0⟩
def F.QUE_STATUS_credits : Field := ⟨0x20004000018, 0x100, 30, 17, 0⟩
def F.QUE_STATUS_cfg_error : Field := ⟨0x20004000018, 0x100, 8, 4, 0⟩
def F.QUE_STATUS_packet_open : Field := ⟨0x20004000018, 0x100, 7, 1, 0⟩
def F.QUE_STATUS_stall : Field := ⟨0x20004000018, 0x100, 5, 1, 0⟩
def F.QUE_STATUS_frame_err : Field := ⟨0x20004000018, 0x100, 4, 1, 0⟩
def F.QUE_STATUS_overrun : Field := ⟨0x20004000018, 0x100, 3, 1, 0⟩
def F.QUE_STATUS_underrun : Field := ⟨0x20004000018, 0x100, 2, 1, 0⟩
def F.QUE_STATUS_full : Field := ⟨0x20004000018, 0x100, 1, 1, 0⟩
def F.QUE_STATUS_empty : Field := ⟨0x20004000018, 0x100, 0, 1, 1⟩
-- QUE_TIMEOUT (R202)
def F.QUE_TIMEOUT_ticks : Field := ⟨0x20004000020, 0x100, 0, 32, 0xFFFFFFFF⟩
-- QUE_COUNT (R202)
def F.QUE_COUNT_foreign : Field := ⟨0x20004000028, 0x100, 48, 16, 0⟩
def F.QUE_COUNT_discarded : Field := ⟨0x20004000028, 0x100, 32, 16, 0⟩
def F.QUE_COUNT_popped : Field := ⟨0x20004000028, 0x100, 0, 32, 0⟩
-- QUE_RING_CTRL (R202)
def F.QUE_RING_CTRL_cpl_log2 : Field := ⟨0x20004200000, 0x100, 8, 5, 4⟩
def F.QUE_RING_CTRL_cmd_log2 : Field := ⟨0x20004200000, 0x100, 3, 5, 4⟩
def F.QUE_RING_CTRL_abort : Field := ⟨0x20004200000, 0x100, 2, 1, 0⟩
def F.QUE_RING_CTRL_restart : Field := ⟨0x20004200000, 0x100, 1, 1, 0⟩
def F.QUE_RING_CTRL_enable : Field := ⟨0x20004200000, 0x100, 0, 1, 0⟩
-- QUE_RING_BASE (R202)
def F.QUE_RING_BASE_base : Field := ⟨0x20004200008, 0x100, 0, 48, 0⟩
-- QUE_RING_CPL_BASE (R202)
def F.QUE_RING_CPL_BASE_base : Field := ⟨0x20004200010, 0x100, 0, 48, 0⟩
-- QUE_RING_DOORBELL (R202)
def F.QUE_RING_DOORBELL_seq : Field := ⟨0x20004200018, 0x100, 0, 32, 0⟩
-- QUE_RING_CPL_ACK (R202)
def F.QUE_RING_CPL_ACK_seq : Field := ⟨0x20004200020, 0x100, 0, 32, 0⟩
-- QUE_RING_STATE (R202)
def F.QUE_RING_STATE_taken : Field := ⟨0x20004200028, 0x100, 32, 32, 0⟩
def F.QUE_RING_STATE_cpl_sent : Field := ⟨0x20004200028, 0x100, 0, 32, 0⟩
-- QUE_RING_STATUS (R202)
def F.QUE_RING_STATUS_done : Field := ⟨0x20004200030, 0x100, 32, 32, 0⟩
def F.QUE_RING_STATUS_in_progress : Field := ⟨0x20004200030, 0x100, 8, 8, 0⟩
def F.QUE_RING_STATUS_cfg_error : Field := ⟨0x20004200030, 0x100, 2, 1, 0⟩
def F.QUE_RING_STATUS_cpl_full : Field := ⟨0x20004200030, 0x100, 1, 1, 0⟩
def F.QUE_RING_STATUS_stopped : Field := ⟨0x20004200030, 0x100, 0, 1, 0⟩

/-- The registers of the QUE block, in address order. -/
def regsQUE : List RegDesc := [
  ⟨0x20004000000, 0x100, 8192, false, [(F.QUE_CFG_enable, .rw), (F.QUE_CFG_backing, .rw), (F.QUE_CFG_log2_depth, .rw), (F.QUE_CFG_forward, .rw), (F.QUE_CFG_push_sel, .rw), (F.QUE_CFG_consumer_core, .rw), (F.QUE_CFG_cut_through, .rw)]⟩,
  ⟨0x20004000008, 0x100, 8192, false, [(F.QUE_BACKING_base, .rw)]⟩,
  ⟨0x20004000010, 0x100, 8192, false, [(F.QUE_FWD_node, .rw), (F.QUE_FWD_rank_mode, .rw), (F.QUE_FWD_remote_log2_depth, .rw), (F.QUE_FWD_remote_queue, .rw)]⟩,
  ⟨0x20004000018, 0x100, 8192, false, [(F.QUE_STATUS_items, .ro), (F.QUE_STATUS_credits, .ro), (F.QUE_STATUS_cfg_error, .ro), (F.QUE_STATUS_packet_open, .ro), (F.QUE_STATUS_stall, .w1c), (F.QUE_STATUS_frame_err, .w1c), (F.QUE_STATUS_overrun, .w1c), (F.QUE_STATUS_underrun, .w1c), (F.QUE_STATUS_full, .ro), (F.QUE_STATUS_empty, .ro)]⟩,
  ⟨0x20004000020, 0x100, 8192, false, [(F.QUE_TIMEOUT_ticks, .rw)]⟩,
  ⟨0x20004000028, 0x100, 8192, false, [(F.QUE_COUNT_foreign, .ro), (F.QUE_COUNT_discarded, .ro), (F.QUE_COUNT_popped, .ro)]⟩,
  ⟨0x20004200000, 0x100, 2, false, [(F.QUE_RING_CTRL_cpl_log2, .rw), (F.QUE_RING_CTRL_cmd_log2, .rw), (F.QUE_RING_CTRL_abort, .w1s), (F.QUE_RING_CTRL_restart, .w1s), (F.QUE_RING_CTRL_enable, .rw)]⟩,
  ⟨0x20004200008, 0x100, 2, false, [(F.QUE_RING_BASE_base, .rw)]⟩,
  ⟨0x20004200010, 0x100, 2, false, [(F.QUE_RING_CPL_BASE_base, .rw)]⟩,
  ⟨0x20004200018, 0x100, 2, false, [(F.QUE_RING_DOORBELL_seq, .rw)]⟩,
  ⟨0x20004200020, 0x100, 2, false, [(F.QUE_RING_CPL_ACK_seq, .rw)]⟩,
  ⟨0x20004200028, 0x100, 2, false, [(F.QUE_RING_STATE_taken, .ro), (F.QUE_RING_STATE_cpl_sent, .ro)]⟩,
  ⟨0x20004200030, 0x100, 2, false, [(F.QUE_RING_STATUS_done, .ro), (F.QUE_RING_STATUS_in_progress, .ro), (F.QUE_RING_STATUS_cfg_error, .ro), (F.QUE_RING_STATUS_cpl_full, .ro), (F.QUE_RING_STATUS_stopped, .ro)]⟩]

/-! ### UPD block -/

-- UPD_CTRL (R254)
def F.UPD_CTRL_nf_counter : Field := ⟨0x20005000000, 0x0, 47, 17, 0⟩
def F.UPD_CTRL_nf_enable : Field := ⟨0x20005000000, 0x0, 46, 1, 0⟩
def F.UPD_CTRL_sr_moments : Field := ⟨0x20005000000, 0x0, 5, 1, 1⟩
def F.UPD_CTRL_sr_work : Field := ⟨0x20005000000, 0x0, 4, 1, 1⟩
def F.UPD_CTRL_norm_contrib : Field := ⟨0x20005000000, 0x0, 3, 1, 1⟩
def F.UPD_CTRL_clip_enable : Field := ⟨0x20005000000, 0x0, 2, 1, 0⟩
def F.UPD_CTRL_mode : Field := ⟨0x20005000000, 0x0, 0, 1, 1⟩
-- UPD_CLIP (R254)
def F.UPD_CLIP_max_norm : Field := ⟨0x20005000008, 0x0, 0, 32, 0x3F800000⟩
-- UPD_TABLE (R254)
def F.UPD_TABLE_count : Field := ⟨0x20005000010, 0x0, 48, 16, 0⟩
def F.UPD_TABLE_address : Field := ⟨0x20005000010, 0x0, 0, 48, 0⟩
-- UPD_HYPER (R254)
def F.UPD_HYPER_address : Field := ⟨0x20005000018, 0x0, 0, 48, 0⟩
-- UPD_UCODE (R254)
def F.UPD_UCODE_address : Field := ⟨0x20005000020, 0x0, 0, 48, 0⟩
-- UPD_LOAD (R254)
def F.UPD_LOAD_load_ucode : Field := ⟨0x20005000028, 0x0, 1, 1, 0⟩
def F.UPD_LOAD_load_table : Field := ⟨0x20005000028, 0x0, 0, 1, 0⟩
-- UPD_NAN_POLICY (R254)
def F.UPD_NAN_POLICY_max_reductions : Field := ⟨0x20005000030, 0x0, 4, 4, 8⟩
def F.UPD_NAN_POLICY_policy : Field := ⟨0x20005000030, 0x0, 0, 2, 0⟩
-- UPD_SCALE_CTRL (R254)
def F.UPD_SCALE_CTRL_growth_interval : Field := ⟨0x20005000038, 0x0, 32, 16, 0x7D0⟩
def F.UPD_SCALE_CTRL_max_exp : Field := ⟨0x20005000038, 0x0, 16, 8, 0x18⟩
def F.UPD_SCALE_CTRL_min_exp : Field := ⟨0x20005000038, 0x0, 8, 8, 0⟩
def F.UPD_SCALE_CTRL_dynamic : Field := ⟨0x20005000038, 0x0, 0, 1, 1⟩
-- UPD_ATTEMPT_ADDR (R254)
def F.UPD_ATTEMPT_ADDR_address : Field := ⟨0x20005000040, 0x0, 0, 48, 0⟩
-- UPD_CURSOR_NEXT (R254)
def F.UPD_CURSOR_NEXT_value : Field := ⟨0x20005000048, 0x8, 0, 64, 0⟩
-- UPD_STATUS (R254)
def F.UPD_STATUS_in_service : Field := ⟨0x20005000088, 0x0, 60, 4, 0⟩
def F.UPD_STATUS_table_loaded : Field := ⟨0x20005000088, 0x0, 59, 1, 0⟩
def F.UPD_STATUS_ucode_loaded : Field := ⟨0x20005000088, 0x0, 58, 1, 0⟩
def F.UPD_STATUS_nonfinite : Field := ⟨0x20005000088, 0x0, 57, 1, 0⟩
def F.UPD_STATUS_phase : Field := ⟨0x20005000088, 0x0, 54, 3, 0⟩
def F.UPD_STATUS_reductions : Field := ⟨0x20005000088, 0x0, 40, 8, 0⟩
def F.UPD_STATUS_stripes_done : Field := ⟨0x20005000088, 0x0, 0, 32, 0⟩
-- UPD_FLAGS (R254)
def F.UPD_FLAGS_uf : Field := ⟨0x20005000090, 0x0, 2, 1, 0⟩
def F.UPD_FLAGS_of : Field := ⟨0x20005000090, 0x0, 1, 1, 0⟩
def F.UPD_FLAGS_nv : Field := ⟨0x20005000090, 0x0, 0, 1, 0⟩
-- UPD_NORM (R254)
def F.UPD_NORM_norm : Field := ⟨0x20005000098, 0x0, 32, 32, 0⟩
def F.UPD_NORM_clip_factor : Field := ⟨0x20005000098, 0x0, 0, 32, 0⟩
-- UPD_SCALE (R254)
def F.UPD_SCALE_committed_exp : Field := ⟨0x200050000A0, 0x0, 48, 16, 0⟩
def F.UPD_SCALE_effective_exp : Field := ⟨0x200050000A0, 0x0, 32, 16, 0⟩
def F.UPD_SCALE_good_steps : Field := ⟨0x200050000A0, 0x0, 0, 32, 0⟩
-- UPD_REJECT (R254)
def F.UPD_REJECT_valid : Field := ⟨0x200050000A8, 0x0, 63, 1, 0⟩
def F.UPD_REJECT_source : Field := ⟨0x200050000A8, 0x0, 62, 1, 0⟩
def F.UPD_REJECT_reason : Field := ⟨0x200050000A8, 0x0, 48, 8, 0⟩
def F.UPD_REJECT_entry : Field := ⟨0x200050000A8, 0x0, 32, 16, 0⟩
-- UPD_ENGINE (R254)
def F.UPD_ENGINE_in_service : Field := ⟨0x200050000B0, 0x8, 63, 1, 0⟩
def F.UPD_ENGINE_reruns : Field := ⟨0x200050000B0, 0x8, 16, 16, 0⟩
def F.UPD_ENGINE_faults : Field := ⟨0x200050000B0, 0x8, 0, 16, 0⟩
-- UPD_PARAMS (R254)
def F.UPD_PARAMS_count : Field := ⟨0x200050000D0, 0x0, 0, 64, 0⟩
-- UPD_FENCE_STALL (R254)
def F.UPD_FENCE_STALL_count : Field := ⟨0x200050000D8, 0x0, 0, 64, 0⟩

/-- The registers of the UPD block, in address order. -/
def regsUPD : List RegDesc := [
  ⟨0x20005000000, 0x0, 1, false, [(F.UPD_CTRL_nf_counter, .rw), (F.UPD_CTRL_nf_enable, .rw), (F.UPD_CTRL_sr_moments, .rw), (F.UPD_CTRL_sr_work, .rw), (F.UPD_CTRL_norm_contrib, .rw), (F.UPD_CTRL_clip_enable, .rw), (F.UPD_CTRL_mode, .rw)]⟩,
  ⟨0x20005000008, 0x0, 1, false, [(F.UPD_CLIP_max_norm, .rw)]⟩,
  ⟨0x20005000010, 0x0, 1, false, [(F.UPD_TABLE_count, .rw), (F.UPD_TABLE_address, .rw)]⟩,
  ⟨0x20005000018, 0x0, 1, false, [(F.UPD_HYPER_address, .rw)]⟩,
  ⟨0x20005000020, 0x0, 1, false, [(F.UPD_UCODE_address, .rw)]⟩,
  ⟨0x20005000028, 0x0, 1, false, [(F.UPD_LOAD_load_ucode, .w1s), (F.UPD_LOAD_load_table, .w1s)]⟩,
  ⟨0x20005000030, 0x0, 1, false, [(F.UPD_NAN_POLICY_max_reductions, .rw), (F.UPD_NAN_POLICY_policy, .rw)]⟩,
  ⟨0x20005000038, 0x0, 1, false, [(F.UPD_SCALE_CTRL_growth_interval, .rw), (F.UPD_SCALE_CTRL_max_exp, .rw), (F.UPD_SCALE_CTRL_min_exp, .rw), (F.UPD_SCALE_CTRL_dynamic, .rw)]⟩,
  ⟨0x20005000040, 0x0, 1, false, [(F.UPD_ATTEMPT_ADDR_address, .rw)]⟩,
  ⟨0x20005000048, 0x8, 8, false, [(F.UPD_CURSOR_NEXT_value, .rw)]⟩,
  ⟨0x20005000088, 0x0, 1, false, [(F.UPD_STATUS_in_service, .ro), (F.UPD_STATUS_table_loaded, .ro), (F.UPD_STATUS_ucode_loaded, .ro), (F.UPD_STATUS_nonfinite, .ro), (F.UPD_STATUS_phase, .ro), (F.UPD_STATUS_reductions, .ro), (F.UPD_STATUS_stripes_done, .ro)]⟩,
  ⟨0x20005000090, 0x0, 1, false, [(F.UPD_FLAGS_uf, .ro), (F.UPD_FLAGS_of, .ro), (F.UPD_FLAGS_nv, .ro)]⟩,
  ⟨0x20005000098, 0x0, 1, false, [(F.UPD_NORM_norm, .ro), (F.UPD_NORM_clip_factor, .ro)]⟩,
  ⟨0x200050000A0, 0x0, 1, false, [(F.UPD_SCALE_committed_exp, .ro), (F.UPD_SCALE_effective_exp, .ro), (F.UPD_SCALE_good_steps, .ro)]⟩,
  ⟨0x200050000A8, 0x0, 1, false, [(F.UPD_REJECT_valid, .w1c), (F.UPD_REJECT_source, .ro), (F.UPD_REJECT_reason, .ro), (F.UPD_REJECT_entry, .ro)]⟩,
  ⟨0x200050000B0, 0x8, 4, false, [(F.UPD_ENGINE_in_service, .ro), (F.UPD_ENGINE_reruns, .ro), (F.UPD_ENGINE_faults, .ro)]⟩,
  ⟨0x200050000D0, 0x0, 1, false, [(F.UPD_PARAMS_count, .ro)]⟩,
  ⟨0x200050000D8, 0x0, 1, false, [(F.UPD_FENCE_STALL_count, .ro)]⟩]

/-! ### FAB block -/

-- FAB_CTRL (R281)
def F.FAB_CTRL_coll_weight : Field := ⟨0x20006000000, 0x0, 16, 4, 0xC⟩
def F.FAB_CTRL_bias : Field := ⟨0x20006000000, 0x0, 8, 8, 8⟩
def F.FAB_CTRL_nonmin_enable : Field := ⟨0x20006000000, 0x0, 0, 1, 1⟩
-- FAB_TOPO (R281)
def F.FAB_TOPO_group_count : Field := ⟨0x20006000008, 0x0, 32, 11, 0⟩
def F.FAB_TOPO_global_up : Field := ⟨0x20006000008, 0x0, 16, 6, 0⟩
def F.FAB_TOPO_intra_up : Field := ⟨0x20006000008, 0x0, 8, 5, 0⟩
def F.FAB_TOPO_balanced : Field := ⟨0x20006000008, 0x0, 0, 1, 0⟩
-- FAB_HOT_CTRL (R281)
def F.FAB_HOT_CTRL_hotspot_ms : Field := ⟨0x20006000010, 0x0, 32, 16, 0x3E8⟩
def F.FAB_HOT_CTRL_hot_us : Field := ⟨0x20006000010, 0x0, 16, 16, 0xA⟩
def F.FAB_HOT_CTRL_hot_depth : Field := ⟨0x20006000010, 0x0, 8, 8, 0x30⟩
-- FAB_HOTSPOT (R281)
def F.FAB_HOTSPOT_valid : Field := ⟨0x20006000018, 0x0, 63, 1, 0⟩
def F.FAB_HOTSPOT_role : Field := ⟨0x20006000018, 0x0, 62, 1, 0⟩
def F.FAB_HOTSPOT_index : Field := ⟨0x20006000018, 0x0, 56, 6, 0⟩
def F.FAB_HOTSPOT_peer : Field := ⟨0x20006000018, 0x0, 32, 16, 0⟩
-- FAB_HOT_GLOBAL (R281)
def F.FAB_HOT_GLOBAL_hot : Field := ⟨0x20006000020, 0x0, 0, 39, 0⟩
-- FAB_HOT_INTRA (R281)
def F.FAB_HOT_INTRA_hot : Field := ⟨0x20006000028, 0x0, 0, 31, 0⟩
-- FAB_DROP (R281)
def F.FAB_DROP_foreign_job : Field := ⟨0x20006000030, 0x0, 48, 16, 0⟩
def F.FAB_DROP_old_epoch : Field := ⟨0x20006000030, 0x0, 32, 16, 0⟩
def F.FAB_DROP_old_attempt : Field := ⟨0x20006000030, 0x0, 16, 16, 0⟩
def F.FAB_DROP_duplicate : Field := ⟨0x20006000030, 0x0, 0, 16, 0⟩
-- FAB_RETX_CTRL (R281)
def F.FAB_RETX_CTRL_timeout_us : Field := ⟨0x20006000038, 0x0, 16, 16, 0xC8⟩
def F.FAB_RETX_CTRL_max_retx : Field := ⟨0x20006000038, 0x0, 0, 4, 8⟩
-- FAB_RETX_STATUS (R281)
def F.FAB_RETX_STATUS_retransmitted : Field := ⟨0x20006000040, 0x0, 32, 32, 0⟩
def F.FAB_RETX_STATUS_unreachable : Field := ⟨0x20006000040, 0x0, 0, 32, 0⟩
-- FAB_UNREACH (R281)
def F.FAB_UNREACH_valid : Field := ⟨0x20006000048, 0x0, 63, 1, 0⟩
def F.FAB_UNREACH_type : Field := ⟨0x20006000048, 0x0, 52, 4, 0⟩
def F.FAB_UNREACH_module : Field := ⟨0x20006000048, 0x0, 32, 16, 0⟩
-- FAB_HB_CTRL (R281)
def F.FAB_HB_CTRL_interval_us : Field := ⟨0x20006000050, 0x0, 16, 16, 0x64⟩
def F.FAB_HB_CTRL_timeout_us : Field := ⟨0x20006000050, 0x0, 0, 16, 0x3E8⟩
-- FAB_COLL_CTRL (R281)
def F.FAB_COLL_CTRL_queue : Field := ⟨0x20006000058, 0x0, 45, 13, 0⟩
def F.FAB_COLL_CTRL_enable : Field := ⟨0x20006000058, 0x0, 0, 1, 0⟩
-- FAB_COLL_STATUS (R281)
def F.FAB_COLL_STATUS_last_done : Field := ⟨0x20006000060, 0x0, 32, 32, 0⟩
def F.FAB_COLL_STATUS_in_flight : Field := ⟨0x20006000060, 0x0, 16, 5, 0⟩
-- FAB_COLL_FLAGS (R281)
def F.FAB_COLL_FLAGS_uf : Field := ⟨0x20006000068, 0x0, 2, 1, 0⟩
def F.FAB_COLL_FLAGS_of : Field := ⟨0x20006000068, 0x0, 1, 1, 0⟩
def F.FAB_COLL_FLAGS_nv : Field := ⟨0x20006000068, 0x0, 0, 1, 0⟩
-- FAB_COLL_REJECT (R281)
def F.FAB_COLL_REJECT_valid : Field := ⟨0x20006000070, 0x0, 63, 1, 0⟩
def F.FAB_COLL_REJECT_mismatch : Field := ⟨0x20006000070, 0x0, 62, 1, 0⟩
def F.FAB_COLL_REJECT_reason : Field := ⟨0x20006000070, 0x0, 48, 8, 0⟩
def F.FAB_COLL_REJECT_member : Field := ⟨0x20006000070, 0x0, 32, 16, 0⟩
def F.FAB_COLL_REJECT_coll_seq : Field := ⟨0x20006000070, 0x0, 0, 32, 0⟩
-- FAB_TX_FLITS (R281)
def F.FAB_TX_FLITS_count : Field := ⟨0x20006000078, 0x0, 0, 64, 0⟩
-- FAB_RX_FLITS (R281)
def F.FAB_RX_FLITS_count : Field := ⟨0x20006000080, 0x0, 0, 64, 0⟩
-- FAB_NONMIN_FLITS (R281)
def F.FAB_NONMIN_FLITS_count : Field := ⟨0x20006000088, 0x0, 0, 64, 0⟩
-- FAB_TRANSIT_FLITS (R281)
def F.FAB_TRANSIT_FLITS_count : Field := ⟨0x20006000090, 0x0, 0, 64, 0⟩
-- FAB_COLL_OPS (R281)
def F.FAB_COLL_OPS_count : Field := ⟨0x20006000098, 0x0, 0, 64, 0⟩
-- FAB_HOT_TIME (R281)
def F.FAB_HOT_TIME_count : Field := ⟨0x200060000A0, 0x0, 0, 64, 0⟩

/-- The registers of the FAB block, in address order. -/
def regsFAB : List RegDesc := [
  ⟨0x20006000000, 0x0, 1, false, [(F.FAB_CTRL_coll_weight, .rw), (F.FAB_CTRL_bias, .rw), (F.FAB_CTRL_nonmin_enable, .rw)]⟩,
  ⟨0x20006000008, 0x0, 1, false, [(F.FAB_TOPO_group_count, .ro), (F.FAB_TOPO_global_up, .ro), (F.FAB_TOPO_intra_up, .ro), (F.FAB_TOPO_balanced, .ro)]⟩,
  ⟨0x20006000010, 0x0, 1, false, [(F.FAB_HOT_CTRL_hotspot_ms, .rw), (F.FAB_HOT_CTRL_hot_us, .rw), (F.FAB_HOT_CTRL_hot_depth, .rw)]⟩,
  ⟨0x20006000018, 0x0, 1, false, [(F.FAB_HOTSPOT_valid, .w1c), (F.FAB_HOTSPOT_role, .ro), (F.FAB_HOTSPOT_index, .ro), (F.FAB_HOTSPOT_peer, .ro)]⟩,
  ⟨0x20006000020, 0x0, 1, false, [(F.FAB_HOT_GLOBAL_hot, .ro)]⟩,
  ⟨0x20006000028, 0x0, 1, false, [(F.FAB_HOT_INTRA_hot, .ro)]⟩,
  ⟨0x20006000030, 0x0, 1, false, [(F.FAB_DROP_foreign_job, .ro), (F.FAB_DROP_old_epoch, .ro), (F.FAB_DROP_old_attempt, .ro), (F.FAB_DROP_duplicate, .ro)]⟩,
  ⟨0x20006000038, 0x0, 1, false, [(F.FAB_RETX_CTRL_timeout_us, .rw), (F.FAB_RETX_CTRL_max_retx, .rw)]⟩,
  ⟨0x20006000040, 0x0, 1, false, [(F.FAB_RETX_STATUS_retransmitted, .ro), (F.FAB_RETX_STATUS_unreachable, .ro)]⟩,
  ⟨0x20006000048, 0x0, 1, false, [(F.FAB_UNREACH_valid, .w1c), (F.FAB_UNREACH_type, .ro), (F.FAB_UNREACH_module, .ro)]⟩,
  ⟨0x20006000050, 0x0, 1, false, [(F.FAB_HB_CTRL_interval_us, .rw), (F.FAB_HB_CTRL_timeout_us, .rw)]⟩,
  ⟨0x20006000058, 0x0, 1, false, [(F.FAB_COLL_CTRL_queue, .rw), (F.FAB_COLL_CTRL_enable, .rw)]⟩,
  ⟨0x20006000060, 0x0, 1, false, [(F.FAB_COLL_STATUS_last_done, .ro), (F.FAB_COLL_STATUS_in_flight, .ro)]⟩,
  ⟨0x20006000068, 0x0, 1, false, [(F.FAB_COLL_FLAGS_uf, .ro), (F.FAB_COLL_FLAGS_of, .ro), (F.FAB_COLL_FLAGS_nv, .ro)]⟩,
  ⟨0x20006000070, 0x0, 1, false, [(F.FAB_COLL_REJECT_valid, .w1c), (F.FAB_COLL_REJECT_mismatch, .ro), (F.FAB_COLL_REJECT_reason, .ro), (F.FAB_COLL_REJECT_member, .ro), (F.FAB_COLL_REJECT_coll_seq, .ro)]⟩,
  ⟨0x20006000078, 0x0, 1, false, [(F.FAB_TX_FLITS_count, .ro)]⟩,
  ⟨0x20006000080, 0x0, 1, false, [(F.FAB_RX_FLITS_count, .ro)]⟩,
  ⟨0x20006000088, 0x0, 1, false, [(F.FAB_NONMIN_FLITS_count, .ro)]⟩,
  ⟨0x20006000090, 0x0, 1, false, [(F.FAB_TRANSIT_FLITS_count, .ro)]⟩,
  ⟨0x20006000098, 0x0, 1, false, [(F.FAB_COLL_OPS_count, .ro)]⟩,
  ⟨0x200060000A0, 0x0, 1, false, [(F.FAB_HOT_TIME_count, .ro)]⟩]

/-! ### PORT block -/

-- PORT_CTRL (R303)
def F.PORT_CTRL_min_lanes : Field := ⟨0x20007000000, 0x100, 8, 4, 2⟩
/-- min_lanes of the bridge ports 72 to 75, whose reset differs; element 0 is port 72. -/
def F.PORT_CTRL_br_min_lanes : Field := ⟨0x20007004800, 0x100, 8, 4, 4⟩
def F.PORT_CTRL_retrain : Field := ⟨0x20007000000, 0x100, 1, 1, 0⟩
def F.PORT_CTRL_enable : Field := ⟨0x20007000000, 0x100, 0, 1, 1⟩
-- PORT_STATUS (R303)
def F.PORT_STATUS_state : Field := ⟨0x20007000008, 0x100, 60, 4, 0⟩
def F.PORT_STATUS_role_class : Field := ⟨0x20007000008, 0x100, 58, 2, 0⟩
def F.PORT_STATUS_role_index : Field := ⟨0x20007000008, 0x100, 52, 6, 0⟩
def F.PORT_STATUS_hold_cause : Field := ⟨0x20007000008, 0x100, 48, 4, 0⟩
def F.PORT_STATUS_ver_major : Field := ⟨0x20007000008, 0x100, 44, 4, 0⟩
def F.PORT_STATUS_ver_minor : Field := ⟨0x20007000008, 0x100, 40, 4, 0⟩
def F.PORT_STATUS_lanes_up : Field := ⟨0x20007000008, 0x100, 32, 8, 0⟩
-- PORT_PEER (R303)
def F.PORT_PEER_peer_addr : Field := ⟨0x20007000010, 0x100, 48, 16, 0⟩
def F.PORT_PEER_peer_port : Field := ⟨0x20007000010, 0x100, 41, 7, 0⟩
def F.PORT_PEER_peer_class : Field := ⟨0x20007000010, 0x100, 39, 2, 0⟩
def F.PORT_PEER_peer_index : Field := ⟨0x20007000010, 0x100, 33, 6, 0⟩
def F.PORT_PEER_rtt_ns : Field := ⟨0x20007000010, 0x100, 0, 16, 0⟩
-- PORT_PEER_SERIAL (R303)
def F.PORT_PEER_SERIAL_serial : Field := ⟨0x20007000018, 0x100, 0, 64, 0⟩
-- PORT_FEC_CE (R303)
def F.PORT_FEC_CE_count : Field := ⟨0x20007000020, 0x100, 0, 64, 0⟩
-- PORT_FEC_UE (R303)
def F.PORT_FEC_UE_count : Field := ⟨0x20007000028, 0x100, 0, 64, 0⟩
-- PORT_LINK_ERR (R303)
def F.PORT_LINK_ERR_crc_errors : Field := ⟨0x20007000030, 0x100, 32, 32, 0⟩
def F.PORT_LINK_ERR_retrains : Field := ⟨0x20007000030, 0x100, 16, 16, 0⟩
def F.PORT_LINK_ERR_lane_drops : Field := ⟨0x20007000030, 0x100, 8, 8, 0⟩
-- PORT_OPTICS (R303)
def F.PORT_OPTICS_rx_power_3 : Field := ⟨0x20007000038, 0x100, 48, 16, 0x8000⟩
def F.PORT_OPTICS_rx_power_2 : Field := ⟨0x20007000038, 0x100, 32, 16, 0x8000⟩
def F.PORT_OPTICS_rx_power_1 : Field := ⟨0x20007000038, 0x100, 16, 16, 0x8000⟩
def F.PORT_OPTICS_rx_power_0 : Field := ⟨0x20007000038, 0x100, 0, 16, 0x8000⟩
-- PORT_FE_CFG (R303)
def F.PORT_FE_CFG_pfc_mask : Field := ⟨0x20007000040, 0x100, 8, 8, 0⟩
def F.PORT_FE_CFG_ecn_enable : Field := ⟨0x20007000040, 0x100, 3, 1, 1⟩
def F.PORT_FE_CFG_macsec_required : Field := ⟨0x20007000040, 0x100, 1, 1, 0⟩
def F.PORT_FE_CFG_macsec_enable : Field := ⟨0x20007000040, 0x100, 0, 1, 0⟩
-- PORT_FE_STATUS (R303)
def F.PORT_FE_STATUS_abi_version : Field := ⟨0x20007000048, 0x100, 48, 16, 0⟩
def F.PORT_FE_STATUS_qp_open : Field := ⟨0x20007000048, 0x100, 32, 16, 0⟩
def F.PORT_FE_STATUS_nvme_queues : Field := ⟨0x20007000048, 0x100, 16, 16, 0⟩
def F.PORT_FE_STATUS_macsec_secure : Field := ⟨0x20007000048, 0x100, 1, 1, 0⟩
-- PORT_MAP_STATUS (R303)
def F.PORT_MAP_STATUS_config_map : Field := ⟨0x20007008000, 0x0, 63, 1, 0⟩
def F.PORT_MAP_STATUS_invalid : Field := ⟨0x20007008000, 0x0, 62, 1, 0⟩
-- PORT_BER_THRESH (R303)
def F.PORT_BER_THRESH_ce_per_hour : Field := ⟨0x20007008008, 0x0, 32, 32, 0⟩
def F.PORT_BER_THRESH_retrains_per_hour : Field := ⟨0x20007008008, 0x0, 16, 16, 0⟩
-- PORT_LIGHT (R303)
def F.PORT_LIGHT_source_ok : Field := ⟨0x20007008010, 0x0, 0, 18, 0⟩
-- PORT_BR_WINDOW (R303)
def F.PORT_BR_WINDOW_size : Field := ⟨0x20007008018, 0x0, 48, 16, 0⟩
def F.PORT_BR_WINDOW_base : Field := ⟨0x20007008018, 0x0, 0, 48, 0⟩
-- PORT_BR_CTRL (R303)
def F.PORT_BR_CTRL_queue : Field := ⟨0x20007008020, 0x0, 45, 13, 0⟩
def F.PORT_BR_CTRL_enable : Field := ⟨0x20007008020, 0x0, 0, 1, 0⟩
-- PORT_BR_RING (R303)
def F.PORT_BR_RING_log2_entries : Field := ⟨0x20007008028, 0x0, 59, 5, 4⟩
def F.PORT_BR_RING_base : Field := ⟨0x20007008028, 0x0, 0, 48, 0⟩
-- PORT_BR_DOORBELL (R303)
def F.PORT_BR_DOORBELL_seq : Field := ⟨0x20007008030, 0x0, 0, 32, 0⟩
-- PORT_BR_STATUS (R303)
def F.PORT_BR_STATUS_done : Field := ⟨0x20007008038, 0x0, 32, 32, 0⟩
def F.PORT_BR_STATUS_valid : Field := ⟨0x20007008038, 0x0, 31, 1, 0⟩
def F.PORT_BR_STATUS_error : Field := ⟨0x20007008038, 0x0, 16, 8, 0⟩

/-- The registers of the PORT block, in address order. -/
def regsPORT : List RegDesc := [
  ⟨0x20007000000, 0x100, 76, false, [(F.PORT_CTRL_min_lanes, .rw), (F.PORT_CTRL_retrain, .w1s), (F.PORT_CTRL_enable, .rw)]⟩,
  ⟨0x20007000008, 0x100, 76, false, [(F.PORT_STATUS_state, .ro), (F.PORT_STATUS_role_class, .ro), (F.PORT_STATUS_role_index, .ro), (F.PORT_STATUS_hold_cause, .ro), (F.PORT_STATUS_ver_major, .ro), (F.PORT_STATUS_ver_minor, .ro), (F.PORT_STATUS_lanes_up, .ro)]⟩,
  ⟨0x20007000010, 0x100, 76, false, [(F.PORT_PEER_peer_addr, .ro), (F.PORT_PEER_peer_port, .ro), (F.PORT_PEER_peer_class, .ro), (F.PORT_PEER_peer_index, .ro), (F.PORT_PEER_rtt_ns, .ro)]⟩,
  ⟨0x20007000018, 0x100, 76, false, [(F.PORT_PEER_SERIAL_serial, .ro)]⟩,
  ⟨0x20007000020, 0x100, 76, false, [(F.PORT_FEC_CE_count, .ro)]⟩,
  ⟨0x20007000028, 0x100, 76, false, [(F.PORT_FEC_UE_count, .ro)]⟩,
  ⟨0x20007000030, 0x100, 76, false, [(F.PORT_LINK_ERR_crc_errors, .ro), (F.PORT_LINK_ERR_retrains, .ro), (F.PORT_LINK_ERR_lane_drops, .ro)]⟩,
  ⟨0x20007000038, 0x100, 76, false, [(F.PORT_OPTICS_rx_power_3, .ro), (F.PORT_OPTICS_rx_power_2, .ro), (F.PORT_OPTICS_rx_power_1, .ro), (F.PORT_OPTICS_rx_power_0, .ro)]⟩,
  ⟨0x20007000040, 0x100, 76, false, [(F.PORT_FE_CFG_pfc_mask, .rw), (F.PORT_FE_CFG_ecn_enable, .rw), (F.PORT_FE_CFG_macsec_required, .rw), (F.PORT_FE_CFG_macsec_enable, .rw)]⟩,
  ⟨0x20007000048, 0x100, 76, false, [(F.PORT_FE_STATUS_abi_version, .ro), (F.PORT_FE_STATUS_qp_open, .ro), (F.PORT_FE_STATUS_nvme_queues, .ro), (F.PORT_FE_STATUS_macsec_secure, .ro)]⟩,
  ⟨0x20007008000, 0x0, 1, false, [(F.PORT_MAP_STATUS_config_map, .ro), (F.PORT_MAP_STATUS_invalid, .ro)]⟩,
  ⟨0x20007008008, 0x0, 1, false, [(F.PORT_BER_THRESH_ce_per_hour, .rw), (F.PORT_BER_THRESH_retrains_per_hour, .rw)]⟩,
  ⟨0x20007008010, 0x0, 1, false, [(F.PORT_LIGHT_source_ok, .ro)]⟩,
  ⟨0x20007008018, 0x0, 1, false, [(F.PORT_BR_WINDOW_size, .rw), (F.PORT_BR_WINDOW_base, .rw)]⟩,
  ⟨0x20007008020, 0x0, 1, false, [(F.PORT_BR_CTRL_queue, .rw), (F.PORT_BR_CTRL_enable, .rw)]⟩,
  ⟨0x20007008028, 0x0, 1, false, [(F.PORT_BR_RING_log2_entries, .rw), (F.PORT_BR_RING_base, .rw)]⟩,
  ⟨0x20007008030, 0x0, 1, false, [(F.PORT_BR_DOORBELL_seq, .rw)]⟩,
  ⟨0x20007008038, 0x0, 1, false, [(F.PORT_BR_STATUS_done, .ro), (F.PORT_BR_STATUS_valid, .w1c), (F.PORT_BR_STATUS_error, .ro)]⟩]

/-! ### CHK block -/

-- CHK_MOLT_CTRL (R340)
def F.CHK_MOLT_CTRL_vote_timeout_ms : Field := ⟨0x20008000000, 0x0, 0, 32, 0x1D4C0⟩
-- CHK_MOLT_STATUS (R340)
def F.CHK_MOLT_STATUS_children : Field := ⟨0x20008000008, 0x0, 48, 6, 0⟩
def F.CHK_MOLT_STATUS_children_voted : Field := ⟨0x20008000008, 0x0, 36, 6, 0⟩
def F.CHK_MOLT_STATUS_replay : Field := ⟨0x20008000008, 0x0, 32, 4, 0⟩
def F.CHK_MOLT_STATUS_round : Field := ⟨0x20008000008, 0x0, 28, 4, 0⟩
def F.CHK_MOLT_STATUS_root : Field := ⟨0x20008000008, 0x0, 27, 1, 0⟩
def F.CHK_MOLT_STATUS_record_held : Field := ⟨0x20008000008, 0x0, 26, 1, 0⟩
def F.CHK_MOLT_STATUS_voted : Field := ⟨0x20008000008, 0x0, 25, 1, 0⟩
def F.CHK_MOLT_STATUS_vote : Field := ⟨0x20008000008, 0x0, 23, 2, 0⟩
def F.CHK_MOLT_STATUS_last_decision : Field := ⟨0x20008000008, 0x0, 21, 2, 0⟩
-- CHK_MOLT_LAST (R340)
def F.CHK_MOLT_LAST_valid : Field := ⟨0x20008000010, 0x0, 63, 1, 0⟩
def F.CHK_MOLT_LAST_cause : Field := ⟨0x20008000010, 0x0, 48, 8, 0⟩
def F.CHK_MOLT_LAST_origin : Field := ⟨0x20008000010, 0x0, 32, 16, 0⟩
-- CHK_MOLT_TIME (R340)
def F.CHK_MOLT_TIME_last : Field := ⟨0x20008000018, 0x0, 32, 32, 0⟩
def F.CHK_MOLT_TIME_worst : Field := ⟨0x20008000018, 0x0, 0, 32, 0⟩
-- CHK_MOLT_COUNT (R340)
def F.CHK_MOLT_COUNT_molts : Field := ⟨0x20008000020, 0x0, 32, 32, 0⟩
def F.CHK_MOLT_COUNT_discards : Field := ⟨0x20008000020, 0x0, 0, 32, 0⟩
-- CHK_KEPT_NEXT (R340)
def F.CHK_KEPT_NEXT_ready : Field := ⟨0x20008000028, 0x0, 63, 1, 0⟩
def F.CHK_KEPT_NEXT_count : Field := ⟨0x20008000028, 0x0, 48, 13, 0⟩
def F.CHK_KEPT_NEXT_address : Field := ⟨0x20008000028, 0x0, 0, 48, 0⟩
-- CHK_KEPT_CUR (R340)
def F.CHK_KEPT_CUR_valid : Field := ⟨0x20008000030, 0x0, 63, 1, 0⟩
def F.CHK_KEPT_CUR_repair : Field := ⟨0x20008000030, 0x0, 62, 1, 0⟩
def F.CHK_KEPT_CUR_repair_done : Field := ⟨0x20008000030, 0x0, 61, 1, 0⟩
def F.CHK_KEPT_CUR_count : Field := ⟨0x20008000030, 0x0, 48, 13, 0⟩
def F.CHK_KEPT_CUR_address : Field := ⟨0x20008000030, 0x0, 0, 48, 0⟩
-- CHK_INPUT_WAIT (R340)
def F.CHK_INPUT_WAIT_ticks : Field := ⟨0x20008000038, 0x0, 0, 64, 0⟩
-- CHK_REPLICA (R340)
def F.CHK_REPLICA_members : Field := ⟨0x20008000040, 0x0, 8, 9, 0⟩
def F.CHK_REPLICA_axis_mask : Field := ⟨0x20008000040, 0x0, 0, 5, 0⟩
-- CHK_DIGEST (R340)
def F.CHK_DIGEST_bytes : Field := ⟨0x20008000048, 0x8, 0, 64, 0⟩
-- CHK_DIGEST_STATUS (R340)
def F.CHK_DIGEST_STATUS_valid : Field := ⟨0x20008000068, 0x0, 63, 1, 0⟩
def F.CHK_DIGEST_STATUS_diverged : Field := ⟨0x20008000068, 0x0, 62, 1, 0⟩
def F.CHK_DIGEST_STATUS_member : Field := ⟨0x20008000068, 0x0, 32, 16, 0⟩
-- CHK_CANARY_CTRL (R340)
def F.CHK_CANARY_CTRL_period : Field := ⟨0x20008000070, 0x0, 48, 16, 0x40⟩
def F.CHK_CANARY_CTRL_image : Field := ⟨0x20008000070, 0x0, 0, 48, 0⟩
-- CHK_CANARY_PASS (R340)
def F.CHK_CANARY_PASS_instar : Field := ⟨0x20008000078, 0x0, 0, 64, 0⟩
-- CHK_CANARY_STATUS (R340)
def F.CHK_CANARY_STATUS_valid : Field := ⟨0x20008000080, 0x0, 63, 1, 0⟩
def F.CHK_CANARY_STATUS_rerun_passed : Field := ⟨0x20008000080, 0x0, 62, 1, 0⟩
def F.CHK_CANARY_STATUS_running : Field := ⟨0x20008000080, 0x0, 61, 1, 0⟩
def F.CHK_CANARY_STATUS_kind : Field := ⟨0x20008000080, 0x0, 56, 4, 0⟩
def F.CHK_CANARY_STATUS_unit : Field := ⟨0x20008000080, 0x0, 48, 8, 0⟩
def F.CHK_CANARY_STATUS_entry : Field := ⟨0x20008000080, 0x0, 32, 16, 0⟩
def F.CHK_CANARY_STATUS_passes : Field := ⟨0x20008000080, 0x0, 0, 32, 0⟩
-- CHK_MIRROR_CTRL (R340)
def F.CHK_MIRROR_CTRL_rebuild_gbs : Field := ⟨0x20008000088, 0x0, 0, 8, 0x14⟩
-- CHK_MIRROR_STATUS (R340)
def F.CHK_MIRROR_STATUS_own_complete : Field := ⟨0x20008000090, 0x0, 63, 1, 0⟩
def F.CHK_MIRROR_STATUS_held_complete : Field := ⟨0x20008000090, 0x0, 62, 1, 0⟩
def F.CHK_MIRROR_STATUS_building : Field := ⟨0x20008000090, 0x0, 61, 1, 0⟩
def F.CHK_MIRROR_STATUS_fence : Field := ⟨0x20008000090, 0x0, 60, 1, 0⟩
def F.CHK_MIRROR_STATUS_held_rank : Field := ⟨0x20008000090, 0x0, 32, 16, 0⟩
def F.CHK_MIRROR_STATUS_progress : Field := ⟨0x20008000090, 0x0, 0, 32, 0⟩
-- CHK_MIRROR_BYTES (R340)
def F.CHK_MIRROR_BYTES_bytes : Field := ⟨0x20008000098, 0x0, 0, 64, 0⟩
-- CHK_TEST_CTRL (R340)
def F.CHK_TEST_CTRL_period_min : Field := ⟨0x200080000A0, 0x0, 16, 16, 0x5A0⟩
def F.CHK_TEST_CTRL_test_now : Field := ⟨0x200080000A0, 0x0, 1, 1, 0⟩
def F.CHK_TEST_CTRL_enable : Field := ⟨0x200080000A0, 0x0, 0, 1, 1⟩
-- CHK_TEST_STATUS (R340)
def F.CHK_TEST_STATUS_overdue : Field := ⟨0x200080000A8, 0x0, 33, 1, 0⟩
def F.CHK_TEST_STATUS_deferred : Field := ⟨0x200080000A8, 0x0, 32, 1, 0⟩
def F.CHK_TEST_STATUS_quadrant : Field := ⟨0x200080000A8, 0x0, 0, 32, 0⟩
-- CHK_CORE_TEST (R340)
def F.CHK_CORE_TEST_result : Field := ⟨0x20008001000, 0x8, 62, 2, 0⟩
def F.CHK_CORE_TEST_testing : Field := ⟨0x20008001000, 0x8, 61, 1, 0⟩
def F.CHK_CORE_TEST_tick : Field := ⟨0x20008001000, 0x8, 0, 60, 0⟩
-- CHK_CHRYS_CTRL (R384)
def F.CHK_CHRYS_CTRL_period : Field := ⟨0x20008000800, 0x0, 32, 32, 0⟩
def F.CHK_CHRYS_CTRL_done_timeout_s : Field := ⟨0x20008000800, 0x0, 16, 16, 0x258⟩
def F.CHK_CHRYS_CTRL_staging : Field := ⟨0x20008000800, 0x0, 2, 1, 0⟩
def F.CHK_CHRYS_CTRL_on_warning : Field := ⟨0x20008000800, 0x0, 1, 1, 1⟩
-- CHK_CHRYS_PLAN (R384)
def F.CHK_CHRYS_PLAN_slots : Field := ⟨0x20008000808, 0x0, 59, 5, 0⟩
def F.CHK_CHRYS_PLAN_address : Field := ⟨0x20008000808, 0x0, 0, 48, 0⟩
-- CHK_CHRYS_STATUS (R384)
def F.CHK_CHRYS_STATUS_state : Field := ⟨0x20008000810, 0x0, 61, 3, 0⟩
def F.CHK_CHRYS_STATUS_slot : Field := ⟨0x20008000810, 0x0, 57, 4, 0⟩
def F.CHK_CHRYS_STATUS_fence : Field := ⟨0x20008000810, 0x0, 56, 1, 0⟩
def F.CHK_CHRYS_STATUS_code : Field := ⟨0x20008000810, 0x0, 48, 8, 0⟩
-- CHK_CHRYS_INSTAR (R384)
def F.CHK_CHRYS_INSTAR_instar : Field := ⟨0x20008000818, 0x0, 0, 64, 0⟩
-- CHK_CHRYS_BYTES (R384)
def F.CHK_CHRYS_BYTES_bytes : Field := ⟨0x20008000820, 0x0, 0, 64, 0⟩
-- CHK_CHRYS_COORD (R384)
def F.CHK_CHRYS_COORD_gathering : Field := ⟨0x20008000828, 0x0, 63, 1, 0⟩
def F.CHK_CHRYS_COORD_pending : Field := ⟨0x20008000828, 0x0, 62, 1, 0⟩
def F.CHK_CHRYS_COORD_next_slot : Field := ⟨0x20008000828, 0x0, 58, 4, 0⟩
def F.CHK_CHRYS_COORD_skipped : Field := ⟨0x20008000828, 0x0, 32, 16, 0⟩
def F.CHK_CHRYS_COORD_done_count : Field := ⟨0x20008000828, 0x0, 0, 32, 0⟩
-- CHK_CHRYS_LAST (R384)
def F.CHK_CHRYS_LAST_instar : Field := ⟨0x20008000830, 0x0, 0, 64, 0⟩

/-- The registers of the CHK block, in address order. -/
def regsCHK : List RegDesc := [
  ⟨0x20008000000, 0x0, 1, false, [(F.CHK_MOLT_CTRL_vote_timeout_ms, .rw)]⟩,
  ⟨0x20008000008, 0x0, 1, false, [(F.CHK_MOLT_STATUS_children, .ro), (F.CHK_MOLT_STATUS_children_voted, .ro), (F.CHK_MOLT_STATUS_replay, .ro), (F.CHK_MOLT_STATUS_round, .ro), (F.CHK_MOLT_STATUS_root, .ro), (F.CHK_MOLT_STATUS_record_held, .ro), (F.CHK_MOLT_STATUS_voted, .ro), (F.CHK_MOLT_STATUS_vote, .ro), (F.CHK_MOLT_STATUS_last_decision, .ro)]⟩,
  ⟨0x20008000010, 0x0, 1, false, [(F.CHK_MOLT_LAST_valid, .w1c), (F.CHK_MOLT_LAST_cause, .ro), (F.CHK_MOLT_LAST_origin, .ro)]⟩,
  ⟨0x20008000018, 0x0, 1, false, [(F.CHK_MOLT_TIME_last, .ro), (F.CHK_MOLT_TIME_worst, .ro)]⟩,
  ⟨0x20008000020, 0x0, 1, false, [(F.CHK_MOLT_COUNT_molts, .ro), (F.CHK_MOLT_COUNT_discards, .ro)]⟩,
  ⟨0x20008000028, 0x0, 1, false, [(F.CHK_KEPT_NEXT_ready, .rw), (F.CHK_KEPT_NEXT_count, .rw), (F.CHK_KEPT_NEXT_address, .rw)]⟩,
  ⟨0x20008000030, 0x0, 1, false, [(F.CHK_KEPT_CUR_valid, .ro), (F.CHK_KEPT_CUR_repair, .ro), (F.CHK_KEPT_CUR_repair_done, .w1s), (F.CHK_KEPT_CUR_count, .ro), (F.CHK_KEPT_CUR_address, .ro)]⟩,
  ⟨0x20008000038, 0x0, 1, false, [(F.CHK_INPUT_WAIT_ticks, .ro)]⟩,
  ⟨0x20008000040, 0x0, 1, false, [(F.CHK_REPLICA_members, .ro), (F.CHK_REPLICA_axis_mask, .rw)]⟩,
  ⟨0x20008000048, 0x8, 4, false, [(F.CHK_DIGEST_bytes, .ro)]⟩,
  ⟨0x20008000068, 0x0, 1, false, [(F.CHK_DIGEST_STATUS_valid, .w1c), (F.CHK_DIGEST_STATUS_diverged, .w1c), (F.CHK_DIGEST_STATUS_member, .ro)]⟩,
  ⟨0x20008000070, 0x0, 1, false, [(F.CHK_CANARY_CTRL_period, .rw), (F.CHK_CANARY_CTRL_image, .rw)]⟩,
  ⟨0x20008000078, 0x0, 1, false, [(F.CHK_CANARY_PASS_instar, .ro)]⟩,
  ⟨0x20008000080, 0x0, 1, false, [(F.CHK_CANARY_STATUS_valid, .w1c), (F.CHK_CANARY_STATUS_rerun_passed, .ro), (F.CHK_CANARY_STATUS_running, .ro), (F.CHK_CANARY_STATUS_kind, .ro), (F.CHK_CANARY_STATUS_unit, .ro), (F.CHK_CANARY_STATUS_entry, .ro), (F.CHK_CANARY_STATUS_passes, .ro)]⟩,
  ⟨0x20008000088, 0x0, 1, false, [(F.CHK_MIRROR_CTRL_rebuild_gbs, .rw)]⟩,
  ⟨0x20008000090, 0x0, 1, false, [(F.CHK_MIRROR_STATUS_own_complete, .ro), (F.CHK_MIRROR_STATUS_held_complete, .ro), (F.CHK_MIRROR_STATUS_building, .ro), (F.CHK_MIRROR_STATUS_fence, .ro), (F.CHK_MIRROR_STATUS_held_rank, .ro), (F.CHK_MIRROR_STATUS_progress, .ro)]⟩,
  ⟨0x20008000098, 0x0, 1, false, [(F.CHK_MIRROR_BYTES_bytes, .ro)]⟩,
  ⟨0x200080000A0, 0x0, 1, false, [(F.CHK_TEST_CTRL_period_min, .rw), (F.CHK_TEST_CTRL_test_now, .w1s), (F.CHK_TEST_CTRL_enable, .rw)]⟩,
  ⟨0x200080000A8, 0x0, 1, false, [(F.CHK_TEST_STATUS_overdue, .ro), (F.CHK_TEST_STATUS_deferred, .ro), (F.CHK_TEST_STATUS_quadrant, .ro)]⟩,
  ⟨0x20008001000, 0x8, 272, false, [(F.CHK_CORE_TEST_result, .ro), (F.CHK_CORE_TEST_testing, .ro), (F.CHK_CORE_TEST_tick, .ro)]⟩,
  ⟨0x20008000800, 0x0, 1, false, [(F.CHK_CHRYS_CTRL_period, .rw), (F.CHK_CHRYS_CTRL_done_timeout_s, .rw), (F.CHK_CHRYS_CTRL_staging, .rw), (F.CHK_CHRYS_CTRL_on_warning, .rw)]⟩,
  ⟨0x20008000808, 0x0, 1, false, [(F.CHK_CHRYS_PLAN_slots, .rw), (F.CHK_CHRYS_PLAN_address, .rw)]⟩,
  ⟨0x20008000810, 0x0, 1, false, [(F.CHK_CHRYS_STATUS_state, .ro), (F.CHK_CHRYS_STATUS_slot, .ro), (F.CHK_CHRYS_STATUS_fence, .ro), (F.CHK_CHRYS_STATUS_code, .ro)]⟩,
  ⟨0x20008000818, 0x0, 1, false, [(F.CHK_CHRYS_INSTAR_instar, .ro)]⟩,
  ⟨0x20008000820, 0x0, 1, false, [(F.CHK_CHRYS_BYTES_bytes, .ro)]⟩,
  ⟨0x20008000828, 0x0, 1, false, [(F.CHK_CHRYS_COORD_gathering, .ro), (F.CHK_CHRYS_COORD_pending, .ro), (F.CHK_CHRYS_COORD_next_slot, .ro), (F.CHK_CHRYS_COORD_skipped, .ro), (F.CHK_CHRYS_COORD_done_count, .ro)]⟩,
  ⟨0x20008000830, 0x0, 1, false, [(F.CHK_CHRYS_LAST_instar, .ro)]⟩]

/-! ### ERR block -/

-- ERR_CTRL (R363)
def F.ERR_CTRL_job_hb_timeout_us : Field := ⟨0x20009000000, 0x0, 48, 16, 0xFA0⟩
def F.ERR_CTRL_job_hb_us : Field := ⟨0x20009000000, 0x0, 32, 16, 0x3E8⟩
def F.ERR_CTRL_remap_wait_s : Field := ⟨0x20009000000, 0x0, 16, 16, 0x3C⟩
def F.ERR_CTRL_auto_replay : Field := ⟨0x20009000000, 0x0, 12, 4, 3⟩
def F.ERR_CTRL_nan_trap : Field := ⟨0x20009000000, 0x0, 0, 1, 0⟩
-- ERR_STATUS (R363)
def F.ERR_STATUS_fm_reachable : Field := ⟨0x20009000008, 0x0, 63, 1, 0⟩
def F.ERR_STATUS_loss_pending : Field := ⟨0x20009000008, 0x0, 62, 1, 0⟩
def F.ERR_STATUS_local_discards : Field := ⟨0x20009000008, 0x0, 0, 8, 0⟩
-- ERR_EVENT_SEQ (R363)
def F.ERR_EVENT_SEQ_seq : Field := ⟨0x20009000010, 0x0, 0, 32, 0⟩
-- ERR_SEV_COUNT (R363)
def F.ERR_SEV_COUNT_count : Field := ⟨0x20009000018, 0x8, 0, 64, 0⟩
-- ERR_NAN_RECORD0 (R363)
def F.ERR_NAN_RECORD0_valid : Field := ⟨0x20009000048, 0x0, 63, 1, 0⟩
def F.ERR_NAN_RECORD0_engine : Field := ⟨0x20009000048, 0x0, 60, 3, 0⟩
def F.ERR_NAN_RECORD0_core : Field := ⟨0x20009000048, 0x0, 52, 8, 0⟩
def F.ERR_NAN_RECORD0_location : Field := ⟨0x20009000048, 0x0, 0, 48, 0⟩
-- ERR_NAN_RECORD1 (R363)
def F.ERR_NAN_RECORD1_tensor_id : Field := ⟨0x20009000050, 0x0, 40, 24, 0⟩
def F.ERR_NAN_RECORD1_micro_batch : Field := ⟨0x20009000050, 0x0, 28, 12, 0⟩
def F.ERR_NAN_RECORD1_branch : Field := ⟨0x20009000050, 0x0, 24, 4, 0⟩
-- ERR_NAN_RECORD2 (R363)
def F.ERR_NAN_RECORD2_count : Field := ⟨0x20009000058, 0x0, 32, 32, 0⟩
def F.ERR_NAN_RECORD2_command_seq : Field := ⟨0x20009000058, 0x0, 0, 32, 0⟩
-- ERR_NAN_RECORD3 (R363)
def F.ERR_NAN_RECORD3_instar : Field := ⟨0x20009000060, 0x0, 0, 64, 0⟩
-- ERR_NAN_RECORD4 (R363)
def F.ERR_NAN_RECORD4_tick : Field := ⟨0x20009000068, 0x0, 0, 64, 0⟩
-- ERR_RETRY_THRESH (R363)
def F.ERR_RETRY_THRESH_per_hour : Field := ⟨0x20009000070, 0x0, 0, 32, 0⟩
-- ERR_FM (R363)
def F.ERR_FM_fm_seq : Field := ⟨0x20009000078, 0x0, 32, 32, 0⟩
def F.ERR_FM_code : Field := ⟨0x20009000078, 0x0, 24, 8, 0⟩
def F.ERR_FM_result : Field := ⟨0x20009000078, 0x0, 16, 8, 0⟩
def F.ERR_FM_instance : Field := ⟨0x20009000078, 0x0, 0, 1, 0⟩
-- ERR_LOSS (R363)
def F.ERR_LOSS_valid : Field := ⟨0x20009000080, 0x0, 63, 1, 0⟩
def F.ERR_LOSS_declared : Field := ⟨0x20009000080, 0x0, 62, 1, 0⟩
def F.ERR_LOSS_rank : Field := ⟨0x20009000080, 0x0, 32, 16, 0⟩
def F.ERR_LOSS_module : Field := ⟨0x20009000080, 0x0, 0, 16, 0⟩
-- ERR_LOG (R363)
def F.ERR_LOG_record : Field := ⟨0x20009001000, 0x8, 0, 64, 0⟩

/-- The registers of the ERR block, in address order. -/
def regsERR : List RegDesc := [
  ⟨0x20009000000, 0x0, 1, false, [(F.ERR_CTRL_job_hb_timeout_us, .rw), (F.ERR_CTRL_job_hb_us, .rw), (F.ERR_CTRL_remap_wait_s, .rw), (F.ERR_CTRL_auto_replay, .rw), (F.ERR_CTRL_nan_trap, .ro)]⟩,
  ⟨0x20009000008, 0x0, 1, false, [(F.ERR_STATUS_fm_reachable, .ro), (F.ERR_STATUS_loss_pending, .ro), (F.ERR_STATUS_local_discards, .ro)]⟩,
  ⟨0x20009000010, 0x0, 1, false, [(F.ERR_EVENT_SEQ_seq, .ro)]⟩,
  ⟨0x20009000018, 0x8, 6, false, [(F.ERR_SEV_COUNT_count, .ro)]⟩,
  ⟨0x20009000048, 0x0, 1, false, [(F.ERR_NAN_RECORD0_valid, .w1c), (F.ERR_NAN_RECORD0_engine, .ro), (F.ERR_NAN_RECORD0_core, .ro), (F.ERR_NAN_RECORD0_location, .ro)]⟩,
  ⟨0x20009000050, 0x0, 1, false, [(F.ERR_NAN_RECORD1_tensor_id, .ro), (F.ERR_NAN_RECORD1_micro_batch, .ro), (F.ERR_NAN_RECORD1_branch, .ro)]⟩,
  ⟨0x20009000058, 0x0, 1, false, [(F.ERR_NAN_RECORD2_count, .ro), (F.ERR_NAN_RECORD2_command_seq, .ro)]⟩,
  ⟨0x20009000060, 0x0, 1, false, [(F.ERR_NAN_RECORD3_instar, .ro)]⟩,
  ⟨0x20009000068, 0x0, 1, false, [(F.ERR_NAN_RECORD4_tick, .ro)]⟩,
  ⟨0x20009000070, 0x0, 1, false, [(F.ERR_RETRY_THRESH_per_hour, .rw)]⟩,
  ⟨0x20009000078, 0x0, 1, false, [(F.ERR_FM_fm_seq, .ro), (F.ERR_FM_code, .ro), (F.ERR_FM_result, .ro), (F.ERR_FM_instance, .ro)]⟩,
  ⟨0x20009000080, 0x0, 1, false, [(F.ERR_LOSS_valid, .w1c), (F.ERR_LOSS_declared, .ro), (F.ERR_LOSS_rank, .ro), (F.ERR_LOSS_module, .ro)]⟩,
  ⟨0x20009001000, 0x8, 8192, false, [(F.ERR_LOG_record, .ro)]⟩]

/-! ### SEC block -/

-- SEC_BOOT (R433)
def F.SEC_BOOT_release : Field := ⟨0x2000A000000, 0x0, 32, 32, 0⟩
def F.SEC_BOOT_stage : Field := ⟨0x2000A000000, 0x0, 20, 4, 0⟩
def F.SEC_BOOT_fallbacks : Field := ⟨0x2000A000000, 0x0, 16, 4, 0⟩
def F.SEC_BOOT_config_signed : Field := ⟨0x2000A000000, 0x0, 9, 1, 0⟩
def F.SEC_BOOT_jtag : Field := ⟨0x2000A000000, 0x0, 8, 1, 0⟩
def F.SEC_BOOT_policy : Field := ⟨0x2000A000000, 0x0, 4, 4, 0⟩
def F.SEC_BOOT_mode : Field := ⟨0x2000A000000, 0x0, 2, 2, 0⟩
def F.SEC_BOOT_flash : Field := ⟨0x2000A000000, 0x0, 0, 2, 0⟩
-- SEC_ROLLBACK (R433)
def F.SEC_ROLLBACK_floor_b : Field := ⟨0x2000A000008, 0x0, 16, 8, 0⟩
def F.SEC_ROLLBACK_floor_a : Field := ⟨0x2000A000008, 0x0, 8, 8, 0⟩
def F.SEC_ROLLBACK_counter : Field := ⟨0x2000A000008, 0x0, 0, 8, 0⟩
-- SEC_REVOKED (R433)
def F.SEC_REVOKED_keys : Field := ⟨0x2000A000010, 0x0, 0, 16, 0⟩
-- SEC_RNG (R433)
def F.SEC_RNG_value : Field := ⟨0x2000A000018, 0x0, 0, 64, 0⟩
-- SEC_MEAS_COUNT (R433)
def F.SEC_MEAS_COUNT_entries : Field := ⟨0x2000A000020, 0x0, 0, 7, 0⟩
-- SEC_MEAS_CHAIN (R433)
def F.SEC_MEAS_CHAIN_bytes : Field := ⟨0x2000A000028, 0x8, 0, 64, 0⟩
-- SEC_ID_DIGEST (R433)
def F.SEC_ID_DIGEST_bytes : Field := ⟨0x2000A000048, 0x8, 0, 64, 0⟩
-- SEC_MEAS_LOG (R433)
def F.SEC_MEAS_LOG_record : Field := ⟨0x2000A001000, 0x8, 0, 64, 0⟩

/-- The registers of the SEC block, in address order. -/
def regsSEC : List RegDesc := [
  ⟨0x2000A000000, 0x0, 1, false, [(F.SEC_BOOT_release, .ro), (F.SEC_BOOT_stage, .ro), (F.SEC_BOOT_fallbacks, .ro), (F.SEC_BOOT_config_signed, .ro), (F.SEC_BOOT_jtag, .ro), (F.SEC_BOOT_policy, .ro), (F.SEC_BOOT_mode, .ro), (F.SEC_BOOT_flash, .ro)]⟩,
  ⟨0x2000A000008, 0x0, 1, false, [(F.SEC_ROLLBACK_floor_b, .ro), (F.SEC_ROLLBACK_floor_a, .ro), (F.SEC_ROLLBACK_counter, .ro)]⟩,
  ⟨0x2000A000010, 0x0, 1, false, [(F.SEC_REVOKED_keys, .ro)]⟩,
  ⟨0x2000A000018, 0x0, 1, false, [(F.SEC_RNG_value, .ro)]⟩,
  ⟨0x2000A000020, 0x0, 1, false, [(F.SEC_MEAS_COUNT_entries, .ro)]⟩,
  ⟨0x2000A000028, 0x8, 4, false, [(F.SEC_MEAS_CHAIN_bytes, .ro)]⟩,
  ⟨0x2000A000048, 0x8, 4, false, [(F.SEC_ID_DIGEST_bytes, .ro)]⟩,
  ⟨0x2000A001000, 0x8, 512, false, [(F.SEC_MEAS_LOG_record, .ro)]⟩]

/-! ### STW block -/

-- STW_MBOX_OUT (R434)
def F.STW_MBOX_OUT_word : Field := ⟨0x2000B000000, 0x8, 0, 64, 0⟩
-- STW_MBOX_IN (R434)
def F.STW_MBOX_IN_word : Field := ⟨0x2000B000040, 0x8, 0, 64, 0⟩
-- STW_MBOX_CTRL (R434)
def F.STW_MBOX_CTRL_send : Field := ⟨0x2000B000080, 0x0, 1, 1, 0⟩
def F.STW_MBOX_CTRL_in_valid : Field := ⟨0x2000B000080, 0x0, 0, 1, 0⟩
-- STW_STRAPS (R434)
def F.STW_STRAPS_tick : Field := ⟨0x2000B000088, 0x0, 12, 52, 0⟩
def F.STW_STRAPS_mgmt_pref : Field := ⟨0x2000B000088, 0x0, 9, 1, 0⟩
def F.STW_STRAPS_dormant_start : Field := ⟨0x2000B000088, 0x0, 8, 1, 0⟩
def F.STW_STRAPS_boot : Field := ⟨0x2000B000088, 0x0, 6, 2, 0⟩
def F.STW_STRAPS_pwrclass : Field := ⟨0x2000B000088, 0x0, 4, 2, 0⟩
-- STW_STATUS (R434)
def F.STW_STATUS_abi : Field := ⟨0x2000B000090, 0x0, 48, 16, 0⟩
def F.STW_STATUS_config_source : Field := ⟨0x2000B000090, 0x0, 46, 2, 0⟩
def F.STW_STATUS_sessions : Field := ⟨0x2000B000090, 0x0, 40, 4, 0⟩
def F.STW_STATUS_unknown_items : Field := ⟨0x2000B000090, 0x0, 32, 8, 0⟩
def F.STW_STATUS_config_generation : Field := ⟨0x2000B000090, 0x0, 0, 32, 0⟩
-- STW_JOURNAL (R434)
def F.STW_JOURNAL_first : Field := ⟨0x2000B000098, 0x0, 32, 32, 0⟩
def F.STW_JOURNAL_last : Field := ⟨0x2000B000098, 0x0, 0, 32, 0⟩
-- STW_MGMT (R434)
def F.STW_MGMT_link_up : Field := ⟨0x2000B0000A0, 0x8, 63, 1, 0⟩
def F.STW_MGMT_tag_fail : Field := ⟨0x2000B0000A0, 0x8, 32, 16, 0⟩
def F.STW_MGMT_rx : Field := ⟨0x2000B0000A0, 0x8, 0, 32, 0⟩
-- STW_SETTINGS (R434)
def F.STW_SETTINGS_degraded : Field := ⟨0x2000B0000B0, 0x0, 63, 1, 0⟩
def F.STW_SETTINGS_compacting : Field := ⟨0x2000B0000B0, 0x0, 62, 1, 0⟩
def F.STW_SETTINGS_region_b : Field := ⟨0x2000B0000B0, 0x0, 57, 1, 0⟩
def F.STW_SETTINGS_region_a : Field := ⟨0x2000B0000B0, 0x0, 56, 1, 0⟩
def F.STW_SETTINGS_fill : Field := ⟨0x2000B0000B0, 0x0, 48, 8, 0⟩
def F.STW_SETTINGS_keys : Field := ⟨0x2000B0000B0, 0x0, 32, 16, 0⟩
def F.STW_SETTINGS_generation : Field := ⟨0x2000B0000B0, 0x0, 0, 32, 0⟩
-- STW_OTP_SHADOW (R434)
def F.STW_OTP_SHADOW_bytes : Field := ⟨0x2000B000100, 0x8, 0, 64, 0⟩

/-- The registers of the STW block, in address order. -/
def regsSTW : List RegDesc := [
  ⟨0x2000B000000, 0x8, 8, false, [(F.STW_MBOX_OUT_word, .rw)]⟩,
  ⟨0x2000B000040, 0x8, 8, false, [(F.STW_MBOX_IN_word, .ro)]⟩,
  ⟨0x2000B000080, 0x0, 1, false, [(F.STW_MBOX_CTRL_send, .w1s), (F.STW_MBOX_CTRL_in_valid, .w1c)]⟩,
  ⟨0x2000B000088, 0x0, 1, false, [(F.STW_STRAPS_tick, .ro), (F.STW_STRAPS_mgmt_pref, .ro), (F.STW_STRAPS_dormant_start, .ro), (F.STW_STRAPS_boot, .ro), (F.STW_STRAPS_pwrclass, .ro)]⟩,
  ⟨0x2000B000090, 0x0, 1, false, [(F.STW_STATUS_abi, .ro), (F.STW_STATUS_config_source, .ro), (F.STW_STATUS_sessions, .ro), (F.STW_STATUS_unknown_items, .ro), (F.STW_STATUS_config_generation, .ro)]⟩,
  ⟨0x2000B000098, 0x0, 1, false, [(F.STW_JOURNAL_first, .ro), (F.STW_JOURNAL_last, .ro)]⟩,
  ⟨0x2000B0000A0, 0x8, 2, false, [(F.STW_MGMT_link_up, .ro), (F.STW_MGMT_tag_fail, .ro), (F.STW_MGMT_rx, .ro)]⟩,
  ⟨0x2000B0000B0, 0x0, 1, false, [(F.STW_SETTINGS_degraded, .ro), (F.STW_SETTINGS_compacting, .ro), (F.STW_SETTINGS_region_b, .ro), (F.STW_SETTINGS_region_a, .ro), (F.STW_SETTINGS_fill, .ro), (F.STW_SETTINGS_keys, .ro), (F.STW_SETTINGS_generation, .ro)]⟩,
  ⟨0x2000B000100, 0x8, 1024, false, [(F.STW_OTP_SHADOW_bytes, .ro)]⟩]

/-! ### ARR block -/

-- ARR_CTRL (R103)
def F.ARR_CTRL_retry_limit : Field := ⟨0x20100000000, 0x1000000, 8, 8, 8⟩
def F.ARR_CTRL_inject_mismatch : Field := ⟨0x20100000000, 0x1000000, 0, 1, 0⟩
-- ARR_STATUS (R103)
def F.ARR_STATUS_sets_busy : Field := ⟨0x20100000008, 0x1000000, 8, 4, 0⟩
def F.ARR_STATUS_held_hw : Field := ⟨0x20100000008, 0x1000000, 7, 1, 0⟩
def F.ARR_STATUS_held_fw : Field := ⟨0x20100000008, 0x1000000, 6, 1, 0⟩
def F.ARR_STATUS_retrying : Field := ⟨0x20100000008, 0x1000000, 5, 1, 0⟩
def F.ARR_STATUS_suspect : Field := ⟨0x20100000008, 0x1000000, 4, 1, 0⟩
def F.ARR_STATUS_rejected : Field := ⟨0x20100000008, 0x1000000, 3, 1, 0⟩
def F.ARR_STATUS_hw_active : Field := ⟨0x20100000008, 0x1000000, 2, 1, 0⟩
def F.ARR_STATUS_fw_active : Field := ⟨0x20100000008, 0x1000000, 1, 1, 0⟩
def F.ARR_STATUS_busy : Field := ⟨0x20100000008, 0x1000000, 0, 1, 0⟩
-- ARR_FLAGS (R103)
def F.ARR_FLAGS_scale_uf : Field := ⟨0x20100000010, 0x1000000, 5, 1, 0⟩
def F.ARR_FLAGS_scale_ovf : Field := ⟨0x20100000010, 0x1000000, 4, 1, 0⟩
def F.ARR_FLAGS_sat : Field := ⟨0x20100000010, 0x1000000, 3, 1, 0⟩
def F.ARR_FLAGS_uf : Field := ⟨0x20100000010, 0x1000000, 2, 1, 0⟩
def F.ARR_FLAGS_of : Field := ⟨0x20100000010, 0x1000000, 1, 1, 0⟩
def F.ARR_FLAGS_nv : Field := ⟨0x20100000010, 0x1000000, 0, 1, 0⟩
-- ARR_DESC_FLAGS_FW (R103)
def F.ARR_DESC_FLAGS_FW_desc_done : Field := ⟨0x20100000018, 0x1000000, 32, 32, 0⟩
def F.ARR_DESC_FLAGS_FW_flags : Field := ⟨0x20100000018, 0x1000000, 0, 6, 0⟩
-- ARR_DESC_FLAGS_HW (R103)
def F.ARR_DESC_FLAGS_HW_desc_done : Field := ⟨0x20100000020, 0x1000000, 32, 32, 0⟩
def F.ARR_DESC_FLAGS_HW_flags : Field := ⟨0x20100000020, 0x1000000, 0, 6, 0⟩
-- ARR_REJECT (R103)
def F.ARR_REJECT_valid : Field := ⟨0x20100000028, 0x1000000, 63, 1, 0⟩
def F.ARR_REJECT_wing : Field := ⟨0x20100000028, 0x1000000, 62, 1, 0⟩
def F.ARR_REJECT_reason : Field := ⟨0x20100000028, 0x1000000, 48, 8, 0⟩
-- ARR_CHK_STATUS (R103)
def F.ARR_CHK_STATUS_retries_total : Field := ⟨0x20100000030, 0x1000000, 32, 32, 0⟩
def F.ARR_CHK_STATUS_retries_attempt : Field := ⟨0x20100000030, 0x1000000, 24, 8, 0⟩
def F.ARR_CHK_STATUS_dup_column : Field := ⟨0x20100000030, 0x1000000, 16, 5, 0⟩
def F.ARR_CHK_STATUS_last_acc : Field := ⟨0x20100000030, 0x1000000, 3, 1, 0⟩
def F.ARR_CHK_STATUS_last_corner : Field := ⟨0x20100000030, 0x1000000, 2, 1, 0⟩
def F.ARR_CHK_STATUS_last_col : Field := ⟨0x20100000030, 0x1000000, 1, 1, 0⟩
def F.ARR_CHK_STATUS_last_row : Field := ⟨0x20100000030, 0x1000000, 0, 1, 0⟩
-- ARR_CHK_LAST (R103)
def F.ARR_CHK_LAST_tensor_id : Field := ⟨0x20100000038, 0x1000000, 40, 24, 0⟩
def F.ARR_CHK_LAST_m_block : Field := ⟨0x20100000038, 0x1000000, 28, 12, 0⟩
def F.ARR_CHK_LAST_n_block : Field := ⟨0x20100000038, 0x1000000, 16, 12, 0⟩
def F.ARR_CHK_LAST_micro_batch : Field := ⟨0x20100000038, 0x1000000, 4, 12, 0⟩
def F.ARR_CHK_LAST_wing : Field := ⟨0x20100000038, 0x1000000, 3, 1, 0⟩
def F.ARR_CHK_LAST_valid : Field := ⟨0x20100000038, 0x1000000, 0, 1, 0⟩
-- ARR_BUSY (R103)
def F.ARR_BUSY_count : Field := ⟨0x20100000040, 0x1000000, 0, 64, 0⟩
-- ARR_WB_STALL (R103)
def F.ARR_WB_STALL_count : Field := ⟨0x20100000048, 0x1000000, 0, 64, 0⟩
-- ARR_CONFLICT (R103)
def F.ARR_CONFLICT_count : Field := ⟨0x20100000050, 0x1000000, 0, 64, 0⟩
-- ARR_REQUANT (R103)
def F.ARR_REQUANT_count : Field := ⟨0x20100000058, 0x1000000, 0, 64, 0⟩

/-- The registers of the ARR block, in address order. -/
def regsARR : List RegDesc := [
  ⟨0x20100000000, 0x1000000, 272, true, [(F.ARR_CTRL_retry_limit, .rw), (F.ARR_CTRL_inject_mismatch, .w1s)]⟩,
  ⟨0x20100000008, 0x1000000, 272, true, [(F.ARR_STATUS_sets_busy, .ro), (F.ARR_STATUS_held_hw, .ro), (F.ARR_STATUS_held_fw, .ro), (F.ARR_STATUS_retrying, .ro), (F.ARR_STATUS_suspect, .ro), (F.ARR_STATUS_rejected, .ro), (F.ARR_STATUS_hw_active, .ro), (F.ARR_STATUS_fw_active, .ro), (F.ARR_STATUS_busy, .ro)]⟩,
  ⟨0x20100000010, 0x1000000, 272, true, [(F.ARR_FLAGS_scale_uf, .ro), (F.ARR_FLAGS_scale_ovf, .ro), (F.ARR_FLAGS_sat, .ro), (F.ARR_FLAGS_uf, .ro), (F.ARR_FLAGS_of, .ro), (F.ARR_FLAGS_nv, .ro)]⟩,
  ⟨0x20100000018, 0x1000000, 272, true, [(F.ARR_DESC_FLAGS_FW_desc_done, .ro), (F.ARR_DESC_FLAGS_FW_flags, .ro)]⟩,
  ⟨0x20100000020, 0x1000000, 272, true, [(F.ARR_DESC_FLAGS_HW_desc_done, .ro), (F.ARR_DESC_FLAGS_HW_flags, .ro)]⟩,
  ⟨0x20100000028, 0x1000000, 272, true, [(F.ARR_REJECT_valid, .w1c), (F.ARR_REJECT_wing, .ro), (F.ARR_REJECT_reason, .ro)]⟩,
  ⟨0x20100000030, 0x1000000, 272, true, [(F.ARR_CHK_STATUS_retries_total, .ro), (F.ARR_CHK_STATUS_retries_attempt, .ro), (F.ARR_CHK_STATUS_dup_column, .ro), (F.ARR_CHK_STATUS_last_acc, .ro), (F.ARR_CHK_STATUS_last_corner, .ro), (F.ARR_CHK_STATUS_last_col, .ro), (F.ARR_CHK_STATUS_last_row, .ro)]⟩,
  ⟨0x20100000038, 0x1000000, 272, true, [(F.ARR_CHK_LAST_tensor_id, .ro), (F.ARR_CHK_LAST_m_block, .ro), (F.ARR_CHK_LAST_n_block, .ro), (F.ARR_CHK_LAST_micro_batch, .ro), (F.ARR_CHK_LAST_wing, .ro), (F.ARR_CHK_LAST_valid, .w1c)]⟩,
  ⟨0x20100000040, 0x1000000, 272, true, [(F.ARR_BUSY_count, .ro)]⟩,
  ⟨0x20100000048, 0x1000000, 272, true, [(F.ARR_WB_STALL_count, .ro)]⟩,
  ⟨0x20100000050, 0x1000000, 272, true, [(F.ARR_CONFLICT_count, .ro)]⟩,
  ⟨0x20100000058, 0x1000000, 272, true, [(F.ARR_REQUANT_count, .ro)]⟩]

/-! ### ROW block -/

-- ROW_CTRL (R128)
def F.ROW_CTRL_cmd_queue : Field := ⟨0x20100400000, 0x1000000, 45, 13, 0⟩
def F.ROW_CTRL_ctx_count : Field := ⟨0x20100400000, 0x1000000, 32, 13, 0⟩
def F.ROW_CTRL_ctx_base_slot : Field := ⟨0x20100400000, 0x1000000, 20, 12, 0⟩
def F.ROW_CTRL_flush_ctx : Field := ⟨0x20100400000, 0x1000000, 0, 1, 0⟩
-- ROW_STATUS (R128)
def F.ROW_STATUS_buf_hw : Field := ⟨0x20100400008, 0x1000000, 11, 5, 0⟩
def F.ROW_STATUS_buf_fw : Field := ⟨0x20100400008, 0x1000000, 6, 5, 0⟩
def F.ROW_STATUS_holding : Field := ⟨0x20100400008, 0x1000000, 5, 1, 0⟩
def F.ROW_STATUS_prepass : Field := ⟨0x20100400008, 0x1000000, 4, 1, 0⟩
def F.ROW_STATUS_rejected : Field := ⟨0x20100400008, 0x1000000, 3, 1, 0⟩
def F.ROW_STATUS_cmd_active : Field := ⟨0x20100400008, 0x1000000, 2, 1, 0⟩
def F.ROW_STATUS_tiles_active : Field := ⟨0x20100400008, 0x1000000, 1, 1, 0⟩
def F.ROW_STATUS_busy : Field := ⟨0x20100400008, 0x1000000, 0, 1, 0⟩
-- ROW_FLAGS (R128)
def F.ROW_FLAGS_uf : Field := ⟨0x20100400010, 0x1000000, 2, 1, 0⟩
def F.ROW_FLAGS_of : Field := ⟨0x20100400010, 0x1000000, 1, 1, 0⟩
def F.ROW_FLAGS_nv : Field := ⟨0x20100400010, 0x1000000, 0, 1, 0⟩
-- ROW_CTX_FLAGS (R128)
def F.ROW_CTX_FLAGS_ctx_done : Field := ⟨0x20100400018, 0x1000000, 32, 32, 0⟩
def F.ROW_CTX_FLAGS_ctx : Field := ⟨0x20100400018, 0x1000000, 3, 12, 0⟩
def F.ROW_CTX_FLAGS_flags : Field := ⟨0x20100400018, 0x1000000, 0, 3, 0⟩
-- ROW_REJECT (R128)
def F.ROW_REJECT_valid : Field := ⟨0x20100400020, 0x1000000, 63, 1, 0⟩
def F.ROW_REJECT_reason : Field := ⟨0x20100400020, 0x1000000, 48, 8, 0⟩
def F.ROW_REJECT_source : Field := ⟨0x20100400020, 0x1000000, 44, 4, 0⟩
def F.ROW_REJECT_ctx : Field := ⟨0x20100400020, 0x1000000, 32, 12, 0⟩
-- ROW_BUSY (R128)
def F.ROW_BUSY_count : Field := ⟨0x20100400028, 0x1000000, 0, 64, 0⟩
-- ROW_EXP (R128)
def F.ROW_EXP_count : Field := ⟨0x20100400030, 0x1000000, 0, 64, 0⟩
-- ROW_SKIP (R128)
def F.ROW_SKIP_count : Field := ⟨0x20100400038, 0x1000000, 0, 64, 0⟩
-- ROW_STALL (R128)
def F.ROW_STALL_count : Field := ⟨0x20100400040, 0x1000000, 0, 64, 0⟩
-- ROW_PREPASS (R128)
def F.ROW_PREPASS_count : Field := ⟨0x20100400048, 0x1000000, 0, 64, 0⟩

/-- The registers of the ROW block, in address order. -/
def regsROW : List RegDesc := [
  ⟨0x20100400000, 0x1000000, 272, true, [(F.ROW_CTRL_cmd_queue, .rw), (F.ROW_CTRL_ctx_count, .rw), (F.ROW_CTRL_ctx_base_slot, .rw), (F.ROW_CTRL_flush_ctx, .w1s)]⟩,
  ⟨0x20100400008, 0x1000000, 272, true, [(F.ROW_STATUS_buf_hw, .ro), (F.ROW_STATUS_buf_fw, .ro), (F.ROW_STATUS_holding, .ro), (F.ROW_STATUS_prepass, .ro), (F.ROW_STATUS_rejected, .ro), (F.ROW_STATUS_cmd_active, .ro), (F.ROW_STATUS_tiles_active, .ro), (F.ROW_STATUS_busy, .ro)]⟩,
  ⟨0x20100400010, 0x1000000, 272, true, [(F.ROW_FLAGS_uf, .ro), (F.ROW_FLAGS_of, .ro), (F.ROW_FLAGS_nv, .ro)]⟩,
  ⟨0x20100400018, 0x1000000, 272, true, [(F.ROW_CTX_FLAGS_ctx_done, .ro), (F.ROW_CTX_FLAGS_ctx, .ro), (F.ROW_CTX_FLAGS_flags, .ro)]⟩,
  ⟨0x20100400020, 0x1000000, 272, true, [(F.ROW_REJECT_valid, .w1c), (F.ROW_REJECT_reason, .ro), (F.ROW_REJECT_source, .ro), (F.ROW_REJECT_ctx, .ro)]⟩,
  ⟨0x20100400028, 0x1000000, 272, true, [(F.ROW_BUSY_count, .ro)]⟩,
  ⟨0x20100400030, 0x1000000, 272, true, [(F.ROW_EXP_count, .ro)]⟩,
  ⟨0x20100400038, 0x1000000, 272, true, [(F.ROW_SKIP_count, .ro)]⟩,
  ⟨0x20100400040, 0x1000000, 272, true, [(F.ROW_STALL_count, .ro)]⟩,
  ⟨0x20100400048, 0x1000000, 272, true, [(F.ROW_PREPASS_count, .ro)]⟩]

/-! ### VEC block -/

-- VEC_CTRL (R156)
def F.VEC_CTRL_launch_queue : Field := ⟨0x20100800000, 0x1000000, 45, 13, 0⟩
def F.VEC_CTRL_flush_icache : Field := ⟨0x20100800000, 0x1000000, 0, 1, 0⟩
-- VEC_STATUS (R156)
def F.VEC_STATUS_threads_running : Field := ⟨0x20100800008, 0x1000000, 32, 13, 0⟩
def F.VEC_STATUS_lg_gang : Field := ⟨0x20100800008, 0x1000000, 8, 4, 0⟩
def F.VEC_STATUS_lg_busy : Field := ⟨0x20100800008, 0x1000000, 4, 4, 0⟩
def F.VEC_STATUS_faulted : Field := ⟨0x20100800008, 0x1000000, 3, 1, 0⟩
def F.VEC_STATUS_rejected : Field := ⟨0x20100800008, 0x1000000, 2, 1, 0⟩
def F.VEC_STATUS_launch_waiting : Field := ⟨0x20100800008, 0x1000000, 1, 1, 0⟩
def F.VEC_STATUS_busy : Field := ⟨0x20100800008, 0x1000000, 0, 1, 0⟩
-- VEC_FLAGS (R156)
def F.VEC_FLAGS_sat : Field := ⟨0x20100800010, 0x1000000, 4, 1, 0⟩
def F.VEC_FLAGS_nx : Field := ⟨0x20100800010, 0x1000000, 3, 1, 0⟩
def F.VEC_FLAGS_uf : Field := ⟨0x20100800010, 0x1000000, 2, 1, 0⟩
def F.VEC_FLAGS_of : Field := ⟨0x20100800010, 0x1000000, 1, 1, 0⟩
def F.VEC_FLAGS_nv : Field := ⟨0x20100800010, 0x1000000, 0, 1, 0⟩
-- VEC_LAUNCH_DONE (R156)
def F.VEC_LAUNCH_DONE_launches_done : Field := ⟨0x20100800018, 0x1000000, 32, 32, 0⟩
def F.VEC_LAUNCH_DONE_flags : Field := ⟨0x20100800018, 0x1000000, 0, 5, 0⟩
-- VEC_REJECT (R156)
def F.VEC_REJECT_valid : Field := ⟨0x20100800020, 0x1000000, 63, 1, 0⟩
def F.VEC_REJECT_reason : Field := ⟨0x20100800020, 0x1000000, 48, 8, 0⟩
-- VEC_FAULT (R156)
def F.VEC_FAULT_valid : Field := ⟨0x20100800028, 0x1000000, 63, 1, 0⟩
def F.VEC_FAULT_cause : Field := ⟨0x20100800028, 0x1000000, 48, 8, 0⟩
def F.VEC_FAULT_scalar_core : Field := ⟨0x20100800028, 0x1000000, 41, 7, 0⟩
def F.VEC_FAULT_slot : Field := ⟨0x20100800028, 0x1000000, 36, 5, 0⟩
def F.VEC_FAULT_gang : Field := ⟨0x20100800028, 0x1000000, 35, 1, 0⟩
def F.VEC_FAULT_lanes : Field := ⟨0x20100800028, 0x1000000, 0, 32, 0⟩
-- VEC_FAULT_PC (R156)
def F.VEC_FAULT_PC_trap_code : Field := ⟨0x20100800030, 0x1000000, 48, 16, 0⟩
def F.VEC_FAULT_PC_pc : Field := ⟨0x20100800030, 0x1000000, 0, 48, 0⟩
-- VEC_THREAD_SEL (R156)
def F.VEC_THREAD_SEL_scalar_core : Field := ⟨0x20100800038, 0x1000000, 5, 7, 0⟩
def F.VEC_THREAD_SEL_slot : Field := ⟨0x20100800038, 0x1000000, 0, 5, 0⟩
-- VEC_THREAD_STATE (R156)
def F.VEC_THREAD_STATE_state : Field := ⟨0x20100800040, 0x1000000, 61, 3, 0⟩
def F.VEC_THREAD_STATE_gang : Field := ⟨0x20100800040, 0x1000000, 60, 1, 0⟩
def F.VEC_THREAD_STATE_mask_depth : Field := ⟨0x20100800040, 0x1000000, 56, 4, 0⟩
def F.VEC_THREAD_STATE_ftz : Field := ⟨0x20100800040, 0x1000000, 55, 1, 0⟩
def F.VEC_THREAD_STATE_call_depth : Field := ⟨0x20100800040, 0x1000000, 52, 3, 0⟩
def F.VEC_THREAD_STATE_flags : Field := ⟨0x20100800040, 0x1000000, 47, 5, 0⟩
def F.VEC_THREAD_STATE_pred : Field := ⟨0x20100800040, 0x1000000, 43, 4, 0⟩
def F.VEC_THREAD_STATE_poison : Field := ⟨0x20100800040, 0x1000000, 35, 8, 0⟩
def F.VEC_THREAD_STATE_lane_mask : Field := ⟨0x20100800040, 0x1000000, 0, 32, 0⟩
-- VEC_THREAD_PC (R156)
def F.VEC_THREAD_PC_pc : Field := ⟨0x20100800048, 0x1000000, 0, 48, 0⟩
-- VEC_THREAD_W0 (R156)
def F.VEC_THREAD_W0_value : Field := ⟨0x20100800050, 0x1000000, 0, 32, 0⟩
-- VEC_THREAD_W1 (R156)
def F.VEC_THREAD_W1_value : Field := ⟨0x20100800058, 0x1000000, 0, 32, 0⟩
-- VEC_THREAD_W2 (R156)
def F.VEC_THREAD_W2_value : Field := ⟨0x20100800060, 0x1000000, 0, 32, 0⟩
-- VEC_THREAD_W3 (R156)
def F.VEC_THREAD_W3_value : Field := ⟨0x20100800068, 0x1000000, 0, 32, 0⟩
-- VEC_THREAD_W4 (R156)
def F.VEC_THREAD_W4_value : Field := ⟨0x20100800070, 0x1000000, 0, 32, 0⟩
-- VEC_THREAD_W5 (R156)
def F.VEC_THREAD_W5_value : Field := ⟨0x20100800078, 0x1000000, 0, 32, 0⟩
-- VEC_THREAD_W6 (R156)
def F.VEC_THREAD_W6_value : Field := ⟨0x20100800080, 0x1000000, 0, 32, 0⟩
-- VEC_THREAD_W7 (R156)
def F.VEC_THREAD_W7_value : Field := ⟨0x20100800088, 0x1000000, 0, 32, 0⟩
-- VEC_THREAD_CTRL (R156)
def F.VEC_THREAD_CTRL_resume : Field := ⟨0x20100800090, 0x1000000, 0, 1, 0⟩
-- VEC_ISSUE (R156)
def F.VEC_ISSUE_count : Field := ⟨0x20100800098, 0x1000000, 0, 64, 0⟩
-- VEC_OC_CONFLICT (R156)
def F.VEC_OC_CONFLICT_count : Field := ⟨0x201008000A0, 0x1000000, 0, 64, 0⟩
-- VEC_IDLE_SLOT (R156)
def F.VEC_IDLE_SLOT_count : Field := ⟨0x201008000A8, 0x1000000, 0, 64, 0⟩

/-- The registers of the VEC block, in address order. -/
def regsVEC : List RegDesc := [
  ⟨0x20100800000, 0x1000000, 272, true, [(F.VEC_CTRL_launch_queue, .rw), (F.VEC_CTRL_flush_icache, .w1s)]⟩,
  ⟨0x20100800008, 0x1000000, 272, true, [(F.VEC_STATUS_threads_running, .ro), (F.VEC_STATUS_lg_gang, .ro), (F.VEC_STATUS_lg_busy, .ro), (F.VEC_STATUS_faulted, .ro), (F.VEC_STATUS_rejected, .ro), (F.VEC_STATUS_launch_waiting, .ro), (F.VEC_STATUS_busy, .ro)]⟩,
  ⟨0x20100800010, 0x1000000, 272, true, [(F.VEC_FLAGS_sat, .ro), (F.VEC_FLAGS_nx, .ro), (F.VEC_FLAGS_uf, .ro), (F.VEC_FLAGS_of, .ro), (F.VEC_FLAGS_nv, .ro)]⟩,
  ⟨0x20100800018, 0x1000000, 272, true, [(F.VEC_LAUNCH_DONE_launches_done, .ro), (F.VEC_LAUNCH_DONE_flags, .ro)]⟩,
  ⟨0x20100800020, 0x1000000, 272, true, [(F.VEC_REJECT_valid, .w1c), (F.VEC_REJECT_reason, .ro)]⟩,
  ⟨0x20100800028, 0x1000000, 272, true, [(F.VEC_FAULT_valid, .w1c), (F.VEC_FAULT_cause, .ro), (F.VEC_FAULT_scalar_core, .ro), (F.VEC_FAULT_slot, .ro), (F.VEC_FAULT_gang, .ro), (F.VEC_FAULT_lanes, .ro)]⟩,
  ⟨0x20100800030, 0x1000000, 272, true, [(F.VEC_FAULT_PC_trap_code, .ro), (F.VEC_FAULT_PC_pc, .ro)]⟩,
  ⟨0x20100800038, 0x1000000, 272, true, [(F.VEC_THREAD_SEL_scalar_core, .rw), (F.VEC_THREAD_SEL_slot, .rw)]⟩,
  ⟨0x20100800040, 0x1000000, 272, true, [(F.VEC_THREAD_STATE_state, .ro), (F.VEC_THREAD_STATE_gang, .ro), (F.VEC_THREAD_STATE_mask_depth, .ro), (F.VEC_THREAD_STATE_ftz, .ro), (F.VEC_THREAD_STATE_call_depth, .ro), (F.VEC_THREAD_STATE_flags, .ro), (F.VEC_THREAD_STATE_pred, .ro), (F.VEC_THREAD_STATE_poison, .ro), (F.VEC_THREAD_STATE_lane_mask, .ro)]⟩,
  ⟨0x20100800048, 0x1000000, 272, true, [(F.VEC_THREAD_PC_pc, .ro)]⟩,
  ⟨0x20100800050, 0x1000000, 256, true, [(F.VEC_THREAD_W0_value, .ro)]⟩,
  ⟨0x20100800058, 0x1000000, 256, true, [(F.VEC_THREAD_W1_value, .ro)]⟩,
  ⟨0x20100800060, 0x1000000, 256, true, [(F.VEC_THREAD_W2_value, .ro)]⟩,
  ⟨0x20100800068, 0x1000000, 256, true, [(F.VEC_THREAD_W3_value, .ro)]⟩,
  ⟨0x20100800070, 0x1000000, 256, true, [(F.VEC_THREAD_W4_value, .ro)]⟩,
  ⟨0x20100800078, 0x1000000, 256, true, [(F.VEC_THREAD_W5_value, .ro)]⟩,
  ⟨0x20100800080, 0x1000000, 256, true, [(F.VEC_THREAD_W6_value, .ro)]⟩,
  ⟨0x20100800088, 0x1000000, 256, true, [(F.VEC_THREAD_W7_value, .ro)]⟩,
  ⟨0x20100800090, 0x1000000, 272, true, [(F.VEC_THREAD_CTRL_resume, .w1s)]⟩,
  ⟨0x20100800098, 0x1000000, 272, true, [(F.VEC_ISSUE_count, .ro)]⟩,
  ⟨0x201008000A0, 0x1000000, 272, true, [(F.VEC_OC_CONFLICT_count, .ro)]⟩,
  ⟨0x201008000A8, 0x1000000, 272, true, [(F.VEC_IDLE_SLOT_count, .ro)]⟩]

/-! ### SCH block -/

-- SCH_CTRL (R225)
def F.SCH_CTRL_fw_share : Field := ⟨0x20100C00000, 0x1000000, 0, 5, 0⟩
-- SCH_STATUS (R225)
def F.SCH_STATUS_fw_mb : Field := ⟨0x20100C00008, 0x1000000, 52, 12, 0⟩
def F.SCH_STATUS_hw_mb : Field := ⟨0x20100C00008, 0x1000000, 40, 12, 0⟩
def F.SCH_STATUS_hw_active : Field := ⟨0x20100C00008, 0x1000000, 38, 1, 0⟩
def F.SCH_STATUS_fw_active : Field := ⟨0x20100C00008, 0x1000000, 37, 1, 0⟩
def F.SCH_STATUS_standin : Field := ⟨0x20100C00008, 0x1000000, 36, 1, 0⟩
def F.SCH_STATUS_hw_wait_alloc : Field := ⟨0x20100C00008, 0x1000000, 35, 1, 0⟩
def F.SCH_STATUS_fw_wait_alloc : Field := ⟨0x20100C00008, 0x1000000, 34, 1, 0⟩
def F.SCH_STATUS_hw_wait_counter : Field := ⟨0x20100C00008, 0x1000000, 33, 1, 0⟩
def F.SCH_STATUS_fw_wait_counter : Field := ⟨0x20100C00008, 0x1000000, 32, 1, 0⟩
def F.SCH_STATUS_fw_seg : Field := ⟨0x20100C00008, 0x1000000, 16, 16, 0⟩
def F.SCH_STATUS_hw_seg : Field := ⟨0x20100C00008, 0x1000000, 0, 16, 0⟩
-- SCH_TILES (R225)
def F.SCH_TILES_fw_tiles : Field := ⟨0x20100C00010, 0x1000000, 32, 32, 0⟩
def F.SCH_TILES_hw_tiles : Field := ⟨0x20100C00010, 0x1000000, 0, 32, 0⟩
-- SCH_SEGS (R225)
def F.SCH_SEGS_fw_done : Field := ⟨0x20100C00018, 0x1000000, 32, 32, 0⟩
def F.SCH_SEGS_hw_done : Field := ⟨0x20100C00018, 0x1000000, 0, 32, 0⟩
-- SCH_RERUNS (R225)
def F.SCH_RERUNS_reruns : Field := ⟨0x20100C00020, 0x1000000, 0, 32, 0⟩
-- SCH_STEP (R225)
def F.SCH_STEP_loaded : Field := ⟨0x20100C01000, 0x0, 63, 1, 0⟩
def F.SCH_STEP_frozen : Field := ⟨0x20100C01000, 0x0, 62, 1, 0⟩
def F.SCH_STEP_header : Field := ⟨0x20100C01000, 0x0, 0, 48, 0⟩
-- SCH_RUN (R225)
def F.SCH_RUN_running : Field := ⟨0x20100C01008, 0x0, 63, 1, 0⟩
def F.SCH_RUN_stopping : Field := ⟨0x20100C01008, 0x0, 62, 1, 0⟩
def F.SCH_RUN_steps_left : Field := ⟨0x20100C01008, 0x0, 0, 32, 0⟩
-- SCH_ADMIT (R225)
def F.SCH_ADMIT_next : Field := ⟨0x20100C01010, 0x0, 51, 13, 0⟩
def F.SCH_ADMIT_in_flight : Field := ⟨0x20100C01010, 0x0, 38, 13, 0⟩
def F.SCH_ADMIT_window : Field := ⟨0x20100C01010, 0x0, 26, 12, 0⟩
-- SCH_COCOON (R225)
def F.SCH_COCOON_free : Field := ⟨0x20100C01018, 0x0, 40, 24, 0⟩
def F.SCH_COCOON_reserved_units : Field := ⟨0x20100C01018, 0x0, 16, 24, 0⟩
-- SCH_COCOON_CTRL (R225)
def F.SCH_COCOON_CTRL_stall_limit_ms : Field := ⟨0x20100C01020, 0x0, 16, 16, 0x7D0⟩
def F.SCH_COCOON_CTRL_bw_stalled : Field := ⟨0x20100C01020, 0x0, 1, 1, 0⟩
def F.SCH_COCOON_CTRL_fw_stalled : Field := ⟨0x20100C01020, 0x0, 0, 1, 0⟩
-- SCH_COCOON_EVENTS (R225)
def F.SCH_COCOON_EVENTS_not_stored : Field := ⟨0x20100C01028, 0x0, 32, 32, 0⟩
def F.SCH_COCOON_EVENTS_stalls : Field := ⟨0x20100C01028, 0x0, 0, 32, 0⟩
-- SCH_DEADLINE (R225)
def F.SCH_DEADLINE_slack : Field := ⟨0x20100C01030, 0x0, 16, 5, 8⟩
def F.SCH_DEADLINE_grace_ms : Field := ⟨0x20100C01030, 0x0, 0, 16, 0x64⟩
-- SCH_LATE (R225)
def F.SCH_LATE_valid : Field := ⟨0x20100C01038, 0x0, 63, 1, 0⟩
def F.SCH_LATE_hard : Field := ⟨0x20100C01038, 0x0, 62, 1, 0⟩
def F.SCH_LATE_phase : Field := ⟨0x20100C01038, 0x0, 61, 1, 0⟩
def F.SCH_LATE_micro_batch : Field := ⟨0x20100C01038, 0x0, 48, 12, 0⟩
def F.SCH_LATE_expected_ms : Field := ⟨0x20100C01038, 0x0, 0, 32, 0⟩
-- SCH_REJECT (R225)
def F.SCH_REJECT_valid : Field := ⟨0x20100C01040, 0x0, 63, 1, 0⟩
def F.SCH_REJECT_at_run : Field := ⟨0x20100C01040, 0x0, 62, 1, 0⟩
def F.SCH_REJECT_reason : Field := ⟨0x20100C01040, 0x0, 48, 8, 0⟩
def F.SCH_REJECT_core : Field := ⟨0x20100C01040, 0x0, 40, 8, 0⟩
def F.SCH_REJECT_micro_batch : Field := ⟨0x20100C01040, 0x0, 28, 12, 0⟩
def F.SCH_REJECT_segment : Field := ⟨0x20100C01040, 0x0, 12, 16, 0⟩
def F.SCH_REJECT_wing : Field := ⟨0x20100C01040, 0x0, 11, 1, 0⟩

/-- The registers of the SCH block, in address order. -/
def regsSCH : List RegDesc := [
  ⟨0x20100C00000, 0x1000000, 272, true, [(F.SCH_CTRL_fw_share, .rw)]⟩,
  ⟨0x20100C00008, 0x1000000, 272, true, [(F.SCH_STATUS_fw_mb, .ro), (F.SCH_STATUS_hw_mb, .ro), (F.SCH_STATUS_hw_active, .ro), (F.SCH_STATUS_fw_active, .ro), (F.SCH_STATUS_standin, .ro), (F.SCH_STATUS_hw_wait_alloc, .ro), (F.SCH_STATUS_fw_wait_alloc, .ro), (F.SCH_STATUS_hw_wait_counter, .ro), (F.SCH_STATUS_fw_wait_counter, .ro), (F.SCH_STATUS_fw_seg, .ro), (F.SCH_STATUS_hw_seg, .ro)]⟩,
  ⟨0x20100C00010, 0x1000000, 272, true, [(F.SCH_TILES_fw_tiles, .ro), (F.SCH_TILES_hw_tiles, .ro)]⟩,
  ⟨0x20100C00018, 0x1000000, 272, true, [(F.SCH_SEGS_fw_done, .ro), (F.SCH_SEGS_hw_done, .ro)]⟩,
  ⟨0x20100C00020, 0x1000000, 272, true, [(F.SCH_RERUNS_reruns, .ro)]⟩,
  ⟨0x20100C01000, 0x0, 1, false, [(F.SCH_STEP_loaded, .ro), (F.SCH_STEP_frozen, .ro), (F.SCH_STEP_header, .ro)]⟩,
  ⟨0x20100C01008, 0x0, 1, false, [(F.SCH_RUN_running, .ro), (F.SCH_RUN_stopping, .ro), (F.SCH_RUN_steps_left, .ro)]⟩,
  ⟨0x20100C01010, 0x0, 1, false, [(F.SCH_ADMIT_next, .ro), (F.SCH_ADMIT_in_flight, .ro), (F.SCH_ADMIT_window, .ro)]⟩,
  ⟨0x20100C01018, 0x0, 1, false, [(F.SCH_COCOON_free, .ro), (F.SCH_COCOON_reserved_units, .ro)]⟩,
  ⟨0x20100C01020, 0x0, 1, false, [(F.SCH_COCOON_CTRL_stall_limit_ms, .rw), (F.SCH_COCOON_CTRL_bw_stalled, .ro), (F.SCH_COCOON_CTRL_fw_stalled, .ro)]⟩,
  ⟨0x20100C01028, 0x0, 1, false, [(F.SCH_COCOON_EVENTS_not_stored, .ro), (F.SCH_COCOON_EVENTS_stalls, .ro)]⟩,
  ⟨0x20100C01030, 0x0, 1, false, [(F.SCH_DEADLINE_slack, .rw), (F.SCH_DEADLINE_grace_ms, .rw)]⟩,
  ⟨0x20100C01038, 0x0, 1, false, [(F.SCH_LATE_valid, .w1c), (F.SCH_LATE_hard, .ro), (F.SCH_LATE_phase, .ro), (F.SCH_LATE_micro_batch, .ro), (F.SCH_LATE_expected_ms, .ro)]⟩,
  ⟨0x20100C01040, 0x0, 1, false, [(F.SCH_REJECT_valid, .w1c), (F.SCH_REJECT_at_run, .ro), (F.SCH_REJECT_reason, .ro), (F.SCH_REJECT_core, .ro), (F.SCH_REJECT_micro_batch, .ro), (F.SCH_REJECT_segment, .ro), (F.SCH_REJECT_wing, .ro)]⟩]

/-- Every register of the module CSR blocks. -/
def moduleRegs : List RegDesc :=
  regsMOD ++ regsPWR ++ regsMEM ++ regsSYN ++ regsQUE ++ regsUPD ++ regsFAB ++ regsPORT ++ regsCHK ++ regsERR ++ regsSEC ++ regsSTW

/-- Every register of a per-core window, and the module-wide scheduler registers of window 0. -/
def coreRegs : List RegDesc :=
  regsARR ++ regsROW ++ regsVEC ++ regsSCH

end Sys2Proof.Machine
end

