-- ==== Sys2Proof/Machine/State.lean ====
section
/-! DEFINITION. Machine/State.lean: the state of the module as plain data, and the state after reset. Registers are kept in
one sparse map of fields (Machine/Regs.lean); everything the manual gives the machine beside them is a field here. -/

namespace Sys2Proof.Machine

/-- Module states (R27). -/
inductive ModState where
  | off | standby | booting | dormant | ready | running | held | draining | failed
deriving DecidableEq, Repr

/-- Step states (R33); `none` is the state —. -/
inductive StepState where
  | none | opened | checking | moltPending | molted | discarded | replaying
deriving DecidableEq, Repr

/-- Codes of R27. -/
def ModState.code : ModState → Nat
  | .off => 0 | .standby => 1 | .booting => 2 | .dormant => 3 | .ready => 4 | .running => 5 | .held => 6
  | .draining => 7 | .failed => 8

/-- Codes of R33. -/
def StepState.code : StepState → Nat
  | .none => 0 | .opened => 1 | .checking => 2 | .moltPending => 3 | .molted => 4 | .discarded => 5 | .replaying => 6

/-- What leaves the module: flits, event records for the management networks, management messages, link units and the
answers to reads. -/
inductive Output where
  | flit (f : Flit)
  | record (words : List Nat)
  | mgmt (kind : Nat) (body : List Nat)
  | link (port kind : Nat) (body : List Nat)
  | credits (module queue count : Nat)
  | reply (kind : Nat) (body : List Nat)
  | console (words : List Nat)
deriving DecidableEq, Repr

/-! ## Memory (06_memory) -/

/-- One time at which the unlisted bytes of a memory became undefined (R12, R166) or were scrubbed to zero (R21): every byte
outside the kept ranges (first address, address after the last) then holds free values of generation `gen`, or zero. -/
structure Layer where
  gen : Nat
  keep : List (Nat × Nat)
  zero : Bool := false
deriving DecidableEq, Repr

/-- A memory: the bytes written, and the times at which the others became undefined, newest first. -/
structure Image where
  cells : Sparse Byte := []
  layers : List Layer := []
deriving DecidableEq, Repr

/-- A refetch from the partner or a resend asked of the partner (R172, R173), outstanding. -/
structure Refetch where
  granule : Nat
  instar : Nat
  resend : Bool
  /-- A reader has met the granule, and its consumption has been counted (R174). -/
  counted : Bool := false
deriving DecidableEq, Repr

/-- The memories and their protection (06_memory). `tile` is kept by physical core (4 MiB each), `oc` likewise
(512 KiB each); the poison maps run over 64-byte granules of HBM and of the operand caches and over slots and scale
entries of the tile stores. -/
structure MemSt where
  hbm : Image := {}
  hbmPoison : Sparse Bool := []
  tile : Image := {}
  tilePoison : Sparse Bool := []
  oc : Image := {}
  ocPoison : Sparse Bool := []
  /-- `mem_key` of R159. -/
  key : Nat := 0
  /-- `hot[p]` of R161. -/
  hot : Sparse Nat := []
  /-- The last window of 100 ms looked at, and the MOD_TICK of the window that MEM_IMB_STATUS records (R161). -/
  imbWindow : Nat := 0
  imbTick : Nat := 0
  /-- MEM_CE_COUNT per stack at the last whole hour, and the hour (R169). -/
  ceHour : Sparse Nat := []
  ceHourNo : Nat := 0
  /-- Stacks whose MEM_CE_TREND has been raised in this job (R169). -/
  ceRaised : List Nat := []
  /-- Granules rewritten clean in this scrub pass (MEM_UE_REPEAT, R169). -/
  rewritten : Sparse Bool := []
  /-- Patrol position in granules (R168). -/
  scrubAt : Nat := 0
  /-- Idle scrub position of the tile stores and operand caches (R165). -/
  sramAt : Nat := 0
  refetches : List Refetch := []
deriving DecidableEq, Repr

/-! ## Stream queues, counters and rings (07_queues_and_counters) -/

/-- The attempt that produced an item or operation: step number N + 1 and replay count (R187). -/
structure Attempt where
  step : Nat
  replay : Nat
deriving DecidableEq, Repr

/-- Who pushes: packets of different producers never interleave (R181). -/
inductive Producer where
  | core (n : Nat)
  | thread (n t : Nat)
  | ring (r : Nat)
  | epilogue (n w : Nat)
  | router
  | scheduler (n : Nat)
  | bridge (port : Nat)
deriving DecidableEq, Repr

/-- An item of a stream queue (R178). `att` is the attempt it belongs to; none for an item pushed with no step open
(R188), which belongs to the next attempt to open. -/
structure Item where
  data : List Byte
  start : Bool := false
  fin : Bool := false
  abort : Bool := false
  poison : Bool := false
  att : Option Attempt := none
  /-- The segment that fed the item: 1 the forewing's, 2 the hindwing's, 0 none (R211); 4 + n, delivered by bridge port n (R301). -/
  feed : Nat := 0
  /-- Who pushed it (R192). -/
  by_ : Option Producer := none
deriving DecidableEq, Repr

/-- A stream queue (R176 to R190). -/
structure Queue where
  /-- Items present, oldest first; their place in the backing counts from `head` modulo the depth. -/
  items : List Item := []
  head : Nat := 0
  /-- The last item popped since the queue was last emptied (R179). -/
  last : Option Item := none
  /-- The producer whose packet is open, and the items that packet holds so far (R181). -/
  open_ : Option Producer := none
  pktLen : Nat := 0
  /-- The consumer has popped an item of a packet whose end it has not popped (R183). -/
  inPacket : Bool := false
  /-- Items at the front that became visible because the queue was FULL (R183). -/
  shown : Nat := 0
  /-- The router's abort of an open packet waits for a free place (R184, R180). -/
  abortDue : Bool := false
  /-- Tick of the last change of EMPTY or FULL (R190). -/
  since : Nat := 0
  /-- Items of a later attempt, held behind the boundary (R187). -/
  held : List Item := []
  /-- Items that the router has and that wait for a place (R180). -/
  backlog : List Item := []
  /-- Hardware producers that wait on FULL, and since when (R190). -/
  waiting : List (Producer × Nat) := []
  /-- Credits to return to the forwarder (R186). -/
  owed : Nat := 0
  /-- QUE_STALL has been raised in this attempt (R190). -/
  stallRaised : Bool := false
deriving DecidableEq, Repr

/-- A registered WAIT_GE (R191, R195): `deadline` none never expires. -/
structure Wait where
  counter : Nat
  target : Nat
  deadline : Option Nat
  who : Waiter
deriving DecidableEq, Repr

/-- A wait that has found no free place and stalls (R196). -/
structure Stalled where
  counter : Nat
  target : Nat
  timeout : Nat
  who : Waiter
deriving DecidableEq, Repr

/-- A ring command taken and not yet completed by a posted completion (R199): its entry words, whether it has started,
what it has moved so far, and its completion status and value once it has one. -/
structure RingCmd where
  seq : Nat
  words : List Nat
  started : Bool := false
  moved : Nat := 0
  result : Option (Nat × Nat) := none
  /-- The tag of the flit it waits for, 0 for none. -/
  tag : Nat := 0
deriving DecidableEq, Repr

/-- A command ring (R197 to R200): the commands in progress in command order. -/
structure Ring where
  cmds : List RingCmd := []
  /-- Enable has been written 0 and the ring drains (R200). -/
  disabling : Bool := false
deriving DecidableEq, Repr

/-! ## Scheduling (08_step_schedule) -/

/-- A segment and its lists as the scheduler reads them when the segment heads its list (R211): descriptor, tile descriptors, launch
entries, row commands and epilogue entries, and the code of R224 it fails with (0 for none). -/
structure SegWork where
  words : List Nat
  tiles : List (List Nat) := []
  launches : List (List Byte) := []
  rows : List (List Byte) := []
  epilogue : List (List Nat) := []
  code : Nat := 0
deriving DecidableEq, Repr

/-- A segment running on one wing of one logical core (R211): its descriptor and lists as read when it headed its list. -/
structure RunSeg where
  words : List Nat
  tiles : List (List Nat) := []
  launches : List (List Byte) := []
  rows : List (List Byte) := []
  epilogue : List (List Nat) := []
  tilesFed : Nat := 0
  tilesDone : Nat := 0
  launchesFed : Nat := 0
  launchesDone : Nat := 0
  rowsFed : Nat := 0
  rowsDone : Nat := 0
  /-- Epilogue entries performed, and whether the epilogue has started (R217). -/
  epi : Nat := 0
  epiStarted : Bool := false
  /-- A RECOMPUTE segment of a stored entry, which is skipped (R216). -/
  skip : Bool := false
  /-- An epilogue entry has been issued and waits for its end. -/
  epiBusy : Bool := false
  /-- Items of a QUEUE_PUSH entry accepted so far, and the tag of a remote ADD that is not yet acknowledged. -/
  epiMoved : Nat := 0
  epiTag : Nat := 0
  /-- Canary work (R324): the number of its entry. -/
  canary : Option Nat := none
deriving DecidableEq, Repr

/-- How far the head segment of a wing's list has met its start conditions (R211): what was read of it, its wait; and whether a
running segment was abandoned and waits for a stand-in (R217). -/
structure WingSt where
  idx : Nat := 0
  head : Option SegWork := none
  waitReg : Bool := false
  waitDone : Bool := false
  abandoned : Bool := false
  run : Option RunSeg := none
deriving DecidableEq, Repr

/-- A cocoon entry that has been resolved (R214 to R216): its run of 64 KiB units when stored, and its counts. -/
structure CocoonEntry where
  mb : Nat
  entry : Nat
  stored : Bool
  first : Nat
  units : Nat
  keep : Bool
  readersLeft : Nat
  readStarted : Bool
  writersLeft : Nat
  order : Nat
  /-- Stored in the forward pass and not evicted: its RECOMPUTE segments are skipped (R216). -/
  wasStored : Bool
  /-- Made by a RECOMPUTE segment in the backward pass. -/
  backward : Bool
deriving DecidableEq, Repr

/-- An allocation request that waits (R215). -/
structure CocoonReq where
  core : Nat
  hw : Bool
  mb : Nat
  entry : Nat
  units : Nat
  keep : Bool
  backward : Bool
  since : Nat
deriving DecidableEq, Repr

/-- One pass of a micro-batch (R218). -/
structure Pass where
  start : Nat
  ended : Bool := false
  overdue : Bool := false
  stalled : Bool := false
deriving DecidableEq, Repr

/-- The module-wide scheduler. Wings are kept under the key 2 n + w (w = 1 the hindwing), passes under 2 m + b
(b = 1 the backward pass). -/
structure SchedSt where
  wings : Sparse WingSt := []
  /-- The wing queues of R204 (64-byte descriptors as 8 words), key 2 n + w. -/
  queues : Sparse (List (List Nat)) := []
  entries : List CocoonEntry := []
  resv : Sparse Nat := []
  waiting : List CocoonReq := []
  order : Nat := 0
  passes : Sparse Pass := []
  /-- The arbiter's position counter k of each logical core (R213). -/
  arb : Sparse Nat := []
  /-- The stand-in serving a logical core (R217), and cores whose abandoned transfers are still ending. -/
  standin : Sparse Nat := []
  fenced : List Nat := []
  /-- A failure of R224 has been found in this attempt. -/
  segFailed : Bool := false
deriving DecidableEq, Repr

/-! ## Update engines (09_update_engine) -/

/-- The microcode registers and operand context of the parameter an engine is running (R239, R240). -/
structure UcSt where
  entry : Nat := 0
  index : Nat := 0
  regs : Sparse Nat := []
  /-- Destinations stored so far: W, M1, M2, WORK (sel 1 to 4). -/
  stores : Sparse Nat := []
  ended : Bool := false
  /-- What the parameters of the stripe before this one stored, the first one first. -/
  past : List (Sparse Nat) := []
deriving DecidableEq, Repr

structure UpdSt where
  /-- The update table in force, as entries of eight words. -/
  table : List (List Nat) := []
  /-- Its place: count and address. -/
  place : Nat × Nat := (0, 0)
  /-- The customer image as 40 words (R245). -/
  image : List Nat := []
  /-- LR, BC1, BC2 and H0 to H5 of each set, as FP32, read at the step open (R232, R238). -/
  hyper : List (List Nat) := []
  /-- Which sets were read from poisoned granules (R243). -/
  hyperMarks : List Bool := []
  /-- t of R238. -/
  t : Nat := 0
  /-- The exact sum of squares of R236, in units of 2^-700, and what a non-finite square makes of it: 1 an infinity, 2 a
  NaN. -/
  norm : Int := 0
  normSpecial : Nat := 0
  /-- A poisoned gradient is in the sum; the norm that came back, and with it the clip factor, is poisoned (R171, R243). -/
  normBad : Bool := false
  clipBad : Bool := false
  /-- Gradient chunks reported by the collective engine: entry, first stripe, stripes (R235). -/
  chunks : List (Nat × Nat × Nat) := []
  /-- The norm all-reduce has returned (R236). -/
  normDone : Bool := false
  /-- The OR of the non-finite bits returned with the norm. -/
  normOr : Bool := false
  stripes : Sparse Bool := []
  factors : Sparse Bool := []
  header : Bool := false
  /-- Stripes (and factor passes, numbered from 2^32) whose first lockstep mismatch has been rerun (R227). -/
  rerun : Sparse Bool := []
  /-- The copy pass of SKIP_STEP is in progress (R251). -/
  copying : Bool := false
  /-- Regeneration is due before the next step opens (R246). -/
  regenDue : Bool := false
  uc : UcSt := {}
deriving DecidableEq, Repr

/-! ## Fabric and collectives (10_fabric) -/

/-- A flit sent and not acknowledged (R262): the tick of its last sending and how often it was sent. -/
structure TxFlit where
  flit : Flit
  sentAt : Nat
  sends : Nat
  /-- The DMA transfer the flit belongs to, 0 for none. -/
  tag : Nat := 0
deriving DecidableEq, Repr

/-- The send side of a sequence space (destination × ordered). -/
structure TxSpace where
  next : Nat := 0
  unacked : List TxFlit := []
  /-- Flits that wait for the window, or (ordered ones) for earlier unordered flits to the same module (R262, R265). -/
  waiting : List TxFlit := []
deriving DecidableEq, Repr

/-- The receive side of a sequence space: the next number in order, numbers accepted above it, and acknowledgements
owed with the tick of the first of them (R262). `att` is the epoch, step and replay count of a space of a later attempt (R187). -/
structure RxSpace where
  next : Nat := 0
  above : List Nat := []
  owed : Nat := 0
  owedSince : Nat := 0
  att : Nat × Nat × Nat := (0, 0, 0)
deriving DecidableEq, Repr

/-- An output port's hot state (R269): the flits of its queue that wait for the wire (log entry 35), and since when the queue has held
hot_depth flits, or has stayed below half of it. -/
structure HotSt where
  wire : Nat := 0
  fullSince : Option Nat := none
  lowSince : Option Nat := none
  hot : Bool := false
  hotSince : Nat := 0
deriving DecidableEq, Repr

/-- A chunk of a reduction at this member (R273): the level reached, the values there as FP32 codes with their poison marks,
and whether they have been sent on or delivered. -/
structure CollChunk where
  level : Nat := 0
  vals : List (Nat × Bool) := []
  fin : Bool := false
deriving DecidableEq, Repr

/-- A collective (R270 to R277): its name (axis mask × 2^33 + coll_seq; the norm's coll_seq is 2^32, R236), its descriptor,
the chunks it reduces here, the bytes received with their marks (stream × 2^48 + place), result elements written, the OR of
the non-finite bits, and whether it has completed. -/
structure Coll where
  id : Nat
  words : List Nat
  chunks : Sparse CollChunk := []
  got : Sparse Byte := []
  gotPoison : Sparse Bool := []
  placed : Nat := 0
  nf : Bool := false
  /-- Members whose digest has come (R275). -/
  checked : List Nat := []
  done : Bool := false
deriving DecidableEq, Repr

structure FabSt where
  /-- Send spaces, key 2 × destination + ordered. -/
  tx : Sparse TxSpace := []
  /-- Receive spaces, key 2 × source + ordered. -/
  rx : Sparse RxSpace := []
  /-- Receive spaces of an epoch or attempt later than the module's own: of each source the latest seen (R187, R262). -/
  later : Sparse RxSpace := []
  /-- Flits of a later attempt, and those that wait for the attempt to open (R187), in arrival order. -/
  held : List Flit := []
  /-- Since when some output has been hot. -/
  hotAny : Nat := 0
  /-- Hot state of outputs by physical port. -/
  hot : Sparse HotSt := []
  /-- Hot global links reported by each slot of the group (R269). -/
  peerHot : Sparse Nat := []
  /-- The first port of each destination's ordered flow (R265). -/
  flows : Sparse Nat := []
  colls : List Coll := []
  /-- COLL_DATA flits of collectives that this member has not started, in arrival order. -/
  early : List Flit := []
deriving DecidableEq, Repr

/-! ## Jobs, barrier, mirror, canaries and tests (01, 12) -/

/-- A mapping-table entry (R24). -/
structure MapEntry where
  module : Nat
  partner : Nat
  epochLow : Nat
deriving DecidableEq, Repr

/-- What the module does at the next step boundary (R28, R221). -/
inductive Boundary where
  | hold | drain | jobEnd
deriving DecidableEq, Repr

/-- A loss notice held (R353): the rank, the module that served it, its epoch and the tick of its arrival. -/
structure Loss where
  rank : Nat
  module : Nat
  since : Nat
deriving DecidableEq, Repr

/-- The running job (01, 13). -/
structure JobSt where
  active : Bool := false
  shapes : List BranchShape := []
  /-- The job seed, which becomes gen_key (R62, R229). -/
  seed : Nat := 0
  map : Sparse MapEntry := []
  /-- Bank size in 64 MiB units of the rank mirrored here, and the base of the partner's mirror region (R327). -/
  heldBank : Nat := 0
  mirrorAt : Nat := 0
  boundary : Option Boundary := none
  /-- A rule of the discarding chapter holds the job after the discard (R350). -/
  holdAfter : Bool := false
  /-- A FATAL_JOB event has ended this job's progress (R342). -/
  fatal : Bool := false
  /-- A discard would have made the replay count 16: no replay opens, and RESUME and REPLAY are rejected (R351). -/
  exhausted : Bool := false
  /-- The module has opened no step of this job yet, or none since a takeover (R305, R322). -/
  firstAttempt : Bool := false
  /-- No step of the job has opened yet: the starting instar is being loaded (R164, R253). -/
  starting : Bool := false
  losses : List Loss := []
  /-- Tick at which the open attempt opened. -/
  openedAt : Nat := 0
  /-- The input map held (R305): base and length of each micro-batch; entries under repair (R307). -/
  inputs : List (Nat × Nat) := []
  repairs : List Nat := []
  /-- Waiting for ready since this tick (R305). -/
  waitSince : Option Nat := none
  /-- Tile retries of each logical core in the current hour, and cores whose trend has been raised (R344). -/
  retries : Sparse Nat := []
  retryHour : Nat := 0
  retryRaised : List Nat := []
  /-- Last tick at which a flit came from each watched module (R352), by module address. -/
  heard : Sparse Nat := []
  /-- Tick of the last job heartbeat sent. -/
  beatAt : Nat := 0
  /-- Digest mismatches at this instar (R321). -/
  mismatches : Nat := 0
  /-- Digest records received in this attempt, by rank (R321). -/
  digests : Sparse Nat := []
  digestDone : Bool := false
  /-- The NaN trap is armed (R72); the NaN record became valid in this attempt (R249). -/
  trapArmed : Bool := false
  nanAttempt : Bool := false
  /-- Sequence number of the ring command that runs the steps (R73). -/
  cmdSeq : Nat := 0
deriving DecidableEq, Repr

/-- The molt barrier at this node (R309 to R316). Votes are 1 READY, 2 READY_NF, 3 FAIL. -/
structure BarrierSt where
  round : Nat := 0
  own : Nat := 0
  kids : Sparse Nat := []
  cause : Nat := 0
  origin : Nat := 0
  sentUp : Bool := false
  /-- A FAIL has gone up (R311, R315). -/
  sentFail : Bool := false
  /-- The root's vote timer (R314). -/
  deadline : Option Nat := none
  recordSent : Bool := false
  /-- Tick of this module's last vote (CHK_MOLT_TIME). -/
  votedAt : Nat := 0
  /-- A decision of the new epoch is awaited after a REMAP in MOLT_PENDING (R315). -/
  awaitNew : Bool := false
  /-- The root holds its whole tree's vote without FAIL and decides at the end of the tick (R314): 1 READY, 2 READY_NF. -/
  due : Nat := 0
deriving DecidableEq, Repr

/-- The MOLT record held as partner of rank 0 (R312). -/
structure RecordSt where
  instar : Nat
  flips : Nat
deriving DecidableEq, Repr

/-- The partner mirror (R327 to R333). -/
structure MirrorSt where
  /-- Granules of the mirror that arrived poisoned in this attempt and were asked again (R172). -/
  asked : List Nat := []
  /-- The served side of a build (R329): 2 the FROZEN extents and the committed bank are still to copy, 1 the FROZEN extents
  alone, 0 nothing. -/
  buildLeft : Nat := 0
  /-- The whole mirror stream of the open attempt goes to the present partner (R331). -/
  whole : Bool := false
  /-- A takeover pull is in progress (R330), and the bytes it has brought. -/
  pulling : Bool := false
  record : Option RecordSt := none
deriving DecidableEq, Repr

/-- Canaries (R322 to R325): the outputs still expected in this attempt as (entry, unit). -/
structure CanarySt where
  due : Bool := false
  started : List (Nat × Nat) := []
  passed : List (Nat × Nat) := []
  failed : Option (Nat × Nat) := none
  rerun : Bool := false
deriving DecidableEq, Repr

/-- In-field test (R334 to R339). -/
structure TestSt where
  /-- Last rotation tick of each quadrant; rotations due. -/
  rotated : Sparse Nat := []
  due : List Nat := []
  /-- Physical cores retired until the next boot, or for good by the repair map. -/
  retired : List Nat := []
  deferred : Bool := false
  overdue : Bool := false
  /-- TEST_NOW received in DORMANT, to run at the next eclosion (R357). -/
  pendingNow : Bool := false
deriving DecidableEq, Repr

/-! ## Events, the fault manager and pupae (13) -/

/-- An open coalescing window (R348): code, unit, tick of the first occurrence, record number and count. -/
structure Window where
  code : Nat
  unit : Nat
  since : Nat
  seqNo : Nat
  count : Nat
deriving DecidableEq, Repr

/-- The rank that a REMAP has given this module, until its runtime has loaded the job (R359). -/
structure Takeover where
  jobId : Nat
  rank : Nat
  epoch : Nat
  replay : Nat
  discards : Nat
deriving DecidableEq, Repr

structure EventSt where
  windows : List Window := []
  /-- The steward's journal: eight words under the record's sequence number (R347, R430). -/
  journal : Sparse (List Nat) := []
  /-- Tick of the last fault-manager message, per R356, and whether FM_UNREACHABLE was raised for this silence. -/
  fmAt : Nat := 0
  fmRaised : Bool := false
  fmSeen : Bool := false
  /-- Directives carried out whose result waits for a later state: code, fm_seq, instance. -/
  waiting : List (Nat × Nat × Nat) := []
  /-- An eclosion in progress, and the 600 s limit of a woken pupa (R358). -/
  eclosing : Bool := false
  wokenAt : Option Nat := none
  takeover : Option Takeover := none
  /-- Tick of the last STATUS message sent (R429). -/
  statusAt : Nat := 0
deriving DecidableEq, Repr

/-! ## Tensor array (03_tensor_array); everything here is kept by physical core -/

/-- A tile started and not yet written back (R75, R76): the descriptors it belongs to (more than one for a chain, R88), its
block position, the exact or integer accumulators row by row with the flags each has raised, and whether it is poisoned. `empty`
is a tile that R118 skips; `taken` says that the row engine has accepted it, `sent` counts the items of it that a stream queue
has accepted; `retry` marks the one retry of R97 and `void` a tile that waits for its restart (R99). -/
structure Tile where
  hw : Bool
  chain : List (List Nat)
  m : Nat
  n : Nat
  acc : List (FVal × Flags)
  poison : Bool
  /-- Products of +∞ and of −∞ that each dot product has met (R68); `[]` where none has. -/
  infs : List (Bool × Bool) := []
  empty : Bool := false
  /-- The accumulator set it uses (R75). -/
  set : Nat := 0
  taken : Bool := false
  sent : Nat := 0
  retry : Bool := false
  void : Bool := false
deriving DecidableEq, Repr

/-- The descriptor whose tiles a wing is starting: the number of the next tile, and whether its REQUANT prepass still runs. -/
structure WingDesc where
  words : List Nat
  nextTile : Nat := 0
  prepass : Bool := false
deriving DecidableEq, Repr

structure ArrSt where
  /-- The running descriptor of the forewing and of the hindwing. -/
  fw : Option WingDesc := none
  hw : Option WingDesc := none
  /-- The held tile of each wing (R88), and the nominal clocks of its chain. -/
  heldFw : Option (Tile × Nat) := none
  heldHw : Option (Tile × Nat) := none
  /-- Tiles started and not written back, oldest first. -/
  tiles : List Tile := []
  /-- Flags gathered by the written tiles of the descriptor that is writing back. -/
  flagsFw : Flags := {}
  flagsHw : Flags := {}
  /-- What started last: 0 nothing, 1 the newest tile, 2 the forewing's held tile, 3 the hindwing's. -/
  last : Nat := 0
  /-- The wing stopped by a rejection (R86). -/
  stopFw : Bool := false
  stopHw : Bool := false
  /-- A retry is due or running (R99). -/
  retry : Bool := false
  /-- Corrected retries of the attempt (R98). -/
  corrected : Nat := 0
deriving DecidableEq, Repr

/-! ## Row engine (04_row_engine); kept by physical core -/

/-- A tile in the score buffer: FP32 codes row by row. -/
structure RowTile where
  m : Nat
  n : Nat
  vals : List Nat
  poison : Bool
  empty : Bool
deriving DecidableEq, Repr

/-- A chunk (R110): its context, the wing whose half of the score buffer holds it, the extents of the feeding descriptor, its tiles, the
row blocks whose exponential pass has run (R114), the probabilities held for the dP tiles of ATTN_BWD (R121) and the dP tiles taken. -/
structure RowChunk where
  ctx : Nat
  words : List Nat
  hw : Bool
  ext : List Nat := []
  tiles : List RowTile := []
  passed : List Nat := []
  ps : List (List Nat) := []
  dp : Nat := 0
  flags : Flags := {}
deriving DecidableEq, Repr

/-- A tile of P·V accepted for ATTN_MERGE and not yet merged (R114). -/
structure RowMerge where
  ctx : Nat
  words : List Nat
  tile : RowTile
deriving DecidableEq, Repr

/-- A context whose outputs are written and whose completion has not been published (R111); `run` where a RUN command ends with it, and
`feed` the mark of the segment whose command it is. -/
structure RowDone where
  ctx : Nat
  words : List Nat
  flags : Flags
  feed : Nat
  run : Bool := false
deriving DecidableEq, Repr

structure RowSt where
  /-- Cached contexts, oldest first, at most 16 (R105). -/
  cache : List (Nat × List Nat) := []
  /-- Slots of state records that have had a START in this attempt (R124). -/
  started : List Nat := []
  chunks : List RowChunk := []
  merge : Option RowMerge := none
  /-- Feeding descriptors being merged: context, tiles merged, flags. -/
  merging : List (Nat × Nat × Flags) := []
  finished : List RowDone := []
  /-- Stopped by a rejection (R124). -/
  stopped : Bool := false
deriving DecidableEq, Repr


/-! ## Vector cluster (05_vector_cluster); kept by physical core -/

/-- Thread states of R155. -/
inductive ThState where
  | idle | running | waiting | paused | faulted
deriving DecidableEq, Repr

/-- The state of R130 that each lane of a gang, and a free thread, holds for itself: w0 to w7 with their poison bits, p1 to
p3 as bits of a number with theirs, flags, FTZ bit, stochastic-rounding tensor ID and index. -/
structure Lane where
  w : List Nat := [0, 0, 0, 0, 0, 0, 0, 0]
  wp : Nat := 0
  p : Nat := 0
  pp : Nat := 0
  flags : Flags := {}
  ftz : Bool := false
  srt : Nat := 0
  sri : Nat := 0
deriving DecidableEq, Repr

/-- A free thread, or a gang thread with its 32 lanes. `mask` is the lane mask (bit 0 alone in free mode), `left` the lanes
whose wait has not completed. -/
structure Thread where
  st : ThState := .idle
  gang : Bool := false
  pc : Nat := 0
  ret : List Nat := []
  mask : Nat := 1
  retired : Nat := 0
  stack : List Nat := []
  lanes : List Lane := [{}]
  launch : Nat := 0
  left : Nat := 0
  since : Nat := 0
deriving DecidableEq, Repr

/-- A launch whose threads have not all ended (R139). -/
structure Launch where
  id : Nat
  words : List Nat
  left : Nat
  flags : Flags := {}
  feed : Nat := 0
deriving DecidableEq, Repr

structure VecSt where
  /-- Instruction words fetched since the last invalidation, by address (R145, log entry 14). -/
  icache : Sparse Nat := []
  /-- Lane groups in gang mode, one bit each. -/
  gangMode : Nat := 0
  /-- Threads under scalar core × 32 + slot; a gang thread stands under lane 0's number. -/
  threads : Sparse Thread := []
  launches : List Launch := []
  nextLaunch : Nat := 1
  /-- The popped entry that waits for its slots (R139), after the segment that fed it. -/
  head : Option (List Nat) := none
  stopped : Bool := false
deriving DecidableEq, Repr

/-! ## DMA (R143, R144) -/

/-- Who issued a transfer. -/
inductive XferOwner where
  | thread (phys t : Nat)
  | epilogue (core : Nat) (hw : Bool)
  | ring (r seq : Nat)
deriving DecidableEq, Repr

/-- An ADD or SET of a sync counter that waits for its issuer's earlier writes (R192): the module that holds the counter, the transfers
that must end or leave first, and the forwarding queues with the number of items that must have left them. -/
structure CounterOp where
  owner : XferOwner
  node : Nat
  counter : Nat
  value : Nat
  sets : Bool := false
  xfers : List Nat := []
  items : List (Nat × Nat) := []
deriving DecidableEq, Repr

/-- A transfer issued and not complete. `pc` is the issuing instruction's address; `raced` lists operand-cache words that
were touched while the transfer was in progress (R142); `asked` says that its remote reads or writes have been sent; `got` and
`gotPoison` are the remote bytes that have arrived, by place in the transfer, and their poison marks. -/
structure Xfer where
  id : Nat
  core : Nat
  owner : XferOwner
  words : List Nat
  pc : Nat := 0
  gang : Bool := false
  lanes : Nat := 1
  raced : List Nat := []
  asked : Bool := false
  got : Sparse Byte := []
  gotPoison : Sparse Bool := []
  failed : Bool := false
deriving DecidableEq, Repr

/-! ## Chrysalis (14_chrysalis) -/

/-- A run of a piece (R377): kind, table entry, offset in the bank, length, offset in the data section, stripes and the first
stripe within the entry. -/
structure PieceRun where
  kind : Nat
  entry : Nat
  off : Nat
  len : Nat
  dataOff : Nat
  stripes : Nat := 0
  first : Nat := 0
deriving DecidableEq, Repr

/-- The writer of this module's piece (R369 to R373): the cut, the bank read, the piece, its runs, the 1 MiB Write commands
completed and those that have failed once, and whether the data, the directory and the header have been written. -/
structure Writer where
  instar : Nat
  slot : Nat
  bank : Nat
  piece : Nat
  pieces : Nat
  runs : List PieceRun
  dataLen : Nat
  done : Sparse Bool := []
  failed : Sparse Bool := []
  /-- The front-end port that each command issued went to (R299). -/
  sentOn : Sparse Nat := []
  /-- The staging copy has not been completed, and the piece is read from staging (R372). -/
  copying : Bool := false
  staged : Bool := false
  /-- CHK_CANARY_PASS at the cut (R376). -/
  canary : Nat := 0
  /-- Granules asked of the partner's copy, and those that have come (R373). -/
  asked : List Nat := []
  patches : Sparse (List Byte) := []
  /-- The data of the commands completed, as they carried it (R32). -/
  carried : Sparse (List Byte) := []
deriving DecidableEq, Repr

/-- A DONE gathered by the coordinator (R378). -/
structure DoneRec where
  rank : Nat
  piece : Nat
  pieces : Nat
  digest : Nat
deriving DecidableEq, Repr

/-- What the coordinator is gathering: instar, slot, tick of the cut and the DONEs. -/
structure Gather where
  instar : Nat
  slot : Nat
  since : Nat
  dones : List DoneRec := []
deriving DecidableEq, Repr

structure ChrysSt where
  writer : Option Writer := none
  /-- A cut held for the molt that makes MOD_INSTAR its target: instar and slot (R368). -/
  due : Option (Nat × Nat) := none
  gather : Option Gather := none
  /-- CHRYSALIS_REQUEST has been raised since the last completed chrysalis (R364). -/
  raised : Bool := false
deriving DecidableEq, Repr



/-! ## Ports and links (11_ports_and_links) -/

/-- A flit that waits in a virtual channel of an output, and its place in the router's order of arrival (R267). -/
structure Queued where
  flit : Flit
  order : Nat
deriving DecidableEq, Repr

/-- One port beside its registers: the start of its bring-up, retrain or DOWN state, the last ticks of traffic (R280, R294), the link
layer of R292, and the HELLOs exchanged (R288, R289). -/
structure PortSt where
  /-- Lanes locked at bring-up (R286). -/
  locked : Nat := 0
  since : Nat := 0
  heardAt : Nat := 0
  sentAt : Nat := 0
  /-- Last tick of a non-LINK flit in either direction. -/
  dataAt : Nat := 0
  /-- Link counts of the next flit to send and of the next flit expected. -/
  tx : Nat := 0
  rx : Nat := 0
  /-- The retry buffer: flits sent and not acknowledged, oldest first, under their counts. -/
  retry : List (Nat × Flit) := []
  /-- The output's virtual channels, oldest flit first, under 4 × class + channel (R266), and its counter of contested grants (R267). -/
  vcs : Sparse (List Queued) := []
  grants : Nat := 0
  /-- Flits received since the last LINK_ACK, and its tick. -/
  owed : Nat := 0
  ackAt : Nat := 0
  /-- The count last asked for by RETRY_REQ and how often in a row: sent, and received. -/
  nakOut : Nat × Nat := (0, 0)
  nakIn : Nat × Nat := (0, 0)
  /-- HELLO sent last and its tick; HELLO_ACK has come; the peer's HELLO of this bring-up. -/
  hello : List Byte := []
  helloAt : Nat := 0
  acked : Bool := false
  peer : List Byte := []
  /-- Hold causes raised (R289). -/
  raised : List Nat := []
  /-- Retrain in progress with link counts kept, and the peer's serial and port before it; FEC is aligned again (R293). -/
  before : Option (Nat × Nat) := none
  aligned : Bool := false
  /-- Retrains since the last whole hour; a lane has failed since; PORT_BER_TREND raised in this job (R295). -/
  retrains : Nat := 0
  laneFailed : Bool := false
  berRaised : Bool := false
deriving DecidableEq, Repr

/-- A posted bridge transfer in progress: its sequence number and descriptor words (R302). -/
structure BridgeXfer where
  seq : Nat
  words : List Nat
deriving DecidableEq, Repr

/-- A queue pair of the front-end engine, for a queue of an NVMe controller; queue 0 is its admin queue (R297). -/
structure QueuePair where
  qp : Nat
  ctrl : Nat
  queue : Nat
deriving DecidableEq, Repr

/-- What the front-end engine's tables hold of a port (R296 to R299): IPv6 addresses and neighbours, priorities that the peer has paused,
queue pairs, and the MACsec secure association with the next packet numbers of the receiving and the sending channel. -/
structure FrontSt where
  addrs : List Nat := []
  neighbours : List Nat := []
  paused : Nat := 0
  pairs : List QueuePair := []
  key : Option MacsecKey := none
  rxNext : Nat := 0
  txNext : Nat := 1
deriving DecidableEq, Repr

/-- What the front-end engine and the bridge engine keep (R298, R299, R301, R302). -/
structure LinksSt where
  ports : Sparse PortSt := []
  /-- Wavelengths that light source k of engine e delivers, as a mask under 2 e + k (R283); all four where unlisted. -/
  light : Sparse Nat := []
  /-- The hour of MOD_TICK last checked under R295. -/
  berHour : Nat := 0
  /-- Flits that have reached the router's outputs (R267). -/
  arrivals : Nat := 0
  /-- LINK flits of reserved subtypes dropped, by port (R287). -/
  linkDropped : Sparse Nat := []
  bridge : List BridgeXfer := []
  /-- Last bridge descriptor taken. -/
  bridgeTaken : Nat := 0
  /-- Front-end ports by role index; frames dropped by MACsec or the Ethernet subset, and frames handed on. -/
  fe : Sparse FrontSt := []
  feDropped : Sparse Nat := []
  feTaken : Sparse Nat := []
deriving DecidableEq, Repr

/-! ## Power, clocks and thermal control (15_power_and_clocks, 17_connectors_and_electrical) -/

/-- A power hint (R396): the thread's key, its quadrant, and the ticks between which the voltage stands raised. -/
structure Hint where
  phys : Nat
  t : Nat
  from_ : Nat
  until_ : Nat
deriving DecidableEq, Repr

structure PwrSt where
  /-- RESET_N is asserted; a PRSNT_N position is lost; WAKE_N is low (R443 to R447). -/
  resetLow : Bool := false
  absent : Bool := false
  wakeLow : Bool := false
  /-- The main input is on: it came, and neither its undervoltage nor its overvoltage turned it away (R385, R386). -/
  mainOn : Bool := false
  /-- A boot is wanted: since a release of RESET_N or a management reset, until BOOTING is entered (R385, R431, R445). -/
  bootWanted : Bool := false
  /-- Main conversion is on; every point-of-load rail is good (PWRGD, R448). -/
  converting : Bool := false
  rails : Bool := false
  /-- A supply was removed during BOOTING: the next boot starts from the boot ROM (R387). -/
  fromRom : Bool := false
  /-- The steward is awake (R389; log entry 48). -/
  awake : Bool := true
  /-- Input energy of each past millisecond (mJ), newest first, at most 30,000 (R392, R400). -/
  energy : List Nat := []
  /-- Clock limits of the cap and of the thermal rule, and the target (R393), in 25 MHz units. -/
  capTarget : Nat := 0
  thermTarget : Nat := 0
  target : Nat := 0
  /-- Tick of each quadrant's last hand-off, and quadrants whose pending step has been counted as held (R398, R399). -/
  handoffAt : Sparse Nat := []
  held : List Nat := []
  /-- Physical cores with droop asserted, and the tick at which the last droop of each quadrant cleared (R397, R399). -/
  droop : List Nat := []
  droopAt : Sparse Nat := []
  hints : List Hint := []
  /-- Readings of the last THERMAL_SAMPLE by die, of the stacks, and of the package sensor, in 0.01 °C (R401, R402). -/
  dies : List (List Int) := []
  stackTemps : List Int := []
  package : Int := 0
  /-- Since when every sensor has read below release_c; tick of the last thermal step. -/
  coolSince : Option Nat := none
  stepAt : Nat := 0
  /-- Ticks of throttling that are less than a millisecond, and the tick counted last. -/
  throttleAt : Nat := 0
  /-- THERM_N is low (R448). -/
  thermLow : Bool := false
  /-- Stacks whose requests are paced (R401). -/
  paced : List Nat := []
  /-- Physical cores that have been clock-gated (R390). -/
  gated : List Nat := []
deriving DecidableEq, Repr

/-! ## Control complex, boot, security and management (16_control_and_boot) -/

/-- A record of the settings store (R419). -/
structure Setting where
  key : Nat
  seqNo : Nat
  gone : Bool
  data : List Byte
deriving DecidableEq, Repr

/-- A configuration flash (R408, R419, R432): its bytes outside the settings regions, whether writes wait for a commit, whether such
a write reached the configuration, and its active settings region: number, compaction generation, and records in the order written. -/
structure Flash where
  image : Image := {}
  dirty : Bool := false
  cfgWritten : Bool := false
  region : Nat := 0
  generation : Nat := 0
  records : List Setting := []
deriving DecidableEq, Repr

/-- The configuration in force (R413, R414): item values as bytes under their types. -/
structure ConfigSt where
  source : Nat
  generation : Nat
  signed : Bool
  items : Sparse (List Byte)
  unknown : Nat
deriving DecidableEq, Repr

/-- Boot chain and OTP (R410 to R418, R423). `otp` holds the array's bytes and `otpRead` those read at the last stage 1
(log entry 41). -/
structure BootSt where
  flashA : Flash := {}
  flashB : Flash := {}
  otp : Sparse Byte := [(0, 1), (254, 0x8C), (255, 0x1B)]
  otpRead : Sparse Byte := []
  config : Option ConfigSt := none
  /-- Flashes that have failed in this boot and the stage, first failed first (R412). -/
  failed : List (Nat × Nat) := []
  /-- Network recovery is in progress: the flash to be written, and the tick of the last request (R412). -/
  recovery : Option Nat := none
  recoveryAt : Nat := 0
  /-- The control complex runs (R404). -/
  os : Bool := false
deriving DecidableEq, Repr

/-- A message sent in a session and not acknowledged (R427). -/
structure OutMsg where
  seqNo : Nat
  ack : Nat
  kind : Nat
  body : List Nat
  sentAt : Nat
deriving DecidableEq, Repr

/-- A management session (R426, R427); roles 0 fault manager, 1 operator, 2 observer. -/
structure Session where
  id : Nat
  role : Nat
  keyId : Nat
  /-- Number of the last message sent, the highest accepted and those accepted above the first gap, and the number below it. -/
  tx : Nat := 0
  high : Nat := 0
  cum : Nat := 0
  above : List Nat := []
  heardAt : Nat
  sentAt : Nat
  /-- A message waits for its acknowledgement by the ack field. -/
  owes : Bool := false
  /-- The last event record the peer has processed (R430). -/
  processed : Nat := 0
  unacked : List OutMsg := []
  waiting : List (Nat × List Nat) := []
deriving DecidableEq, Repr

/-- JTAG instructions of R451 that the model runs. -/
inductive JtagIr where
  | bypass | sample | extest | idcode
deriving DecidableEq, Repr

/-- What the steward keeps for management, I3C and JTAG (R405, R421, R426 to R432, R448 to R451). -/
structure MgmtSt where
  sessions : List Session := []
  nextId : Nat := 1
  /-- The last 64 directive results: fm_seq, code, result. -/
  results : List (Nat × Nat × Nat) := []
  /-- Event number acknowledged over I3C, and the dynamic address, 0 for none. -/
  i3cAck : Nat := 0
  i3cAddr : Nat := 0
  jtag : JtagIr := .idcode
deriving DecidableEq, Repr

/-! ## The state -/

/-- The module's state. -/
structure State where
  /-- Commands waiting, first in, first out. -/
  pending : List Instr := []
  /-- Register fields: value under `Field.key`, the reset value where unlisted. -/
  regs : Sparse Nat := []
  /-- What the module has sent, oldest first (the model's own field). -/
  outbox : List Output := []
  /-- MOD_TICK (R37). -/
  tick : Nat := 0
  /-- How many free values have been drawn (the model's own field, log entry 5). -/
  drawn : Nat := 0
  mode : ModState := .off
  step : StepState := .none
  job : JobSt := {}
  barrier : BarrierSt := {}
  mirror : MirrorSt := {}
  canary : CanarySt := {}
  test : TestSt := {}
  ev : EventSt := {}
  mem : MemSt := {}
  queues : Sparse Queue := []
  waits : List Wait := []
  stalled : List Stalled := []
  /-- Operations on sync counters that wait for earlier writes (R192). -/
  ops : List CounterOp := []
  rings : Sparse Ring := []
  sched : SchedSt := {}
  upd : UpdSt := {}
  fab : FabSt := {}
  chrys : ChrysSt := {}
  links : LinksSt := {}
  pwr : PwrSt := {}
  boot : BootSt := {}
  mgmt : MgmtSt := {}
  arr : Sparse ArrSt := []
  row : Sparse RowSt := []
  vec : Sparse VecSt := []
  xfers : List Xfer := []
  nextXfer : Nat := 1
deriving DecidableEq, Repr

/-- Why the machine stops with a fault. -/
inductive Fault where
  /-- An address no row of R15 maps, reached by an agent that has no report of its own for it. No command of the table
  raises it today: every engine reports its address faults as its chapter says. Safe. -/
  | unmapped
deriving DecidableEq, Repr

/-- Why a command is refused. -/
inductive Refusal where
  /-- The command has no meaning yet. Safe. -/
  | notModelled (mnemonic : String)
  /-- DEBUG_INSTRUCTION while the OTP boot policy allows JTAG: R451 says that the instruction then acts and does not say
  what it does. Safe: the machine stops. -/
  | debugUnit
deriving DecidableEq, Repr

/-- The module right after reset: no supply is present (OFF), every register field stands at its reset value. -/
def State.reset : State := {}

end Sys2Proof.Machine
end

