-- ==== Sys2Proof/Machine/Ops.lean ====
section
/-! DEFINITION. Machine/Ops.lean: the named operations over registers, time, ranks, cores and memory that the meanings share. -/

namespace Sys2Proof.Machine

/-! ### Registers -/

/-- Read field `f` of element `i`: never more than its width holds. -/
def State.rdAt (s : State) (f : Field) (i : Nat) : Nat := sget f.reset s.regs (f.key i) % 2 ^ f.width

/-- Write field `f` of element `i`, cut to the field's width (log entry 78). -/
def State.wrAt (s : State) (f : Field) (i v : Nat) : State :=
  { s with regs := sset f.reset s.regs (f.key i) (v % 2 ^ f.width) }

def State.rd (s : State) (f : Field) : Nat := s.rdAt f 0
def State.wr (s : State) (f : Field) (v : Nat) : State := s.wrAt f 0 v

/-- A one-bit field read as a truth value, and written from one. -/
def State.isSet (s : State) (f : Field) : Bool := s.rd f == 1
def State.isSetAt (s : State) (f : Field) (i : Nat) : Bool := s.rdAt f i == 1
def State.wrBit (s : State) (f : Field) (b : Bool) : State := s.wr f (bit b)

/-- Add to a counter that wraps. -/
def State.addAt (s : State) (f : Field) (i n : Nat) : State := s.wrAt f i (s.rdAt f i + n)
def State.add (s : State) (f : Field) (n : Nat) : State := s.addAt f 0 n

/-- Add to a counter that saturates. -/
def State.addSatAt (s : State) (f : Field) (i n : Nat) : State := s.wrAt f i (min (s.rdAt f i + n) (2 ^ f.width - 1))
def State.addSat (s : State) (f : Field) (n : Nat) : State := s.addSatAt f 0 n

/-- OR bits into a field. -/
def State.orAt (s : State) (f : Field) (i n : Nat) : State := s.wrAt f i (orBits (s.rdAt f i) n)

/-- Put every listed field of element `i` back to its reset value. -/
def State.clearAt (s : State) (fs : List Field) (i : Nat) : State := fs.foldl (fun t f => t.wrAt f i f.reset) s
def State.clear (s : State) (fs : List Field) : State := s.clearAt fs 0

/-- Apply a change for each index of a list. -/
def State.each (s : State) (is : List Nat) (f : State → Nat → State) : State := is.foldl f s

/-! ### Outputs and free values -/

def State.send (s : State) (o : Output) : State := { s with outbox := s.outbox ++ [o] }

/-- Draw from the true random generator (R159): the value, and the state with the draw counted. -/
def State.draw (s : State) : Nat × State := (Config.random s.drawn % 2 ^ 64, { s with drawn := s.drawn + 1 })

/-! ### Time and sequence numbers -/

/-- Reference ticks of a time in microseconds, milliseconds and seconds (R5: 10 ns each). -/
def usTicks (n : Nat) : Nat := n * 100
def msTicks (n : Nat) : Nat := n * 100000
def sTicks (n : Nat) : Nat := n * 100000000
def hourTicks : Nat := 3600 * 100000000

/-- `b` is newer than `a` under 32-bit serial arithmetic (R6). -/
def newer32 (b a : Nat) : Bool :=
  let d := (b + 2 ^ 32 - a % 2 ^ 32) % 2 ^ 32
  decide (1 ≤ d) && decide (d < 2 ^ 31)

/-- `a` or a number newer than it (R6). -/
def from32 (b a : Nat) : Bool := b == a || newer32 b a

/-- `b` is newer than `a` under 16-bit serial arithmetic (R262). -/
def newer16 (b a : Nat) : Bool :=
  let d := (b + 2 ^ 16 - a % 2 ^ 16) % 2 ^ 16
  decide (1 ≤ d) && decide (d < 2 ^ 15)

/-- The value of `bits` bits nearest `own` whose low 16 bits are `low`; of two at equal distance the lower, which is older (R261). -/
def extend16 (bits own low : Nat) : Nat :=
  let d := (low + 2 ^ 16 - own % 2 ^ 16) % 2 ^ 16
  (if d < 2 ^ 15 then own + d else own + d + 2 ^ bits - 2 ^ 16) % 2 ^ bits

/-- A deadline has passed: the tick it names has ended (R194, R195). -/
def State.past (s : State) (deadline : Nat) : Bool := decide (deadline < s.tick)

/-! ### Module and step state -/

def State.instar (s : State) : Nat := s.rd F.MOD_INSTAR_instar
/-- N + 1 (R33). -/
def State.nextInstar (s : State) : Nat := (s.instar + 1) % 2 ^ 64
def State.replay (s : State) : Nat := s.rd F.MOD_STEP_replay_count
def State.bank (s : State) : Nat := s.rd F.MOD_STEP_active_bank
/-- The attempt that a message or an item belongs to now (R187). -/
def State.attempt (s : State) : Attempt := ⟨s.nextInstar, s.replay⟩

/-- A step is open (R34). -/
def State.stepOpen (s : State) : Bool :=
  match s.step with
  | .opened | .checking | .moltPending | .replaying => true
  | .discarded => s.mode == .running
  | _ => false

/-- Work of an attempt runs: the step is OPEN or REPLAYING. -/
def State.working (s : State) : Bool := s.step == .opened || s.step == .replaying

/-- Auxiliary power is present (R27). -/
def State.powered (s : State) : Bool := s.mode != .off

/-- The module's units run: any state but OFF, STANDBY, BOOTING and FAILED. -/
def State.alive (s : State) : Bool :=
  match s.mode with
  | .off | .standby | .booting | .failed => false
  | _ => true

/-- One reference tick passes while auxiliary power is present (R5, R37). -/
def State.idle (s : State) : State := if s.powered then { s with tick := (s.tick + 1) % 2 ^ 64 } else s

/-! ### Ranks (R22, R309) -/

def State.rank (s : State) : Nat := s.rd F.MOD_JOB_rank
def State.rankCount (s : State) : Nat := s.rd F.MOD_JOB_rank_count_m1 + 1
def State.self (s : State) : Nat := s.rd F.MOD_ADDR_group * 32 + s.rd F.MOD_ADDR_slot
def State.jobId (s : State) : Nat := s.rd F.MOD_JOB_job_id
def State.epoch (s : State) : Nat := s.rd F.MOD_MAP_EPOCH_epoch

def shapeSize (b : BranchShape) : Nat := b.d * b.p * b.t * b.e * b.s

/-- base(b) of R22. -/
def branchBase : List BranchShape → Nat → Nat
  | [], _ => 0
  | _, 0 => 0
  | b :: bs, k + 1 => shapeSize b + branchBase bs k

/-- rank(b, d, p, t, e, s) of R22. -/
def rankOf (bs : List BranchShape) (b d p t e s : Nat) : Nat :=
  match bs[b]? with
  | some h => branchBase bs b + ((((d * h.p + p) * h.t + t) * h.e + e) * h.s + s)
  | none => 0

/-- The branch of a rank: its index, its shape and the rank within it. -/
def branchOf : List BranchShape → Nat → Nat → Option (Nat × BranchShape × Nat)
  | [], _, _ => none
  | b :: bs, r, i => if r < shapeSize b then some (i, b, r) else branchOf bs (r - shapeSize b) (i + 1)

/-- Coordinates [D, P, T, E, S] of a rank within its branch. -/
def coords (b : BranchShape) (r : Nat) : List Nat :=
  [r / (b.p * b.t * b.e * b.s), r / (b.t * b.e * b.s) % b.p, r / (b.e * b.s) % b.t, r / b.s % b.e, r % b.s]

/-- Coordinates of rank `r` and of rank `q` agree on every axis outside the mask ([4] D … [0] S, R270, R319). -/
def agreeOutside (mask : Nat) (x y : List Nat) : Bool :=
  (x.zip y).zipIdx.all (fun p => bitAt mask (4 - p.2) || p.1.1 == p.1.2)

/-- Members: the ranks of this module's branch that agree with `r` outside the mask, rising (R271, R319). -/
def membersOf (bs : List BranchShape) (mask r : Nat) : List Nat :=
  match branchOf bs r 0 with
  | some (i, b, q) =>
    let base := branchBase bs i
    ((List.range (shapeSize b)).filter (fun x => agreeOutside mask (coords b x) (coords b q))).map (· + base)
  | none => []

/-- Parent and children of a rank in the barrier tree (R309). -/
def barrierParent (r : Nat) : Nat := (r - 1) / 32
def barrierKids (r n : Nat) : List Nat := (List.range 32).map (fun k => 32 * r + k + 1) |>.filter (fun k => decide (k < n))

def State.isRoot (s : State) : Bool := s.rank == 0
def State.kids (s : State) : List Nat := barrierKids s.rank s.rankCount

/-- The physical module that serves a rank, and its partner (R24). -/
def State.moduleOf (s : State) (r : Nat) : Nat := match sget? s.job.map r with
  | some e => e.module
  | none => 0xFFFF
def State.partnerOf (s : State) (r : Nat) : Nat := match sget? s.job.map r with
  | some e => e.partner
  | none => 0xFFFF
def State.partner (s : State) : Nat := s.partnerOf s.rank
/-- The rank a module serves. -/
def State.rankAt (s : State) (m : Nat) : Option Nat := (s.job.map.find? (fun p => p.2.module == m)).map Prod.fst
/-- The rank whose mirror this module holds. -/
def State.heldRank (s : State) : Option Nat := (s.job.map.find? (fun p => p.2.partner == s.self)).map Prod.fst

/-! ### Cores (R11, R217) -/

def quadOf (n : Nat) : Nat := n / 64
def quadOfPhys (p : Nat) : Nat := p / 68

/-- The physical core that serves logical core `n`: its stand-in, or the remap table's entry. -/
def State.phys (s : State) (n : Nat) : Nat := match sget? s.sched.standin n with
  | some p => p
  | none => s.rdAt F.MOD_CORE_MAP_phys_core n

def allCores : List Nat := List.range 256
def quadCores (q : Nat) : List Nat := (List.range 64).map (· + 64 * q)
def quadPhys (q : Nat) : List Nat := (List.range 68).map (· + 68 * q)

/-- A physical core is in service or stands in. -/
def State.inUse (s : State) (p : Nat) : Bool :=
  (quadCores (quadOfPhys p)).any (fun n => s.rdAt F.MOD_CORE_MAP_phys_core n == p || sget? s.sched.standin n == some p)

/-- Healthy physical cores of a quadrant that are not in use, under test or not, lowest first. -/
def State.healthy (s : State) (q : Nat) : List Nat := (quadPhys q).filter (fun p => !s.inUse p && !s.test.retired.contains p)

/-- Healthy free spares of a quadrant, lowest first: not retired, not in use, not under test (R11, R338). -/
def State.spares (s : State) (q : Nat) : List Nat := (s.healthy q).filter (fun p => !s.isSetAt F.CHK_CORE_TEST_testing p)

/-- The spare that a stand-in or a swap takes: the lowest free one, else one under test, whose test is abandoned (R338). -/
def State.takeSpare (s : State) (q : Nat) : Option (Nat × State) :=
  match s.spares q with
  | p :: _ => some (p, s)
  | [] => match s.healthy q with
    | p :: _ => some (p, (s.wrAt F.CHK_CORE_TEST_testing p 0).wrAt F.CHK_CORE_TEST_result p 3)
    | [] => none

def State.suspect (s : State) (n : Nat) : Bool := s.isSetAt F.MOD_CORE_MAP_suspect n

/-! ### Memory images -/

/-- Address `a` is outside every kept range of a layer. -/
def Layer.misses (l : Layer) (a : Nat) : Bool := !l.keep.any (fun r => decide (r.1 ≤ a) && decide (a < r.2))

/-- What an unlisted byte reads as: a free value of the newest layer that does not keep it, else 0 (log entry 6). -/
def fillOf : List Layer → Nat → Byte
  | [], _ => 0
  | l :: ls, a => if l.misses a then (if l.zero then 0 else Config.memFill l.gen a) else fillOf ls a

/-- The newest layer that does not keep the address leaves it undefined. -/
def Image.undefAt (m : Image) (a : Nat) : Bool := match m.layers.find? (fun l => l.misses a) with
  | some l => !l.zero
  | none => false

def Image.read (m : Image) (a : Nat) : Byte := match sget? m.cells a with
  | some b => b
  | none => fillOf m.layers a

/-- Write a byte; where the address is defined, zero is not listed. -/
def Image.write (m : Image) (a : Nat) (b : Byte) : Image :=
  if m.undefAt a then { m with cells := sput m.cells a b } else { m with cells := sset 0 m.cells a b }

def Image.readN (m : Image) (a n : Nat) : List Byte := (List.range n).map (fun k => m.read (a + k))

def Image.writeN (m : Image) (a : Nat) : List Byte → Image
  | [] => m
  | b :: bs => (m.write a b).writeN (a + 1) bs

/-- Bytes outside the kept ranges become undefined. -/
def Image.discardOutside (m : Image) (gen : Nat) (keep : List (Nat × Nat)) : Image :=
  { cells := skeep (fun a => keep.any (fun r => decide (r.1 ≤ a) && decide (a < r.2))) m.cells
    layers := { gen := gen, keep := keep } :: m.layers }

/-- Bytes outside the kept ranges become zero (R21). -/
def Image.scrubOutside (m : Image) (keep : List (Nat × Nat)) : Image :=
  { cells := skeep (fun a => keep.any (fun r => decide (r.1 ≤ a) && decide (a < r.2))) m.cells
    layers := { gen := 0, keep := keep, zero := true } :: m.layers }

/-- Copy `n` bytes from `a` to `b`. -/
def Image.copy (m : Image) (a b n : Nat) : Image := m.writeN b (m.readN a n)

/-! ### The canonical form (log entry 6) -/

/-- Addresses rise strictly, and no listed byte is what its address reads as unlisted, but for addresses left undefined. -/
def Image.wf (m : Image) : Bool := ssorted m.cells && m.cells.all (fun c => m.undefAt c.1 || c.2 != 0)

/-- Every memory is in canonical form. -/
def Memory.wf (m : MemSt) : Bool := m.hbm.wf && m.tile.wf && m.oc.wf

/-- Registers, memories and flashes are held in canonical form: equal contents are equal data. -/
def State.canonical (s : State) : Bool :=
  ssorted s.regs && Memory.wf s.mem && s.boot.flashA.image.wf && s.boot.flashB.image.wf

/-! ### The local address map (R15) -/

/-- Where a local address lies; tile stores and operand caches by logical core. -/
inductive Place where
  | hbm (a : Nat)
  | carve (a : Nat)
  | tile (core off : Nat)
  | ocache (core off : Nat)
  | csr (a : Nat)
  | coreCsr (core off : Nat)
  | unmapped
deriving DecidableEq, Repr

def place (a : Nat) : Place :=
  if a < 0xB800000000 then .hbm a
  else if a < 0xC000000000 then .carve a
  else if 0x10000000000 ≤ a ∧ a < 0x10040000000 then .tile ((a - 0x10000000000) / 0x400000) ((a - 0x10000000000) % 0x400000)
  else if 0x18000000000 ≤ a ∧ a < 0x18008000000 then .ocache ((a - 0x18000000000) / 0x80000) ((a - 0x18000000000) % 0x80000)
  else if 0x20000000000 ≤ a ∧ a < 0x20100000000 then .csr a
  else if 0x20100000000 ≤ a ∧ a < 0x20200000000 then .coreCsr ((a - 0x20100000000) / 0x1000000) ((a - 0x20100000000) % 0x1000000)
  else .unmapped

def tileBase (n : Nat) : Nat := 0x10000000000 + n * 0x400000
def ocBase (n : Nat) : Nat := 0x18000000000 + n * 0x80000

/-- The poison unit of a tile-store offset (R77, R165): slot 0 to 3,967, or 4,096 + scale entry. -/
def tileUnit (p off : Nat) : Nat := p * 8192 + (if off < 0x3E0000 then off / 1024 else 4096 + (off - 0x3E0000) / 32)

/-- First address after a poison unit that holds an address, in the window of that address. -/
def unitBytes (a : Nat) : Nat := match place a with
  | .tile _ off => if off < 0x3E0000 then 1024 else 32
  | _ => 64

/-- One byte of memory as any engine reaches it. -/
def State.peek (s : State) (a : Nat) : Byte := match place a with
  | .hbm a | .carve a => s.mem.hbm.read a
  | .tile n off => s.mem.tile.read (s.phys n * 0x400000 + off)
  | .ocache n off => s.mem.oc.read (s.phys n * 0x80000 + off)
  | _ => 0

def State.poke (s : State) (a : Nat) (b : Byte) : State := match place a with
  | .hbm a | .carve a => { s with mem := { s.mem with hbm := s.mem.hbm.write a b } }
  | .tile n off => { s with mem := { s.mem with tile := s.mem.tile.write (s.phys n * 0x400000 + off) b } }
  | .ocache n off => { s with mem := { s.mem with oc := s.mem.oc.write (s.phys n * 0x80000 + off) b } }
  | _ => s

/-- The poison mark over an address (R165, R170). -/
def State.poisonAt (s : State) (a : Nat) : Bool := match place a with
  | .hbm a | .carve a => sget false s.mem.hbmPoison (a / 64)
  | .tile n off => sget false s.mem.tilePoison (tileUnit (s.phys n) off)
  | .ocache n off => sget false s.mem.ocPoison ((s.phys n * 0x80000 + off) / 64)
  | _ => false

def State.setPoison (s : State) (a : Nat) (v : Bool) : State := match place a with
  | .hbm a | .carve a =>
    -- a clean rewrite of a poisoned granule is remembered for the scrub pass (R169)
    let again := !v && sget false s.mem.hbmPoison (a / 64)
    let r := if again then sput s.mem.rewritten (a / 64) true else s.mem.rewritten
    { s with mem := { s.mem with hbmPoison := sset false s.mem.hbmPoison (a / 64) v, rewritten := r } }
  | .tile n off => { s with mem := { s.mem with tilePoison := sset false s.mem.tilePoison (tileUnit (s.phys n) off) v } }
  | .ocache n off => { s with mem := { s.mem with ocPoison := sset false s.mem.ocPoison ((s.phys n * 0x80000 + off) / 64) v } }
  | _ => s

def State.loadN (s : State) (a n : Nat) : List Byte := (List.range n).map (fun k => s.peek (a + k))

/-- The 64-byte-granule addresses that a range of bytes touches. -/
def granules (a n : Nat) : List Nat :=
  if n = 0 then [] else (List.range ((a + n - 1) / 64 - a / 64 + 1)).map (fun k => (a / 64 + k) * 64)

/-- The steps in which poison marks are walked at an address: a scale entry of a tile store is 32 bytes long (R165). -/
def unitStep (a : Nat) : Nat := match place a with
  | .tile _ _ => 32
  | _ => 64

/-- The step addresses that a range of bytes touches: every poison unit holds a whole number of steps. -/
def unitsOf (a n : Nat) : List Nat :=
  let u := unitStep a
  if n = 0 then [] else (List.range ((a + n - 1) / u - a / u + 1)).map (fun k => (a / u + k) * u)

/-- Some byte of the range is poisoned. -/
def State.poisoned (s : State) (a n : Nat) : Bool := (unitsOf a n).any s.poisonAt

def State.storeRaw (s : State) (a : Nat) : List Byte → State
  | [] => s
  | b :: bs => (s.poke a b).storeRaw (a + 1) bs

/-- Store bytes (R170): poisoned data poisons every unit it touches; a write of a whole unit with clean data clears its
mark; a write of less leaves the mark as it is. -/
def State.storeN (s : State) (a : Nat) (bs : List Byte) (poison : Bool := false) : State :=
  (unitsOf a bs.length).foldl (fun t g =>
    if poison then t.setPoison (max g a) true
    else
      let u := unitBytes g
      let lo := g / u * u
      if a ≤ lo ∧ lo + u ≤ a + bs.length then t.setPoison g false else t)
    (s.storeRaw a bs)

/-- A little-endian 64-bit word of memory, and a number of consecutive words. -/
def State.load64 (s : State) (a : Nat) : Nat := leNat (s.loadN a 8)
def State.loadWords (s : State) (a n : Nat) : List Nat := (List.range n).map (fun k => s.load64 (a + 8 * k))
def State.store64 (s : State) (a v : Nat) : State := s.storeN a (leBytes 8 v)
/-- Element `k` of a list of words. -/
def wd (ws : List Nat) (k : Nat) : Nat := ws.getD k 0
def wordBytes (ws : List Nat) : List Byte := ws.flatMap (leBytes 8)
def bytesWords (bs : List Byte) : List Nat := (chunksOf 8 (bs.length / 8 + 1) bs).map leNat

/-! ### Regions (R162) and who may reach them (R16, R164, R306) -/

def unit64M : Nat := 0x4000000
def State.regionBase (s : State) (k : Nat) : Nat := s.rdAt F.MEM_REGION_base k * unit64M
def State.regionEnd (s : State) (k : Nat) : Nat := (s.rdAt F.MEM_REGION_base k + s.rdAt F.MEM_REGION_size k) * unit64M
def State.inRegion (s : State) (k a n : Nat) : Bool := decide (s.regionBase k ≤ a) && decide (a + n ≤ s.regionEnd k)
def State.touches (s : State) (k a n : Nat) : Bool :=
  decide (s.regionBase k < s.regionEnd k) && decide (a < s.regionEnd k) && decide (s.regionBase k < a + n)
/-- The region code of an HBM address; 7 where none holds it. -/
def State.regionOf (s : State) (a : Nat) : Nat := ((List.range 8).find? (fun k => s.inRegion k a 1)).getD 7

/-- The agents of R164. -/
inductive Agent where
  | engine | update | collective | dma | chrysalis | stream
deriving DecidableEq, Repr

def Agent.mayRead (g : Agent) (s : State) (k : Nat) : Bool :=
  match k with
  | 0 | 1 => if k = s.bank then true else decide (g = .update ∨ g = .stream)
  | 2 => decide (g = .stream)
  | 3 => decide (g ≠ .chrysalis ∧ g ≠ .stream)
  | 4 => decide (g = .update ∨ g = .collective ∨ g = .dma)
  | 5 => decide (g = .chrysalis)
  | _ => decide (g ≠ .chrysalis ∧ g ≠ .stream)

def Agent.mayWrite (g : Agent) (s : State) (k : Nat) : Bool :=
  match k with
  | 0 | 1 => if k = s.bank then false else decide (g = .update)
  | 2 => decide (g = .stream)
  | 3 => decide (g = .dma)
  | 4 => decide (g = .update ∨ g = .collective ∨ g = .dma)
  | 5 => decide (g = .chrysalis)
  | _ => decide (g ≠ .chrysalis ∧ g ≠ .stream)

/-- The range lies in HBM outside the carve-out. -/
def inHbm (a n : Nat) : Bool := decide (a + n ≤ 0xB800000000)

/-- The loading of a starting instar writes both banks before the first step of the job opens (R164, R253). -/
def State.loadingBanks (s : State) : Bool := s.job.active && s.job.starting && !s.stepOpen

/-- A range of HBM outside the carve-out that the agent may read. -/
def State.mayReadHbm (s : State) (g : Agent) (a n : Nat) : Bool :=
  inHbm a n && (List.range 8).all (fun k => !s.touches k a n || g.mayRead s k)

/-- A write reaches a held input map outside a range under repair (R306, R307). -/
def State.hitsInputs (s : State) (a n : Nat) : Bool :=
  s.job.inputs.zipIdx.any (fun p =>
    decide (0 < p.1.2) && decide (a < p.1.1 + p.1.2) && decide (p.1.1 < a + n) && !s.job.repairs.contains p.2)

def State.mayWriteHbm (s : State) (g : Agent) (a n : Nat) : Bool :=
  inHbm a n && !s.hitsInputs a n &&
  (List.range 8).all (fun k => !s.touches k a n || g.mayWrite s k || (decide (k < 2) && decide (g = .dma) && s.loadingBanks))

/-- In the heap. -/
def State.inHeap (s : State) (a n : Nat) : Bool := s.inRegion 7 a n

/-! ### Resident ranges (R166) -/

/-- The resident ranges of logical core `n` as (first slot, slots, first entry, entries). -/
def State.residents (s : State) (n : Nat) : List (Nat × Nat × Nat × Nat) :=
  ((List.range 4).map (fun k => 4 * n + k)).filterMap (fun i =>
    if s.isSetAt F.MEM_TS_RESIDENT_valid i then
      some (s.rdAt F.MEM_TS_RESIDENT_slot_first i, s.rdAt F.MEM_TS_RESIDENT_slot_count i,
        s.rdAt F.MEM_TS_RESIDENT_entry_first i, s.rdAt F.MEM_TS_RESIDENT_entry_count i)
    else none)

/-- Two runs share a member: none does where either is empty. -/
def runsMeet (a n b m : Nat) : Bool := decide (0 < n) && decide (0 < m) && decide (a < b + m) && decide (b < a + n)

/-- A run of slots, or of scale entries, of core `n` meets a resident range. -/
def State.slotResident (s : State) (n first count : Nat) : Bool :=
  (s.residents n).any (fun r => runsMeet first count r.1 r.2.1)
def State.entryResident (s : State) (n first count : Nat) : Bool :=
  (s.residents n).any (fun r => runsMeet first count r.2.2.1 r.2.2.2)

/-- A byte range of core `n`'s tile store meets a resident range. -/
def State.tileResident (s : State) (n off len : Nat) : Bool :=
  (s.residents n).any (fun r => runsMeet off len (r.1 * 1024) (r.2.1 * 1024) ||
    runsMeet off len (0x3E0000 + r.2.2.1 * 32) (r.2.2.2 * 32))

/-- The byte ranges of physical tile stores that stay defined across a molt or a discard (R12, R166). -/
def State.residentBytes (s : State) : List (Nat × Nat) :=
  allCores.flatMap (fun n => (s.residents n).flatMap (fun r =>
    let b := s.phys n * 0x400000
    [(b + r.1 * 1024, b + (r.1 + r.2.1) * 1024), (b + 0x3E0000 + r.2.2.1 * 32, b + 0x3E0000 + (r.2.2.1 + r.2.2.2) * 32)]))

/-- A physical core has been power-gated: its operand cache is lost, and in a spare, which keeps nothing, the tile store too (R390). -/
def State.loseStores (s : State) (p : Nat) (tile : Bool) : State :=
  let outside (n : Nat) : List (Nat × Nat) := [(0, p * n), ((p + 1) * n, 272 * n)]
  let m := { s.mem with oc := s.mem.oc.discardOutside s.drawn (outside 0x80000) }
  let m := if tile then { m with tile := m.tile.discardOutside s.drawn (outside 0x400000) } else m
  { s with mem := m, drawn := s.drawn + 1 }

/-- Copy the resident ranges of logical core `n` from physical core `p` to `q` (R12, R217). -/
def State.copyResidents (s : State) (n p q : Nat) : State :=
  (s.residents n).foldl (fun t r =>
    let m := t.mem.tile.copy (p * 0x400000 + r.1 * 1024) (q * 0x400000 + r.1 * 1024) (r.2.1 * 1024)
    let m := m.copy (p * 0x400000 + 0x3E0000 + r.2.2.1 * 32) (q * 0x400000 + 0x3E0000 + r.2.2.1 * 32) (r.2.2.2 * 32)
    let us := (List.range r.2.1).map (· + r.1) ++ (List.range r.2.2.2).map (fun k => 4096 + r.2.2.1 + k)
    let ps := us.foldl (fun x u => sset false x (q * 8192 + u) (sget false t.mem.tilePoison (p * 8192 + u))) t.mem.tilePoison
    { t with mem := { t.mem with tile := m, tilePoison := ps } }) s

end Sys2Proof.Machine
end

