-- ==== Sys2Proof/Machine/MgmtTx.lean ====
section
/-! DEFINITION. Machine/MgmtTx.lean: how the steward sends management messages: sessions, their numbers and the window of 1,024
unacknowledged messages (R425 to R428). -/

namespace Sys2Proof.Machine

def State.session? (s : State) (id : Nat) : Option Session := s.mgmt.sessions.find? (fun x => x.id == id)

/-- Put a changed session back. -/
def State.setSession (s : State) (x : Session) : State :=
  { s with mgmt := { s.mgmt with sessions := s.mgmt.sessions.map (fun y => if y.id = x.id then x else y) } }

/-- End a session (R426). -/
def State.endSession (s : State) (id : Nat) : State :=
  let l := s.mgmt.sessions.filter (fun y => y.id != id)
  ({ s with mgmt := { s.mgmt with sessions := l } }).wr F.STW_STATUS_sessions l.length

/-- Put a message on both ports: session, number, acknowledgement, content. -/
def State.mgmtEmit (s : State) (id : Nat) (m : OutMsg) : State := s.send (.mgmt m.kind (id :: m.seqNo :: m.ack :: m.body))

/-- Send a numbered message in a session; it waits while 1,024 are unacknowledged, and the session ends before its number would
reach 2^31 (R426, R427) (log entry 57). -/
def State.mgmtTo (s : State) (id kind : Nat) (body : List Nat) : State :=
  match s.session? id with
  | none => s
  | some x =>
    if 1024 ≤ x.unacked.length then s.setSession { x with waiting := x.waiting ++ [(kind, body)] }
    else if 2 ^ 31 ≤ x.tx + 1 then s.endSession id
    else
      let m : OutMsg := { seqNo := x.tx + 1, ack := x.cum, kind := kind, body := body, sentAt := s.tick }
      (s.setSession { x with tx := x.tx + 1, sentAt := s.tick, owes := false, unacked := x.unacked ++ [m] }).mgmtEmit id m

/-- Send a message in every session of the given roles. -/
def State.mgmtAll (s : State) (roles : List Nat) (kind : Nat) (body : List Nat) : State :=
  (s.mgmt.sessions.filter (fun x => roles.contains x.role)).foldl (fun t x => t.mgmtTo x.id kind body) s

/-- Send what waited for the window. -/
def State.mgmtDrain (s : State) (id : Nat) : State :=
  match s.session? id with
  | none => s
  | some x =>
    let n := 1024 - x.unacked.length
    (x.waiting.take n).foldl (fun t m => t.mgmtTo id m.1 m.2) (s.setSession { x with waiting := x.waiting.drop n })

/-- A record goes to the control complex as an interrupt, to the console, and to every session as an EVENT (R347, R404, R428,
R450). -/
def State.sendRecord (s : State) (ws : List Nat) : State := (s.send (.record ws)).mgmtAll [0, 1, 2] 0x05 (0 :: ws)

end Sys2Proof.Machine
end

