-- ==== Sys2Proof/Machine/Events.lean ====
section
/-! DEFINITION. Machine/Events.lean: events, their codes and severities (R341, R343), their records and coalescing (R346 to
R348), what FATAL events do to the module (R27, R342), and the NaN trap (R71 to R73). -/

namespace Sys2Proof.Machine

/-- The events of R343. -/
inductive Event where
  | JOB_MAP_INVALID | CORE_SPARES_EXHAUSTED | NAN_TRAP | TILE_DESC_INVALID | TILE_RETRY | CORE_SUSPECT
  | ROW_DESC_INVALID | VEC_LAUNCH_INVALID | VEC_EXCEPTION | VEC_TRAP | DMA_FAULT | POISON
  | MEM_UE | MEM_REFETCH | MEM_UE_REPEAT | MEM_CE_TREND | MEM_IMBALANCE | MEM_POISON_CTRL | MEM_POISON_FATAL
  | JOB_MEM_INVALID | MEM_CTRL_FATAL | QUE_CFG_INVALID | QUE_STALL | RING_DOORBELL_ERR | RING_SEQ_ERR
  | COCOON_EXHAUSTED | SEG_INVALID | MB_OVERDUE | MB_STALLED | UPD_ENGINE_FAULT | UPD_ENGINES_LOST | UPD_TABLE_INVALID
  | FAB_WIRING_UNBALANCED | FAB_UNREACHABLE | FAB_HOTSPOT | COLL_DESC_INVALID | COLL_MISMATCH
  | PORT_MAP_INVALID | PORT_HOLD | PORT_VERSION | PORT_MISWIRE | PORT_PLAN_MISMATCH | PORT_DEGRADED | PORT_LIGHT_SOURCE
  | PORT_BER_TREND | KEPT_MAP_INVALID | CHK_DIGEST_MISMATCH | REPLICA_DIVERGED | REPLICA_INVALID | CANARY_FAIL
  | MIRROR_LOST | CORE_TEST_FAIL | TEST_DEFERRED | TEST_OVERDUE | MODULE_LOST | MODULE_FAILED | FM_UNREACHABLE
  | DIRECTIVE_REJECTED | ECLOSION | CORE_RETRY_TREND | HUB_FAULT | CHRYSALIS_REQUEST | CHRYSALIS_TORN
  | CHRYSALIS_WRITE_FAIL | THERM_THROTTLE | THERM_TRIP | BOOT_FALLBACK | FW_AUTH_FAIL
deriving DecidableEq, Repr

/-- Code and severity of each event (R343; severities 0 INFO, 1 WARN, 2 CORRECTED, 3 CONTAINED, 4 FATAL_JOB,
5 FATAL_MODULE of R341). -/
def Event.info : Event → Nat × Nat
  | .JOB_MAP_INVALID => (0x001, 3) | .CORE_SPARES_EXHAUSTED => (0x002, 3) | .NAN_TRAP => (0x101, 1)
  | .TILE_DESC_INVALID => (0x110, 3) | .TILE_RETRY => (0x111, 2) | .CORE_SUSPECT => (0x112, 2)
  | .ROW_DESC_INVALID => (0x120, 3) | .VEC_LAUNCH_INVALID => (0x130, 3) | .VEC_EXCEPTION => (0x131, 3)
  | .VEC_TRAP => (0x132, 0) | .DMA_FAULT => (0x133, 3) | .POISON => (0x134, 3)
  | .MEM_UE => (0x201, 1) | .MEM_REFETCH => (0x202, 2) | .MEM_UE_REPEAT => (0x203, 1) | .MEM_CE_TREND => (0x204, 1)
  | .MEM_IMBALANCE => (0x205, 1) | .MEM_POISON_CTRL => (0x206, 3) | .MEM_POISON_FATAL => (0x207, 4)
  | .JOB_MEM_INVALID => (0x208, 3) | .MEM_CTRL_FATAL => (0x209, 5) | .QUE_CFG_INVALID => (0x301, 3)
  | .QUE_STALL => (0x302, 1) | .RING_DOORBELL_ERR => (0x303, 1) | .RING_SEQ_ERR => (0x304, 3)
  | .COCOON_EXHAUSTED => (0x401, 3) | .SEG_INVALID => (0x402, 3) | .MB_OVERDUE => (0x403, 0) | .MB_STALLED => (0x404, 1)
  | .UPD_ENGINE_FAULT => (0x501, 3) | .UPD_ENGINES_LOST => (0x502, 5) | .UPD_TABLE_INVALID => (0x503, 3)
  | .FAB_WIRING_UNBALANCED => (0x601, 1) | .FAB_UNREACHABLE => (0x602, 3) | .FAB_HOTSPOT => (0x603, 1)
  | .COLL_DESC_INVALID => (0x604, 3) | .COLL_MISMATCH => (0x605, 3) | .PORT_MAP_INVALID => (0x701, 1)
  | .PORT_HOLD => (0x702, 1) | .PORT_VERSION => (0x703, 0) | .PORT_MISWIRE => (0x704, 0) | .PORT_PLAN_MISMATCH => (0x705, 1)
  | .PORT_DEGRADED => (0x706, 2) | .PORT_LIGHT_SOURCE => (0x707, 2) | .PORT_BER_TREND => (0x708, 1)
  | .KEPT_MAP_INVALID => (0x801, 3) | .CHK_DIGEST_MISMATCH => (0x802, 3) | .REPLICA_DIVERGED => (0x803, 3)
  | .REPLICA_INVALID => (0x804, 3) | .CANARY_FAIL => (0x805, 4) | .MIRROR_LOST => (0x806, 4) | .CORE_TEST_FAIL => (0x807, 1)
  | .TEST_DEFERRED => (0x808, 1) | .TEST_OVERDUE => (0x809, 1) | .MODULE_LOST => (0x901, 3) | .MODULE_FAILED => (0x902, 5)
  | .FM_UNREACHABLE => (0x903, 1) | .DIRECTIVE_REJECTED => (0x904, 1) | .ECLOSION => (0x905, 0)
  | .CORE_RETRY_TREND => (0x906, 1) | .HUB_FAULT => (0x907, 5) | .CHRYSALIS_REQUEST => (0xA01, 1)
  | .CHRYSALIS_TORN => (0xA02, 1) | .CHRYSALIS_WRITE_FAIL => (0xA03, 1) | .THERM_THROTTLE => (0xB01, 1)
  | .THERM_TRIP => (0xB02, 5) | .BOOT_FALLBACK => (0xC01, 1) | .FW_AUTH_FAIL => (0xC02, 5)

def Event.code (e : Event) : Nat := e.info.1
def Event.severity (e : Event) : Nat := e.info.2

/-- Word 0 of a record (R346) (log entry 77). -/
def recordWord0 (seq code sev count : Nat) (coalesced : Bool) : Nat :=
  seq % 2 ^ 32 * 2 ^ 32 + code % 2 ^ 12 * 2 ^ 20 + sev * 2 ^ 17 + bit coalesced * 2 ^ 16 + min count 0xFFFF

/-- Words 0 to 7 of a new record (R346). -/
def State.recordWords (s : State) (e : Event) (unit seq : Nat) (detail : List Nat) : List Nat :=
  [recordWord0 seq e.code e.severity 1 false, s.tick, s.instar,
   s.jobId * 2 ^ 32 + (if s.job.active then s.rank else 0) * 2 ^ 16 + unit % 2 ^ 16,
   wd detail 0 % 2 ^ 64, wd detail 1 % 2 ^ 64, wd detail 2 % 2 ^ 64, wd detail 3 % 2 ^ 64]

/-- Write a record into ERR_LOG at its sequence number modulo 1,024 (R363) and into the steward's journal (R347). -/
def State.fileRecord (s : State) (seq : Nat) (ws : List Nat) : State :=
  let s := (List.range 8).foldl (fun t k => t.wrAt F.ERR_LOG_record (seq % 1024 * 8 + k) (wd ws k)) s
  { s with ev := { s.ev with journal := sput (skeep (fun k => k + 65536 != seq) s.ev.journal) seq ws } }

/-- Close a window (R348): its record is sent, marked coalesced where it stands for more than one occurrence. -/
def State.closeWindow (s : State) (w : Window) : State :=
  let ws := sget [] s.ev.journal w.seqNo
  let w0 := recordWord0 w.seqNo w.code (wd ws 0 / 2 ^ 17 % 8) w.count (decide (1 < w.count))
  let s := { s with ev := { s.ev with windows := s.ev.windows.filter (fun x => x != w) } }
  (s.fileRecord w.seqNo (w0 :: ws.drop 1)).sendRecord (w0 :: ws.drop 1)

/-- Append a record: it takes the next sequence number and goes to ERR_LOG and the journal. One that cannot coalesce goes to the
management networks at once; the others when their window closes. -/
def State.appendRecord (s : State) (e : Event) (unit : Nat) (detail : List Nat) : State :=
  let s := (s.ev.windows.filter (fun w => w.code == e.code && w.unit == unit)).foldl State.closeWindow s
  let seq := (s.rd F.ERR_EVENT_SEQ_seq + 1) % 2 ^ 32
  let ws := s.recordWords e unit seq detail
  let s := (s.wr F.ERR_EVENT_SEQ_seq seq).fileRecord seq ws
  if e.severity ≤ 2 then { s with ev := { s.ev with windows := s.ev.windows ++ [⟨e.code, unit, s.tick, seq, 1⟩] } }
  else s.sendRecord ws

/-- The open window of an event: same code and unit, opened within the past 100 ms (R348). -/
def State.windowOf (s : State) (code unit : Nat) : Option Window :=
  s.ev.windows.find? (fun w => w.code == code && w.unit == unit && decide (s.tick < w.since + msTicks 100))

/-- Count a repeat in its record (R348). -/
def State.countRepeat (s : State) (w : Window) (sev : Nat) : State :=
  let n := min (w.count + 1) 0xFFFF
  let s := s.wrAt F.ERR_LOG_record (w.seqNo % 1024 * 8) (recordWord0 w.seqNo w.code sev n false)
  { s with ev := { s.ev with windows := s.ev.windows.map (fun x => if x = w then { x with count := n } else x) } }

/-- Record an event (R346 to R348). -/
def State.record (s : State) (e : Event) (unit : Nat) (detail : List Nat) : State :=
  let s := s.addSatAt F.ERR_SEV_COUNT_count e.severity 1
  match (if e.severity ≤ 2 then s.windowOf e.code unit else none) with
  | some w => s.countRepeat w e.severity
  | none => s.appendRecord e unit detail

/-- Enter FAILED (R27, R343): MODULE_FAILED names the cause in detail word 4 [11:0]; compute and fabric stop (log entry 74). -/
def State.enterFailed (s : State) (cause : Nat) : State :=
  if s.mode == .failed || s.mode == .off then s
  else ({ s with mode := .failed }).record .MODULE_FAILED 0xFFFF [cause]

/-- Raise an event: its record, and what its severity does to the module (R341, R342, R343). What a CONTAINED or
FATAL_JOB event does to the step is the raising rule's (Machine/Attempt.lean). -/
def State.raise (s : State) (e : Event) (unit : Nat := 0xFFFF) (detail : List Nat := []) : State :=
  let s := s.record e unit detail
  if e.severity = 5 then s.enterFailed e.code
  else if e.severity = 4 then { s with job := { s.job with fatal := true } }
  else s

/-! ### Record registers

The registers in which a raising chapter records an occurrence, as lists of their fields: the detail of R346 (log entry 83). -/

def Rec.arrChkLast : List Field := [F.ARR_CHK_LAST_tensor_id, F.ARR_CHK_LAST_m_block, F.ARR_CHK_LAST_n_block,
  F.ARR_CHK_LAST_micro_batch, F.ARR_CHK_LAST_wing, F.ARR_CHK_LAST_valid]
def Rec.arrReject : List Field := [F.ARR_REJECT_valid, F.ARR_REJECT_wing, F.ARR_REJECT_reason]
def Rec.rowReject : List Field := [F.ROW_REJECT_valid, F.ROW_REJECT_reason, F.ROW_REJECT_source, F.ROW_REJECT_ctx]
def Rec.vecReject : List Field := [F.VEC_REJECT_valid, F.VEC_REJECT_reason]
def Rec.vecFault : List Field := [F.VEC_FAULT_valid, F.VEC_FAULT_cause, F.VEC_FAULT_scalar_core, F.VEC_FAULT_slot,
  F.VEC_FAULT_gang, F.VEC_FAULT_lanes]
def Rec.vecFaultPc : List Field := [F.VEC_FAULT_PC_trap_code, F.VEC_FAULT_PC_pc]
def Rec.memPoisonLast : List Field := [F.MEM_POISON_LAST_valid, F.MEM_POISON_LAST_region, F.MEM_POISON_LAST_point,
  F.MEM_POISON_LAST_address]
def Rec.memImbStatus : List Field := [F.MEM_IMB_STATUS_valid, F.MEM_IMB_STATUS_pc, F.MEM_IMB_STATUS_ratio]
def Rec.schReject : List Field := [F.SCH_REJECT_valid, F.SCH_REJECT_at_run, F.SCH_REJECT_reason, F.SCH_REJECT_core,
  F.SCH_REJECT_micro_batch, F.SCH_REJECT_segment, F.SCH_REJECT_wing]
def Rec.schLate : List Field := [F.SCH_LATE_valid, F.SCH_LATE_hard, F.SCH_LATE_phase, F.SCH_LATE_micro_batch,
  F.SCH_LATE_expected_ms]
def Rec.updReject : List Field := [F.UPD_REJECT_valid, F.UPD_REJECT_source, F.UPD_REJECT_reason, F.UPD_REJECT_entry]
def Rec.fabUnreach : List Field := [F.FAB_UNREACH_valid, F.FAB_UNREACH_type, F.FAB_UNREACH_module]
def Rec.fabHotspot : List Field := [F.FAB_HOTSPOT_valid, F.FAB_HOTSPOT_role, F.FAB_HOTSPOT_index, F.FAB_HOTSPOT_peer]
def Rec.fabCollReject : List Field := [F.FAB_COLL_REJECT_valid, F.FAB_COLL_REJECT_mismatch, F.FAB_COLL_REJECT_reason,
  F.FAB_COLL_REJECT_member, F.FAB_COLL_REJECT_coll_seq]
def Rec.chkDigestStatus : List Field := [F.CHK_DIGEST_STATUS_valid, F.CHK_DIGEST_STATUS_diverged, F.CHK_DIGEST_STATUS_member]
def Rec.chkCanaryStatus : List Field := [F.CHK_CANARY_STATUS_valid, F.CHK_CANARY_STATUS_rerun_passed,
  F.CHK_CANARY_STATUS_running, F.CHK_CANARY_STATUS_kind, F.CHK_CANARY_STATUS_unit, F.CHK_CANARY_STATUS_entry,
  F.CHK_CANARY_STATUS_passes]
def Rec.chkCoreTest : List Field := [F.CHK_CORE_TEST_result, F.CHK_CORE_TEST_testing, F.CHK_CORE_TEST_tick]
def Rec.chkChrysStatus : List Field := [F.CHK_CHRYS_STATUS_state, F.CHK_CHRYS_STATUS_slot, F.CHK_CHRYS_STATUS_fence,
  F.CHK_CHRYS_STATUS_code]
def Rec.errLoss : List Field := [F.ERR_LOSS_valid, F.ERR_LOSS_declared, F.ERR_LOSS_rank, F.ERR_LOSS_module]
def Rec.errFm : List Field := [F.ERR_FM_fm_seq, F.ERR_FM_code, F.ERR_FM_result, F.ERR_FM_instance]

/-- The word of a register whose fields are all stored: its fields in their places, for element `i`. -/
def State.recWord (s : State) (r : List Field) (i : Nat) : Nat := (r.map (fun f => s.rdAt f i * 2 ^ f.lo)).sum

/-- Detail words of a vector event: VEC_FAULT and VEC_FAULT_PC of physical core `p`. -/
def State.vecRecord (s : State) (p : Nat) : List Nat := [s.recWord Rec.vecFault p, s.recWord Rec.vecFaultPc p]

/-- Raise an event whose block has a record register: the detail is that register as it stands (R346). -/
def State.raiseRec (s : State) (e : Event) (unit : Nat) (r : List Field) (i : Nat := 0) : State := s.raise e unit [s.recWord r i]

/-! ### The NaN trap -/

/-- Tags of the work that wrote a NaN (R73). -/
structure NanTag where
  engine : Nat
  core : Nat
  location : Nat
  tensor : Nat
  mb : Nat
  branch : Nat
  /-- Sequence number of the command that issued the work. -/
  cmd : Nat
deriving DecidableEq, Repr

/-- NaN events (R71, R72): the first of an armed attempt writes an empty record and disarms the trap; every event adds to
the count of the record. Once software has emptied the record, events are not counted until an armed attempt writes it again
(log entry 83). -/
def State.nanEvents (s : State) (t : NanTag) (n : Nat) : State :=
  if n = 0 ∨ s.rd F.ERR_CTRL_nan_trap = 0 then s
  else
    let first := s.job.trapArmed
    let s := if first then { s with job := { s.job with trapArmed := false } } else s
    if s.isSet F.ERR_NAN_RECORD0_valid then s.addSat F.ERR_NAN_RECORD2_count n
    else if first then
      let s := ((((((s.wr F.ERR_NAN_RECORD0_valid 1).wr F.ERR_NAN_RECORD0_engine t.engine).wr F.ERR_NAN_RECORD0_core t.core).wr
        F.ERR_NAN_RECORD0_location t.location).wr F.ERR_NAN_RECORD1_tensor_id t.tensor).wr F.ERR_NAN_RECORD1_micro_batch t.mb).wr
        F.ERR_NAN_RECORD1_branch t.branch
      let s := (((s.wr F.ERR_NAN_RECORD2_count (min n (2 ^ 32 - 1))).wr F.ERR_NAN_RECORD2_command_seq t.cmd).wr
        F.ERR_NAN_RECORD3_instar s.nextInstar).wr F.ERR_NAN_RECORD4_tick s.tick
      let s := ({ s with job := { s.job with nanAttempt := true } }).wr F.UPD_STATUS_nonfinite 1
      s.raise .NAN_TRAP 0xFFFF [2 ^ 63 + t.engine * 2 ^ 60 + t.core % 256 * 2 ^ 52 + t.location % 2 ^ 48,
        t.tensor % 2 ^ 24 * 2 ^ 40 + t.mb % 4096 * 2 ^ 28 + t.branch % 16 * 2 ^ 24, n * 2 ^ 32 + t.cmd, s.nextInstar]
    else s

end Sys2Proof.Machine
end

