-- ==== Sys2Proof/Machine/Wiring.lean ====
section
/-! DEFINITION. Machine/Wiring.lean: ports as the router sees them (R286), and the wiring conditions of R256 to R258 and R290. -/

namespace Sys2Proof.Machine

def State.port (s : State) (o : Nat) : PortSt := sget {} s.links.ports o
def State.setPort (s : State) (o : Nat) (p : PortSt) : State := { s with links := { s.links with ports := sput s.links.ports o p } }
/-- Code of R286. -/
def State.portState (s : State) (o : Nat) : Nat := s.rdAt F.PORT_STATUS_state o
def State.portClass (s : State) (o : Nat) : Nat := s.rdAt F.PORT_STATUS_role_class o
def State.portIndex (s : State) (o : Nat) : Nat := s.rdAt F.PORT_STATUS_role_index o
/-- An optical port with an intra-group or global role. -/
def State.isFabric (s : State) (o : Nat) : Bool := decide (o < 72) && decide (s.portClass o < 2)
def State.fabricPorts (s : State) : List Nat := (List.range 72).filter s.isFabric
/-- In the router's port set: UP, or UP on lane 0 only. -/
def State.inService (s : State) (o : Nat) : Bool := s.isFabric o && (s.portState o == 4 || s.portState o == 7)
def State.peerAddr (s : State) (o : Nat) : Nat := s.rdAt F.PORT_PEER_peer_addr o

/-- The optical port with front-end role `f`, and whether it is UP. -/
def State.frontPort (s : State) (f : Nat) : Option Nat := (List.range 72).find? (fun o => s.portClass o == 2 && s.portIndex o == f)
def State.frontUp (s : State) (f : Nat) : Bool := match s.frontPort f with
  | some o => s.portState o == 4
  | none => false

def State.setPortState (s : State) (o v : Nat) : State := s.wrAt F.PORT_STATUS_state o v
def popcount4 (n : Nat) : Nat := bit (bitAt n 0) + bit (bitAt n 1) + bit (bitAt n 2) + bit (bitAt n 3)
def popcount8 (n : Nat) : Nat := popcount4 n + popcount4 (n / 16)

/-! ### Wiring (R256 to R258, R290) -/

/-- L of R257 for `n` groups (or slots) of `links` links each, at distance `d`. -/
def linksAt (n links d : Nat) : Nat :=
  let q := links / (n - 1)
  let rem := links - q * (n - 1)
  let h := rem / 2
  if d ≤ h ∨ n - h ≤ d then q + 1
  else if rem % 2 = 1 ∧ 2 * d = n then q + 1
  else q

def State.groups (s : State) : Nat := s.rd F.FAB_TOPO_group_count
/-- Links of the pair of groups of this module and of group `b`. -/
def State.pairLinks (s : State) (b : Nat) : Nat :=
  linksAt s.groups 1248 ((b + s.groups - s.rd F.MOD_ADDR_group) % s.groups)

def ceilDiv (a b : Nat) : Nat := (a + b - 1) / b

/-- Links allowed between this module and a peer in a class (R290). -/
def State.linksAllowed (s : State) (cls peer : Nat) : Nat :=
  if cls = 0 then 1
  else if 2 ≤ s.groups then ceilDiv (s.pairLinks (peer / 32)) 1024
  else
    let d := (peer % 32 + 32 - s.rd F.MOD_ADDR_slot) % 32
    if (1 ≤ d ∧ d ≤ 4) ∨ 28 ≤ d then 2 else 1

/-- Peers over the fabric ports of a class in service. -/
def State.peersOf (s : State) (cls : Nat) : List Nat :=
  ((List.range 72).filter (fun o => s.inService o && s.portClass o == cls)).map s.peerAddr

/-- This module's links meet R256 to R258: one link to every other slot of its group; all 39 global ports in service, none of them
within the group or beyond the machine, and to each other group no more than its share, nor less than the other slots' shares leave. -/
def State.balancedNow (s : State) : Bool :=
  let g := s.rd F.MOD_ADDR_group
  let me := s.rd F.MOD_ADDR_slot
  let intra := s.peersOf 0
  let glob := s.peersOf 1
  let own (b : Nat) : Nat := (glob.filter (fun x => x / 32 == b)).length
  (List.range 32).all (fun k => k == me || intra.count (g * 32 + k) == 1) &&
  (if 2 ≤ s.groups then
    glob.length == 39 && glob.all (fun m => m / 32 != g && decide (m / 32 < s.groups) &&
      decide (glob.count m ≤ ceilDiv (s.pairLinks (m / 32)) 1024)) &&
    (List.range s.groups).all (fun b => b == g ||
      (decide (own b ≤ ceilDiv (s.pairLinks b) 32) && decide (s.pairLinks b - 31 * ceilDiv (s.pairLinks b) 32 ≤ own b)))
  else (List.range 32).all (fun k => k == me || glob.count (g * 32 + k) == s.linksAllowed 1 (g * 32 + k)))

/-- The counts of FAB_TOPO follow the ports. -/
def State.showTopo (s : State) : State :=
  ((s.wr F.FAB_TOPO_global_up (s.peersOf 1).length).wr F.FAB_TOPO_intra_up (s.peersOf 0).length).wrBit F.FAB_TOPO_balanced s.balancedNow

end Sys2Proof.Machine
end

