-- ==== Sys2Proof/Machine/LinkTx.lean ====
section
/-! DEFINITION. Machine/LinkTx.lean: the sending side of a link: LINK flits (R287), the CRC, link counts and the retry buffer (R292), the
virtual channels and the arbiter of an output (R266, R267), hot outputs (R269), leaving KEEPALIVE (R294), and the route of a flit
(R263 to R265). -/

namespace Sys2Proof.Machine

/-- The 64 payload bytes of a LINK flit: its subtype in byte 0 and content from byte `at_` (R287). -/
def linkBytes (kind at_ : Nat) (content : List Byte) : List Byte :=
  let b := leBytes 1 kind ++ List.replicate (at_ - 1) 0 ++ content
  (b ++ List.replicate (64 - b.length) 0).take 64

/-- Send a LINK flit. -/
def State.sendLink (s : State) (o : Nat) (body : List Byte) : State :=
  let p := s.port o
  (s.setPort o { p with sentAt := s.tick }).send (.link o (body.headD 0).toNat (body.map BitVec.toNat))

/-! ### The CRC (R292) -/

/-- One bit of the CRC-64 of ECMA-182, polynomial 0x42F0_E1EB_A9EA_3693, most significant bit first, and `n` of them. -/
def crcBits : Nat → Nat → Nat
  | 0, c => c
  | n + 1, c => crcBits n (if 2 ^ 63 ≤ c then Nat.xor (c * 2 % 2 ^ 64) 0x42F0E1EBA9EA3693 else c * 2)

def crcBytes (c : Nat) (bs : List Byte) : Nat := bs.foldl (fun c b => crcBits 8 (Nat.xor c (b.toNat * 2 ^ 56))) c

/-- Words 0 to 2 of the envelope (R260), as little-endian bytes (log entry 85). -/
def envelopeBytes (f : Flit) : List Byte :=
  leBytes 8 (f.dstModule * 2 ^ 48 + f.dstAddr) ++
  leBytes 8 (f.srcModule * 2 ^ 48 + f.epoch * 2 ^ 32 + f.seq * 2 ^ 16 + f.type.code * 2 ^ 12 + f.cls * 2 ^ 10 +
    (f.payload.length / 64 - 1) * 2 ^ 8 + bit f.nonmin * 2 ^ 7 + f.hops * 2 ^ 4 + f.poison) ++
  leBytes 8 (f.jobId * 2 ^ 32 + f.step * 2 ^ 16 + f.replay * 2 ^ 12 + f.via * 2 + bit f.ordered)

/-- The crc word of a flit under a link count. -/
def flitCrc (count : Nat) (f : Flit) : Nat :=
  Nat.xor (2 ^ 64 - 1) (crcBytes (Nat.xor (2 ^ 64 - 1) count) (envelopeBytes f ++ f.payload))

/-- Put a non-LINK flit on the link under the next count, with its crc; it enters the retry buffer (R292). -/
def State.linkPut (s : State) (o : Nat) (f : Flit) : State :=
  let p := s.port o
  let f := { f with port := o, crc := flitCrc p.tx f }
  let p := { p with tx := (p.tx + 1) % 2 ^ 16, retry := p.retry ++ [(p.tx, f)], sentAt := s.tick, dataAt := s.tick }
  (s.setPort o p).send (.flit f)

/-! ### Virtual channels and the arbiter (R266, R267) -/

/-- The virtual channel of a hop: min(h, 3) of the flit's class. -/
def channelOf (f : Flit) : Nat := 4 * f.cls + min f.hops 3

/-- Flits that wait in the channels of a class. -/
def PortSt.depth (p : PortSt) (cls : Nat) : Nat := ((p.vcs.filter (fun c => c.1 / 4 == cls)).map (fun c => c.2.length)).sum
def PortSt.waiting (p : PortSt) : Nat := (p.vcs.map (fun c => c.2.length)).sum

/-- The channel whose first flit is the oldest of a class. -/
def PortSt.oldest (p : PortSt) (cls : Nat) : Option (Nat × Queued) :=
  (p.vcs.filter (fun c => c.1 / 4 == cls)).foldl (fun b c => match c.2, b with
    | [], _ => b
    | q :: _, none => some (c.1, q)
    | q :: _, some x => if q.order < x.2.order then some (c.1, q) else some x) none

/-- The output without the first flit of a channel. -/
def PortSt.popChannel (p : PortSt) (k : Nat) : PortSt := match sget [] p.vcs k with
  | _ :: q :: qs => { p with vcs := sput p.vcs k (q :: qs) }
  | _ => { p with vcs := sdel p.vcs k }

/-- The arbiter's next grant (R267): control first; where collective and bulk contend, the counter of contested grants gives the
collective class the first `weight` of every sixteen (log entry 86). -/
def PortSt.grant (p : PortSt) (weight : Nat) : Option (Flit × PortSt) :=
  match p.oldest 2, p.oldest 0, p.oldest 1 with
  | some x, _, _ => some (x.2.flit, p.popChannel x.1)
  | none, some c, some b =>
    let x := if p.grants % 16 < weight then c else b
    some (x.2.flit, { p.popChannel x.1 with grants := (p.grants + 1) % 16 })
  | none, some x, none => some (x.2.flit, p.popChannel x.1)
  | none, none, some x => some (x.2.flit, p.popChannel x.1)
  | none, none, none => none

/-! ### Hot outputs (R269) -/

def State.hotOf (s : State) (o : Nat) : HotSt := sget {} s.fab.hot o

/-- Since when the output's queue of collective and bulk class has held hot_depth flits, or stayed below half of it. -/
def State.noteHot (s : State) (o : Nat) : State :=
  let h := s.hotOf o
  let lim := s.rd F.FAB_HOT_CTRL_hot_depth
  let d := h.wire + (s.port o).depth 0 + (s.port o).depth 1
  let h := { h with fullSince := (if !h.hot && decide (lim ≤ d) then some (h.fullSince.getD s.tick) else none),
                    lowSince := (if h.hot && decide (2 * d < lim) then some (h.lowSince.getD s.tick) else none) }
  { s with fab := { s.fab with hot := sset {} s.fab.hot o h } }

/-! ### Sending -/

/-- All locked lanes are back (R294). -/
def State.leaveKeepalive (s : State) (o : Nat) : State :=
  (s.wrAt F.PORT_STATUS_state o 4).wrAt F.PORT_STATUS_lanes_up o (s.port o).locked

/-- Send waiting flits as the arbiter grants them, while the port is UP and the retry buffer has room, at most `n`. -/
def State.grantPort : Nat → State → Nat → State
  | 0, s, _ => s
  | n + 1, s, o =>
    if s.portState o = 4 ∧ (s.port o).retry.length < 1024 then
      match (s.port o).grant (s.rd F.FAB_CTRL_coll_weight) with
      | some (f, p) => grantPort n ((s.setPort o p).linkPut o f) o
      | none => s
    else s

/-- Send what may leave an output now. -/
def State.drainPort (s : State) (o : Nat) : State := (State.grantPort (s.port o).waiting s o).noteHot o

/-- Hand a flit to an output port: it waits in its virtual channel while the port retrains or the retry buffer is full; in KEEPALIVE the
port sends WAKE first (R294). -/
def State.portSend (s : State) (o : Nat) (f : Flit) : State :=
  let s := if s.portState o = 7 then (s.sendLink o (linkBytes 9 1 [])).leaveKeepalive o else s
  let p := s.port o
  let k := channelOf f
  let s := s.setPort o { p with vcs := sput p.vcs k (sget [] p.vcs k ++ [⟨f, s.links.arrivals⟩]) }
  ({ s with links := { s.links with arrivals := s.links.arrivals + 1 } }).drainPort o

/-! ### Routes (R263 to R265) -/

/-- Ports the router may send on: in service, or retraining (R293). -/
def State.outputs (s : State) : List Nat := s.fabricPorts.filter (fun o => s.inService o || s.portState o == 6)

/-- The flit starts here: its source router chooses its route, and no other router chooses again (R264). -/
def State.routesHere (s : State) (f : Flit) : Bool := f.srcModule == s.self && f.hops == 0

/-- A way to begin a route: its first port, its hops, and whether it leads to a link reported hot (R269). -/
structure Way where
  port : Nat
  hops : Nat
  hot : Bool := false
deriving DecidableEq, Repr

/-- The route of a flit: its first port, and whether it is non-minimal, through which group. -/
structure Route where
  port : Nat
  nonmin : Bool := false
  via : Nat := 0
deriving DecidableEq, Repr

/-- dep(o) of R264. -/
def State.dep (s : State) (cls : Nat) (w : Way) : Nat :=
  if w.hot then 255 else min 255 ((s.hotOf w.port).wire + (s.port w.port).depth cls)

/-- Ways over a link to the destination itself. -/
def State.directWays (s : State) (dst : Nat) : List Way := (s.outputs.filter (fun o => s.peerAddr o == dst)).map (fun o =>
  { port := o, hops := 1, hot := s.portClass o == 1 && bitAt (s.rd F.FAB_HOT_GLOBAL_hot) (s.portIndex o) })

/-- Ways over this module's own global links to group `g`, and over those of the other slots of its group; the hops count to `dst`. -/
def State.ownWays (s : State) (g dst : Nat) : List Way :=
  (s.outputs.filter (fun o => s.portClass o == 1 && s.peerAddr o / 32 == g)).map (fun o =>
    { port := o, hops := if s.peerAddr o = dst then 1 else 2, hot := bitAt (s.rd F.FAB_HOT_GLOBAL_hot) (s.portIndex o) })
def State.slotWays (s : State) (g dst : Nat) : List Way :=
  let near := s.outputs.filter (fun o => s.portClass o == 0)
  near.flatMap (fun o => (List.range 39).filterMap (fun p =>
    let far := Config.slotLink s.tick (s.peerAddr o % 32) p
    if far / 32 = g then some { port := o, hops := if far = dst then 2 else 3, hot := bitAt (sget 0 s.fab.peerHot (s.peerAddr o % 32)) p }
    else none))

/-- The way whose first hop has the shortest queue (R263); of several the one of fewest hops, on the lowest-numbered port. -/
def State.bestWay (s : State) (cls : Nat) (ws : List Way) : Option Way :=
  ws.foldl (fun b w => match b with
    | none => some w
    | some x =>
      if s.dep cls w < s.dep cls x ∨ (s.dep cls w = s.dep cls x ∧ (w.hops < x.hops ∨ (w.hops = x.hops ∧ w.port < x.port))) then some w else b) none

/-- The way of fewest hops, on the lowest-numbered port (R265). -/
def firstWay (ws : List Way) : Option Way :=
  ws.foldl (fun b w => match b with
    | none => some w
    | some x => if w.hops < x.hops ∨ (w.hops = x.hops ∧ w.port < x.port) then some w else b) none

/-- No link reported hot and nothing queued before the flit: no other way costs less. -/
def State.freeWay (s : State) (cls : Nat) (ws : List Way) : Option Way := ws.find? (fun w => s.dep cls w == 0)

/-- The minimal route of an unordered flit. -/
def State.minWay (s : State) (f : Flit) : Option Way :=
  let d := s.directWays f.dstModule
  let g := f.dstModule / 32
  match s.freeWay f.cls d with
  | some w => some w
  | none => if g = s.self / 32 then s.bestWay f.cls d else s.bestWay f.cls (s.ownWays g f.dstModule ++ s.slotWays g f.dstModule)

/-- A random intermediate slot of the group, or intermediate group, and the way that begins a route through it. How many hops the
route makes from an intermediate group on is not known here. -/
def State.viaWay (s : State) (f : Flit) (k : Nat) : Option (Way × Nat) :=
  let r := Config.router (2 * s.drawn + k) 0
  let own := s.self / 32
  let g := f.dstModule / 32
  if g = own then
    let l := (List.range 32).filter (fun x => 32 * own + x != s.self && 32 * own + x != f.dstModule)
    (s.bestWay f.cls ((s.directWays (32 * own + l.getD (r % l.length) 0)).map (fun w => { w with hops := 2 }))).map (fun w => (w, own))
  else
    let l := (List.range s.groups).filter (fun x => x != own && x != g)
    let via := l.getD (r % l.length) own
    let rest := 1 + Config.router (2 * s.drawn + k) 1 % 3
    if via = own then none
    else (s.bestWay f.cls (((s.ownWays via 0xFFFF).map (fun w => { w with hops := 1 + rest })) ++
        ((s.slotWays via 0xFFFF).map (fun w => { w with hops := 2 + rest })))).map (fun w => (w, via))

/-- The cheaper of the two random non-minimal routes (R264). -/
def State.nonminWay (s : State) (f : Flit) : Option (Way × Nat) :=
  let cost (x : Way × Nat) : Nat := s.dep f.cls x.1 * x.1.hops
  match s.viaWay f 0, s.viaWay f 1 with
  | some x, some y => if cost y < cost x then some y else some x
  | some x, none => some x
  | none, y => y

/-- The source router's choice for an unordered flit (R264) (log entry 35). -/
def State.chooseRoute (s : State) (f : Flit) : Option Route :=
  let m := s.minWay f
  let cmin := match m with
    | some w => s.dep f.cls w * w.hops
    | none => 0xFFFFFFFF
  let minimal : Option Route := m.map (fun w => { port := w.port })
  if s.isSet F.FAB_CTRL_nonmin_enable && decide (0 < cmin) then
    match s.nonminWay f with
    | some x => if s.dep f.cls x.1 * x.1.hops + s.rd F.FAB_CTRL_bias < cmin then some { port := x.1.port, nonmin := true, via := x.2 } else minimal
    | none => minimal
  else minimal

/-- The path of an ordered flow (R265): the one it holds, or the minimal one of fewest hops; a module of the same group whose direct
link is not in service is reached through another slot (log entry 35). -/
def State.flowPort (s : State) (f : Flit) : Option Nat :=
  let g := f.dstModule / 32
  match sget? s.fab.flows f.dstModule with
  | some o => if s.outputs.contains o then some o else none
  | none => match firstWay (s.directWays f.dstModule) with
    | some w => some w.port
    | none => (firstWay (if g = s.self / 32 then
          (s.outputs.filter (fun o => s.peerAddr o / 32 == g)).map (fun o => { port := o, hops := 2 })
        else s.ownWays g f.dstModule ++ s.slotWays g f.dstModule)).map (fun w => w.port)

/-- The next hop of a flit in transit (R263): towards its intermediate group while it is in its source's, then towards its
destination; after a hop within the group the next one leaves it, or ends the route. -/
def State.transitPort (s : State) (f : Flit) : Option Nat :=
  let own := s.self / 32
  let g := f.dstModule / 32
  if (if f.nonmin then 5 else if f.srcModule / 32 = g then 2 else 3) ≤ f.hops then none
  else if g = own then (firstWay (s.directWays f.dstModule)).map (fun w => w.port)
  else
    let to_ := if f.nonmin && f.srcModule / 32 == own && f.via != own then f.via else g
    let pick := if f.ordered then firstWay else s.bestWay f.cls
    match pick (s.ownWays to_ f.dstModule) with
    | some w => some w.port
    | none => if s.portClass f.port = 0 then none else (pick (s.slotWays to_ f.dstModule)).map (fun w => w.port)

/-- Route a flit and hand it to its port. A flit that has no way on is dropped here and recovered by its source (R262). -/
def State.route (s : State) (f : Flit) : State :=
  if !s.routesHere f then
    match s.transitPort f with
    | some o => s.portSend o f
    | none => s
  else if f.ordered then
    match s.flowPort f with
    | some o => ({ s with fab := { s.fab with flows := sput s.fab.flows f.dstModule o } }).portSend o f
    | none => s
  else
    match s.chooseRoute f with
    | none => s
    | some r =>
      let s := { s with drawn := s.drawn + 1 }
      (if r.nonmin then s.add F.FAB_NONMIN_FLITS_count 1 else s).portSend r.port { f with nonmin := r.nonmin, via := r.via }

end Sys2Proof.Machine
end

