-- ==== Sys2Proof/Machine/Send.lean ====
section
/-! DEFINITION. Machine/Send.lean: how the module sends flits: envelopes (R260), sequence spaces and the window of R262, and
the wait of ordered flits behind unordered ones (R265). -/

namespace Sys2Proof.Machine

/-- Key of a sequence space: module and ordered bit. -/
def spaceKey (m : Nat) (ordered : Bool) : Nat := 2 * m + bit ordered

def State.txSpace (s : State) (k : Nat) : TxSpace := sget {} s.fab.tx k
def State.setTx (s : State) (k : Nat) (x : TxSpace) : State := { s with fab := { s.fab with tx := sput s.fab.tx k x } }
def State.rxSpace (s : State) (k : Nat) : RxSpace := sget {} s.fab.rx k
def State.setRx (s : State) (k : Nat) (x : RxSpace) : State := { s with fab := { s.fab with rx := sput s.fab.rx k x } }

/-- The envelope the module puts on a flit (R260): its own address, epoch, job and attempt. -/
def State.envelope (s : State) (dst addr : Nat) (ty : FlitType) (cls : Nat) (ordered : Bool) (poison : Nat)
    (payload : List Byte) : Flit :=
  { dstModule := dst, dstAddr := addr, srcModule := s.self, epoch := s.epoch % 2 ^ 16, seq := 0, type := ty, cls := cls,
    nonmin := false, hops := 0, poison := poison, jobId := s.jobId, step := s.nextInstar % 2 ^ 16, replay := s.replay,
    via := 0, ordered := ordered, payload := payload }

/-- Inject a flit into the fabric and count it (FAB_TX_FLITS). -/
def State.emit (s : State) (f : Flit) : State := (s.add F.FAB_TX_FLITS_count 1).route f

/-- Give a flit the next number of its space and send it (R262). -/
def State.launch (s : State) (k : Nat) (f : Flit) (tag : Nat) : State :=
  let x := s.txSpace k
  let f := { f with seq := x.next }
  (s.setTx k { x with next := (x.next + 1) % 2 ^ 16, unacked := x.unacked ++ [⟨f, s.tick, 1, tag⟩] }).emit f

/-- A flit must wait: its space's window of 4,096 is full, others wait before it, or it is ordered and unordered flits to
its module are unacknowledged (R262, R265) (log entry 81). -/
def State.mustWait (s : State) (f : Flit) : Bool :=
  let x := s.txSpace (spaceKey f.dstModule f.ordered)
  !x.waiting.isEmpty || decide (4096 ≤ x.unacked.length) ||
    (f.ordered && !((s.txSpace (spaceKey f.dstModule false)).unacked.isEmpty && (s.txSpace (spaceKey f.dstModule false)).waiting.isEmpty))

/-- Send a sequenced flit (any type but ACK and LINK); `tag` names the DMA transfer it belongs to. -/
def State.sendFlit (s : State) (f : Flit) (tag : Nat := 0) : State :=
  let k := spaceKey f.dstModule f.ordered
  if s.mustWait f then
    let x := s.txSpace k
    s.setTx k { x with waiting := x.waiting ++ [⟨f, s.tick, 0, tag⟩] }
  else s.launch k f tag

/-- Send waiting flits of a space as far as the window lets them, at most `n` (R262). -/
def State.drainTx : Nat → State → Nat → State
  | 0, s, _ => s
  | n + 1, s, k =>
    let x := s.txSpace k
    match x.waiting with
    | [] => s
    | t :: ts =>
      let f := t.flit
      if 4096 ≤ x.unacked.length then s
      else if f.ordered && !((s.txSpace (spaceKey f.dstModule false)).unacked.isEmpty &&
          (s.txSpace (spaceKey f.dstModule false)).waiting.isEmpty) then s
      else drainTx n ((s.setTx k { x with waiting := ts }).launch k f t.tag) k

/-- Some flit of a DMA transfer is not yet acknowledged (R144, R262). -/
def State.tagPending (s : State) (tag : Nat) : Bool :=
  s.fab.tx.any (fun p => (p.2.unacked ++ p.2.waiting).any (fun t => t.tag == tag))

/-- Bytes filled with zeros to whole granules, one at least (R260). -/
def granulePad (bs : List Byte) : List Byte := bs ++ List.replicate (max 64 ((bs.length + 63) / 64 * 64) - bs.length) 0

/-- The 64 payload bytes of a READ_REQ: what asks (0 a transfer, 1 a refetch, 2 a resend, 3 a takeover pull), its context,
the bytes asked for and the instar (log entry 7). -/
def readReqBytes (kind context count instar : Nat) : List Byte :=
  leBytes 8 kind ++ leBytes 8 context ++ leBytes 8 count ++ leBytes 8 instar ++ leBytes 32 0

/-! ### Control messages (R310, R352, R353) -/

/-- A barrier message's 64 bytes (R310). -/
def barrierBytes (kind replay round code cause flags count instar origin digest : Nat) : List Byte :=
  leBytes 1 kind ++ leBytes 1 replay ++ leBytes 1 round ++ leBytes 1 code ++ leBytes 1 cause ++ leBytes 1 flags ++
  leBytes 1 count ++ leBytes 1 0 ++ leBytes 8 instar ++ leBytes 2 origin ++ leBytes 6 0 ++ leBytes 32 digest ++ leBytes 8 0

/-- Bytes a to a + n − 1 of a message as a number. -/
def field (bs : List Byte) (a n : Nat) : Nat := leNat ((bs.drop a).take n)

/-- Send a barrier message as a CONTROL flit, ordered, control class, dst_addr zero (R310). -/
def State.sendBarrier (s : State) (dst kind code cause flags count origin digest : Nat) : State :=
  s.sendFlit (s.envelope dst 0 .control 2 true 0
    (barrierBytes kind s.replay s.barrier.round code cause flags count s.nextInstar origin digest))

/-- A job heartbeat or loss notice, dst_addr 0x1 (R352, R353). -/
def noticeBytes (kind epoch rank by_ : Nat) : List Byte :=
  leBytes 8 kind ++ leBytes 4 epoch ++ leBytes 4 0 ++ leBytes 2 rank ++ leBytes 2 by_ ++ leBytes 44 0

def State.sendNotice (s : State) (dst kind rank by_ : Nat) : State :=
  s.sendFlit (s.envelope dst 1 .control 2 true 0 (noticeBytes kind s.epoch rank by_))

end Sys2Proof.Machine
end

