-- ==== Sys2Proof/Machine/UpdTable.lean ====
section
/-! DEFINITION. Machine/UpdTable.lean: instar banks and their headers (R228, R229), the update table, its stripes and its
checks (R226, R230 to R233), hyperparameter sets (R232, R238), the customer image (R245), and the loads of both. -/

namespace Sys2Proof.Machine

/-- The lowest code of a list of (condition, code). -/
def lowestCode (cs : List (Bool × Nat)) : Nat :=
  cs.foldl (fun a c => if c.1 && (a == 0 || decide (c.2 < a)) then c.2 else a) 0

/-- The first non-zero answer over a list of items. -/
def firstBad {α : Type} (f : α → Nat) : List α → Option (α × Nat)
  | [] => none
  | a :: as => if f a = 0 then firstBad f as else some (a, f a)

/-! ### Entries (R231) -/

def ueSlot (e : List Nat) : Nat := fld (wd e 0) 63 60
def ueLayout (e : List Nat) : Nat := fld (wd e 0) 59 58
def ueGradFmt (e : List Nat) : Nat := fld (wd e 0) 57 53
def ueWorkFmt (e : List Nat) : Fmt := (Fmt.ofCode (fld (wd e 0) 52 48)).getD .fp32
def ueHyper (e : List Nat) : Nat := fld (wd e 0) 47 45
def ueClip (e : List Nat) : Bool := bitAt (wd e 0) 44
def ueCount (e : List Nat) : Nat := fld (wd e 0) 39 0
def ueIdMaster (e : List Nat) : Nat := fld (wd e 1) 63 40
def ueFirst (e : List Nat) : Nat := fld (wd e 1) 39 0
def ueIdM1 (e : List Nat) : Nat := fld (wd e 2) 63 40
def ueIdM2 (e : List Nat) : Nat := fld (wd e 2) 39 16
def ueIdWork (e : List Nat) : Nat := fld (wd e 3) 63 40
def ueRows (e : List Nat) : Nat := fld (wd e 3) 39 20
def ueCols (e : List Nat) : Nat := fld (wd e 3) 19 0
def ueOff (e : List Nat) : Nat := fld (wd e 4) 47 0
def ueGrad (e : List Nat) : Nat := fld (wd e 5) 47 0
def ueWork (e : List Nat) (bank : Nat) : Nat := fld (wd e (6 + bank)) 47 0
def ueFrozen (e : List Nat) : Bool := ueLayout e == 3
def ueFactored (e : List Nat) : Bool := ueLayout e == 2
def ueStripes (e : List Nat) : Nat := (ueCount e + 2047) / 2048

/-- Bytes of `n` elements stored under R42: the elements, then a scale byte per 32 for an MX format. -/
def planeBytes (f : Fmt) (n : Nat) : Nat := n * f.bits / 8 + (if f.isMx then n / 32 else 0)

/-- Stripe size (R230). -/
def stripeSize (e : List Nat) : Nat :=
  match ueLayout e with
  | 0 => 12416
  | 3 => planeBytes (ueWorkFmt e) 2048
  | _ => 10304

/-- Offsets within a stripe: second-moment elements, first-moment scales, second-moment scales; W at 0, M1 at 8,192. -/
def m2Off : Nat := 10240
def m1ScaleOff (e : List Nat) : Nat := if ueLayout e = 0 then 12288 else 10240
def m2ScaleOff : Nat := 12352

def pad64 (n : Nat) : Nat := (n + 63) / 64 * 64

/-- Offset of the row factors in the extent, of the column factors, and the extent's length. -/
def rowFactorOff (e : List Nat) : Nat := ueStripes e * stripeSize e
def colFactorOff (e : List Nat) : Nat := rowFactorOff e + pad64 (4 * ueRows e)
def factorBytes (e : List Nat) : Nat := pad64 (4 * ueRows e) + pad64 (4 * ueCols e)
def extentBytes (e : List Nat) : Nat := ueStripes e * stripeSize e + (if ueFactored e then factorBytes e else 0)

/-! ### Stripes of the shard (R226) -/

/-- Stripe `g` of the shard: entry index, entry, stripe within the entry. The numbering runs over the entries other than
FROZEN (DEDUCED) (log entry 60). -/
def findStripe : List (List Nat) → Nat → Nat → Option (Nat × List Nat × Nat)
  | [], _, _ => none
  | e :: es, i, g =>
    if ueFrozen e then findStripe es (i + 1) g
    else if g < ueStripes e then some (i, e, g)
    else findStripe es (i + 1) (g - ueStripes e)

def State.stripeAt (s : State) (g : Nat) : Option (Nat × List Nat × Nat) := findStripe s.upd.table 0 g

/-- Stripes of the shard, and the number of the first stripe of an entry. -/
def stripeTotal (t : List (List Nat)) : Nat := ((t.filter (fun e => !ueFrozen e)).map ueStripes).sum
def State.shardStripes (s : State) : Nat := stripeTotal s.upd.table
def State.firstStripe (s : State) (i : Nat) : Nat := stripeTotal (s.upd.table.take i)
/-- Index in the shard of an entry's first parameter. -/
def State.firstParam (s : State) (i : Nat) : Nat := ((s.upd.table.take i).map ueCount).sum

def State.engineUp (s : State) (q : Nat) : Bool := s.isSetAt F.UPD_ENGINE_in_service q
/-- The engine a stripe belongs to: s mod 4, or the next in service (R226). -/
def State.engineOf (s : State) (g : Nat) : Nat :=
  (((List.range 4).map (fun k => (g + k) % 4)).find? s.engineUp).getD (g % 4)

/-! ### Bank headers (R229) -/

/-- The first byte of an instar bank (R228). -/
def State.bankBase (s : State) (b : Nat) : Nat := s.regionBase b
def State.bankBytes (s : State) : Nat := s.rdAt F.MEM_REGION_size 0 * unit64M
/-- Word `k` of a bank's header (R229). -/
def State.hdrWord (s : State) (b k : Nat) : Nat := s.load64 (s.bankBase b + 8 * k)
def State.updateCount (s : State) : Nat := s.hdrWord s.bank 1
/-- The generator key held in the instar, the seed of R62 (R229). -/
def State.genKey (s : State) : Nat := s.hdrWord s.bank 3
/-- e of R247, signed. -/
def State.scaleExp (s : State) : Int := sext 16 (fld (s.hdrWord s.bank 4) 15 0)
def State.goodSteps (s : State) : Nat := fld (s.hdrWord s.bank 4) 47 16
/-- The bounds of e, within −126 to 127 (R247). -/
def State.minExp (s : State) : Int := max (sext 8 (s.rd F.UPD_SCALE_CTRL_min_exp)) (-126)
def State.maxExp (s : State) : Int := sext 8 (s.rd F.UPD_SCALE_CTRL_max_exp)
/-- r of R248, and the effective exponent of the attempt. -/
def State.reductions (s : State) : Nat := s.rd F.UPD_STATUS_reductions
def State.effExp (s : State) : Int := max (s.scaleExp - s.reductions) s.minExp

/-! ### The customer image (R245) -/

def imgLength (w : List Nat) : Nat := fld (wd w 0) 63 56
def imgLayout (w : List Nat) : Nat := fld (wd w 0) 55 54
def imgHeld (w : List Nat) : Bool := bitAt (wd w 0) 53
/-- Microcode word `k` of an image of 40 words, and constant `k`. -/
def imgCode (w : List Nat) (k : Nat) : Nat := fld (wd w (8 + k / 2)) (31 + 32 * (k % 2)) (32 * (k % 2))
def imgConst (w : List Nat) (k : Nat) : Nat := fld (wd w (1 + k / 2)) (31 + 32 * (k % 2)) (32 * (k % 2))

def ucOpOf (w : Nat) : Nat := fld w 31 26
def ucSel (w : Nat) : Nat := fld w 9 4

/-- The required layout lacks a source or a destination. -/
def imgLacks (layout sel : Nat) : Bool := (sel == 3 && layout != 0) || sel == 4 || sel == 5 || sel == 6

/-- A malformed microcode word. -/
def imgWordBad (w : List Nat) (k : Nat) : Bool :=
  let c := imgCode w k
  let op := ucOpOf c
  decide (0x0E < op) || fld c 3 0 != 0 ||
  (op == 1 && (decide (15 < ucSel c) || imgLacks (imgLayout w) (ucSel c))) ||
  (op == 2 && decide (7 < ucSel c)) ||
  (op == 3 && (ucSel c == 0 || decide (4 < ucSel c) || (ucSel c == 3 && imgLayout w != 0) ||
    (List.range k).any (fun j => ucOpOf (imgCode w j) == 3 && ucSel (imgCode w j) == ucSel c)))

/-- The first failing word of an image, none for a good one. -/
def imgBad (w : List Nat) : Option Nat :=
  let n := imgLength w
  if 64 < n ∨ 1 < imgLayout w ∨ fld (wd w 0) 52 0 ≠ 0 ∨ wd w 5 ≠ 0 ∨ wd w 6 ≠ 0 ∨ wd w 7 ≠ 0 then some 0
  else match (List.range n).find? (fun k => imgWordBad w k) with
    | some k => some k
    | none => if (List.range n).any (fun k => ucOpOf (imgCode w k) == 0) then none else some n

def State.slotHeld (s : State) (slot : Nat) : Bool := slot == 3 || (slot == 4 && imgHeld s.upd.image)
def State.slotLayout (s : State) (slot : Nat) : Nat :=
  match slot with
  | 0 => 0
  | 1 | 2 => 1
  | 3 => 2
  | _ => imgLayout s.upd.image

/-! ### Checks (R233) -/

def State.inHold (s : State) (a n : Nat) : Bool := s.inRegion 4 a n
def gradFmt (e : List Nat) : Option Fmt := match Fmt.ofCode (ueGradFmt e) with
  | some .fp32 => some .fp32
  | some .bf16 => some .bf16
  | some .mxE5m2 => some .mxE5m2
  | _ => none
def workFmtOk (e : List Nat) : Bool := match Fmt.ofCode (fld (wd e 0) 52 48) with
  | some f => f.opClass == some .floating || f.opClass == some .block
  | none => false

def State.hyperAddr (s : State) (k : Nat) : Nat := s.rd F.UPD_HYPER_address + 64 * k
/-- A hyperparameter set or its table is misplaced, or L is zero. -/
def State.hyperBad (s : State) (k : Nat) : Bool :=
  let a := s.hyperAddr k
  let w := s.load64 a
  let t := fld w 47 0
  s.rd F.UPD_HYPER_address % 64 != 0 || !s.inHeap (s.rd F.UPD_HYPER_address) 512 || fld w 63 48 == 0 || t % 64 != 0 ||
    !s.inHeap t (4 * fld w 63 48)

def State.arrival (s : State) : Bool := s.rd F.UPD_CTRL_mode == 0

/-- Codes of entry `e`, after the entries before it. -/
def State.entryCode (s : State) (before : List (List Nat)) (e : List Nat) : Nat :=
  let fz := ueFrozen e
  let off := ueOff e
  let fin := off + extentBytes e
  let work := planeBytes (ueWorkFmt e) (ueCount e)
  let upper := fld (wd e 4) 63 48 != 0 || (!fz && (fld (wd e 5) 63 48 != 0 || fld (wd e 6) 63 48 != 0 || fld (wd e 7) 63 48 != 0))
  lowestCode [
    (decide (4 < ueSlot e) || !workFmtOk e || (!fz && (gradFmt e).isNone) || fld (wd e 0) 43 40 != 0 || fld (wd e 2) 15 0 != 0 ||
      upper || (!ueFactored e && (ueRows e != 0 || ueCols e != 0)), 1),
    (ueCount e == 0 || ueCount e % 32 != 0 || decide (2 ^ 40 < ueFirst e + ueCount e), 2),
    (off % 64 != 0 || decide (off < 256) || decide (s.bankBytes < fin) ||
      before.any (fun x => decide (off < ueOff x + extentBytes x) && decide (ueOff x < fin)), 3),
    (!fz && (ueGrad e % 64 != 0 || !s.inHold (ueGrad e) (planeBytes ((gradFmt e).getD .fp32) (ueCount e)) ||
      (List.range 2).any (fun b => ueWork e b % 64 != 0 || !s.inHeap (ueWork e b) work)), 4),
    (!fz && (ueSlot e != 4 || s.isSet F.UPD_STATUS_ucode_loaded) && ueLayout e != s.slotLayout (ueSlot e), 5),
    (!fz && s.arrival && (ueFactored e || s.slotHeld (ueSlot e)), 6),
    (ueFactored e && (ueRows e * ueCols e != ueCount e || ueCols e % 32 != 0), 7),
    (!fz && s.hyperBad (ueHyper e), 8),
    (!fz && ueSlot e == 4 && !s.isSet F.UPD_STATUS_ucode_loaded, 9),
    (!fz && s.isSet F.SCH_STEP_loaded && s.isSet F.SCH_STEP_frozen, 0x0A)]

/-- The first failing entry, with its code. -/
def State.entriesBad (s : State) : List (List Nat) → List (List Nat) → Option (Nat × Nat)
  | _, [] => none
  | before, e :: es =>
    let c := s.entryCode before e
    if c = 0 then s.entriesBad (before ++ [e]) es else some (c, before.length)

/-- R233 for a table at a place: the code and the entry recorded, none for a good one. -/
def State.tableBad (s : State) (place : Nat × Nat) (es : List (List Nat)) : Option (Nat × Nat) :=
  if place.2 % 64 ≠ 0 ∨ !s.inHeap place.2 (64 * place.1) then some (4, 0xFFFF)
  else if s.arrival && s.isSet F.UPD_CTRL_clip_enable then some (6, 0xFFFF)
  else s.entriesBad [] es

/-- Record a rejection and raise UPD_TABLE_INVALID. -/
def State.rejectTable (s : State) (source code entry : Nat) : State :=
  let s := (((s.wr F.UPD_REJECT_valid 1).wr F.UPD_REJECT_source source).wr F.UPD_REJECT_reason code).wr F.UPD_REJECT_entry entry
  s.raiseRec .UPD_TABLE_INVALID 0xFFFF Rec.updReject

/-- Load the table that UPD_TABLE names (R233). -/
def State.loadTable (s : State) : State :=
  let n := s.rd F.UPD_TABLE_count
  let a := s.rd F.UPD_TABLE_address
  let es := (List.range n).map (fun k => s.loadWords (a + 64 * k) 8)
  match s.tableBad (n, a) es with
  | some b => s.rejectTable 0 b.1 b.2
  | none => ({ s with upd := { s.upd with table := es, place := (n, a) } }).wr F.UPD_STATUS_table_loaded 1

/-- Load the customer image that UPD_UCODE names (R245); an image outside the heap is malformed (DEDUCED) (log entry 61). -/
def State.loadUcode (s : State) : State :=
  let a := s.rd F.UPD_UCODE_address
  let w := s.loadWords a 40
  match (if s.inHeap a 320 then imgBad w else some 0) with
  | some k => s.rejectTable 1 0x0B k
  | none => ({ s with upd := { s.upd with image := w } }).wr F.UPD_STATUS_ucode_loaded 1

/-- Loads that waited run once no step is open (R231, R245). -/
def State.settleLoads (s : State) : State :=
  if s.stepOpen then s
  else
    let s := if s.isSet F.UPD_LOAD_load_table then (s.wr F.UPD_LOAD_load_table 0).loadTable else s
    if s.isSet F.UPD_LOAD_load_ucode then (s.wr F.UPD_LOAD_load_ucode 0).loadUcode else s

/-- LOAD_TABLE: a write of UPD_LOAD.load_table (R231, R233). -/
def execLoadTable (s : State) : Host.Outcome State Fault Refusal :=
  .next (if s.alive then (s.wr F.UPD_LOAD_load_table 1).settleLoads else s)

/-- LOAD_UCODE: a write of UPD_LOAD.load_ucode (R245). -/
def execLoadUcode (s : State) : Host.Outcome State Fault Refusal :=
  .next (if s.alive then (s.wr F.UPD_LOAD_load_ucode 1).settleLoads else s)

/-! ### Hyperparameters at a step open (R238) -/

/-- BC = f32(1 − exp2(f32(f32(t) × log2(β)))). -/
def biasCorr (t beta : Nat) : Nat × Flags :=
  let l := flog2op beta
  let p := fmul (f32OfInt t) l.1
  let x := fexp2 p.1
  let d := fsub 0x3F800000 x.1
  (d.1, ((l.2.join p.2).join x.2).join d.2)

/-- LR, BC1, BC2, H0 to H5 of set `k`, with flags. -/
def State.readHyper (s : State) (t k : Nat) : List Nat × Flags :=
  let w := s.loadWords (s.hyperAddr k) 8
  let l := fld (wd w 0) 63 48
  let lr := if l = 0 then 0 else leNat (s.loadN (fld (wd w 0) 47 0 + 4 * min (t - 1) (l - 1)) 4)
  let h0 := fld (wd w 1) 31 0
  let h1 := fld (wd w 1) 63 32
  let b1 := biasCorr t h0
  let b2 := biasCorr t h1
  ([lr, b1.1, b2.1, h0, h1, fld (wd w 2) 31 0, fld (wd w 2) 63 32, fld (wd w 3) 31 0, fld (wd w 3) 63 32], b1.2.join b2.2)

/-- Set `k` or its entry of the learning-rate table is poisoned (R243). -/
def State.hyperPoison (s : State) (t k : Nat) : Bool :=
  let w := s.loadWords (s.hyperAddr k) 8
  s.poisonAt (s.hyperAddr k) || s.poisonAt (fld (wd w 0) 47 0 + 4 * min (t - 1) (fld (wd w 0) 63 48 - 1))

/-- Show e and good_steps of the committed instar (R254). -/
def State.showScale (s : State) : State :=
  (s.wr F.UPD_SCALE_committed_exp (toCode 16 s.scaleExp)).wr F.UPD_SCALE_good_steps s.goodSteps

/-- Keep NV, OF and UF of the update engines (R239, R66). -/
def State.updFlags (s : State) (f : Flags) : State :=
  ((s.wr F.UPD_FLAGS_nv (max (s.rd F.UPD_FLAGS_nv) (bit f.nv))).wr F.UPD_FLAGS_of (max (s.rd F.UPD_FLAGS_of) (bit f.of))).wr
    F.UPD_FLAGS_uf (max (s.rd F.UPD_FLAGS_uf) (bit f.uf))

/-- What the engines compute and write at each step open or replay: t, the sets and the attempt record (R238, R248). -/
def State.openUpd (s : State) : State :=
  let t := (s.updateCount + 1) % 2 ^ 64
  let sets := (List.range 8).map (fun k => s.readHyper t k)
  let eff := s.effExp
  let rec_ := [s.nextInstar, t, s.reductions % 256 * 2 ^ 48 + toCode 16 eff * 2 ^ 32 + f32Pow2 eff, 0] ++
    (List.range 4).map (fun k => wd (sets.getD (2 * k) ([], {})).1 0 + wd (sets.getD (2 * k + 1) ([], {})).1 0 * 2 ^ 32)
  let a := s.rd F.UPD_ATTEMPT_ADDR_address
  let marks := (List.range 8).map (s.hyperPoison t)
  let s := { s with upd := { s.upd with t := t, hyper := sets.map Prod.fst, hyperMarks := marks } }
  let s := ((((((s.showScale.wr F.UPD_FLAGS_nv 0).wr F.UPD_FLAGS_of 0).wr F.UPD_FLAGS_uf 0).wr F.UPD_STATUS_nonfinite 0).wr
    F.UPD_STATUS_phase 0).wr F.UPD_STATUS_stripes_done 0).wr F.UPD_SCALE_effective_exp (toCode 16 eff)
  let s := s.updFlags (sets.foldl (fun f x => f.join x.2) {})
  if a % 64 == 0 && s.inHeap a 64 then s.storeN a (wordBytes rec_) (marks.any (fun b => b)) else s

end Sys2Proof.Machine
end

