-- ==== Sys2Proof/Machine/Attempt.lean ====
section
/-! DEFINITION. Machine/Attempt.lean: what ends an attempt (R33, R189, R216, R262, R166), votes FAIL and the decision DISCARD
(R311 to R313, R350, R351), the module states HELD and DRAINING, and what opens and closes with a boundary (R28). -/

namespace Sys2Proof.Machine

/-! ### Messages to the fault manager -/

/-- DIRECTIVE_RESULT on both management networks (R357, R428), and ERR_FM.result. -/
def State.answer (s : State) (code fmSeq result : Nat) : State :=
  let rs := ((fmSeq, code, result) :: s.mgmt.results).take 64
  let s := { s with mgmt := { s.mgmt with results := rs } }
  (s.wr F.ERR_FM_result result).mgmtAll [0] 0x07 [fmSeq, code, result]

/-- Answer APPLIED to every directive of a code whose result waited (R357). -/
def State.finishDirectives (s : State) (code : Nat) : State :=
  let done := s.ev.waiting.filter (fun w => w.1 == code)
  done.foldl (fun t w => t.answer w.1 w.2.1 0)
    { s with ev := { s.ev with waiting := s.ev.waiting.filter (fun w => w.1 != code) } }

/-! ### Ring commands that wait for steps (R221) -/

/-- The result of a started command 0x21 to 0x25, once what it waits for has come. A STEP_RUN whose first step never opens,
because the module has left RUNNING and HELD, ends ABANDONED (log entry 30). -/
def State.stepResult (s : State) (c : RingCmd) : Option (Nat × Nat) :=
  let op := fld (wd c.words 0) 31 24
  if op = 0x21 then (if s.mode == .running || s.mode == .held then none else some (6, s.instar))
  else if op = 0x22 then
    -- a step held in DISCARDED will still replay
    (if !s.stepOpen && !s.isSet F.SCH_RUN_running && !(s.step == .discarded && s.mode == .held) then some (0, s.instar) else none)
  else if op = 0x23 then
    (if wd c.words 2 ≤ s.instar then some (0, s.instar) else if s.mode == .running then none else some (6, s.instar))
  else if op = 0x24 ∨ op = 0x25 then (if s.mode == .draining && s.chrys.writer.isNone then some (0, s.instar) else none)
  else none

/-- Give their results to the started ring commands whose condition holds. -/
def State.settleSteps (s : State) : State :=
  { s with rings := smap (fun _ r => { r with cmds := r.cmds.map (fun c =>
      if c.started && c.result.isNone then (match s.stepResult c with
        | some x => { c with result := some x }
        | none => c) else c) }) s.rings }

/-! ### Queues, rings and memory at the end of an attempt -/

/-- R189 for one queue: items of the ended attempt go, items pushed with no step open stay (R188), the open packet closes,
the sticky conditions clear, the last popped value is zero and a forwarder's credits are the remote depth. -/
def State.resetQueue (s : State) (q : Nat) : State :=
  let x := sget {} s.queues q
  let keep := x.items.filter (fun i => i.att == none)
  let y : Queue := { x with
    items := keep, last := none, open_ := none, pktLen := 0, inPacket := false, shown := 0, abortDue := false, owed := 0,
    backlog := [], waiting := [], since := s.tick,
    head := x.head + (x.items.length - keep.length), stallRaised := false }
  let s := { s with queues := sput s.queues q y }
  let s := s.clearAt [F.QUE_STATUS_underrun, F.QUE_STATUS_overrun, F.QUE_STATUS_frame_err] q
  if s.isSetAt F.QUE_CFG_forward q then s.wrAt F.QUE_STATUS_credits q (2 ^ s.rdAt F.QUE_FWD_remote_log2_depth q) else s

def State.resetQueues (s : State) : State := (s.queues.map Prod.fst).foldl State.resetQueue s

/-- A queue wait of the command engine ends with status ABANDONED (R189): the QUEUE_PUSH commands that wait on FULL. -/
def State.abandonPushes (s : State) : State :=
  { s with rings := smap (fun _ r => { r with cmds := r.cmds.map (fun c =>
      if c.started && c.result.isNone && fld (wd c.words 0) 31 24 == 1 then { c with result := some (6, c.moved) } else c) }) s.rings }

/-- Waits of threads, wing queues and the molt logic end with the attempt; those of the rings stay (R198). -/
def Waiter.survives : Waiter → Bool
  | .ring _ => true
  | _ => false

def State.endWaits (s : State) : State :=
  { s with waits := s.waits.filter (fun w => Waiter.survives w.who),
           stalled := s.stalled.filter (fun w => Waiter.survives w.who) }

/-- Tile-store content outside resident ranges and all operand-cache content becomes undefined (R166). -/
def State.undefineStores (s : State) : State :=
  let m := { s.mem with tile := s.mem.tile.discardOutside s.drawn s.residentBytes, oc := s.mem.oc.discardOutside s.drawn [] }
  { s with mem := m, drawn := s.drawn + 1 }

/-- R262: both ends reset every sequence space; what is unacknowledged is abandoned. Remote ADDs of the rings, which belong to
no attempt (R198), are marked to be sent again (`moved` 1). -/
def State.resetSpaces (s : State) : State :=
  { s with
    fab := { s.fab with tx := [], rx := [], colls := [], early := [] },
    rings := smap (fun _ x => { x with cmds := x.cmds.map (fun c =>
      if c.tag ≠ 0 ∧ c.result.isNone then { c with moved := 1 } else c) }) s.rings }

/-- A node sends its DECISION before it acts (R313): one that still waits behind unordered flits (R265) leaves before the
reset abandons what it waits for (log entry 81). -/
def State.flushDecisions (s : State) : State :=
  s.fab.tx.foldl (fun t p =>
    if p.2.waiting.any (fun x => x.flit.type == .control && x.flit.dstAddr == 0 && field x.flit.payload 0 1 == 0x11) then
      p.2.waiting.foldl (fun t x => t.launch p.1 x.flit x.tag) t
    else t) s

/-- The update engines' work of the attempt goes; the table, the image and the regeneration due stay. -/
def State.resetUpd (s : State) : State :=
  let u := { s.upd with
    norm := 0, normSpecial := 0, normBad := false, clipBad := false, chunks := [], normDone := false, normOr := false, stripes := [], factors := [],
    header := false, rerun := [], copying := false, uc := {} }
  ({ s with upd := u }).wr F.UPD_STATUS_phase 0

/-- The array of every core drops its work; stopped wings stay stopped until the next open or replay (R86, R100). The row engine's
cached contexts outlast a molt, save where a flush waited for its work to end (R105). -/
def State.resetArrays (s : State) : State :=
  let flush := (s.row.map Prod.fst).filter (s.isSetAt F.ROW_CTRL_flush_ctx)
  let s := { s with
    arr := smap (fun _ a => { stopFw := a.stopFw, stopHw := a.stopHw }) s.arr
    row := smap (fun p r => { stopped := r.stopped, cache := if flush.contains p then [] else r.cache }) s.row }
  flush.foldl (fun t p => t.wrAt F.ROW_CTRL_flush_ctx p 0) s

/-- After a discard the row engine keeps nothing in its cache (R125). -/
def State.dropContexts (s : State) : State := { s with row := smap (fun _ r => { r with cache := [] }) s.row }

/-- Every thread returns to IDLE, launches are abandoned, and nothing is kept of the fetched program (R140, R145). -/
def VecSt.ended (v : VecSt) : VecSt :=
  { v with
    icache := [], head := none, launches := [],
    threads := smap (fun _ (t : Thread) => { t with st := .idle, left := 0 }) v.threads }

/-- Vector work, transfers and waiting counter operations of the attempt are abandoned; a ring's transfers run on, and send again what the reset of
the sequence spaces took (R140, R198, R262). -/
def State.resetVec (s : State) : State :=
  { s with
    vec := smap (fun _ v => VecSt.ended v) s.vec,
    xfers := s.xfers.filterMap (fun x => match x.owner with
      | .ring _ _ => some { x with asked := false, got := [], gotPoison := [] }
      | _ => none),
    ops := s.ops.filter (fun o => match o.owner with
      | .ring _ _ => true
      | _ => false) }

/-- What every end of an attempt does, by molt or by discard. -/
def State.endAttempt (s : State) : State :=
  let s := (((((s.flushDecisions.resetQueues.abandonPushes.endWaits).undefineStores).resetSpaces).resetUpd).resetArrays).resetVec
  let fenced := allCores.filter (fun n => s.suspect n && (s.sched.fenced.contains n || (sget? s.sched.standin n).isNone))
  let sc := { s.sched with wings := [], queues := [], entries := [], resv := [], waiting := [], passes := [], segFailed := false, fenced := fenced }
  let s := { s with sched := sc, canary := { failed := s.canary.failed, rerun := s.canary.rerun }, test := { s.test with deferred := false },
                    mirror := { s.mirror with asked := [] }, job := { s.job with digests := [], digestDone := false } }
  let s := (s.wr F.SCH_COCOON_free (s.rdAt F.MEM_REGION_size 6 * 1024)).clear [F.SCH_COCOON_reserved_units,
    F.SCH_COCOON_CTRL_fw_stalled, F.SCH_COCOON_CTRL_bw_stalled]
  ((s.wr F.CHK_CANARY_STATUS_running 0).wr F.CHK_TEST_STATUS_deferred 0).wr F.FAB_COLL_STATUS_in_flight 0

/-- The instar that a granule's bank holds: of this module's bank, or of the half of the mirror held for its rank (R173, R327). -/
def State.heldInstar (s : State) (g : Nat) (mirror : Bool) : Nat :=
  let half := if mirror then (g - s.regionBase 2) / (max 1 s.job.heldBank * unit64M) else s.regionOf g
  if half = s.bank then s.instar else s.nextInstar

/-- Ask the partner for its copy of a granule, which lies at the granule's offset in its mirror region (R327). -/
def State.askPartner (s : State) (g instar : Nat) : State :=
  s.sendFlit (s.envelope s.partner (s.job.mirrorAt + g) .readReq 1 false 0 (readReqBytes 1 g 64 instar))

/-- Send the request of a refetch or a resend. -/
def State.askCopy (s : State) (r : Refetch) : State :=
  if r.resend then
    let a := r.granule - s.regionBase 2
    s.sendFlit (s.envelope (match s.heldRank with
      | some k => s.moduleOf k
      | none => 0xFFFF) a .readReq 1 false 0 (readReqBytes 2 a 64 r.instar))
  else s.askPartner r.granule r.instar

/-- The requests that a reset of the spaces abandoned are sent again, unless their bank no longer holds what they named (R173, R262). -/
def State.askAgain (s : State) : State :=
  let keep := s.mem.refetches.filter (fun r => s.heldInstar r.granule r.resend == r.instar)
  let s := keep.foldl State.askCopy { s with mem := { s.mem with refetches := keep } }
  match s.chrys.writer with
  | some w => w.asked.foldl (fun t g => t.askPartner g w.instar) s
  | none => s

/-- After a flip, a discard or a rise of the epoch the spaces of the epoch and attempt that follow become the current ones. -/
def State.promoteRx (s : State) : State :=
  let now (x : RxSpace) : Bool := x.att == (s.epoch, s.nextInstar, s.replay)
  { s with fab := { s.fab with rx := s.fab.rx ++ smap (fun _ x => { x with att := (0, 0, 0) }) (s.fab.later.filter (fun p => now p.2)),
                               later := s.fab.later.filter (fun p => !now p.2) } }

/-! ### Module states -/

/-- The wait for ready ends (CHK_INPUT_WAIT). -/
def State.endInputWait (s : State) : State :=
  match s.job.waitSince with
  | some t => ({ s with job := { s.job with waitSince := none } }).add F.CHK_INPUT_WAIT_ticks (s.tick - t)
  | none => s

/-- Enter HELD (R27): no step opens; committed state and kept inputs stay. -/
def State.enterHeld (s : State) : State :=
  if s.mode == .running then (((({ s with mode := .held }).endInputWait).finishDirectives 4).settleLoads).settleSteps else s

/-- Enter DRAINING (R27): the job stops; a discarded step stays DISCARDED (R34). Ring commands and directives that wait for it end
by their own rules. -/
def State.enterDraining (s : State) : State :=
  if s.mode == .running || s.mode == .held then
    let st : StepState := if s.step == .discarded then .discarded else .none
    ((({ s.endInputWait with mode := .draining, step := st, job := { s.endInputWait.job with boundary := none, losses := [] } }).clear
      [F.SCH_RUN_running, F.SCH_RUN_stopping, F.SCH_RUN_steps_left]).finishDirectives 9).settleLoads.settleSteps
  else s

/-- A step boundary has been reached: a HOLD, DRAIN or JOB_END that waited takes effect (R28, R221). -/
def State.atBoundary (s : State) : State :=
  match s.job.boundary with
  | some .hold => ({ s with job := { s.job with boundary := none } }).enterHeld
  | some _ => s.enterDraining
  | none => s

/-! ### Discards -/

/-- Discard the open step (R33): its effects end, the replay count rises (never past 15, R351) and the cause is recorded.
The module then stays DISCARDED for a replay, or is held. -/
def State.discardStep (s : State) (cause origin : Nat) (hold : Bool) : State :=
  if s.stepOpen && s.step != .discarded then
    let full := decide (15 ≤ s.replay)
    let s := if full then { s with job := { s.job with exhausted := true } } else s
    let s := s.endAttempt.dropContexts
    let s := ((((s.wr F.MOD_STEP_replay_count (min (s.replay + 1) 15)).addSat F.CHK_MOLT_COUNT_discards 1).wr
      F.CHK_MOLT_LAST_valid 1).wr F.CHK_MOLT_LAST_cause cause).wr F.CHK_MOLT_LAST_origin origin
    let hold := hold || full || s.job.holdAfter
    let s := ({ s with step := .discarded, barrier := {}, job := { s.job with holdAfter := false } }).promoteRx.askAgain
    let s := if hold then s.enterHeld else s
    s.atBoundary
  else s

/-- The root decides DISCARD (R312, R350): it counts the discard unless its cause is a lost module, sets the hold flag when
the count reaches auto_replay, tells its children and discards. -/
def State.decideDiscard (s : State) (cause origin : Nat) : State :=
  let s := if cause = 7 then s else s.add F.ERR_STATUS_local_discards 1
  let hold := cause != 7 && decide (s.rd F.ERR_CTRL_auto_replay ≤ s.rd F.ERR_STATUS_local_discards)
  let s := s.wr F.CHK_MOLT_STATUS_last_decision 3
  let s := s.kids.foldl (fun t k => t.sendBarrier (t.moduleOf k) 0x11 3 cause (bit hold) (s.rd F.ERR_STATUS_local_discards) origin 0) s
  s.discardStep cause origin hold

/-- The vote FAIL of this node or of its subtree goes up at once, with the first origin and cause (R311); the root decides. -/
def State.passFail (s : State) : State :=
  if s.isRoot then (if s.barrier.recordSent then s else s.decideDiscard s.barrier.cause s.barrier.origin)
  else if s.barrier.sentFail then s
  else
    let s := s.sendBarrier (s.moduleOf (barrierParent s.rank)) 0x10 3 s.barrier.cause 0 0 s.barrier.origin 0
    { s with barrier := { s.barrier with sentUp := true, sentFail := true } }

/-- This node's own vote is FAIL, with its cause unless a child failed first (R311). -/
def State.voteFail (s : State) (cause : Nat) : State :=
  let first := !(s.barrier.kids.any (fun p => p.2 == 3))
  let b := { s.barrier with own := 3, votedAt := s.tick, cause := (if first then cause else s.barrier.cause),
                            origin := (if first then s.rank else s.barrier.origin) }
  ({ s with barrier := b }).passFail

/-- DISCARD_STEP (R316): the module votes FAIL with cause 8, in MOLT_PENDING too, where its READY has gone up before (R30). -/
def State.directedFail (s : State) : State :=
  if (s.step == .opened || s.step == .replaying || s.step == .checking || s.step == .moltPending) && s.barrier.own != 3 then s.voteFail 8 else s

/-- The module votes FAIL (R311) from any step state before MOLT_PENDING; `hold` holds this module after the discard.
After its vote it no longer discards on its own account (R31). With no step open, a rule that holds the job holds it at
once. -/
def State.failStep (s : State) (cause : Nat) (hold : Bool) : State :=
  let s := if hold then { s with job := { s.job with holdAfter := true } } else s
  if s.step == .opened || s.step == .replaying || s.step == .checking then
    if s.barrier.own = 3 then s else s.voteFail cause
  else if hold && (s.step == .none || s.step == .molted || s.step == .discarded) then
    ({ s with job := { s.job with holdAfter := false } }).enterHeld
  else s

/-- A FATAL_JOB event (R341): raise it, fail the step and hold the job (log entry 79). -/
def State.fatalJob (s : State) (e : Event) (unit : Nat) (detail : List Nat) (cause : Nat) : State :=
  (s.raise e unit detail).failStep cause true

/-! ### Memory poison consumed (R172, R174) -/

/-- Record a consumption: the first of an attempt in MEM_POISON_LAST, every one in MEM_POISON_COUNT (R174). -/
def State.consumed (s : State) (point a : Nat) : State :=
  let s := s.addSat F.MEM_POISON_COUNT_consumed 1
  if s.isSet F.MEM_POISON_LAST_valid then s
  else
    let r := match place a with
      | .hbm b => s.regionOf b
      | _ => 0
    (((s.wr F.MEM_POISON_LAST_valid 1).wr F.MEM_POISON_LAST_region r).wr F.MEM_POISON_LAST_point point).wr
      F.MEM_POISON_LAST_address (a / 64 * 64)

/-- The detail word of a poison event: MEM_POISON_LAST. -/
def State.poisonDetail (s : State) : List Nat := [s.recWord Rec.memPoisonLast 0]

/-- `hbm_place` of R158: pseudo-channel and byte offset. -/
def hbmPlace (key a : Nat) : Nat × Nat :=
  let g := a / 256
  let j := g / 2 ^ 22
  let l := g % 2 ^ 22
  let c := l % 24
  let off := l * 256 + a % 256
  if 736 ≤ j then (24 * (j - 736) + c, off)
  else
    let h := mix (key ^^^ l)
    let u := 2 * (h % 2 ^ 16 % 368) + 1
    let u := if u % 23 = 0 then u + 2 else u
    let v := h / 2 ^ 16 % 2 ^ 16 % 736
    let jp := (u * j + v) % 736
    let r := jp % 23
    let r := if c ≤ r then r + 1 else r
    (24 * (jp / 23) + r, off)

/-- The stack of an HBM address (R157). -/
def State.stackOf (s : State) (a : Nat) : Nat := (hbmPlace s.mem.key a).1 / 64

/-- MEM_POISON_FATAL (R172): no clean copy of a committed granule exists. -/
def State.poisonFatal (s : State) (a : Nat) : State :=
  let s := s.consumed 9 a
  s.fatalJob .MEM_POISON_FATAL (s.stackOf a) s.poisonDetail 2

/-- A granule that a reader needs and that is poisoned (R172). -/
def State.firstPoison (s : State) (a n : Nat) : Option Nat := (granules a n).find? s.poisonAt

/-- Ask the partner for a clean copy of a granule (R172, R173): a refetch of a committed granule, or a resend of a mirror
granule; one request serves every reader. With no intact copy the job ends. -/
def State.requestCopy (s : State) (g : Nat) (resend : Bool) : State :=
  if s.mem.refetches.any (fun r => r.granule == g && r.resend == resend) then s
  else if !resend && (s.rankCount = 1 || !s.isSet F.CHK_MIRROR_STATUS_own_complete || s.partner == 0xFFFF) then s.poisonFatal g
  else
    let r : Refetch := { granule := g, instar := s.heldInstar g resend, resend := resend }
    ({ s with mem := { s.mem with refetches := s.mem.refetches ++ [r] } }).askCopy r

/-- A reader meets a poisoned granule that has a copy elsewhere: it is asked for. The consumption is counted once; the reader's
waiting on the same request is none of its own (R173, R174) (log entry 27). -/
def State.meetPoison (s : State) (point b : Nat) (resend : Bool) : State :=
  let g := b / 64 * 64
  match s.mem.refetches.find? (fun r => r.granule == g && r.resend == resend) with
  | some r =>
    if r.counted then s
    else
      let rs := s.mem.refetches.map (fun x => if x = r then { r with counted := true } else x)
      { s with mem := { s.mem with refetches := rs } }.consumed point b
  | none =>
    let t := (s.consumed point b).requestCopy g resend
    { t with mem := { t.mem with refetches := t.mem.refetches.map (fun x =>
        if x.granule == g && x.resend == resend then { x with counted := true } else x) } }

/-- Poison consumed at an address (R172): what is done about it follows from where the granule lies. -/
def State.consumePoison (s : State) (a : Nat) : State :=
  match place a with
  | .hbm b =>
    match s.regionOf b with
    | 2 => s.meetPoison 2 b true
    | 3 =>
      let s := s.consumed 4 b
      let hit := s.job.inputs.zipIdx.filterMap (fun p =>
        if p.1.1 / 64 ≤ b / 64 ∧ b / 64 * 64 < p.1.1 + p.1.2 then some p.2 else none)
      let s := if hit.isEmpty then s
        else ({ s with job := { s.job with repairs := s.job.repairs ++ hit.filter (fun k => !s.job.repairs.contains k) } }).wr
          F.CHK_KEPT_CUR_repair 1
      s.failStep 2 false
    | k =>
      if k = s.bank then s.meetPoison 0 b false
      else if k < 2 then (s.consumed 3 b).failStep 2 false
      else
        let s := s.consumed 5 b
        (s.raise .POISON (s.stackOf b) s.poisonDetail).failStep 2 false
  | .tile n off =>
    if s.tileResident n off 1 then
      let s := s.consumed 7 a
      (s.raise .POISON n s.poisonDetail).failStep 2 true
    else
      let s := s.consumed 6 a
      (s.raise .POISON n s.poisonDetail).failStep 2 false
  | .ocache n _ =>
    let s := s.consumed 6 a
    (s.raise .POISON n s.poisonDetail).failStep 2 false
  | .carve b =>
    let s := s.consumed 8 b
    s.raise .MEM_POISON_CTRL 0xFFFF s.poisonDetail
  | _ => s

end Sys2Proof.Machine
end

