-- ==== Sys2Proof/Machine/LinkRx.lean ====
section
/-! DEFINITION. Machine/LinkRx.lean: the receiving side of a link: the check of an arriving flit, LINK_ACK, RETRY_REQ and what starts a
retrain (R292, R293). -/

namespace Sys2Proof.Machine

/-- The next run of requests for one count (R292). -/
def nakRun (r : Nat × Nat) (c : Nat) : Nat × Nat := if 0 < r.2 ∧ r.1 = c then (c, r.2 + 1) else (c, 1)

/-- A retrain starts on the lanes kept; the peer is told unless it asked (R293). -/
def State.startRetrain (s : State) (o lanes : Nat) (tell : Bool) : State :=
  let was := s.portState o
  let p := s.port o
  let s := (s.wrAt F.PORT_STATUS_lanes_up o lanes).addSatAt F.PORT_LINK_ERR_retrains o (bit (was != 6))
  let before := if was = 6 then p.before else some (s.rdAt F.PORT_PEER_SERIAL_serial o, s.rdAt F.PORT_PEER_peer_port o)
  let s := (s.setPortState o 6).setPort o { p with since := (if was = 6 then p.since else s.tick), before := before, aligned := false,
                                                   retrains := p.retrains + bit (was != 6), peer := [], nakIn := (0, 0), nakOut := (0, 0) }
  let s := s.showTopo
  if tell then s.sendLink o (linkBytes 6 2 (leBytes 1 lanes)) else s

/-- A flit fails its CRC (R292): it is discarded and asked for again; the eighth request in a row for it starts a retrain. -/
def State.crcFails (s : State) (o : Nat) (fec : Bool) : State :=
  let s := if fec then s.addAt F.PORT_FEC_UE_count o 1 else s.addSatAt F.PORT_LINK_ERR_crc_errors o 1
  let p := s.port o
  let r := nakRun p.nakOut p.rx
  let s := (s.setPort o { p with nakOut := r, heardAt := s.tick }).sendLink o (linkBytes 5 2 (leBytes 2 p.rx))
  if 8 ≤ r.2 then s.startRetrain o (s.rdAt F.PORT_STATUS_lanes_up o) true else s

/-- The link layer takes a flit that has passed its CRC: its count, and LINK_ACK at least once per 64 flits and once per microsecond
while flits arrive (R292). -/
def State.linkTake (s : State) (o : Nat) : State :=
  let p := s.port o
  let p := { p with rx := (p.rx + 1) % 2 ^ 16, heardAt := s.tick, dataAt := s.tick, owed := p.owed + 1, nakOut := (0, 0) }
  if 64 ≤ p.owed ∨ p.ackAt + usTicks 1 ≤ s.tick then
    (s.setPort o { p with owed := 0, ackAt := s.tick }).sendLink o (linkBytes 4 2 (leBytes 2 p.rx))
  else s.setPort o p

/-- The link layer checks an arriving flit's CRC under the count it expects, and takes the flit or asks for it again (R292). -/
def State.linkCheck (s : State) (f : Flit) (take : State → State) : State :=
  if f.crc = flitCrc (s.port f.port).rx f then take (s.linkTake f.port) else s.crcFails f.port false

end Sys2Proof.Machine
end

