-- ==== Sys2Proof/Machine/Recv.lean ====
section
/-! DEFINITION. Machine/Recv.lean: what a module does with a flit that reaches it, before its content (R19, R187, R261, R262,
R265): transit, the checks of job, epoch and attempt, sequence numbers and acknowledgements. -/

namespace Sys2Proof.Machine

/-- What becomes of an arriving flit: dropped, held for a later attempt, or taken. -/
inductive Verdict where
  | drop (s : State)
  | hold (s : State)
  | take (s : State)
deriving DecidableEq, Repr

/-- Bytes of an ACK: the highest number accepted in order, and a bitmap of the 64 numbers above it. -/
def ackBytes (x : RxSpace) : List Byte :=
  let cum := (x.next + 2 ^ 16 - 1) % 2 ^ 16
  let map := (List.range 64).foldl (fun a k => if x.above.contains ((x.next + k) % 2 ^ 16) then a + 2 ^ k else a) 0
  leBytes 8 cum ++ leBytes 8 map ++ leBytes 48 0

/-- Send the ACK of a receive space; it carries the epoch and the attempt it acknowledges (log entry 7). -/
def State.sendAck (s : State) (src : Nat) (ordered : Bool) (x : RxSpace) (epoch step replay : Nat) : State :=
  let f := s.envelope src (bit ordered) .ack 2 false 0 (ackBytes x)
  s.emit { f with epoch := epoch % 2 ^ 16, step := step % 2 ^ 16, replay := replay }

/-- Advance past the numbers accepted above. -/
def RxSpace.advance : Nat → RxSpace → RxSpace
  | 0, x => x
  | n + 1, x => if x.above.contains x.next then
      RxSpace.advance n { x with next := (x.next + 1) % 2 ^ 16, above := x.above.erase x.next } else x

/-- A number already accepted. -/
def RxSpace.has (x : RxSpace) (q : Nat) : Bool := newer16 x.next q || x.above.contains q

/-- Accept a number (R262, R265): none where an ordered flit is out of order; the truth value says duplicate. -/
def RxSpace.accept (x : RxSpace) (ordered : Bool) (q tick : Nat) : Option (RxSpace × Bool) :=
  let owe (y : RxSpace) : RxSpace := { y with owed := y.owed + 1, owedSince := if y.owed = 0 then tick else y.owedSince }
  if x.has q then some (owe x, true)
  else if ordered then (if q = x.next then some (owe { x with next := (q + 1) % 2 ^ 16 }, false) else none)
  else some (owe (RxSpace.advance 4096 { x with above := x.above ++ [q] }), false)

/-- Widen the attempt of a flit (R261). -/
def State.flitAttempt (s : State) (f : Flit) : Attempt := ⟨extend16 64 s.nextInstar f.step, f.replay⟩

/-- Attempt `a` is earlier than attempt `b`: steps compare under R6 (R261). -/
def Attempt.before (a b : Attempt) : Bool := newer32 b.step a.step || (a.step == b.step && decide (a.replay < b.replay))

/-- The step is live: OPEN, CHECKING, MOLT_PENDING or REPLAYING. -/
def State.live (s : State) : Bool := s.step != .discarded && s.stepOpen

/-- Kind byte of a control message, and the kind word of a READ_REQ. -/
def flitKind (f : Flit) : Nat := field f.payload 0 1
def flitReadKind (f : Flit) : Nat := field f.payload 0 8

/-- Flits of a later attempt that are taken at once: R187 holds the work of a step, and these are none. Heartbeats, loss notices and
chrysalis messages, and DECISION (R315) (log entry 7). Of an earlier attempt they are dropped like every flit (R261). -/
def attemptFree (f : Flit) : Bool := f.type == .control && (f.dstAddr != 0 || flitKind f == 0x11)

/-- Flits that wait for the attempt to open (R187); MIRROR_DONE belongs to no step. -/
def waitsOpen (f : Flit) : Bool :=
  match f.type with
  | .queueItem | .syncAdd | .collData => true
  | .control => f.dstAddr == 0 && flitKind f != 0x15
  | _ => false

/-- Put a receive space back and send its ACK when 16 flits wait for it. -/
def State.putRx (s : State) (isLater : Bool) (src : Nat) (ordered : Bool) (x : RxSpace) (epoch step replay : Nat) : State :=
  let k := spaceKey src ordered
  let full := decide (16 ≤ x.owed)
  let y : RxSpace := if full then { x with owed := 0 } else x
  let s := if isLater then { s with fab := { s.fab with later := sput s.fab.later k y } } else s.setRx k y
  if full then s.sendAck src ordered x epoch step replay else s

/-- Count a dropped flit (FAB_DROP). -/
def State.dropped (s : State) (f : Field) : State := s.addSat f 1

/-- The space of a later epoch or attempt: the one kept, or a fresh one where a still later attempt of the source appears. -/
def State.laterRx (s : State) (k epoch : Nat) (a : Attempt) : RxSpace :=
  let x := sget {} s.fab.later k
  if x.att = (epoch, a.step, a.replay) then x else { att := (epoch, a.step, a.replay) }

/-- The source has ended this later attempt already: a still later one of it has been seen (log entry 81). -/
def State.ended (s : State) (k epoch : Nat) (a : Attempt) : Bool := match sget? s.fab.later k with
  | none => false
  | some x => newer32 x.att.1 epoch || (x.att.1 == epoch && a.before ⟨x.att.2.1, x.att.2.2⟩)

/-- Check the number of a flit in space `x` and owe its acknowledgement. -/
def State.checkSeq (s : State) (f : Flit) (isLater : Bool) (x : RxSpace) (then_ : State → Verdict) : Verdict :=
  match x.accept f.ordered f.seq s.tick with
  | none => .drop s
  | some (y, dup) =>
    let t := s.putRx isLater f.srcModule f.ordered y f.epoch f.step f.replay
    if dup then .drop (t.dropped F.FAB_DROP_duplicate) else then_ t

/-- The job of the module, and its units, take flits. -/
def State.inJob (s : State) (f : Flit) : Bool := s.job.active && f.jobId == s.jobId

/-- Note that a flit of a module of the job has come (R352). -/
def State.hear (s : State) (m : Nat) : State :=
  if (sget? s.job.heard m).isSome then { s with job := { s.job with heard := sput s.job.heard m s.tick } } else s

/-- An arriving flit, before its content. -/
def State.receive (s : State) (f : Flit) : Verdict :=
  if !s.alive then .drop s
  else if f.dstModule ≠ s.self then
    .drop ((s.add F.FAB_TRANSIT_FLITS_count 1).route { f with hops := f.hops + 1 })
  else
    let s := s.add F.FAB_RX_FLITS_count 1
    if !s.inJob f then .drop (s.dropped F.FAB_DROP_foreign_job)
    else
      let e := extend16 32 s.epoch f.epoch
      let s := s.hear f.srcModule
      if newer32 s.epoch e then .drop (s.dropped F.FAB_DROP_old_epoch)
      else
        let a := s.flitAttempt f
        let opens (t : State) : Verdict := if s.live || !waitsOpen f then .take t else .hold t
        if a.before s.attempt then .drop (s.dropped F.FAB_DROP_old_attempt)
        else
          let k := spaceKey f.srcModule f.ordered
          let later := s.attempt.before a
          if later || newer32 e s.epoch then
            if s.ended k e a then .drop s
            else s.checkSeq f true (s.laterRx k e a) (if later then fun t => if attemptFree f then .take t else .hold t else opens)
          else s.checkSeq f false (s.rxSpace k) opens

/-- A flit is of its command's type and comes over a fabric port that is UP (R286) (log entry 76). -/
def State.arrives (s : State) (f : Flit) (ty : FlitType) : Bool := f.type == ty && s.isFabric f.port && s.portState f.port == 4

/-- Run a handler on a flit that is taken; keep one that is held. -/
def State.onFlit (s : State) (f : Flit) (ty : FlitType) (h : State → State) : State :=
  if !s.arrives f ty then s
  else s.linkCheck f (fun s => match s.receive f with
    | .drop t => t
    | .hold t => { t with fab := { t.fab with held := t.fab.held ++ [f] } }
    | .take t => h t)

/-- Held flits of the current attempt that need not wait further, in arrival order, and the state without them; those of earlier
attempts go. -/
def State.releaseHeld (s : State) : List Flit × State :=
  let mine (f : Flit) : Bool := s.flitAttempt f == s.attempt && (s.live || !waitsOpen f)
  let rest := s.fab.held.filter (fun f => !mine f && !(s.flitAttempt f).before s.attempt)
  (s.fab.held.filter mine, { s with fab := { s.fab with held := rest } })

/-- ACK_TIMER: 2 µs after the first acceptance that is not acknowledged, the ACK is sent (R262). -/
def execAckTimer (src : Nat) (ordered : Bool) (s : State) : Host.Outcome State Fault Refusal :=
  let k := spaceKey src ordered
  let x := s.rxSpace k
  let y := sget {} s.fab.later k
  if !s.alive then .next s
  else if 0 < x.owed && s.past (x.owedSince + usTicks 2) then
    .next ((s.setRx k { x with owed := 0 }).sendAck src ordered x s.epoch s.nextInstar s.replay)
  else if 0 < y.owed && s.past (y.owedSince + usTicks 2) then
    .next (({ s with fab := { s.fab with later := sput s.fab.later k { y with owed := 0 } } }).sendAck src ordered y
      y.att.1 y.att.2.1 y.att.2.2)
  else .next s

end Sys2Proof.Machine
end

