-- ==== Sys2Proof/Machine/Chrys.lean ====
section
/-! DEFINITION. Machine/Chrys.lean: the chrysalis (R364 to R379): triggers, the coordinator, the cut, the pieces, the writer
and its fence. -/

namespace Sys2Proof.Machine

/-! ### Messages (R366) -/

def chrysBytes (kind flags slot code epoch instar rank piece pieces digest : Nat) : List Byte :=
  leBytes 1 kind ++ leBytes 1 flags ++ leBytes 1 slot ++ leBytes 1 code ++ leBytes 4 epoch ++ leBytes 8 instar ++
  leBytes 2 rank ++ leBytes 2 piece ++ leBytes 2 pieces ++ leBytes 2 0 ++ leBytes 32 digest ++ leBytes 8 0

def State.sendChrys (s : State) (dst kind flags slot code instar piece pieces digest : Nat) : State :=
  s.sendFlit (s.envelope dst 2 .control 2 true 0 (chrysBytes kind flags slot code s.epoch instar s.rank piece pieces digest))

/-- The replica set of R319. -/
def State.replicas (s : State) : List Nat := membersOf s.job.shapes (s.rd F.CHK_REPLICA_axis_mask) s.rank

/-! ### The piece (R369, R370, R377) -/

/-- Stripe runs of the entries that meet stripes lo to hi − 1 of the shard. -/
def stripeRuns (lo hi : Nat) : List (List Nat) → Nat → Nat → List PieceRun
  | [], _, _ => []
  | e :: es, i, g =>
    if ueFrozen e then stripeRuns lo hi es (i + 1) g
    else
      let a := max lo g
      let b := min hi (g + ueStripes e)
      let rest := stripeRuns lo hi es (i + 1) (g + ueStripes e)
      if a < b then
        PieceRun.mk 1 i (ueOff e + (a - g) * stripeSize e) ((b - a) * stripeSize e) 0 (b - a) (a - g) :: rest
      else rest

/-- Lay runs out in the data section, each at a multiple of 64. -/
def placeRuns : List PieceRun → Nat → List PieceRun
  | [], _ => []
  | r :: rs, o => { r with dataOff := o } :: placeRuns rs (o + pad64 r.len)

/-- The runs of piece `j` of `n`. -/
def State.pieceRuns (s : State) (j n : Nat) : List PieceRun :=
  let t := s.upd.table
  let total := s.shardStripes
  let idx := t.zipIdx
  let hdr := if j = 0 then [PieceRun.mk 0 0 0 256 0 0 0] else []
  let facs := if j = 0 then (idx.filter (fun p => ueFactored p.1)).map
    (fun p => PieceRun.mk 2 p.2 (ueOff p.1 + rowFactorOff p.1) (factorBytes p.1) 0 0 0) else []
  let frozen := if j = 0 then (idx.filter (fun p => ueFrozen p.1)).map
    (fun p => PieceRun.mk 3 p.2 (ueOff p.1) (extentBytes p.1) 0 0 0) else []
  placeRuns (hdr ++ facs ++ stripeRuns (j * total / n) ((j + 1) * total / n) t 0 0 ++ frozen) 0

def runsBytes (rs : List PieceRun) : Nat := (rs.map (fun r => pad64 r.len)).sum
def mib : Nat := 0x100000
/-- Write commands of the data section, blocks of the directory, and blocks of the piece. -/
def Writer.dataCmds (w : Writer) : Nat := (w.dataLen + mib - 1) / mib
def Writer.dirBlocks (w : Writer) : Nat := (w.runs.length + 63) / 64
def Writer.blocks (w : Writer) : Nat := 1 + w.dirBlocks + (w.dataLen + 4095) / 4096

/-- A directory record (R377). -/
def dirRecord (e : List Nat) (r : PieceRun) : List Byte :=
  let ent := r.kind != 0
  wordBytes [
    r.kind * 2 ^ 60 + (if ent then ueSlot e * 2 ^ 56 + ueLayout e % 4 * 2 ^ 54 + fld (wd e 0) 52 48 * 2 ^ 49 + ueCount e else 0),
    (if ent then wd e 1 else 0), (if ent then ueIdM1 e * 2 ^ 40 + ueIdM2 e * 2 ^ 16 else 0), (if ent then wd e 3 else 0),
    r.off, r.len, r.dataOff, (if r.kind = 1 then r.stripes * 2 ^ 32 + r.first else 0)]

def padTo (n : Nat) (bs : List Byte) : List Byte := (bs ++ List.replicate (n - bs.length) 0).take n

def State.directory (s : State) (w : Writer) : List Byte :=
  padTo (4096 * w.dirBlocks) (w.runs.flatMap (fun r => dirRecord (s.upd.table.getD r.entry []) r))

/-- Local address of a place of the source bank, or of its copy in staging. -/
def State.sourceAddr (s : State) (w : Writer) (r : PieceRun) (k : Nat) : Nat :=
  if w.staged then s.regionBase 5 + r.dataOff + k else s.bankBase w.bank + r.off + k

/-- A byte of the piece's data: from the partner's copy where that was fetched (R373). -/
def State.pieceByte (s : State) (w : Writer) (r : PieceRun) (k : Nat) : Byte :=
  let a := s.sourceAddr w r k
  match sget? w.patches (a / 64 * 64) with
  | some bs => bs.getD (a % 64) 0
  | none => s.peek a

/-- A run of the piece as it lies in the data section, and the data section as it stands now. -/
def State.runData (s : State) (w : Writer) (r : PieceRun) : List Byte :=
  padTo (pad64 r.len) ((List.range r.len).map (fun k => s.pieceByte w r k))
def State.sourceData (s : State) (w : Writer) : List Byte := w.runs.flatMap (s.runData w)

/-- The bytes of data command `k`: those it carried once it has completed, which a later step may have overwritten since (R32, R371). -/
def State.commandData (s : State) (w : Writer) (k : Nat) : List Byte := match sget? w.carried k with
  | some bs => bs
  | none => ((s.sourceData w).drop (k * mib)).take mib

def State.pieceData (s : State) (w : Writer) : List Byte := (List.range w.dataCmds).flatMap (s.commandData w)

/-- The piece header block (R376). -/
def State.pieceHeader (s : State) (w : Writer) : List Byte :=
  let members := s.replicas
  let owner := members.headD s.rank
  let br := branchOf s.job.shapes owner 0
  let i := (br.map (fun b => b.1)).getD 0
  let sh : BranchShape := (br.map (fun b => b.2.1)).getD ⟨1, 1, 1, 1, 1⟩
  let cs := (br.map (fun b => coords b.2.1 b.2.2)).getD []
  let head := leBytes 4 0x59435052 ++ leBytes 2 1 ++ leBytes 2 0 ++ leBytes 4 s.jobId ++ leBytes 4 s.rankCount ++
    leBytes 8 w.instar ++ leBytes 2 owner ++ leBytes 2 s.rank ++ leBytes 2 w.piece ++ leBytes 2 w.pieces ++
    leBytes 1 i ++ leBytes 1 (s.rd F.CHK_REPLICA_axis_mask) ++ ([sh.d, sh.p, sh.t, sh.e, sh.s]).flatMap (leBytes 2) ++
    cs.flatMap (leBytes 2) ++ leBytes 2 0 ++ leBytes 8 (s.rd F.MOD_SERIAL_serial) ++ leBytes 4 w.runs.length ++ leBytes 4 0 ++
    leBytes 8 w.dataLen ++ leBytes 8 w.canary ++ leBytes 32 (Config.shake256 (s.pieceData w)) ++
    leBytes 32 (Config.shake256 (s.directory w))
  padTo 4096 (padTo 256 head ++ padTo 3309 (Config.sign (padTo 256 head)))

/-! ### The plan (R375) -/

def State.planSlots (s : State) : Nat := s.rd F.CHK_CHRYS_PLAN_slots
def State.planWord (s : State) (slot k : Nat) : Nat := s.load64 (s.rd F.CHK_CHRYS_PLAN_address + 64 * slot + 8 * k)
def State.planOk (s : State) (slot : Nat) : Bool :=
  decide (2 ≤ s.planSlots) && decide (s.planSlots ≤ 16) && decide (slot < s.planSlots) &&
  s.inHeap (s.rd F.CHK_CHRYS_PLAN_address) (64 * s.planSlots)

/-- The front-end port for command `k`: both take their turns, and one that is not UP leaves its turns to the other. -/
def State.frontFor (s : State) (k : Nat) : Nat := if s.frontUp (k % 2) || !s.frontUp ((k + 1) % 2) then k % 2 else (k + 1) % 2

/-- One NVMe Write through front-end port `f`: controller, namespace, first block, blocks, what it carries, and its bytes where they are not
read from the module's memory. -/
def State.nvmeWrite (s : State) (f ctrl ns lba blocks what : Nat) (data : List Byte := []) : State :=
  s.send (.link ((s.frontPort f).getD (70 + f)) 0x4E ([ctrl, ns, lba, blocks, what] ++ data.map BitVec.toNat))

/-- Send command `k` of the piece through a front-end port: the data commands, then the directory, then the header block. -/
def State.sendCommand (s : State) (w : Writer) (f k : Nat) : State :=
  let w0 := s.planWord w.slot 0
  let first := s.planWord w.slot 1
  let d := first + 1 + w.dirBlocks
  if k < w.dataCmds then
    s.nvmeWrite f (fld w0 63 56) (fld w0 31 0) (d + 256 * k) (min 256 ((w.dataLen + 4095) / 4096 - 256 * k)) k
  else if k = w.dataCmds then s.nvmeWrite f (fld w0 63 56) (fld w0 31 0) (first + 1) w.dirBlocks k
  else s.nvmeWrite f (fld w0 63 56) (fld w0 31 0) first 1 k

/-- Issue command `k`, and note the port it went to. -/
def State.issueWrite (s : State) (w : Writer) (k : Nat) : State :=
  let s := s.sendCommand w (s.frontFor k) k
  match s.chrys.writer with
  | some x => { s with chrys := { s.chrys with writer := some { x with sentOn := sput x.sentOn k (s.frontFor k) } } }
  | none => s

/-! ### Ends of a writer -/

def State.setChrys (s : State) (c : ChrysSt) : State := { s with chrys := c }
def State.setWriter (s : State) (w : Option Writer) : State := { s with chrys := { s.chrys with writer := w } }

/-- A DONE, told to this module itself when it is the coordinator (R378). -/
def State.countDone (s : State) (instar rank piece pieces digest : Nat) (failed : Bool) : State :=
  match s.chrys.gather with
  | some g =>
    if s.isRoot && g.instar == instar && !failed && !g.dones.any (fun d => d.rank == rank) then
      let g' : Gather := { g with dones := g.dones ++ [DoneRec.mk rank piece pieces digest] }
      ({ s with chrys := { s.chrys with gather := some g' } }).wr F.CHK_CHRYS_COORD_done_count g'.dones.length
    else s
  | none => s

def State.sendDone (s : State) (instar slot piece pieces digest : Nat) (failed : Bool) (code : Nat) : State :=
  if s.isRoot then s.countDone instar s.rank piece pieces digest failed
  else s.sendChrys (s.moduleOf 0) 0x31 (bit failed) slot code instar piece pieces digest

/-- The writer stops with a failure code (R373). -/
def State.stopWriter (s : State) (code : Nat) : State :=
  match s.chrys.writer with
  | none => s
  | some w =>
    let s := (((s.setWriter none).wr F.CHK_CHRYS_STATUS_state 4).wr F.CHK_CHRYS_STATUS_code code).wr F.CHK_CHRYS_STATUS_fence 0
    let s := (s.raiseRec .CHRYSALIS_WRITE_FAIL 0xFFFF Rec.chkChrysStatus).settleSteps
    if code = 5 then s else s.sendDone w.instar w.slot w.piece w.pieces 0 true code

/-! ### The cut (R368, R369, R372) -/

/-- Issue every data command. -/
def State.issueAll (s : State) (w : Writer) : State := (List.range w.dataCmds).foldl (fun t k => t.issueWrite w k) s

/-- Start the writer on bank `s.bank`, which holds the target instar. -/
def State.takeCut (s : State) (instar slot : Nat) : State :=
  let members := s.replicas
  let j := (members.findIdx? (fun r => r == s.rank)).getD 0
  let n := max members.length 1
  let runs := s.pieceRuns j n
  let staging := s.isSet F.CHK_CHRYS_CTRL_staging
  let w : Writer := { instar := instar, slot := slot, bank := s.bank, piece := j, pieces := n, runs := runs,
                      dataLen := runsBytes runs, copying := staging, canary := s.rd F.CHK_CANARY_PASS_instar }
  let s := (((((s.setWriter (some w)).wr F.CHK_CHRYS_INSTAR_instar instar).wr F.CHK_CHRYS_STATUS_slot slot).wr
    F.CHK_CHRYS_BYTES_bytes 0).wr F.CHK_CHRYS_STATUS_code 0).wr F.CHK_CHRYS_STATUS_fence 1
  let s := s.finishDirectives 6
  if !s.planOk slot || decide (fld (s.planWord slot 2) 39 0 < w.blocks) ||
      (staging && decide (s.regionEnd 5 - s.regionBase 5 < w.dataLen)) then s.stopWriter 6
  else if staging then s.wr F.CHK_CHRYS_STATUS_state 1
  else (s.wr F.CHK_CHRYS_STATUS_state 2).issueAll w

/-- A CUT taken by this module (R368): at once with `now`, else held for the molt of its target. -/
def State.onCut (s : State) (now : Bool) (instar slot : Nat) : State :=
  if s.chrys.writer.isSome || decide (instar < s.instar) || (!now && decide (instar ≤ s.instar)) then
    let s := if s.chrys.writer.isSome then s else s.wr F.CHK_CHRYS_STATUS_code 4
    s.sendDone instar slot 0 0 0 true 4
  else if now && instar == s.instar then s.takeCut instar slot
  else { s with chrys := { s.chrys with due := some (instar, slot) } }

/-- The cut of a molt, step 6 of R318. -/
def State.cutAtMolt (s : State) : State :=
  match s.chrys.due with
  | some (n, slot) =>
    if n = s.instar then
      let t := { s with chrys := { s.chrys with due := none } }
      if t.chrys.writer.isSome then t.sendDone n slot 0 0 0 true 4 else t.takeCut n slot
    else s
  | none => s

/-! ### The coordinator (R365, R367, R378) -/

/-- Issue a cut: target and `now` by R367, slot next_slot, the slot's manifest block cleared first, the CUT sent down the
barrier tree before this module acts on it. -/
def State.issueCut (s : State) : State :=
  let now := s.mode == .held
  let target := if now then s.instar else if s.live && !s.barrier.recordSent then s.instar + 1 else s.instar + 2
  let slot := s.rd F.CHK_CHRYS_COORD_next_slot
  let w3 := s.planWord slot 3
  let s := if s.planOk slot then s.nvmeWrite (s.frontFor 0) (fld w3 63 56) (fld w3 31 0) (s.planWord slot 4) 1 0 else s
  let s := { s with chrys := { s.chrys with gather := some (Gather.mk target slot s.tick []) } }
  let s := ((s.wr F.CHK_CHRYS_COORD_gathering 1).wr F.CHK_CHRYS_COORD_done_count 0).wr F.CHK_CHRYS_COORD_pending 0
  let s := s.kids.foldl (fun t k => t.sendChrys (t.moduleOf k) 0x30 (bit now) slot 0 target 0 0 0) s
  s.onCut now target slot

/-- A request reaches the coordinator: served when nothing is gathered, else kept pending (R367). -/
def State.coordRequest (s : State) : State :=
  if !s.isRoot || !s.job.active then s
  else if s.chrys.gather.isSome then s.wr F.CHK_CHRYS_COORD_pending 1
  else s.issueCut

/-- Serve a pending request once nothing is gathered. -/
def State.servePending (s : State) : State :=
  if s.isRoot && s.isSet F.CHK_CHRYS_COORD_pending && s.chrys.gather.isNone && s.job.active then s.issueCut else s

/-- A scheduled instar at the opening of its step (R365): skipped, and counted, while another is gathered. -/
def State.scheduledCut (s : State) : State :=
  let p := s.rd F.CHK_CHRYS_CTRL_period
  if s.isRoot && p != 0 && s.nextInstar % p == 0 then
    if s.chrys.gather.isSome then s.addSat F.CHK_CHRYS_COORD_skipped 1 else s.issueCut
  else s.servePending

/-- A piece list record (R378): this module's own area is the plan's, another's is told by no message (log entry 89). -/
def State.pieceRecord (s : State) (slot : Nat) (d : DoneRec) : List Byte :=
  let area (k : Nat) : Nat :=
    if d.rank = s.rank ∧ k < 3 then
      (if k = 0 then fld (s.planWord slot 0) 63 56 else if k = 1 then fld (s.planWord slot 0) 31 0 else s.planWord slot 1)
    else Config.pieceArea slot d.rank k
  let owner := (membersOf s.job.shapes (s.rd F.CHK_REPLICA_axis_mask) d.rank).headD d.rank
  leBytes 2 owner ++ leBytes 2 d.rank ++ leBytes 2 d.piece ++ leBytes 2 d.pieces ++ leBytes 1 (area 0) ++ leBytes 3 0 ++ leBytes 4 (area 1) ++
    leBytes 8 (area 2) ++ leBytes 8 (area 3) ++ leBytes 32 d.digest

/-- The piece list blocks, in order of writer rank. -/
def State.pieceList (s : State) (g : Gather) : List Byte :=
  let ds := (List.range s.rankCount).filterMap (fun r => g.dones.find? (fun d => d.rank == r))
  let bs := ds.flatMap (s.pieceRecord g.slot)
  padTo (4096 * ((bs.length + 4095) / 4096)) bs

/-- The manifest header, block 0 of the slot's manifest area (R378). -/
def State.manifest (s : State) (g : Gather) : List Byte :=
  let head := leBytes 4 0x59434D46 ++ leBytes 2 1 ++ leBytes 2 g.slot ++ leBytes 4 s.jobId ++ leBytes 4 s.rankCount ++ leBytes 8 g.instar ++
    leBytes 4 g.dones.length ++ leBytes 4 0 ++ leBytes 8 (Config.canaryBound g.instar) ++ leBytes 8 (s.rd F.MOD_SERIAL_serial) ++
    leBytes 32 (Config.shake256 (s.pieceList g))
  padTo 4096 (padTo 256 head ++ padTo 3309 (Config.sign (padTo 256 head)))

/-- Commit (R378): the piece list, then the manifest header, whose write is the commit (log entry 64). -/
def State.commitChrys (s : State) (g : Gather) : State :=
  let w3 := s.planWord g.slot 3
  let first := s.planWord g.slot 4
  let list := s.pieceList g
  let head := s.manifest g
  let s := s.nvmeWrite (s.frontFor 0) (fld w3 63 56) (fld w3 31 0) (first + 1) (list.length / 4096) 1 list
  let s := s.nvmeWrite (s.frontFor 0) (fld w3 63 56) (fld w3 31 0) first 1 2 head
  let s := { s with chrys := { s.chrys with gather := none, raised := false } }
  ((((s.wr F.CHK_CHRYS_LAST_instar g.instar).wr F.CHK_CHRYS_COORD_gathering 0).wr F.CHK_CHRYS_COORD_next_slot
    ((g.slot + 1) % max s.planSlots 1))).servePending

/-- Commit once every piece of the job is there: one per rank. -/
def State.tryCommit (s : State) : State :=
  match s.chrys.gather with
  | some g => if g.dones.length = s.rankCount then s.commitChrys g else s
  | none => s

/-- A warning of R364. -/
def State.warn (s : State) : State :=
  if s.job.active && s.isSet F.CHK_CHRYS_CTRL_on_warning && !s.chrys.raised && (s.mode == .running || s.mode == .held) then
    let s := { s with chrys := { s.chrys with raised := true } }
    let s := s.raise .CHRYSALIS_REQUEST
    if s.isRoot then s.coordRequest else s.sendChrys (s.moduleOf 0) 0x32 0 0 1 s.instar 0 0 0
  else s

/-- A CHRYSALIS directive (R364, R367): a REQUEST of code 2, without the event. -/
def State.directedChrys (s : State) : State :=
  if s.isRoot then s.coordRequest else s.sendChrys (s.moduleOf 0) 0x32 0 0 2 s.instar 0 0 0

/-- A rise of the mapping epoch abandons what has no manifest (R379); the coordinator keeps a request pending. -/
def State.chrysEpoch (s : State) : State :=
  let had := s.chrys.gather.isSome
  let s := s.stopWriter 5
  let s := { s with chrys := { s.chrys with gather := none, due := none } }
  let s := s.wr F.CHK_CHRYS_COORD_gathering 0
  if had && s.isRoot then s.wr F.CHK_CHRYS_COORD_pending 1 else s

/-! ### The fence (R371, R372) -/

/-- Bytes [off, off + len) of the source bank have been passed by the writer: every data command that carries some of them has
completed. -/
def Writer.passed (w : Writer) (off len : Nat) : Bool :=
  !w.copying && (w.staged || w.runs.all (fun r =>
    let lo := r.dataOff + (max off r.off - r.off)
    let hi := r.dataOff + (min (off + len) (r.off + r.len) - r.off)
    (List.range w.dataCmds).all (fun k => decide ((k + 1) * mib ≤ lo) || decide (hi ≤ k * mib) || sget false w.done k)))

/-- A write of a stripe or factor vector into bank `b` must wait. -/
def State.fencedAt (s : State) (b off len : Nat) : Bool := match s.chrys.writer with
  | some w => w.bank == b && !w.passed off len
  | none => false

/-- The incoming-header write into bank `b` must wait: until the writer has ended, or the staging copy has. -/
def State.headerFenced (s : State) (b : Nat) : Bool := match s.chrys.writer with
  | some w => w.bank == b && !w.staged
  | none => false

/-! ### Commands -/

/-- CUT (R366, R368): forwarded to the children, then taken. -/
def execCut (f : Flit) (s : State) : Host.Outcome State Fault Refusal :=
  .next (s.onFlit f .control (fun s =>
    if f.dstAddr ≠ 2 ∨ field f.payload 0 1 ≠ 0x30 ∨ newer32 s.epoch (field f.payload 4 4) then s
    else
      let flags := field f.payload 1 1
      let slot := field f.payload 2 1
      let n := field f.payload 8 8
      let s := s.kids.foldl (fun t k => t.sendChrys (t.moduleOf k) 0x30 (flags % 2) slot 0 n 0 0 0) s
      s.onCut (bitAt flags 0) n slot))

/-- DONE (R366, R378). -/
def execDone (f : Flit) (s : State) : Host.Outcome State Fault Refusal :=
  .next (s.onFlit f .control (fun s =>
    if f.dstAddr ≠ 2 ∨ field f.payload 0 1 ≠ 0x31 ∨ newer32 s.epoch (field f.payload 4 4) then s
    else (s.countDone (field f.payload 8 8) (field f.payload 16 2) (field f.payload 18 2) (field f.payload 20 2)
      (field f.payload 24 32) (bitAt (field f.payload 1 1) 0)).tryCommit))

/-- REQUEST (R366, R367). -/
def execRequest (f : Flit) (s : State) : Host.Outcome State Fault Refusal :=
  .next (s.onFlit f .control (fun s =>
    if f.dstAddr ≠ 2 ∨ field f.payload 0 1 ≠ 0x32 ∨ newer32 s.epoch (field f.payload 4 4) then s else s.coordRequest))

/-- Poisoned source granules of data command `k` that the partner's copy has not replaced. -/
def State.badGranules (s : State) (w : Writer) (k : Nat) : List Nat :=
  (w.runs.flatMap (fun r =>
    let lo := max (k * mib) r.dataOff
    let hi := min ((k + 1) * mib) (r.dataOff + r.len)
    if lo < hi then granules (s.sourceAddr w r (lo - r.dataOff)) (hi - lo) else [])).filter
      (fun g => s.poisonAt g && (sget? w.patches g).isNone)

/-- Poison met by the writer (R172, R373): refetched while the bank is committed; else taken from the partner's copy. -/
def State.writerPoison (s : State) (w : Writer) (g : Nat) : State :=
  if w.staged then s.stopWriter 3
  else if w.bank = s.bank then s.meetPoison 1 g false
  else if s.rankCount = 1 || !s.isSet F.CHK_MIRROR_STATUS_own_complete || s.partner == 0xFFFF then (s.consumed 1 g).stopWriter 3
  else if w.asked.contains g then s
  else
    ((s.consumed 1 g).setWriter (some { w with asked := w.asked ++ [g] })).askPartner g w.instar

/-- Poisoned granules of the source ranges that the partner's copy has not replaced. -/
def State.badSource (s : State) (w : Writer) : List Nat :=
  (w.runs.flatMap (fun r => granules (s.sourceAddr w r 0) r.len)).filter (fun g => s.poisonAt g && (sget? w.patches g).isNone)

/-- STAGING_COPY_DONE (R372): the pieces' ranges stand in staging, and the writer reads them from there. A poisoned granule of the source
is mended first, as for a writer that reads the bank (R172, R373). -/
def execStagingCopyDone (s : State) : Host.Outcome State Fault Refusal :=
  match s.chrys.writer with
  | none => .next s
  | some w =>
    if s.alive && w.copying then
      match (s.badSource w).head? with
      | some g => .next (s.writerPoison w g)
      | none =>
        let s := w.runs.foldl (fun t r => t.storeN (t.regionBase 5 + r.dataOff) (s.runData w r)) s
        let w := { w with copying := false, staged := true, patches := [] }
        .next ((((s.setWriter (some w)).wr F.CHK_CHRYS_STATUS_state 2).wr F.CHK_CHRYS_STATUS_fence 0).issueAll w)
    else .next s

/-- The partner's copy of a granule the writer asked for has come. -/
def State.writerPatch (s : State) (w : Writer) (g : Nat) (data : List Byte) (poison : Bool) : State :=
  if poison then s.stopWriter 3
  else s.setWriter (some { w with asked := w.asked.erase g, patches := sput w.patches g data })

/-- The last Write has completed: the piece is whole (R370). -/
def State.endWriter (s : State) (w : Writer) : State :=
  let d := Config.shake256 (s.pieceHeader w)
  let s := ((s.setWriter none).wr F.CHK_CHRYS_STATUS_state 3).wr F.CHK_CHRYS_STATUS_fence 0
  let s := { s with chrys := { s.chrys with raised := false } }
  ((s.sendDone w.instar w.slot w.piece w.pieces d false 0).tryCommit).settleSteps

/-- A Write has completed (R370). -/
def State.writeDone (s : State) (w : Writer) (k : Nat) : State :=
  let w := { w with done := sput w.done k true, carried := (if k < w.dataCmds then sput w.carried k (s.commandData w k) else w.carried) }
  let s := s.setWriter (some w)
  if k < w.dataCmds then
    let s := s.add F.CHK_CHRYS_BYTES_bytes (min mib (w.dataLen - k * mib))
    if (List.range w.dataCmds).all (fun i => sget false w.done i) then s.issueWrite w w.dataCmds else s
  else if k = w.dataCmds then s.issueWrite w (k + 1)
  else s.endWriter w

/-- The commands that may complete now: data commands, then the directory, then the header. -/
def Writer.mayComplete (w : Writer) (k : Nat) : Bool :=
  !sget false w.done k && !w.copying && decide (k ≤ w.dataCmds + 1) &&
  (decide (k < w.dataCmds) || ((List.range w.dataCmds).all (fun i => sget false w.done i) &&
    (decide (k = w.dataCmds) || sget false w.done w.dataCmds)))

/-- A Write that failed goes to the other port once (R299, R373); failing on both stops the writer. -/
def State.writeFailed (s : State) (w : Writer) (k : Nat) : State :=
  if sget false w.failed k then s.stopWriter 1
  else
    let f := 1 - sget (k % 2) w.sentOn k
    let w := { w with failed := sput w.failed k true, sentOn := sput w.sentOn k f }
    (s.setWriter (some w)).sendCommand w f k

/-- WRITE_COMMAND_COMPLETE (R370, R373): Write `index` of the piece has completed, or failed on its port. -/
def execWriteCommandComplete (index : Nat) (ok : Bool) (s : State) : Host.Outcome State Fault Refusal :=
  match s.chrys.writer with
  | none => .next s
  | some w =>
    if s.alive && w.mayComplete index then
      if !ok then .next (s.writeFailed w index)
      else match (if index < w.dataCmds then (s.badGranules w index).head? else none) with
        | some g => .next (s.writerPoison w g)
        | none => .next (s.writeDone w index)
    else .next s

/-- CHRYSALIS_DONE_TIMEOUT (R379): the coordinator abandons what it gathers. -/
def execChrysalisDoneTimeout (s : State) : Host.Outcome State Fault Refusal :=
  match s.chrys.gather with
  | none => .next s
  | some g =>
    if s.alive && s.past (g.since + sTicks (s.rd F.CHK_CHRYS_CTRL_done_timeout_s)) then
      let s := ({ s with chrys := { s.chrys with gather := none } }).wr F.CHK_CHRYS_COORD_gathering 0
      .next (((s.wr F.CHK_CHRYS_STATUS_code 7).raiseRec .CHRYSALIS_WRITE_FAIL 0xFFFF Rec.chkChrysStatus).servePending)
    else .next s

end Sys2Proof.Machine
end

