-- ==== Sys2Proof/Machine/Queue.lean ====
section
/-! DEFINITION. Machine/Queue.lean: stream queues (R176 to R190): who may use them, packets and cut-through, pushes and pops,
forwarding with credits, and the configuration check of R177. -/

namespace Sys2Proof.Machine

def State.queue (s : State) (q : Nat) : Queue := sget {} s.queues q
def State.setQueue (s : State) (q : Nat) (x : Queue) : State := { s with queues := sput s.queues q x }
def State.depth (s : State) (q : Nat) : Nat := 2 ^ s.rdAt F.QUE_CFG_log2_depth q
def State.queueOn (s : State) (q : Nat) : Bool := decide (q < 8192) && s.isSetAt F.QUE_CFG_enable q
def coreQueue (q : Nat) : Bool := decide (q < 6144)

/-- The logical core that owns a queue, or pops it (R176). -/
def State.queueCore (s : State) (q : Nat) : Nat := if coreQueue q then q / 24 else s.rdAt F.QUE_CFG_consumer_core q

/-- Who may push (R176, R198, R209, R301). -/
def State.mayPush (s : State) (p : Producer) (q : Nat) : Bool :=
  s.queueOn q &&
  (if coreQueue q then
    match p with
    | .core n | .thread n _ => q / 24 == n || s.rdAt F.QUE_CFG_push_sel q == 1
    | .ring _ => !s.isSetAt F.QUE_CFG_forward q
    | .epilogue _ _ => true
    | .scheduler n => q / 24 == n || s.rdAt F.QUE_CFG_push_sel q == 1
    | .bridge _ => true
    | .router => false
  else p == .router)

/-- Core `n`'s engines and threads may pop (R176); the router pops a forwarding queue too. -/
def State.mayPop (s : State) (n q : Nat) : Bool :=
  s.queueOn q && s.queueCore q == n

/-- Items present; those held behind the attempt boundary take places (R187). -/
def State.itemCount (s : State) (q : Nat) : Nat := (s.queue q).items.length + (s.queue q).held.length

/-- FULL: depth items are present (R178). -/
def State.queueFull (s : State) (q : Nat) : Bool := decide (s.depth q ≤ s.itemCount q)

/-- FULL as a producer sees it: another producer's packet is open (R181). -/
def State.fullFor (s : State) (p : Producer) (q : Nat) : Bool :=
  s.queueFull q || (match (s.queue q).open_ with
    | some o => o != p
    | none => false)

/-- Items of the packet at the front: how many are present and whether its end is. -/
def packetRun : List Item → Nat × Bool
  | [] => (0, false)
  | i :: is => if i.fin then (1, true) else let r := packetRun is; (r.1 + 1, r.2)

/-- The front item is visible to the consumer (R183). -/
def State.visible (s : State) (q : Nat) : Bool :=
  let x := s.queue q
  match x.items with
  | [] => false
  | i :: is =>
    if x.inPacket || !i.start || decide (0 < x.shown) then true
    else
      let r := packetRun (i :: is)
      let t := min (s.rdAt F.QUE_CFG_cut_through q) (s.depth q)
      r.2 || (decide (0 < t) && decide (t ≤ r.1)) || s.queueFull q

def State.queueEmpty (s : State) (q : Nat) : Bool := !s.visible q

/-- Note a change of EMPTY or FULL (R190); what a FULL queue shows stays visible (R183). -/
def State.noteQueue (s : State) (q : Nat) (was : State) : State :=
  let s := if s.queueFull q then s.setQueue q { s.queue q with shown := (s.queue q).items.length } else s
  if s.queueEmpty q == was.queueEmpty q && s.queueFull q == was.queueFull q then s
  else s.setQueue q { s.queue q with since := s.tick }

/-- Mark the last item of the open packet as its end (R182). -/
def closeLast : List Item → List Item
  | [] => []
  | [i] => [{ i with fin := true }]
  | i :: is => i :: closeLast is

/-- Poison the last `n` items (R184). -/
def poisonLast (n : Nat) (is : List Item) : List Item :=
  is.zipIdx.map (fun p => if is.length ≤ p.2 + n then { p.1 with poison := true } else p.1)

/-- Put an item in its place of the backing store (R178). -/
def State.storeItem (s : State) (q : Nat) (i : Item) : State :=
  let x := s.queue q
  let place := s.rdAt F.QUE_BACKING_base q + (x.head + x.items.length) % s.depth q * 64
  (s.storeN place i.data i.poison).setQueue q { x with items := x.items ++ [i] }

/-- A push that has room (R181, R182, R184). -/
def State.pushItem (s : State) (p : Producer) (q : Nat) (i : Item) : State :=
  let i := { i with att := if s.stepOpen then some s.attempt else none, by_ := some p }
  let x := s.queue q
  let mine := x.open_ == some p
  if i.start then
    -- a start mark while the producer's own packet is open closes that packet at its last item
    let s := if mine then
      let last : Bool := x.items.isEmpty || x.pktLen = 0
      (s.setQueue q { x with items := closeLast x.items, inPacket := x.inPacket && !last }).wrAt F.QUE_STATUS_frame_err q 1
      else s
    let s := s.storeItem q i
    s.setQueue q { s.queue q with open_ := if i.fin then none else some p, pktLen := if i.fin then 0 else 1 }
  else if mine then
    let long := decide (1024 ≤ x.pktLen)
    let i := if long then { i with fin := true, abort := true } else i
    let s := if long then s.wrAt F.QUE_STATUS_frame_err q 1 else s
    let i := if i.fin && i.abort then { i with poison := true } else i
    let s := s.storeItem q i
    let y := s.queue q
    let items := if i.fin && i.abort then poisonLast (x.pktLen + 1) y.items else y.items
    s.setQueue q { y with items := items, open_ := if i.fin then none else some p, pktLen := if i.fin then 0 else x.pktLen + 1 }
  else
    let s := s.storeItem q i
    if i.fin then s.wrAt F.QUE_STATUS_frame_err q 1 else s

/-- A hardware producer waits on FULL, from now unless it waits already (R180, R190). -/
def State.waitFull (s : State) (p : Producer) (q : Nat) : State :=
  let x := s.queue q
  if x.waiting.any (fun w => w.1 == p) then s else s.setQueue q { x with waiting := x.waiting ++ [(p, s.tick)] }

/-- Its wait is over. -/
def State.endFull (s : State) (p : Producer) (q : Nat) : State :=
  let x := s.queue q
  if x.waiting.any (fun w => w.1 == p) then s.setQueue q { x with waiting := x.waiting.filter (fun w => w.1 != p) } else s

/-- A hardware producer's push: none while it must stall on FULL (R180). -/
def State.hwPush (s : State) (p : Producer) (q : Nat) (i : Item) : Option State :=
  if s.fullFor p q then none else some (((s.pushItem p q i).noteQueue q s).endFull p q)

/-- A push without waiting: discarded with OVERRUN while FULL (R180). -/
def State.tryPush (s : State) (p : Producer) (q : Nat) (i : Item) : State :=
  if s.fullFor p q then (s.wrAt F.QUE_STATUS_overrun q 1).addSatAt F.QUE_COUNT_discarded q 1
  else (s.pushItem p q i).noteQueue q s

/-- The router aborts the packet it has open in a queue whose forwarding module is lost (R184): it pushes an item with the end
and abort marks, whose bytes the manual does not give, once there is a place for it (R180). -/
def State.routerAbort (s : State) (q : Nat) : State :=
  if (s.queue q).open_ == some .router then
    if s.queueFull q then s.setQueue q { s.queue q with abortDue := true }
    else
      let r := (List.range 8).foldl (fun (a : List Nat × State) _ => let d := a.2.draw; (a.1 ++ [d.1], d.2)) ([], s)
      let t := r.2.setQueue q { r.2.queue q with abortDue := false }
      (t.pushItem .router q { data := wordBytes r.1, fin := true, abort := true, poison := true }).noteQueue q s
  else s

/-- Push a list of items as far as they go: the state and how many were accepted. -/
def State.pushAll (p : Producer) (q : Nat) : State → List Item → Nat → State × Nat
  | s, [], n => (s, n)
  | s, i :: is, n => match s.hwPush p q i with
    | some t => pushAll p q t is (n + 1)
    | none => (s.waitFull p q, n)

/-- The router's items enter the queue as far as there are places; it stalls on FULL and never overruns (R180). -/
def State.deliverBacklog (q : Nat) : Nat → State → State
  | 0, s => s
  | n + 1, s => match (s.queue q).backlog with
    | [] => s
    | i :: is => match (s.setQueue q { s.queue q with backlog := is }).hwPush .router q i with
      | some t => deliverBacklog q n t
      | none => s.waitFull .router q

/-- An item that the router delivers (R180). -/
def State.routerPush (s : State) (q : Nat) (i : Item) : State :=
  let x := s.queue q
  State.deliverBacklog q (x.backlog.length + 1) (s.setQueue q { x with backlog := x.backlog ++ [i] })

/-- Credits owed to the forwarder of a fabric-attached queue go back after 16 pops, and at once when it is EMPTY (R186). -/
def State.returnCredits (s : State) (q : Nat) : State :=
  let x := s.queue q
  if coreQueue q || x.owed = 0 then s
  else if 16 ≤ x.owed || s.queueEmpty q then
    let node := s.rdAt F.QUE_FWD_node q
    let m := if s.isSetAt F.QUE_FWD_rank_mode q then s.moduleOf node else node
    (s.setQueue q { x with owed := 0 }).send (.credits m (s.rdAt F.QUE_FWD_remote_queue q) x.owed)
  else s

/-- The bridge engine acknowledges a peer message when its item is popped (R301). -/
def State.ackBridge (s : State) (feed : Nat) : State := if 4 ≤ feed then s.send (.link (72 + feed - 4) 0xBA []) else s

/-- Pop the visible front item (R179, R183). An item whose backing granule or slot is poisoned is poisoned (R178). -/
def State.popFront (s : State) (q : Nat) : Item × State :=
  let x := s.queue q
  match x.items with
  | [] => ({ data := [] }, s)
  | i :: is =>
    let i := { i with poison := i.poison || s.poisonAt (s.rdAt F.QUE_BACKING_base q + x.head % s.depth q * 64) }
    let inside := if i.fin then false else x.inPacket || i.start
    let inside := inside && !(is.isEmpty && x.open_.isNone)
    let owed := if coreQueue q then 0 else x.owed + 1
    let y : Queue := { x with items := is, head := x.head + 1, last := some i, inPacket := inside, shown := x.shown - 1, owed := owed }
    let t := (s.setQueue q y).addAt F.QUE_COUNT_popped q 1
    let t := if x.abortDue then t.routerAbort q else t
    (i, State.deliverBacklog q x.backlog.length (((t.returnCredits q).ackBridge i.feed).noteQueue q s))

/-- A pop without waiting: while EMPTY the last item again, with UNDERRUN (R179). The truth value says whether the item is
a repeated one, which consumes no poison. -/
def State.tryPop (s : State) (q : Nat) : Item × Bool × State :=
  if s.visible q then let r := s.popFront q; (r.1, false, r.2)
  else
    let i := ((s.queue q).last).getD { data := List.replicate 64 0 }
    (i, true, (s.wrAt F.QUE_STATUS_underrun q 1).addSatAt F.QUE_COUNT_discarded q 1)

/-- The attempt that opens takes the items pushed with no step open (R188) and those held for it (R187). -/
def State.openQueue (s : State) (q : Nat) : State :=
  let x := s.queue q
  let mine := x.held.filter (fun i => i.att == some s.attempt)
  let s := s.setQueue q { x with items := x.items.map (fun i => { i with att := some s.attempt }),
                                 held := x.held.filter (fun i => i.att != some s.attempt) }
  mine.foldl (fun t i => t.pushItem .router q i) s

def State.openQueues (s : State) : State := (s.queues.map Prod.fst).foldl State.openQueue s

/-! ### Configuration (R177) -/

/-- The reason code of a configuration that fails the checks of R177; 0 for a valid one. -/
def State.queueError (s : State) (q : Nat) : Nat :=
  let lg := s.rdAt F.QUE_CFG_log2_depth q
  let base := s.rdAt F.QUE_BACKING_base q
  let len := 2 ^ lg * 64
  let backing := s.rdAt F.QUE_CFG_backing q
  let n := s.queueCore q
  let sel := s.rdAt F.QUE_CFG_push_sel q
  if lg < 4 ∨ 16 < lg then 1
  else if base % len ≠ 0 then 2
  else if backing = 0 ∨ backing = 3 then 3
  else if backing = 1 ∧ ¬(tileBase n ≤ base ∧ base + len ≤ tileBase n + 0x3E0000) then 3
  else if backing = 2 ∧ !s.inHeap base len then 3
  else if backing = 1 ∧ s.tileResident n (base - tileBase n) len then 4
  else if (!coreQueue q && s.isSetAt F.QUE_CFG_forward q) then 5
  else if (coreQueue q && sel == 2) || (!coreQueue q && sel != 2) || sel == 3 then 5
  else 0

/-- A write of QUE_CFG (R177): no effect while a step is open; setting enable checks the configuration. -/
def State.writeQueCfg (s : State) (q v : Nat) : State :=
  if s.stepOpen || decide (8192 ≤ q) then s
  else
    let s := ((((((s.wrAt F.QUE_CFG_backing q (fld v 62 61)).wrAt F.QUE_CFG_log2_depth q (fld v 60 56)).wrAt
      F.QUE_CFG_forward q (fld v 55 55)).wrAt F.QUE_CFG_push_sel q (fld v 54 53)).wrAt F.QUE_CFG_consumer_core q
      (fld v 52 45)).wrAt F.QUE_CFG_cut_through q (fld v 44 34))
    if fld v 63 63 = 0 then s.wrAt F.QUE_CFG_enable q 0
    else
      let e := s.queueError q
      if e = 0 then
        let s := (s.wrAt F.QUE_CFG_enable q 1).setQueue q { s.queue q with since := s.tick }
        if s.isSetAt F.QUE_CFG_forward q then s.wrAt F.QUE_STATUS_credits q (2 ^ s.rdAt F.QUE_FWD_remote_log2_depth q) else s
      else ((s.wrAt F.QUE_CFG_enable q 0).wrAt F.QUE_STATUS_cfg_error q e).raise .QUE_CFG_INVALID q

/-! ### Commands -/

/-- QUEUE_ENABLE: a write of QUE_CFG that sets enable (R177). -/
def execQueueEnable (queue value : Nat) (s : State) : Host.Outcome State Fault Refusal :=
  if s.alive then .next (s.writeQueCfg queue (value % 2 ^ 63 + 2 ^ 63)) else .next s

/-- The destination of a forwarding queue (R17, R185). -/
def State.forwardTo (s : State) (q : Nat) : Nat :=
  if s.isSetAt F.QUE_FWD_rank_mode q then s.moduleOf (s.rdAt F.QUE_FWD_node q) else s.rdAt F.QUE_FWD_node q

/-- dst_addr of a QUEUE_ITEM flit: the queue in [12:0], the marks in [15:13] and the source queue in [28:16] (the manual
gives the marks and the source queue no place, log entry 7). -/
def itemAddr (q src : Nat) (i : Item) : Nat :=
  q % 8192 + bit i.start * 2 ^ 13 + bit i.fin * 2 ^ 14 + bit i.abort * 2 ^ 15 + src % 8192 * 2 ^ 16

/-- CREDIT_RETURN: the consumer module gives credits back to a forwarding queue (R186). -/
def execCreditReturn (queue count : Nat) (s : State) : Host.Outcome State Fault Refusal :=
  if s.alive && s.queueOn queue && coreQueue queue && s.isSetAt F.QUE_CFG_forward queue then
    let full := 2 ^ s.rdAt F.QUE_FWD_remote_log2_depth queue
    .next (s.wrAt F.QUE_STATUS_credits queue (min (s.rdAt F.QUE_STATUS_credits queue + count) full))
  else .next s

/-- A queue wait has reached QUE_TIMEOUT: STALL, and QUE_STALL once per attempt (R190). -/
def State.queueStalls (s : State) (q : Nat) : State :=
  let s := s.wrAt F.QUE_STATUS_stall q 1
  if (s.queue q).stallRaised then s
  else (s.setQueue q { s.queue q with stallRaised := true }).raise .QUE_STALL q

end Sys2Proof.Machine
end

