-- ==== Sys2Proof/Machine/Counter.lean ====
section
/-! DEFINITION. Machine/Counter.lean: sync counters (R191 to R196, R203): ADD, SET, READ, the registered waits with their
places, and what a satisfied or timed-out wait does to its waiter. Each command is a clock of its own (R193, log entry 8). -/

namespace Sys2Proof.Machine

def State.counter (s : State) (n : Nat) : Nat := s.rdAt F.SYN_VALUE_value n

/-! ### Threads that wait -/

/-- Key of a thread: scalar core × 32 + slot. -/
def thKey (scalar slot : Nat) : Nat := scalar * 32 + slot

def State.vecAt (s : State) (p : Nat) : VecSt := sget {} s.vec p
def State.setVec (s : State) (p : Nat) (v : VecSt) : State := { s with vec := sput s.vec p v }

/-- A lane group runs in gang mode. -/
def VecSt.inGang (v : VecSt) (scalar : Nat) : Bool := bitAt v.gangMode (scalar / 32)

/-- The number under which the thread of a scalar core's slot is kept: lane 0's in gang mode. -/
def VecSt.home (v : VecSt) (scalar slot : Nat) : Nat :=
  if v.inGang scalar then thKey (scalar / 32 * 32) slot else thKey scalar slot

def VecSt.thread (v : VecSt) (k : Nat) : Thread := sget {} v.threads k
def VecSt.setThread (v : VecSt) (k : Nat) (t : Thread) : VecSt := { v with threads := sput v.threads k t }

/-- A 32-bit register of a lane. -/
def Lane.reg (l : Lane) (k : Nat) : Nat := l.w.getD k 0 % 2 ^ 32
def Lane.regPoison (l : Lane) (k : Nat) : Bool := bitAt l.wp k
/-- Put a bit into a number. -/
def putBit (x k : Nat) (b : Bool) : Nat := if bitAt x k == b then x else if b then x + 2 ^ k else x - 2 ^ k
def Lane.setReg (l : Lane) (k v : Nat) (poison : Bool) : Lane :=
  { l with w := (List.range 8).map (fun j => if j = k then v % 2 ^ 32 else l.reg j), wp := putBit l.wp k poison }
/-- Predicates: p0 reads 1 and is clean; writes to it are ignored (R130). -/
def Lane.pred (l : Lane) (k : Nat) : Bool := k == 0 || bitAt l.p k
def Lane.predPoison (l : Lane) (k : Nat) : Bool := k != 0 && bitAt l.pp k
def Lane.setPred (l : Lane) (k : Nat) (v poison : Bool) : Lane :=
  if k = 0 then l else { l with p := putBit l.p k v, pp := putBit l.pp k poison }

def Thread.lane (t : Thread) (i : Nat) : Lane := t.lanes.getD i {}
def Thread.setLane (t : Thread) (i : Nat) (l : Lane) : Thread := { t with lanes := t.lanes.set i l }

/-- Advance past an instruction. -/
def Thread.advance (t : Thread) : Thread := { t with pc := (t.pc + 4) % 2 ^ 48 }

/-- A lane's wait ends with `ok` in the predicate `pd`: when no lane waits any more the thread runs on (R151, R155). -/
def Thread.endLaneWait (t : Thread) (i pd : Nat) (ok : Bool) : Thread :=
  if t.st == .waiting && bitAt t.left i then
    let t := (t.setLane i ((t.lane i).setPred pd ok false))
    let t := { t with left := putBit t.left i false }
    if t.left = 0 then ({ t with st := .running }).advance else t
  else t

/-! ### Waits -/

/-- General places: 16,384 less the 256 kept for the molt logic and the rings (R196). -/
def generalPlaces : Nat := 16128

def waiterKept : Waiter → Bool
  | .ring _ | .molt => true
  | _ => false

def State.generalWaits (s : State) : Nat := (s.waits.filter (fun w => !waiterKept w.who)).length

/-- The predicate a thread's SYNC WAIT names: the low bits of `mod` of the word at its address. -/
def State.waitPd (s : State) (p k : Nat) : Nat :=
  let v := s.vecAt p
  sget 0 v.icache (v.thread k).pc % 4

/-- What the end of a wait does to its waiter: a thread's lane gets its predicate (R151), a ring command its result (R198),
a wing's segment has its wait behind it (R211). -/
def State.wake (s : State) (w : Waiter) (ok : Bool) (value : Nat) : State :=
  match w with
  | .thread p t =>
    let v := s.vecAt p
    let k := v.home (t / 32) (t % 32)
    let i := if v.inGang (t / 32) then t / 32 % 32 else 0
    s.setVec p (v.setThread k ((v.thread k).endLaneWait i (s.waitPd p k) ok))
  | .ring r =>
    let x := sget {} s.rings r
    let cmds := x.cmds.map (fun c =>
      if c.started && c.result.isNone && fld (wd c.words 0) 31 24 == 5 then
        { c with result := some (if ok then 0 else 1, value) } else c)
    { s with rings := sput s.rings r { x with cmds := cmds } }
  | .wing n hw =>
    let k := 2 * n + bit hw
    let x := sget {} s.sched.wings k
    { s with sched := { s.sched with wings := sput s.sched.wings k { x with waitReg := true, waitDone := true } } }
  | .molt => s

/-- The deadline of a wait registered now (R195): all ones never expires. -/
def State.deadlineOf (s : State) (timeout : Nat) : Option Nat :=
  if timeout % 2 ^ 32 = 0xFFFFFFFF then none else some (s.tick + timeout % 2 ^ 32)

/-- Put a wait into a place, or complete it at once when its target is met (R193); a timeout of 0 tests once (R195). -/
def State.register (s : State) (counter target timeout : Nat) (w : Waiter) : State :=
  if target ≤ s.counter counter then s.wake w true (s.counter counter)
  else if timeout % 2 ^ 32 = 0 then s.wake w false (s.counter counter)
  else
    let s := { s with waits := s.waits ++ [Wait.mk counter target (s.deadlineOf timeout) w] }
    s.wr F.SYN_WAITS_peak (max (s.rd F.SYN_WAITS_peak) s.waits.length)

/-- Issue a WAIT_GE (R191, R196): with no general place free it stalls. -/
def State.waitGe (s : State) (counter target timeout : Nat) (w : Waiter) : State :=
  if waiterKept w || s.generalWaits < generalPlaces then s.register counter target timeout w
  else ({ s with stalled := s.stalled ++ [Stalled.mk counter target timeout w] }).addSat F.SYN_WAITS_stalls 1

/-- Waits that stalled take the places that have come free, oldest first (R196). -/
def State.admitStalled : Nat → State → State
  | 0, s => s
  | n + 1, s => match s.stalled with
    | [] => s
    | w :: ws =>
      if s.generalWaits < generalPlaces then
        admitStalled n (({ s with stalled := ws }).register w.counter w.target w.timeout w.who)
      else s

def State.freePlaces (s : State) : State := s.admitStalled s.stalled.length

/-- A value `v` of counter `n` satisfies a wait, one whose timeout tick has ended no more (R193 to R195). -/
def State.meets (s : State) (n v : Nat) (w : Wait) : Bool :=
  w.counter == n && decide (w.target ≤ v) && (match w.deadline with
    | some d => !s.past d
    | none => true)

/-- Complete the waits that a counter's value satisfies (R193). -/
def State.satisfy (s : State) (n : Nat) : State :=
  let v := s.counter n
  let done := s.waits.filter (s.meets n v)
  if done.isEmpty then s
  else
    (done.foldl (fun (t : State) (w : Wait) => t.wake w.who true v)
      { s with waits := s.waits.filter (fun w => !s.meets n v w) }).freePlaces

/-- ADD (R191): modulo 2^64; a carry sets the sticky wrap bit. -/
def State.syncAdd (s : State) (n v : Nat) : State :=
  let sum := s.counter n + v % 2 ^ 64
  let s := if 2 ^ 64 ≤ sum then s.wrAt F.SYN_STATUS_wrap n 1 else s
  (s.wrAt F.SYN_VALUE_value n sum).satisfy n

/-- SET (R191, R193). -/
def State.syncSet (s : State) (n v : Nat) : State := (s.wrAt F.SYN_VALUE_value n v).satisfy n

def counterOk (n : Nat) : Bool := decide (n < 131072)

/-! ### Commands -/

/-- SYN_VALUE_WRITE: a CSR write of SYN_VALUE is a SET (R193, R203). -/
def execSynValueWrite (counter value : Nat) (s : State) : Host.Outcome State Fault Refusal :=
  .next (if s.alive && counterOk counter then s.syncSet counter value else s)

/-- SYN_ADD_WRITE: a CSR write of SYN_ADD is an ADD (R191, R203). -/
def execSynAddWrite (counter value : Nat) (s : State) : Host.Outcome State Fault Refusal :=
  .next (if s.alive && counterOk counter then s.syncAdd counter value else s)

/-- The word SYN_WAITS shows (R203). -/
def State.synWaits (s : State) : Nat :=
  s.rd F.SYN_WAITS_stalls * 2 ^ 32 + s.rd F.SYN_WAITS_peak * 2 ^ 15 + s.waits.length

/-- A read of SYN_WAITS returns the peak and restarts it at the count registered now (R203). -/
def State.readSynWaits (s : State) : State :=
  (s.send (.reply 1 [s.synWaits])).wr F.SYN_WAITS_peak s.waits.length

/-- SYN_WAITS_READ (R203). -/
def execSynWaitsRead (s : State) : Host.Outcome State Fault Refusal :=
  .next (if s.alive then s.readSynWaits else s)

/-- WAIT_TIMEOUT: a registered wait whose timeout tick has ended unsatisfied times out (R194, R195). -/
def execWaitTimeout (who : Waiter) (s : State) : Host.Outcome State Fault Refusal :=
  match s.waits.find? (fun w => w.who == who) with
  | none => .next s
  | some w =>
    match w.deadline with
    | none => .next s
    | some d =>
      if s.past d then
        .next ((({ s with waits := s.waits.erase w }).wake w.who false (s.counter w.counter)).freePlaces)
      else .next s

end Sys2Proof.Machine
end

