-- ==== Sys2Proof/Machine/Dma.lean ====
section
/-! DEFINITION. Machine/Dma.lean: DMA descriptors and transfers (R143, R144): the checks at issue, the layouts of R77, remote
ends, completion, and what a failed transfer does to its issuer. -/

namespace Sys2Proof.Machine

/-! ### The descriptor (R143) -/

def dSrcNode (d : List Nat) : Nat := fld (wd d 0) 63 48
def dSrc (d : List Nat) : Nat := fld (wd d 0) 47 0
def dDstNode (d : List Nat) : Nat := fld (wd d 1) 63 48
def dDst (d : List Nat) : Nat := fld (wd d 1) 47 0
def dRowBytes (d : List Nat) : Nat := fld (wd d 2) 63 44
def dRows (d : List Nat) : Nat := fld (wd d 2) 43 28
def dSrcStride (d : List Nat) : Nat := fld (wd d 3) 63 40
def dDstStride (d : List Nat) : Nat := fld (wd d 3) 39 16
def dSrcKind (d : List Nat) : Nat := fld (wd d 4) 59 58
def dDstKind (d : List Nat) : Nat := fld (wd d 4) 57 56
def dLayout (d : List Nat) : Nat := fld (wd d 4) 55 54
def dFmt (d : List Nat) : Nat := fld (wd d 4) 53 49
def dBytes (d : List Nat) : Nat := dRowBytes d * dRows d

/-- Slots that one group of rows of a layout transfer fills, and the rows of that group (R77, R144). -/
def groupSlots (f : Fmt) : Nat := if f.bits = 16 then 2 else if f.bits = 32 then 4 else 1
def groupRows (f : Fmt) : Nat := if f.bits = 4 then 64 else 32

/-- Bytes of 32 elements under R42. -/
def rowBytesOf (f : Fmt) : Nat := 4 * f.bits

/-- The module a node field names: itself for a local end, a physical module, or the module serving a rank (R17) (log entry 24). -/
def State.nodeModule (s : State) (kind node : Nat) : Nat :=
  if kind = 0 then s.self else if kind = 2 then s.moduleOf node else node

/-- An end lies in another module. A remote end that names this module is a local one. -/
def State.srcRemote (s : State) (d : List Nat) : Bool := s.nodeModule (dSrcKind d) (dSrcNode d) != s.self
def State.dstRemote (s : State) (d : List Nat) : Bool := s.nodeModule (dDstKind d) (dDstNode d) != s.self

/-- Byte ranges of an end: rows of a linear end, or the consecutive slots of a tile-store end. -/
def srcRuns (d : List Nat) : List (Nat × Nat) :=
  if dLayout d = 2 then
    match Fmt.ofCode (dFmt d) with
    | some f => [(dSrc d, dRows d / groupRows f * groupSlots f * 1024)]
    | none => []
  else (List.range (dRows d)).map (fun i => (dSrc d + i * dSrcStride d, dRowBytes d))

def dstRuns (d : List Nat) : List (Nat × Nat) :=
  if dLayout d = 1 then
    match Fmt.ofCode (dFmt d) with
    | some f => [(dDst d, dRows d / groupRows f * groupSlots f * 1024)]
    | none => []
  else (List.range (dRows d)).map (fun i => (dDst d + i * dDstStride d, dRowBytes d))

/-- A range inside the tile stores, and inside the operand caches. -/
def inTiles (a n : Nat) : Bool := decide (0x10000000000 ≤ a) && decide (a + n ≤ 0x10040000000)
def inCaches (a n : Nat) : Bool := decide (0x18000000000 ≤ a) && decide (a + n ≤ 0x18008000000)
def inCarve (a n : Nat) : Bool := decide (0xB800000000 ≤ a) && decide (a + n ≤ 0xC000000000)

/-- Every tile store that a range reaches keeps its resident ranges untouched while a step is open (R166). -/
def State.hitsResident (s : State) (a n : Nat) : Bool :=
  s.stepOpen && inTiles a n &&
  (List.range ((a + n - 1 - tileBase 0) / 0x400000 + 1 - (a - tileBase 0) / 0x400000)).any (fun k =>
    let c := (a - tileBase 0) / 0x400000 + k
    let lo := max a (tileBase c)
    s.tileResident c (lo - tileBase c) (min (a + n) (tileBase (c + 1)) - lo))

/-- A local end that the agent may read, or write (R16, R144, R164, R166). -/
def State.localRead (s : State) (carve : Bool) (a n : Nat) : Bool :=
  s.mayReadHbm .dma a n || inTiles a n || inCaches a n || (carve && inCarve a n)
def State.localWrite (s : State) (carve : Bool) (a n : Nat) : Bool :=
  s.mayWriteHbm .dma a n || (inTiles a n && !s.hitsResident a n) || inCaches a n || (carve && inCarve a n)

/-- A remote end whose local part R15 maps. What R18 does not let it be, the target refuses with an error completion. -/
def remoteMapped (a n : Nat) : Bool :=
  decide (a + n ≤ 0xC000000000) || inTiles a n || inCaches a n || (decide (0x20000000000 ≤ a) && decide (a + n ≤ 0x20200000000))

/-- A node that exists: a module below 39,968, a rank below the rank count (R17). -/
def State.nodeOk (s : State) (kind node : Nat) : Bool :=
  if kind = 0 then node == 0 else if kind = 1 then decide (node < 39968) else if kind = 2 then decide (node < s.rankCount) else false

/-- Reserved values of a descriptor (R143, R144). -/
def dReserved (d : List Nat) : Bool :=
  fld (wd d 4) 63 60 != 1 || dSrcKind d == 3 || dDstKind d == 3 || dLayout d == 3 || fld (wd d 2) 27 0 != 0 ||
  fld (wd d 3) 15 0 != 0 || fld (wd d 4) 30 0 != 0 || wd d 5 != 0 || wd d 6 != 0 || wd d 7 != 0 || dRowBytes d == 0 ||
  dRows d == 0 ||
  (if dLayout d = 0 then false
   else match Fmt.ofCode (dFmt d) with
    | none => true
    | some f =>
      let slotEnd := if dLayout d = 1 then dDst d else dSrc d
      let slotKind := if dLayout d = 1 then dDstKind d else dSrcKind d
      dRowBytes d != rowBytesOf f || dRows d % groupRows f != 0 || slotEnd % (1024 * groupSlots f) != 0 || slotKind != 0 ||
        !inTiles slotEnd 1 || decide (0x3E0000 < slotEnd % 0x400000 + dRows d / groupRows f * groupSlots f * 1024))

/-- The checks at issue of R144: reserved values, sizes, and address faults under R16 and R17. -/
def State.xferBad (s : State) (carve : Bool) (d : List Nat) : Bool :=
  dReserved d || !s.nodeOk (dSrcKind d) (dSrcNode d) || !s.nodeOk (dDstKind d) (dDstNode d) ||
  (s.srcRemote d && s.dstRemote d) ||
  !(srcRuns d).all (fun r => if s.srcRemote d then remoteMapped r.1 r.2 else s.localRead carve r.1 r.2) ||
  !(dstRuns d).all (fun r => if s.dstRemote d then remoteMapped r.1 r.2 else s.localWrite carve r.1 r.2)

/-! ### Data -/

/-- Store bytes each with its poison mark: a unit wholly written with clean data loses its mark, one that a poisoned byte
reaches takes it (R170). -/
def State.storeMarked (s : State) (a : Nat) (bs : List (Byte × Bool)) : State :=
  let n := bs.length
  let t := s.storeRaw a (bs.map Prod.fst)
  let t := (unitsOf a n).foldl (fun t g =>
    let u := unitBytes g
    if a ≤ g / u * u ∧ g / u * u + u ≤ a + n then t.setPoison g false else t) t
  (unitsOf a n).foldl (fun t g =>
    if ((bs.drop (g - a)).take (g + unitStep a - max g a)).any Prod.snd then t.setPoison (max g a) true else t) t

/-- Bytes of local memory with their marks. -/
def State.loadMarked (s : State) (a n : Nat) : List (Byte × Bool) :=
  (List.range n).map (fun k => (s.peek (a + k), s.poisonAt (a + k)))

/-- Codes of a block, row by row, as the bytes of its slots (R77). -/
def slotsOfRows (f : Fmt) (rows : List (List Nat)) : List (List Byte) :=
  if f.bits = 4 then
    [(List.range 32).flatMap (fun r => packBytes 4 (rows.getD r [] ++ rows.getD (32 + r) []))]
  else if f.bits = 16 ∨ f.bits = 32 then
    (List.range (groupSlots f)).map (fun b => rows.flatMap (fun r => r.map (fun c => BitVec.ofNat 8 (c / 256 ^ b))))
  else [rows.flatMap (fun r => r.map (fun c => BitVec.ofNat 8 (if f.bits = 6 then c % 64 else c)))]

/-- The inverse: codes of a block's rows from its slots. -/
def rowsOfSlots (f : Fmt) (slots : List (List Byte)) : List (List Nat) :=
  let at_ (b i : Nat) : Nat := ((slots.getD b []).getD i 0).toNat
  if f.bits = 4 then
    (List.range 64).map (fun r => (List.range 32).map (fun c =>
      let e := (if r < 32 then 0 else 32) + c
      at_ 0 (r % 32 * 32 + e / 2) / 16 ^ (e % 2) % 16))
  else
    (List.range 32).map (fun r => (List.range 32).map (fun c =>
      if f.bits = 16 then at_ 0 (32 * r + c) + 256 * at_ 1 (32 * r + c)
      else if f.bits = 32 then
        at_ 0 (32 * r + c) + 256 * at_ 1 (32 * r + c) + 65536 * at_ 2 (32 * r + c) + 16777216 * at_ 3 (32 * r + c)
      else if f.bits = 6 then at_ 0 (32 * r + c) % 64
      else at_ 0 (32 * r + c)))

/-- The source rows of a transfer, or its source slots, one entry per run of bytes. `byteAt` reads one byte of the source by
its place in the transfer. -/
def State.xferByte (s : State) (x : Xfer) (gen : Nat) (place addr : Nat) : Byte × Bool :=
  if s.srcRemote x.words then (sget 0 x.got place, sget false x.gotPoison place)
  else if x.raced.contains (addr / 4) then (Config.memFill gen addr, s.poisonAt addr)
  else (s.peek addr, s.poisonAt addr)

def State.xferSource (s : State) (x : Xfer) (gen : Nat) : List (List (Byte × Bool)) :=
  (srcRuns x.words).zipIdx.map (fun r => (List.range r.1.2).map (fun k => s.xferByte x gen (r.2 * r.1.2 + k) (r.1.1 + k)))

/-- What a transfer writes: destination address and marked bytes of each run. -/
def State.xferRuns (s : State) (x : Xfer) (gen : Nat) : List (Nat × List (Byte × Bool)) :=
  let d := x.words
  let src := s.xferSource x gen
  match dLayout d, Fmt.ofCode (dFmt d) with
  | 1, some f =>
    (chunksOf (groupRows f) src.length src).zipIdx.flatMap (fun g =>
      let rows := g.1.map (fun r => unpackBytes f.bits 32 (r.map Prod.fst))
      let mark := g.1.any (fun r => r.any Prod.snd)
      (slotsOfRows f rows).zipIdx.map (fun sl =>
        (dDst d + (g.2 * groupSlots f + sl.2) * 1024, sl.1.map (fun b => (b, mark)))))
  | 2, some f =>
    let slots := chunksOf 1024 (dRows d / groupRows f * groupSlots f) (src.headD [])
    (chunksOf (groupSlots f) slots.length slots).zipIdx.flatMap (fun g =>
      let mark := g.1.any (fun r => r.any Prod.snd)
      (rowsOfSlots f (g.1.map (fun sl => sl.map Prod.fst))).zipIdx.map (fun r =>
        (dDst d + (g.2 * groupRows f + r.2) * dDstStride d, (packBytes f.bits r.1).map (fun b => (b, mark)))))
  | _, _ => src.zipIdx.map (fun r => (dDst d + r.2 * dDstStride d, r.1))

/-- Destination bytes that a thread touched during the transfer are undefined (R142). -/
def raceMarks (x : Xfer) (gen a : Nat) (bs : List (Byte × Bool)) : List (Byte × Bool) :=
  bs.zipIdx.map (fun p => if x.raced.contains ((a + p.2) / 4) then (Config.memFill gen (a + p.2), p.1.2) else p.1)

/-! ### Remote ends -/

/-- Bytes that fill the last granule of a payload and are not written: they stand above the local address of a WRITE (log entry 7). -/
def writePad (f : Flit) : Nat := f.dstAddr / 2 ^ 42
def wroteBytes (f : Flit) : Nat := f.payload.length - writePad f

/-- One WRITE flit per 256 bytes of a run, with one poison bit per 64 bytes. -/
def State.sendWrites (m addr tag : Nat) : Nat → State → List (Byte × Bool) → Nat → State
  | 0, s, _, _ => s
  | k + 1, s, bs, off =>
    if bs.isEmpty then s
    else
      let piece := bs.take 256
      let marks := (List.range 4).foldl (fun a g => a + (if ((piece.drop (64 * g)).take 64).any Prod.snd then 2 ^ g else 0)) 0
      let bytes := granulePad (piece.map Prod.fst)
      sendWrites m addr tag k
        (s.sendFlit (s.envelope m ((bytes.length - piece.length) * 2 ^ 42 + addr + off) .write 1 false marks bytes) tag)
        (bs.drop 256) (off + 256)

/-- One READ_REQ flit per 256 bytes of a run; the context names the transfer and the place of the bytes in it. -/
def State.sendReads (m id addr len place : Nat) (s : State) : State :=
  (List.range ((len + 255) / 256)).foldl (fun t k =>
    t.sendFlit (t.envelope m (addr + 256 * k) .readReq 1 false 0
      (readReqBytes 0 (id % 2 ^ 10 * 2 ^ 36 + place + 256 * k) (min 256 (len - 256 * k)) t.instar)) id) s

/-- Source granules that a reader may not pass on: poison in a committed bank waits for a refetch, poison in kept inputs
discards the step (R172). -/
def State.xferBlocked (s : State) (x : Xfer) : Option Nat :=
  if s.srcRemote x.words then none
  else
    ((srcRuns x.words).flatMap (fun r => granules r.1 r.2)).find? (fun g =>
      s.poisonAt g && (match place g with
        | .hbm b => s.regionOf b == s.bank || s.regionOf b == 3
        | _ => false))

/-- Send what a transfer asks of another module; a local transfer asks nothing. -/
def State.startXfer (s : State) (x : Xfer) : State :=
  let d := x.words
  let gen := s.drawn
  let mark (t : State) : State := { t with xfers := t.xfers.map (fun y => if y.id = x.id then { y with asked := true } else y) }
  if (s.xferBlocked x).isSome then s.consumePoison ((s.xferBlocked x).getD 0)
  else if s.srcRemote d then
    mark ((srcRuns d).zipIdx.foldl (fun t r =>
      t.sendReads (s.nodeModule (dSrcKind d) (dSrcNode d)) x.id r.1.1 r.1.2 (r.2 * r.1.2)) s)
  else if s.dstRemote d then
    mark ((s.xferRuns x gen).foldl (fun t r =>
      t.sendWrites (s.nodeModule (dDstKind d) (dDstNode d)) r.1 x.id (r.2.length / 256 + 1) r.2 0) s)
  else mark s

/-- Queue a checked transfer; it starts when the engine takes it (log entry 9). -/
def State.issueXfer (s : State) (x : Xfer) : State :=
  { s with xfers := s.xfers ++ [{ x with id := s.nextXfer }], nextXfer := s.nextXfer + 1 }

/-- Every remote byte has arrived, and every remote write is acknowledged. -/
def State.xferArrived (s : State) (x : Xfer) : Bool :=
  x.asked && !s.tagPending x.id &&
  (if s.srcRemote x.words then x.got.length == ((srcRuns x.words).map Prod.snd).sum else true)

/-! ### Ends of a transfer -/

/-- Give a ring command its completion status and value. -/
def State.ringResult (s : State) (r seq status value : Nat) : State :=
  let x := sget {} s.rings r
  let cmds := x.cmds.map (fun c =>
    if c.seq == seq && c.result.isNone then { c with started := true, result := some (status, value) } else c)
  { s with rings := sput s.rings r { x with cmds := cmds } }

def State.wing (s : State) (n : Nat) (hw : Bool) : WingSt := sget {} s.sched.wings (2 * n + bit hw)
def State.setWing (s : State) (n : Nat) (hw : Bool) (w : WingSt) : State :=
  { s with sched := { s.sched with wings := sput s.sched.wings (2 * n + bit hw) w } }

/-- A wing of core `n` runs canary work (R324). -/
def State.canaryOn (s : State) (n : Nat) : Bool :=
  [false, true].any (fun hw => match (s.wing n hw).run with
    | some r => r.canary.isSome
    | none => false)
/-- Core `n` works for the attempt: micro-batch work while it runs, canary work until the vote. -/
def State.coreWorks (s : State) (n : Nat) : Bool := s.working || (s.step == .checking && s.canaryOn n)
/-- A physical core serves logical core `n`: it is not fenced off, and is not suspect without a stand-in (R217). -/
def State.coreServed (s : State) (n : Nat) : Bool := !s.sched.fenced.contains n && !(s.suspect n && (sget? s.sched.standin n).isNone)
/-- The key of stochastic rounding on core `n` (R62, R63); canary work has key step_key(0, 0) (R324). -/
def State.roundKey (s : State) (n : Nat) : Nat := if s.canaryOn n then stepKey 0 0 else stepKey s.genKey s.nextInstar

/-- Record a rejection in SCH_REJECT (R209, R223, R224). -/
def State.schReject (s : State) (atRun : Bool) (reason core mb seg : Nat) (hw : Bool) : State :=
  ((((((s.wr F.SCH_REJECT_valid 1).wr F.SCH_REJECT_at_run (bit atRun)).wr F.SCH_REJECT_reason reason).wr F.SCH_REJECT_core core).wr
    F.SCH_REJECT_micro_batch mb).wr F.SCH_REJECT_segment seg).wr F.SCH_REJECT_wing (bit hw)

/-- A failed epilogue entry (R209): the segment ends without completing, DMA_FAULT, SCH_REJECT and a discard. -/
def State.epilogueFails (s : State) (n : Nat) (hw : Bool) : State :=
  let w := s.wing n hw
  let mb := match w.run with
    | some r => fld (wd r.words 0) 59 48
    | none => 0
  let s := (s.setWing n hw { w with run := none, head := none }).schReject true 0x0C n mb w.idx hw
  (s.raiseRec .DMA_FAULT n Rec.schReject).failStep 1 false

/-- An epilogue entry has completed: the next may start. -/
def State.epilogueStep (s : State) (n : Nat) (hw : Bool) : State :=
  let w := s.wing n hw
  match w.run with
  | some r => s.setWing n hw { w with run := some { r with epi := r.epi + 1, epiBusy := false } }
  | none => s

/-- VEC_FAULT keeps the first fault of an attempt (R155). -/
def State.vecFault (s : State) (p cause scalar slot : Nat) (gang : Bool) (lanes pc code : Nat) : State :=
  if s.isSetAt F.VEC_FAULT_valid p then s
  else
    (((((((s.wrAt F.VEC_FAULT_valid p 1).wrAt F.VEC_FAULT_cause p cause).wrAt F.VEC_FAULT_scalar_core p scalar).wrAt
      F.VEC_FAULT_slot p slot).wrAt F.VEC_FAULT_gang p (bit gang)).wrAt F.VEC_FAULT_lanes p lanes).wrAt
      F.VEC_FAULT_PC_pc p pc).wrAt F.VEC_FAULT_PC_trap_code p code

/-- Bytes of a failed transfer that had moved. -/
def State.xferMoved (s : State) (x : Xfer) : Nat :=
  if s.srcRemote x.words then 0
  else if s.dstRemote x.words then
    dBytes x.words - (s.fab.tx.map (fun p => (((p.2.unacked ++ p.2.waiting).filter (fun t => t.tag == x.id)).map
      (fun t => wroteBytes t.flit)).sum)).sum
  else 0

def State.dropXfer (s : State) (x : Xfer) : State := { s with xfers := s.xfers.filter (fun y => y.id != x.id) }

/-- A transfer ends with an error (R144, R198, R209); VEC_FAULT names lane 0 of a gang (R156). -/
def State.failXfer (s : State) (x : Xfer) : State :=
  let moved := s.xferMoved x
  let s := s.dropXfer x
  match x.owner with
  | .thread p t =>
    let s := s.vecFault p 8 (if x.gang then t / 1024 * 32 else t / 32) (t % 32) x.gang x.lanes x.pc 0
    (s.raise .DMA_FAULT x.core (s.vecRecord p)).failStep 1 false
  | .epilogue n hw => s.epilogueFails n hw
  | .ring r q => s.ringResult r q 5 moved

/-- A transfer whose data is there: write it, and signal its completion (R144). -/
def State.finishXfer (s : State) (x : Xfer) : State :=
  let gen := s.drawn
  let runs := s.xferRuns x gen
  let t := if s.dstRemote x.words then s else runs.foldl (fun t r => t.storeMarked r.1 (raceMarks x gen r.1 r.2)) s
  let t := if x.raced.isEmpty then t else { t with drawn := t.drawn + 1 }
  let t := t.dropXfer x
  let t := if fld (wd x.words 4) 48 48 = 1 then t.syncAdd (fld (wd x.words 4) 47 31) 1 else t
  match x.owner with
  | .thread _ _ => t
  | .epilogue n hw => t.epilogueStep n hw
  | .ring r q => t.ringResult r q 0 (dBytes x.words)

/-! ### Operations on counters, in order after earlier writes (R192) -/

/-- One issuer: a thread, an epilogue, or a ring with all its commands. -/
def XferOwner.same : XferOwner → XferOwner → Bool
  | .ring r _, .ring q _ => r == q
  | a, b => a == b

/-- The producer that pushes for an owner of transfers. -/
def State.producerOf (s : State) (o : XferOwner) : Option Producer :=
  match o with
  | .thread p t => ((List.range 256).find? (fun n => s.phys n == p)).map (fun n => .thread n t)
  | .epilogue n hw => some (.epilogue n (bit hw))
  | .ring r _ => some (.ring r)

/-- Transfers of the issuer that write into module `m` and that have not ended there, or have not left for it; what has left keeps its
order under R265. -/
def State.xfersInto (s : State) (o : XferOwner) (m : Nat) : List Nat :=
  (s.xfers.filter (fun x => XferOwner.same x.owner o && s.nodeModule (dDstKind x.words) (dDstNode x.words) == m &&
    (m == s.self || !x.asked))).map (fun x => x.id)

/-- The forwarding queues to module `m` that hold items of the issuer, with the number of items that leave up to its last. -/
def State.itemsInto (s : State) (o : XferOwner) (m : Nat) : List (Nat × Nat) :=
  s.queues.filterMap (fun p =>
    let mine := p.2.items.zipIdx.filter (fun i => i.1.by_.isSome && i.1.by_ == s.producerOf o)
    match mine.getLast? with
    | some i => if coreQueue p.1 && s.isSetAt F.QUE_CFG_forward p.1 && s.forwardTo p.1 == m then some (p.1, p.2.head + i.2 + 1) else none
    | none => none)

/-- Nothing that operation `o` waits for is left, and no earlier operation of its issuer on its counter waits. -/
def State.opReady (s : State) (o : CounterOp) : Bool :=
  o.xfers.all (fun k => s.xfers.all (fun x => x.id != k || (o.node != s.self && x.asked))) &&
  o.items.all (fun i => decide (i.2 ≤ (s.queue i.1).head)) &&
  (s.ops.takeWhile (fun x => x != o)).all (fun x => !(XferOwner.same x.owner o.owner && x.node == o.node && x.counter == o.counter))

/-- A remote ADD leaves as a SYNC_ADD flit. -/
def State.sendAdd (s : State) (m counter v tag : Nat) : State :=
  s.sendFlit (s.envelope m counter .syncAdd 2 true 0 (leBytes 8 v ++ leBytes 56 0)) tag

/-- Give a started ring command its tag (R198). -/
def State.tagRing (s : State) (r seq tag : Nat) : State :=
  let x := sget {} s.rings r
  { s with rings := sput s.rings r { x with cmds := x.cmds.map (fun c =>
      if c.seq = seq then { c with started := true, moved := 0, tag := tag } else c) } }

/-- Carry out an operation on a counter: here, or by a flit whose acknowledgement completes a ring's command or an epilogue's entry. -/
def State.applyOp (s : State) (o : CounterOp) : State :=
  if o.node = s.self then
    let t := if o.sets then s.syncSet o.counter o.value else s.syncAdd o.counter o.value
    match o.owner with
    | .thread _ _ => t
    | .epilogue n hw => t.epilogueStep n hw
    | .ring r q => t.ringResult r q 0 0
  else
    let tag := s.nextXfer
    let u := { s with nextXfer := s.nextXfer + 1 }
    match o.owner with
    | .thread _ _ => s.sendAdd o.node o.counter o.value 0
    | .epilogue n hw =>
      let w := u.wing n hw
      let v := match w.run with
        | some r => u.setWing n hw { w with run := some { r with epiTag := tag } }
        | none => u
      v.sendAdd o.node o.counter o.value tag
    | .ring r q => (u.tagRing r q tag).sendAdd o.node o.counter o.value tag

/-- Carry out the operations that wait for nothing any more, oldest first. -/
def State.settleOps (s : State) : State :=
  s.ops.foldl (fun t o => if t.opReady o then ({ t with ops := t.ops.erase o }).applyOp o else t) s

/-- Issue an ADD, or a SET of an own counter (R191, R192). -/
def State.counterOp (s : State) (o : XferOwner) (m counter v : Nat) (sets : Bool := false) : State :=
  let before : List Nat × List (Nat × Nat) := if sets then ([], []) else (s.xfersInto o m, s.itemsInto o m)
  let c : CounterOp := ⟨o, m, counter, v, sets, before.1, before.2⟩
  ({ s with ops := s.ops ++ [c] }).settleOps

/-- An operation of the issuer on an own counter still waits: a READ or a WAIT_GE comes after it (R192). -/
def State.opPending (s : State) (o : XferOwner) (counter : Nat) : Bool :=
  s.ops.any (fun x => XferOwner.same x.owner o && x.node == s.self && x.counter == counter)

/-- An earlier transfer of the same issuer has not started (R144). -/
def State.xferBehind (s : State) (x : Xfer) : Bool :=
  s.xfers.any (fun y => y.owner == x.owner && decide (y.id < x.id) && !y.asked)

/-- The engine takes a transfer: what it asks of other modules leaves. -/
def State.takeXfer (s : State) (x : Xfer) : State :=
  if x.asked || s.xferBehind x then s else (s.startXfer x).settleOps

/-- DMA_TRANSFER_COMPLETE: transfer `xfer` is taken by its engine, and completes, or ends with an error, once its data is there (R144). -/
def execDmaTransferComplete (xfer : Nat) (fail : Bool) (s : State) : Host.Outcome State Fault Refusal :=
  match s.xfers.find? (fun x => x.id == xfer) with
  | none => .next s
  | some x =>
    if !s.alive then .next s
    else if fail || x.failed then .next ((s.failXfer x).settleOps)
    else
      let s := s.takeXfer x
      match s.xfers.find? (fun y => y.id == xfer) with
      | none => .next s
      | some x =>
        if !x.asked then .next s
        else match s.xferBlocked x with
          | some g => .next (s.consumePoison g)
          | none => if s.xferArrived x then .next ((s.finishXfer x).settleOps) else .next s

/-- ROUTER_FORWARD_ITEM: while it holds a credit, the router pops a forwarding queue and sends the item (R186);
counter operations that waited for it follow (R192). -/
def execRouterForwardItem (queue : Nat) (s : State) : Host.Outcome State Fault Refusal :=
  if s.alive && s.queueOn queue && coreQueue queue && s.isSetAt F.QUE_CFG_forward queue && s.visible queue &&
      decide (0 < s.rdAt F.QUE_STATUS_credits queue) then
    let r := s.popFront queue
    let t := r.2.wrAt F.QUE_STATUS_credits queue (s.rdAt F.QUE_STATUS_credits queue - 1)
    .next (t.sendFlit (t.envelope (s.forwardTo queue) (itemAddr (s.rdAt F.QUE_FWD_remote_queue queue) queue r.1) .queueItem 2 true
      (bit r.1.poison) r.1.data)).settleOps
  else .next s

end Sys2Proof.Machine
end

