-- ==== Sys2Proof/Machine/Ucode.lean ====
section
/-! DEFINITION. Machine/Ucode.lean: the optimiser microcode (R239 to R242): sources and constants, the operations, the ROM
programs of R241. -/

namespace Sys2Proof.Machine

/-! ### Sources (R237, R240) -/

/-- One element stored under R42 at `a` in a tensor of `count` elements: element `i`, and whether its bytes are poisoned. -/
def State.stored (s : State) (f : Fmt) (a count i : Nat) : FVal :=
  let k := f.bits / 8
  let c := leNat (s.loadN (a + i * k) k)
  f.value c (if f.isMx then (s.peek (a + count * f.bits / 8 + i / 32)).toNat else 0x7F)

def State.storedPoison (s : State) (f : Fmt) (a count i : Nat) : Bool :=
  s.poisonAt (a + i * (f.bits / 8)) || (f.isMx && s.poisonAt (a + count * f.bits / 8 + i / 32))

/-- The reduced gradient of parameter `i` of an entry as it stands in the gradient hold. -/
def State.gradVal (s : State) (e : List Nat) (i : Nat) : FVal := s.stored ((gradFmt e).getD .fp32) (ueGrad e) (ueCount e) i
def State.gradPoison (s : State) (e : List Nat) (i : Nat) : Bool :=
  s.storedPoison ((gradFmt e).getD .fp32) (ueGrad e) (ueCount e) i

/-- The effective exponent of the attempt (R248). -/
def State.attemptExp (s : State) : Int := sext 16 (s.rd F.UPD_SCALE_effective_exp)

/-- G of R237. -/
def State.gradOf (s : State) (e : List Nat) (i : Nat) : Nat × Flags :=
  let g := toF32 (s.gradVal e i)
  let x := toF32 ((f32val g.1).scale (-s.attemptExp))
  if ueClip e && !s.arrival then
    let y := fmul x.1 (s.rd F.UPD_NORM_clip_factor)
    (y.1, (g.2.join x.2).join y.2)
  else (x.1, g.2.join x.2)

/-- Address of stripe `k` of an entry in bank `b`. -/
def State.stripeAddr (s : State) (b : Nat) (e : List Nat) (k : Nat) : Nat := s.bankBase b + ueOff e + k * stripeSize e

/-- Master weight code and moment value of parameter `i` in bank `b` (R230). -/
def State.weightCode (s : State) (b : Nat) (e : List Nat) (i : Nat) : Nat :=
  leNat (s.loadN (s.stripeAddr b e (i / 2048) + 4 * (i % 2048)) 4)
def State.momentVal (s : State) (b : Nat) (e : List Nat) (second : Bool) (i : Nat) : FVal :=
  let a := s.stripeAddr b e (i / 2048)
  let p := i % 2048
  if second then Fmt.mxUe5m3.value (s.peek (a + m2Off + p)).toNat (s.peek (a + m2ScaleOff + p / 32)).toNat
  else Fmt.mxE4m3.value (s.peek (a + 8192 + p)).toNat (s.peek (a + m1ScaleOff e + p / 32)).toNat

/-- Addresses of the factors of an entry in bank `b` (R230). -/
def State.rowAddr (s : State) (b : Nat) (e : List Nat) (i : Nat) : Nat := s.bankBase b + ueOff e + rowFactorOff e + 4 * i
def State.colAddr (s : State) (b : Nat) (e : List Nat) (j : Nat) : Nat := s.bankBase b + ueOff e + colFactorOff e + 4 * j
def State.f32At (s : State) (a : Nat) : Nat := leNat (s.loadN a 4)

/-- RMEAN (R244): the new row factors summed in order, divided by their number. -/
def State.rowMean (s : State) (e : List Nat) : Nat × Flags :=
  let sum := (List.range (ueRows e)).foldl (fun a i => faddF a (s.f32At (s.rowAddr (1 - s.bank) e i), .none)) (0, .none)
  let q := fdiv sum.1 (f32OfInt (ueRows e))
  (q.1, sum.2.join q.2)

/-- LR, BC1, BC2, H0 to H5 of an entry. -/
def State.hyperOf (s : State) (e : List Nat) (k : Nat) : Nat := wd (s.upd.hyper.getD (ueHyper e) []) k

/-- Source `sel` of R240 for parameter `i` of entry `e`. -/
def State.ucSource (s : State) (e : List Nat) (i sel : Nat) : Nat × Flags :=
  match sel with
  | 0 => s.gradOf e i
  | 1 => (s.weightCode s.bank e i, .none)
  | 2 => toF32 (s.momentVal s.bank e false i)
  | 3 => toF32 (s.momentVal s.bank e true i)
  | 4 => (s.f32At (s.rowAddr (1 - s.bank) e (i / ueCols e)), .none)
  | 5 => (s.f32At (s.colAddr (1 - s.bank) e (i % ueCols e)), .none)
  | 6 => s.rowMean e
  | k => (s.hyperOf e (k - 7), .none)

/-- A source, or a destination, that a layout holds: M2 in FULL only, the factors in FACTORED only. -/
def ucHasSource (layout sel : Nat) : Bool :=
  decide (sel ≤ 15) && (sel != 3 || layout == 0) && (!(sel == 4 || sel == 5 || sel == 6) || layout == 2)
def ucHasDest (layout sel : Nat) : Bool := decide (1 ≤ sel) && decide (sel ≤ 4) && (sel != 3 || layout == 0)

/-- Constant k[sel] of a slot's image: the customer's, 1.0 for the k0 that the ROM programs use, else what the manual does
not give. -/
def State.ucConst (s : State) (slot k : Nat) : Nat :=
  if slot = 4 then imgConst s.upd.image k
  else if k = 0 ∧ slot ≠ 1 then 0x3F800000
  else Config.romConst slot k % 2 ^ 32

/-! ### Operations (R239) -/

def UcSt.reg (u : UcSt) (k : Nat) : Nat := sget 0 u.regs k
def UcSt.setReg (u : UcSt) (k v : Nat) : UcSt := { u with regs := sset 0 u.regs k v }

/-- −1.0, +0 or +1.0 by the sign of a number. -/
def fsign (a : Nat) : Nat × Flags :=
  match f32val a with
  | .nan sig => roundF32 (.nan sig, if sig then .NV else .none)
  | v => (if v.isZero then 0 else if v.sign then 0xBF800000 else 0x3F800000, .none)

/-- The arithmetic operations 0x04 to 0x0E. -/
def ucAlu (op a b c : Nat) : Nat × Flags :=
  match op with
  | 4 => fadd a b
  | 5 => fsub a b
  | 6 => ffma a b c
  | 7 => fmul a b
  | 8 => fdiv a b
  | 9 => fsqrt a
  | 10 => fmax a b
  | 11 => fmin a b
  | 12 => fabs a
  | 13 => fneg a
  | _ => fsign a

/-- One microcode operation on the parameter that `u` names. -/
def State.ucOp (s : State) (op rd ra rb rc sel : Nat) (u : UcSt) : UcSt × Flags :=
  let e := s.upd.table.getD u.entry []
  match op with
  | 0 => ({ u with ended := true }, .none)
  | 1 => let v := s.ucSource e u.index sel
         (u.setReg rd v.1, v.2)
  | 2 => (u.setReg rd (s.ucConst (ueSlot e) sel), .none)
  | 3 => ({ u with stores := sput u.stores sel (u.reg ra) }, .none)
  | k => let v := ucAlu k (u.reg ra) (u.reg rb) (u.reg rc)
         (u.setReg rd v.1, v.2)

/-- Run a program of microcode words to its END. -/
def State.ucRun (s : State) : List Nat → UcSt × Flags → UcSt × Flags
  | [], x => x
  | w :: ws, x =>
    if x.1.ended then x
    else
      let y := s.ucOp (fld w 31 26) (fld w 25 22) (fld w 21 18) (fld w 17 14) (fld w 13 10) (fld w 9 4) x.1
      s.ucRun ws (y.1, x.2.join y.2)

/-! ### Programs (R241) -/

/-- A microcode word. -/
def uw (op rd ra rb rc sel : Nat) : Nat := op * 2 ^ 26 + rd * 2 ^ 22 + ra * 2 ^ 18 + rb * 2 ^ 14 + rc * 2 ^ 10 + sel * 2 ^ 4
def uLd (rd sel : Nat) : Nat := uw 1 rd 0 0 0 sel
def uSt (ra sel : Nat) : Nat := uw 3 0 ra 0 0 sel
def u3 (op rd ra rb : Nat) : Nat := uw op rd ra rb 0 0
def uFma (rd ra rb rc : Nat) : Nat := uw 6 rd ra rb rc 0

/-- W ← fma(−LR, fma(H3, W, u), W) with u in register `x`, then WORK from W, then END. -/
def uTail (x : Nat) : List Nat :=
  [uLd 7 1, uLd 2 13, uFma x 2 7 x, uLd 2 7, uw 13 2 2 0 0 0, uFma 7 2 x 7, uSt 7 1, uSt 7 4, 0]

/-- AdamW, the listing of R241. -/
def romAdamW : List Nat :=
  [uLd 0 0, uLd 1 2, uLd 2 10, uw 2 3 0 0 0 0, u3 5 4 3 2, u3 7 5 4 0, uFma 1 2 1 5, uSt 1 2, uLd 2 11, u3 5 4 3 2, u3 7 5 0 0,
   u3 7 5 4 5, uLd 6 3, uFma 6 2 6 5, uSt 6 3, uLd 2 8, u3 8 1 1 2, uLd 2 9, u3 8 6 6 2, uw 9 6 6 0 0 0, uLd 2 12, u3 4 6 6 2,
   u3 8 1 1 6] ++ uTail 1

/-- SGD with momentum. -/
def romSgd : List Nat := [uLd 0 0, uLd 1 2, uLd 2 10, uFma 1 2 1 0, uSt 1 2] ++ uTail 1

/-- Sign-momentum. -/
def romSign : List Nat :=
  [uLd 0 0, uLd 1 2, uLd 2 10, uw 2 3 0 0 0 0, u3 5 4 3 2, u3 7 5 4 0, uFma 6 2 1 5, uw 14 6 6 0 0 0, uLd 2 11, u3 5 4 3 2,
   u3 7 5 4 0, uFma 1 2 1 5, uSt 1 2] ++ uTail 6

/-- Factored second moment. -/
def romFactored : List Nat :=
  [uLd 0 0, uLd 1 2, uLd 2 10, uw 2 3 0 0 0 0, u3 5 4 3 2, u3 7 5 4 0, uFma 1 2 1 5, uSt 1 2, uLd 6 4, uLd 5 5, u3 7 6 6 5,
   uLd 5 6, u3 8 6 6 5, uw 9 6 6 0 0 0, uLd 2 12, u3 4 6 6 2, u3 8 1 1 6] ++ uTail 1

def State.program (s : State) (slot : Nat) : List Nat :=
  match slot with
  | 0 => romAdamW
  | 1 => romSgd
  | 2 => romSign
  | 3 => romFactored
  | _ => (List.range (imgLength s.upd.image)).map (fun k => imgCode s.upd.image k)

/-- The registers and stores of parameter `i` of entry `ei` after its program. -/
def State.runParam (s : State) (ei : Nat) (e : List Nat) (i : Nat) : UcSt × Flags :=
  s.ucRun (s.program (ueSlot e)) ({ entry := ei, index := i }, .none)

end Sys2Proof.Machine
end

