-- ==== Sys2Proof/Machine/Upd.lean ====
section
/-! DEFINITION. Machine/Upd.lean: the update engines at work (R226, R227, R234 to R237, R242 to R244, R246, R247, R251): stripes,
factor passes, the header, copy and regeneration passes, the mirror stream (R278) and the replica digest (R320, R321). -/

namespace Sys2Proof.Machine

/-! ### When the engines work -/

/-- The engines work for the attempt until the module votes: the step is live and its own vote not cast. -/
def State.updating (s : State) : Bool :=
  s.alive && (s.working || s.step == .checking || s.upd.copying) && (s.barrier.own == 0 || s.upd.copying)

/-- Incoming bank index. -/
def State.incoming (s : State) : Nat := 1 - s.bank

/-- The module's non-finite bit (R249). -/
def State.nonFinite (s : State) : Bool :=
  s.job.nanAttempt || s.isSet F.UPD_STATUS_nonfinite ||
  (s.isSet F.UPD_CTRL_nf_enable && s.counter (s.rd F.UPD_CTRL_nf_counter) != 0)

def stripeKey (ei k : Nat) : Nat := ei * 2 ^ 32 + k
def factorKey (ei : Nat) : Nat := 2 ^ 62 + ei
def headerKey : Nat := 2 ^ 63

/-- Every gradient of stripe `k` of entry `ei` is in the gradient hold (R235). -/
def State.gradReady (s : State) (ei k : Nat) : Bool :=
  s.upd.chunks.any (fun c => c.1 == ei && decide (c.2.1 ≤ k) && decide (k < c.2.1 + c.2.2))

/-- The stripes of an entry other than FROZEN. -/
def entryStripes (e : List Nat) : List Nat := if ueFrozen e then [] else List.range (ueStripes e)

/-- Every gradient of the shard is in the gradient hold (R236). -/
def State.allGradients (s : State) : Bool :=
  s.upd.table.zipIdx.all (fun p => (entryStripes p.1).all (fun k => s.gradReady p.2 k))

/-- The stripes of the shard, by their numbers, that are still to be written. -/
def State.stripeDone (s : State) (g : Nat) : Bool := sget false s.upd.stripes g
def State.allStripes (s : State) : Bool := (List.range s.shardStripes).all s.stripeDone
def State.factorDone (s : State) (ei : Nat) : Bool := sget false s.upd.factors ei
def State.allFactors (s : State) : Bool := s.upd.table.zipIdx.all (fun p => !ueFactored p.1 || s.factorDone p.2)

/-- Numbers of the reported stripes, in order of report (R235). -/
def State.reported (s : State) : List Nat :=
  s.upd.chunks.flatMap (fun c => (List.range c.2.2).map (fun k => s.firstStripe c.1 + c.2.1 + k))

/-- Stripe `g` is the next of its engine (R235, R236). -/
def State.nextOf (s : State) (q g : Nat) : Bool :=
  if s.arrival then (s.reported.find? (fun x => s.engineOf x == q && !s.stripeDone x)) == some g
  else s.upd.normDone && !s.upd.normOr && s.allFactors &&
    (List.range g).all (fun x => s.engineOf x != q || s.stripeDone x)

/-- A stripe of the shard that its engine may run now (R226, R234 to R236). -/
def State.stripeRuns (s : State) (g : Nat) : Bool :=
  match s.stripeAt g with
  | none => false
  | some (ei, _, k) =>
    s.updating && !s.upd.copying && s.engineUp (s.engineOf g) && !s.stripeDone g && s.gradReady ei k && s.nextOf (s.engineOf g) g

/-! ### The mirror stream (R278, R328) -/

/-- The tag of mirror-stream flits. -/
def mirrorTag : Nat := 2 ^ 62

/-- Send what has been written at bank address `a` to the partner; a job of one rank has none (R333). -/
def State.mirror_ (s : State) (a : Nat) (bs : List (Byte × Bool)) : State :=
  if s.rankCount = 1 then s
  else State.sendWrites s.partner (s.job.mirrorAt + a) mirrorTag (bs.length / 256 + 1) s bs 0

/-- Write bytes of the incoming bank and hand them to the mirror stream. -/
def State.writeBank (s : State) (a : Nat) (bs : List (Byte × Bool)) : State := (s.storeMarked a bs).mirror_ a bs

/-! ### Lockstep (R227) -/

/-- Show the engines in service. -/
def State.showEngines (s : State) : State :=
  s.wr F.UPD_STATUS_in_service ((List.range 4).foldl (fun a q => a + bit (s.engineUp q) * 2 ^ q) 0)

/-- Engine `q` leaves service until the next boot; with fewer than two left the module fails. -/
def State.dropEngine (s : State) (q : Nat) : State :=
  let s := ((s.wrAt F.UPD_ENGINE_in_service q 0).showEngines).raise .UPD_ENGINE_FAULT q
  if ((List.range 4).filter s.engineUp).length < 2 then s.raise .UPD_ENGINES_LOST else s

/-- The pair of engine `q` disagrees: the work is abandoned and run once more; a second time the engine leaves service and
the step is discarded. -/
def State.lockstep (s : State) (q key : Nat) : State :=
  if sget false s.upd.rerun key then ((s.addSatAt F.UPD_ENGINE_faults q 1).dropEngine q).failStep 0xA false
  else ({ s with upd := { s.upd with rerun := sput s.upd.rerun key true } }).addSatAt F.UPD_ENGINE_reruns q 1

/-! ### Working copies (R231, R242) -/

/-- Codes and scales of a run of elements in a working-copy or moment format; `md k` rounds element `k`. -/
def convertRun (f : Fmt) (md : Nat → Rnd) (vs : List FVal) : List Nat × List Nat × Flags :=
  if f.isMx then
    let bs := (chunksOf 32 vs.length vs).zipIdx.map (fun p => mxBlock f (fun k => md (32 * p.2 + k)) true p.1)
    (bs.flatMap (fun b => b.2.1), bs.map (fun b => b.1), bs.foldl (fun a b => a.join b.2.2) {})
  else
    let es := vs.zipIdx.map (fun p => convertScalar f (md p.2) (if f.bits ≤ 8 then 2 else 1) .keep p.1)
    (es.map Prod.fst, [], es.foldl (fun a x => a.join x.2) {})

/-- Places of the NaNs of a converted run: each of the 32 elements of a block of scale 0xFF (R71). -/
def nanPlaces (f : Fmt) (r : List Nat × List Nat × Flags) : List Nat :=
  (r.1.zipIdx.filter (fun p => (f.value p.1 (if f.isMx then r.2.1.getD (p.2 / 32) 0 else 0x7F)).isNan)).map Prod.snd

/-- Mark bytes: byte `k` comes of parameters `lo k` to `hi k` − 1. -/
def markBytes (bs : List Byte) (bad : List Bool) (lo hi : Nat → Nat) : List (Byte × Bool) :=
  bs.zipIdx.map (fun p => (p.1, ((bad.drop (lo p.2)).take (hi p.2 - lo p.2)).any (fun b => b)))

/-- Write elements `first` to `first` + n − 1 of a working copy of parity `b`. -/
def State.writeWork (s : State) (e : List Nat) (b first : Nat) (r : List Nat × List Nat × Flags) (bad : List Bool) : State :=
  let f := ueWorkFmt e
  let s := s.storeMarked (ueWork e b + first * f.bits / 8)
    (markBytes (packBytes f.bits r.1) bad (fun k => k * 8 / f.bits) (fun k => (k * 8 + 7) / f.bits + 1))
  if f.isMx then
    s.storeMarked (ueWork e b + ueCount e * f.bits / 8 + first / 32)
      (markBytes (r.2.1.map (BitVec.ofNat 8)) bad (fun k => 32 * k) (fun k => 32 * k + 32))
  else s

/-- Rounding of parameter `i` of a tensor `id` (R242): stochastic by the key of the step, or nearest even. -/
def State.updRnd (s : State) (sr : Bool) (step id first i : Nat) : Rnd :=
  if sr then .stochastic (rbits (useKey (stepKey s.genKey step) 0) id (first + i)) else .nearest

/-! ### A stripe (R234, R242) -/

/-- Put bytes over others. -/
def patch (old : List (Byte × Bool)) (off : Nat) (new : List (Byte × Bool)) : List (Byte × Bool) :=
  old.take off ++ new ++ old.drop (off + new.length)

/-- What an engine makes of a stripe: the stripe's bytes, the working copy, flags, and the NaNs it writes as (place in the
entry, tensor). -/
structure StripeOut where
  bytes : List (Byte × Bool)
  work : List Nat × List Nat × Flags
  bad : List Bool
  flags : Flags
  nans : List (Nat × Nat)
deriving DecidableEq, Repr

/-- Bytes of a moment: as the program stored it (`us` holds what each parameter stored), or unchanged from the committed stripe at `a`,
with the NaNs written. -/
def State.momentOut (s : State) (e : List Nat) (second : Bool) (a i0 n : Nat) (us : List (Sparse Nat)) :
    List Byte × List Byte × Flags × List Nat :=
  let sel := if second then 3 else 2
  let f : Fmt := if second then .mxUe5m3 else .mxE4m3
  let id := if second then ueIdM2 e else ueIdM1 e
  let off := if second then m2Off else 8192
  let soff := if second then m2ScaleOff else m1ScaleOff e
  if us.all (fun u => (sget? u sel).isSome) && !us.isEmpty then
    let r := convertRun f (fun k => s.updRnd (s.isSet F.UPD_CTRL_sr_moments) s.nextInstar id (ueFirst e) (i0 + k))
      (us.map (fun u => f32val (sget 0 u sel)))
    (r.1.map (BitVec.ofNat 8), r.2.1.map (BitVec.ofNat 8), r.2.2, nanPlaces f r)
  else
    let cs := s.loadN (a + off) n
    let ss := s.loadN (a + soff) (n / 32)
    (cs, ss, .none, nanPlaces f (cs.map BitVec.toNat, ss.map BitVec.toNat, {}))

/-- What parameter `i` of an entry is made of is poisoned (R243). -/
def State.paramBad (s : State) (e : List Nat) (mean : Bool) (i : Nat) : Bool :=
  mean || s.gradPoison e i || (ueFactored e && s.poisonAt (s.colAddr s.incoming e (i % ueCols e))) ||
    s.upd.hyperMarks.getD (ueHyper e) false || (ueClip e && !s.arrival && s.upd.clipBad)

/-- A stripe from what its parameters stored: a destination that a parameter did not store is the committed value, and a WORK not
stored comes from W (R240, R242). -/
def State.stripeOut (s : State) (e : List Nat) (k : Nat) (us : List (Sparse Nat)) : StripeOut :=
  let i0 := 2048 * k
  let n := min 2048 (ueCount e - i0)
  let a := s.stripeAddr s.bank e k
  let w := us.zipIdx.map (fun u => (sget? u.1 1).getD (s.weightCode s.bank e (i0 + u.2)))
  let work := convertRun (ueWorkFmt e)
    (fun j => s.updRnd (s.isSet F.UPD_CTRL_sr_work) s.nextInstar (ueIdWork e) (ueFirst e) (i0 + j))
    ((us.zip w).map (fun p => f32val ((sget? p.1 4).getD p.2)))
  let mean := ueFactored e && (List.range (ueRows e)).any (fun i => s.poisonAt (s.rowAddr s.incoming e i))
  let bad := (List.range n).map (fun j => s.paramBad e mean (i0 + j))
  let m1 := s.momentOut e false a i0 n us
  let m2 := s.momentOut e true a i0 n us
  let one (x : Nat) : Nat := x
  let old := (s.loadN a (stripeSize e)).map (fun b => (b, false))
  let img := patch old 0 (markBytes (w.flatMap (leBytes 4)) bad (fun x => x / 4) (fun x => x / 4 + 1))
  let img := patch img 8192 (markBytes m1.1 bad one (· + 1))
  let img := patch img (m1ScaleOff e) (markBytes m1.2.1 bad (32 * ·) (fun x => 32 * x + 32))
  let img := if ueLayout e = 0 then
      patch (patch img m2Off (markBytes m2.1 bad one (· + 1))) m2ScaleOff (markBytes m2.2.1 bad (32 * ·) (fun x => 32 * x + 32))
    else img
  let nan (id : Nat) (ps : List Nat) : List (Nat × Nat) := ps.map (fun p => (i0 + p, id))
  let wNans := (w.zipIdx.filter (fun p => isNanF32 p.1)).map Prod.snd
  { bytes := img, work := work, bad := bad,
    flags := (m1.2.2.1.join (if ueLayout e = 0 then m2.2.2.1 else {})).join work.2.2,
    nans := nan (ueIdM1 e) m1.2.2.2 ++ (if ueLayout e = 0 then nan (ueIdM2 e) m2.2.2.2 else []) ++ nan (ueIdMaster e) wNans ++
      nan (ueIdWork e) (nanPlaces (ueWorkFmt e) work) }

/-- NaN events of an engine (R71, R243): the lowest place comes first. -/
def State.engineNans (s : State) (q ei : Nat) (l : List (Nat × Nat)) : State :=
  match l with
  | [] => s
  | x :: xs =>
    let m := xs.foldl (fun a b => if b.1 < a.1 then b else a) x
    s.nanEvents { engine := 3, core := q, location := s.firstParam ei + m.1, tensor := m.2, mb := 0, branch := 0, cmd := s.job.cmdSeq }
      l.length

/-- Stripe `k` of an entry leaves engine `q` for the incoming bank, the working copy and the mirror stream (R234), with the flags that
its program raised; `nf` says that a gradient read was not finite (R249). -/
def State.leaveStripe (s : State) (q g ei : Nat) (e : List Nat) (k : Nat) (us : List (Sparse Nat)) (f : Flags) (nf : Bool) : State :=
  let n := min 2048 (ueCount e - 2048 * k)
  let o := s.stripeOut e k us
  let s := (s.writeBank (s.stripeAddr s.incoming e k) o.bytes).writeWork e s.incoming (2048 * k) o.work o.bad
  let s := (s.updFlags (o.flags.join f)).engineNans q ei o.nans
  let s := if nf then s.wr F.UPD_STATUS_nonfinite 1 else s
  let s := { s with upd := { s.upd with stripes := sput s.upd.stripes g true } }
  ((s.add F.UPD_STATUS_stripes_done 1).add F.UPD_PARAMS_count n).wr F.UPD_STATUS_phase (if s.arrival then 2 else 5)

/-- A program of microcode words reads the gradient. -/
def readsGrad (ws : List Nat) : Bool := ws.any (fun w => ucOpOf w == 1 && ucSel w == 0)

/-- A stripe that may be run now is run and written (R234). -/
def State.runStripe (s : State) (q g ei : Nat) (e : List Nat) (k : Nat) : State :=
  let i0 := 2048 * k
  let n := min 2048 (ueCount e - i0)
  let rs := (List.range n).map (fun j => s.runParam ei e (i0 + j))
  s.leaveStripe q g ei e k (rs.map (fun r => r.1.stores)) (rs.foldl (fun f r => f.join r.2) {})
    (readsGrad (s.program (ueSlot e)) && (List.range n).any (fun j => !(s.gradVal e (i0 + j)).isFinite))

/-- STRIPE_UPDATE: engine `engine` runs stripe `stripe` of the shard; `mismatch` says that its pair disagrees (R226, R227, R234
to R237). -/
def execStripeUpdate (engine stripe : Nat) (mismatch : Bool) (s : State) : Host.Outcome State Fault Refusal :=
  match s.stripeAt stripe with
  | none => .next s
  | some (ei, e, k) =>
    if s.engineOf stripe == engine && s.stripeRuns stripe then
      match s.firstPoison (s.stripeAddr s.bank e k) (stripeSize e) with
      | some g => .next (s.consumePoison g)
      | none =>
        if s.fencedAt s.incoming (ueOff e + k * stripeSize e) (stripeSize e) then .next s
        else if mismatch then .next (s.lockstep engine (stripeKey ei k))
        else .next (s.runStripe engine stripe ei e k)
    else .next s

/-! ### The factor pass (R244) -/

/-- The gradients of an entry, row by row. -/
def State.gradRows (s : State) (e : List Nat) : List (List (Nat × Flags)) :=
  (List.range (ueRows e)).map (fun i => (List.range (ueCols e)).map (fun j => s.gradOf e (i * ueCols e + j)))

/-- g² of an element, with flags. -/
def sqF (x : Nat × Flags) : Nat × Flags :=
  let y := fmul x.1 x.1
  (y.1, x.2.join y.2)

/-- Row sum q: the tree of R65 over each block of 32, the blocks added in increasing order. -/
def rowSum (sq : List (Nat × Flags)) : Nat × Flags :=
  (chunksOf 32 sq.length sq).foldl (fun a b => faddF a ((treeReduce faddF 5 b).headD (0, .none))) (0, .none)

/-- Column sums p: one addition per row. -/
def colSums (sq : List (List (Nat × Flags))) (cols : Nat) : List (Nat × Flags) :=
  sq.foldl (fun a r => (a.zip r).map (fun p => faddF p.1 p.2)) (List.replicate cols (0, .none))

/-- A new factor: fma(H1, old, (1 − H1) × (sum / n + H4)). -/
def newFactor (h1 h4 n old : Nat) (sum : Nat × Flags) : Nat × Flags :=
  let d := fsub 0x3F800000 h1
  let q := fdiv sum.1 (f32OfInt n)
  let t := fadd q.1 h4
  let m := fmul d.1 t.1
  let r := ffma h1 old m.1
  (r.1, ((((sum.2.join d.2).join q.2).join t.2).join m.2).join r.2)

/-- A factor vector as the extent holds it, padded with zeros to 64 bytes; `bad` marks its elements. -/
def factorBytesOf (vs : List (Nat × Flags)) (bad : List Bool) : List (Byte × Bool) :=
  let bs := markBytes (vs.flatMap (fun v => leBytes 4 v.1)) bad (fun k => k / 4) (fun k => k / 4 + 1)
  bs ++ List.replicate (pad64 bs.length - bs.length) (0, false)

/-- The factor pass of an entry; a NaN of a factor vector is given at the entry's first parameter (log entry 62). -/
def State.runFactors (s : State) (q ei : Nat) (e : List Nat) : State :=
  let g := s.gradRows e
  let sq := g.map (fun r => r.map sqF)
  let h1 := s.hyperOf e 4
  let h4 := s.hyperOf e 7
  let rs := (sq.map rowSum).zipIdx.map (fun p => newFactor h1 h4 (ueCols e) (s.f32At (s.rowAddr s.bank e p.2)) p.1)
  let cs := (colSums sq (ueCols e)).zipIdx.map (fun p => newFactor h1 h4 (ueRows e) (s.f32At (s.colAddr s.bank e p.2)) p.1)
  let badAt (i j : Nat) : Bool := s.gradPoison e (i * ueCols e + j) || s.upd.hyperMarks.getD (ueHyper e) false ||
    (ueClip e && s.upd.clipBad)
  let badR := (List.range (ueRows e)).map (fun i => (List.range (ueCols e)).any (fun j => badAt i j))
  let badC := (List.range (ueCols e)).map (fun j => (List.range (ueRows e)).any (fun i => badAt i j))
  let nans := ((rs ++ cs).filter (fun v => isNanF32 v.1)).map (fun _ => (0, ueIdM2 e))
  let nf := (List.range (ueCount e)).any (fun i => !(s.gradVal e i).isFinite)
  let s := (s.writeBank (s.rowAddr s.incoming e 0) (factorBytesOf rs badR)).writeBank (s.colAddr s.incoming e 0) (factorBytesOf cs badC)
  let s := (s.updFlags ((rs ++ cs).foldl (fun f v => f.join v.2) {})).engineNans q ei nans
  let s := if nf then s.wr F.UPD_STATUS_nonfinite 1 else s
  ({ s with upd := { s.upd with factors := sput s.upd.factors ei true } }).wr F.UPD_STATUS_phase 4

/-- FACTOR_PASS: the factors of entry `entry`, by the engine of its first stripe (R236, R244). -/
def execFactorPass (entry : Nat) (mismatch : Bool) (s : State) : Host.Outcome State Fault Refusal :=
  let e := s.upd.table.getD entry []
  let q := s.engineOf (s.firstStripe entry)
  if s.updating && !s.upd.copying && decide (entry < s.upd.table.length) && ueFactored e && !s.factorDone entry && !s.arrival &&
      s.upd.normDone && !s.upd.normOr && s.engineUp q then
    match s.firstPoison (s.rowAddr s.bank e 0) (factorBytes e) with
    | some g => .next (s.consumePoison g)
    | none =>
      if s.fencedAt s.incoming (ueOff e + rowFactorOff e) (factorBytes e) then .next s
      else if mismatch then .next (s.lockstep q (factorKey entry))
      else .next (s.runFactors q entry e)
  else .next s

/-! ### The replica digest (R320, R321) -/

/-- The digest over the incoming parity's working copies. -/
def State.digestOf (s : State) : Nat :=
  Config.shake256 (leBytes 4 s.jobId ++ leBytes 8 s.nextInstar ++ (s.upd.table.filter (fun e => !ueFrozen e)).flatMap (fun e =>
    s.loadN (ueWork e s.incoming) (planeBytes (ueWorkFmt e) (ueCount e))))

/-- A poisoned granule of a working copy under the digest (R172). -/
def State.digestPoison (s : State) : Option Nat :=
  ((s.upd.table.filter (fun e => !ueFrozen e)).flatMap (fun e =>
    granules (ueWork e s.incoming) (planeBytes (ueWorkFmt e) (ueCount e)))).find? s.poisonAt

/-- How many members of a set sent a digest. -/
def tally (ds : List Nat) (d : Nat) : Nat := (ds.filter (fun x => x == d)).length

/-- The own digest is one that the set does not favour: another is more common, or none is more common than every other. -/
def outvoted (ds : List Nat) (own : Nat) : Bool :=
  ds.any (fun d => d != own && decide (tally ds own ≤ tally ds d))

/-- Compare the digests once all are there. -/
def State.settleDigest (s : State) : State :=
  let rs := s.replicas
  if s.job.digestDone || !s.upd.header || rs.any (fun r => (sget? s.job.digests r).isNone) then s
  else
    let own := sget 0 s.job.digests s.rank
    match rs.find? (fun r => sget 0 s.job.digests r != own) with
    | none => { s with job := { s.job with digestDone := true } }
    | some r =>
      let again := decide (0 < s.job.mismatches)
      let s := { s with job := { s.job with mismatches := s.job.mismatches + 1, digestDone := true } }
      let s := ((s.wr F.CHK_DIGEST_STATUS_valid 1).wr F.CHK_DIGEST_STATUS_member r).raiseRec .CHK_DIGEST_MISMATCH r Rec.chkDigestStatus
      let s := if again && outvoted (rs.map (fun x => sget 0 s.job.digests x)) own then
          (s.wr F.CHK_DIGEST_STATUS_diverged 1).raiseRec .REPLICA_DIVERGED s.rank Rec.chkDigestStatus else s
      s.failStep 3 false

/-- Form the digest, show it and send it to the other members. -/
def State.formDigest (s : State) : State :=
  match s.digestPoison with
  | some g => (s.consumed 3 g).failStep 2 false
  | none =>
    let d := s.digestOf % 2 ^ 256
    let s := (List.range 4).foldl (fun t k => t.wrAt F.CHK_DIGEST_bytes k (d / 2 ^ (64 * k))) s
    let s := { s with job := { s.job with digests := sput s.job.digests s.rank d } }
    let s := (s.replicas.filter (fun r => r != s.rank)).foldl (fun t r => t.sendBarrier (t.moduleOf r) 0x14 0 0 0 0 t.rank d) s
    s.settleDigest

/-! ### The header (R229, R234, R247, R251) -/

/-- Exponent and good_steps of the incoming header. With dynamic clear the exponent never changes. -/
def State.nextScale (s : State) : Int × Nat :=
  let dyn := s.isSet F.UPD_SCALE_CTRL_dynamic
  if s.upd.copying then (if dyn then max (s.scaleExp - 1) s.minExp else s.scaleExp, 0)
  else if 0 < s.reductions then (if dyn then s.attemptExp else s.scaleExp, 0)
  else
    let g := (s.goodSteps + 1) % 2 ^ 32
    if dyn && decide (s.rd F.UPD_SCALE_CTRL_growth_interval ≤ g) then (min (s.scaleExp + 1) (max s.scaleExp s.maxExp), 0)
    else (s.scaleExp, g)

/-- The 256 bytes of the incoming header (log entry 62). -/
def State.headerBytes (s : State) : List Byte :=
  let skip := s.upd.copying
  let sc := s.nextScale
  leBytes 8 s.nextInstar ++ leBytes 8 (if skip then s.updateCount else s.updateCount + 1) ++
  leBytes 8 (if skip then s.hdrWord s.bank 2 else s.nextInstar) ++ leBytes 8 s.genKey ++ leBytes 2 (toCode 16 sc.1) ++
  leBytes 4 sc.2 ++ leBytes 2 0 ++ s.loadN (s.bankBase s.bank + 40) 6 ++ leBytes 18 0 ++
  (List.range 8).flatMap (fun k => leBytes 8 (s.rdAt F.UPD_CURSOR_NEXT_value k)) ++ leBytes 128 0

/-- The engines have written everything before the header: every stripe and factor vector; a shard without any waits for the
end of the micro-batch work, and in HELD mode for the norm. -/
def State.headerDue (s : State) : Bool :=
  !s.upd.header && s.allStripes && s.allFactors &&
  (s.upd.copying || decide (0 < s.shardStripes) ||
    (s.step == .checking && (s.arrival || (s.upd.normDone && !s.upd.normOr))))

/-- The mirror fence holds once every mirror flit of the attempt, the header's included, is acknowledged (R328, R333). -/
def State.settleFence (s : State) : State :=
  if s.upd.header && !s.tagPending mirrorTag then s.wr F.CHK_MIRROR_STATUS_fence 1 else s

/-- HEADER_WRITE: the incoming header goes last (R234); with it the digest is complete. -/
def execHeaderWrite (mismatch : Bool) (s : State) : Host.Outcome State Fault Refusal :=
  let q := ((List.range 4).find? s.engineUp).getD 0
  if s.updating && s.headerDue then
    match s.firstPoison (s.bankBase s.bank) 256 with
    | some g => .next (s.consumePoison g)
    | none =>
      if s.headerFenced s.incoming then .next s
      else if mismatch then .next (s.lockstep q headerKey)
      else
        let s := s.writeBank (s.bankBase s.incoming) (s.headerBytes.map (fun b => (b, false)))
        let s := ({ s with upd := { s.upd with header := true } }).wr F.UPD_STATUS_phase 7
        .next s.formDigest.settleFence
  else .next s

/-! ### Copy and regeneration (R246, R251) -/

/-- Copy marked bytes from one place to another. -/
def State.copyMarked (s : State) (a b n : Nat) : State := s.storeMarked b (s.loadMarked a n)

/-- The NaNs of a committed stripe and of its part of the working copy, as (place in the entry, tensor). -/
def State.committedNans (s : State) (e : List Nat) (k : Nat) : List (Nat × Nat) :=
  let n := min 2048 (ueCount e - 2048 * k)
  let places (id : Nat) (v : Nat → FVal) : List (Nat × Nat) :=
    ((List.range n).filter (fun j => (v (2048 * k + j)).isNan)).map (fun j => (2048 * k + j, id))
  let f := ueWorkFmt e
  let a := ueWork e s.bank
  places (ueIdM1 e) (s.momentVal s.bank e false) ++ (if ueLayout e = 0 then places (ueIdM2 e) (s.momentVal s.bank e true) else []) ++
  places (ueIdMaster e) (fun i => f32val (s.weightCode s.bank e i)) ++ places (ueIdWork e) (s.stored f a (ueCount e))

/-- Copy stripe `g` and its part of the working copy from the committed side. -/
def State.copyStripe (s : State) (g ei : Nat) (e : List Nat) (k : Nat) : State :=
  let n := min 2048 (ueCount e - 2048 * k)
  let f := ueWorkFmt e
  let w := 2048 * k * f.bits / 8
  let sc := ueCount e * f.bits / 8 + 64 * k
  let bs := s.loadMarked (s.stripeAddr s.bank e k) (stripeSize e)
  let nans := s.committedNans e k
  let s := ((s.engineNans (s.engineOf g) ei nans).writeBank (s.stripeAddr s.incoming e k) bs).copyMarked (ueWork e s.bank + w) (ueWork e s.incoming + w) (n * f.bits / 8)
  let s := if f.isMx then s.copyMarked (ueWork e s.bank + sc) (ueWork e s.incoming + sc) (n / 32) else s
  let s := { s with upd := { s.upd with stripes := sput s.upd.stripes g true } }
  ((s.add F.UPD_STATUS_stripes_done 1).add F.UPD_PARAMS_count n).wr F.UPD_STATUS_phase 6

/-- The factor vectors of an entry are copied; their NaNs are given at its first parameter (log entry 62). -/
def State.copyFactors (s : State) (ei : Nat) (e : List Nat) : State :=
  let n := (((List.range (ueRows e)).map (s.rowAddr s.bank e)) ++ (List.range (ueCols e)).map (s.colAddr s.bank e)).countP (fun a =>
    isNanF32 (s.f32At a))
  let s := s.writeBank (s.rowAddr s.incoming e 0) (s.loadMarked (s.rowAddr s.bank e 0) (factorBytes e))
  let s := s.engineNans (s.engineOf (s.firstStripe ei)) ei (List.replicate n (0, ueIdM2 e))
  ({ s with upd := { s.upd with factors := sput s.upd.factors ei true } }).wr F.UPD_STATUS_phase 6

/-- COPY_PASS of SKIP_STEP (R251): stripe `stripe` of the shard, or, from the number of stripes on, the factor vectors of an entry;
the pair of its engine compares what it writes (R227). -/
def execCopyPass (work : CopyWork) (s : State) : Host.Outcome State Fault Refusal :=
  let g := work.stripe
  if s.updating && s.upd.copying then
    match s.stripeAt g with
    | some (ei, e, k) =>
      if s.stripeDone g || s.fencedAt s.incoming (ueOff e + k * stripeSize e) (stripeSize e) then .next s
      else match s.firstPoison (s.stripeAddr s.bank e k) (stripeSize e) with
        | some a => .next (s.consumePoison a)
        | none => .next (if work.mismatch then s.lockstep (s.engineOf g) (stripeKey ei k) else s.copyStripe g ei e k)
    | none =>
      let ei := g - s.shardStripes
      let e := s.upd.table.getD ei []
      if decide (s.upd.table.length ≤ ei) || !ueFactored e || s.factorDone ei ||
          s.fencedAt s.incoming (ueOff e + rowFactorOff e) (factorBytes e) then .next s
      else match s.firstPoison (s.rowAddr s.bank e 0) (factorBytes e) with
        | some a => .next (s.consumePoison a)
        | none =>
          .next (if work.mismatch then s.lockstep (s.engineOf (s.firstStripe ei)) (factorKey ei) else s.copyFactors ei e)
  else .next s

/-- The pair of the engine of stripe `g` in a regeneration pass (R227, R246): a first disagreement reruns the stripe, a second takes the
engine out of service and hands the stripe to the next. Whether it disagrees is a free value (log entry 88). -/
def State.regenPair (s : State) (g : Nat) : State :=
  let q := s.engineOf g
  let once := Config.pairMismatch s.drawn
  let twice := once && Config.pairMismatch (s.drawn + 1)
  let s := { s with drawn := s.drawn + 2 }
  let s := if once then s.addSatAt F.UPD_ENGINE_reruns q 1 else s
  if twice then (s.addSatAt F.UPD_ENGINE_faults q 1).dropEngine q else s

/-- Convert the master weights of stripe `k` of an entry into the committed parity's working copy (R246). -/
def State.regenStripe (s : State) (p : (Nat × List Nat) × Nat) : State :=
  let ei := p.1.1
  let e := p.1.2
  let k := p.2
  let g := s.firstStripe ei + k
  let s := s.regenPair g
  if !s.alive then s
  else
    let i0 := 2048 * k
    let n := min 2048 (ueCount e - i0)
    let w := (List.range n).map (fun j => s.weightCode s.bank e (i0 + j))
    let r := convertRun (ueWorkFmt e)
      (fun j => s.updRnd (s.isSet F.UPD_CTRL_sr_work) (s.hdrWord s.bank 2) (ueIdWork e) (ueFirst e) (i0 + j)) (w.map f32val)
    let s := (s.writeWork e s.bank i0 r (w.map (fun _ => false))).add F.UPD_PARAMS_count n
    (s.updFlags r.2.2).engineNans (s.engineOf g) ei ((nanPlaces (ueWorkFmt e) r).map (fun j => (i0 + j, ueIdWork e)))

/-- Every stripe of every entry other than FROZEN: (entry index, entry), stripe. -/
def State.allWork (s : State) : List ((Nat × List Nat) × Nat) :=
  s.upd.table.zipIdx.flatMap (fun p => (entryStripes p.1).map (fun k => ((p.2, p.1), k)))

/-- Regeneration may run: it is due, a table is in force, no takeover pull runs, and at a job's start STEP_RUN has come (R246, R253). -/
def State.regenMay (s : State) : Bool :=
  s.alive && s.job.active && s.upd.regenDue && !s.stepOpen && s.isSet F.UPD_STATUS_table_loaded && !s.mirror.pulling &&
    (!s.job.starting || s.isSet F.SCH_RUN_running)

/-- REGENERATION_PASS (R246): before the first step opens after a job start, a restore or a takeover. -/
def execRegenerationPass (s : State) : Host.Outcome State Fault Refusal :=
  if s.regenMay then
    match s.allWork.findSome? (fun p => s.firstPoison (s.stripeAddr s.bank p.1.2 p.2) 8192) with
    | some g => .next (s.consumePoison g)
    | none =>
      let s := s.allWork.foldl State.regenStripe s
      .next (if s.alive then { s with upd := { s.upd with regenDue := false } } else s)
  else .next s

end Sys2Proof.Machine
end

