-- ==== Sys2Proof/Machine/Coll.lean ====
section
/-! DEFINITION. Machine/Coll.lean: the collective engine (R270 to R277): descriptors and their checks, the reduction tree, the
operations that only move data, completion with its reports to the update engines, and the norm all-reduce (R236). COLL_DATA
flits carry a 64-byte heading of the model's own (log entry 7) and up to 192 bytes of data. -/

namespace Sys2Proof.Machine

/-! ### The descriptor (R270) -/

def cOp (w : List Nat) : Nat := fld (wd w 0) 63 60
def cRed (w : List Nat) : Nat := fld (wd w 0) 59 58
def cIn (w : List Nat) : Fmt := (Fmt.ofCode (fld (wd w 0) 57 53)).getD .fp32
def cWire (w : List Nat) : Fmt := (Fmt.ofCode (fld (wd w 0) 52 48)).getD .fp32
def cOut (w : List Nat) : Fmt := (Fmt.ofCode (fld (wd w 0) 47 43)).getD .fp32
def cRound (w : List Nat) : Nat := fld (wd w 0) 42 41
def cOvf (w : List Nat) : Nat := fld (wd w 0) 40 39
def cReport (w : List Nat) : Bool := bitAt (wd w 0) 38
def cNfOr (w : List Nat) : Bool := bitAt (wd w 0) 37
def cDoneEn (w : List Nat) : Bool := bitAt (wd w 0) 36
def cMask (w : List Nat) : Nat := fld (wd w 0) 35 30
def cSeq (w : List Nat) : Nat := fld (wd w 1) 63 32
def cRoot (w : List Nat) : Nat := fld (wd w 1) 31 16
def cCount (w : List Nat) : Nat := fld (wd w 2) 63 24
def cChunk (w : List Nat) : Nat := fld (wd w 3) 63 24
def cSrc (w : List Nat) : Nat := fld (wd w 4) 47 0
def cDst (w : List Nat) : Nat := fld (wd w 5) 47 0
def cTensor (w : List Nat) : Nat := fld (wd w 6) 63 40
def cReduces (w : List Nat) : Bool := cOp w == 1 || cOp w == 2

/-- The name of a descriptor's collective. -/
def cId (w : List Nat) : Nat := cMask w * 2 ^ 33 + cSeq w

/-- The fields that every member must give alike (R275), as one number: what the digest of the first flit stands for (log entry 65). -/
def cDigest (w : List Nat) : Nat :=
  wd w 0 / 2 ^ 53 + fld (wd w 0) 52 43 * 2 ^ 11 + cMask w * 2 ^ 21 + cRoot w * 2 ^ 32 + cTensor w * 2 ^ 48 + cCount w * 2 ^ 80 +
    cChunk w * 2 ^ 128

/-- The communicator: member ranks in order (R271). -/
def State.communicator (s : State) (w : List Nat) : List Nat :=
  if bitAt (wd w 0) 30 then List.range s.rankCount else membersOf s.job.shapes (fld (wd w 0) 35 31) s.rank
def State.memberIndex (s : State) (w : List Nat) : Nat := ((s.communicator w).findIdx? (fun r => r == s.rank)).getD 0

/-- Level of the root: ⌈log2 n⌉. -/
def treeHeight (n : Nat) : Nat := if n ≤ 1 then 0 else Nat.log2 (n - 1) + 1

/-- Elements of chunk `k`. -/
def chunkLen (w : List Nat) (k : Nat) : Nat := min (cCount w - k * cChunk w) (cChunk w)

/-- Bytes of `n` elements with their scales. -/
def tensorBytes (f : Fmt) (n : Nat) : Nat := (n * f.bits + 7) / 8 + (if f.isMx then (n + 31) / 32 else 0)

/-- Elements of the contribution and of the result at member `j` of `n`. -/
def srcCount (w : List Nat) (n : Nat) : Nat := if cOp w = 4 then n * cCount w else cCount w
def dstCount (w : List Nat) (n j : Nat) : Nat :=
  match cOp w with
  | 2 => chunkLen w j
  | 3 | 4 => n * cCount w
  | _ => cCount w

/-! ### Checks (R275) -/

/-- Formats that the fabric uses (R38). -/
def fabricFmt (code : Nat) : Bool := code == 0 || code == 1 || code == 9

/-- A range the collective engine may read, or write: HBM under R164, or a tile store (R18) (log entry 66). -/
def State.collRead (s : State) (a n : Nat) : Bool := s.mayReadHbm .collective a n || inTiles a n
def State.collWrite (s : State) (a n : Nat) : Bool := s.mayWriteHbm .collective a n || (inTiles a n && !s.hitsResident a n)

/-- The rejection code of a descriptor; 0 for a good one. -/
def State.collCode (s : State) (w : List Nat) : Nat :=
  let n := (s.communicator w).length
  let j := s.memberIndex w
  let red := cReduces w
  let src := tensorBytes (cIn w) (srcCount w n)
  let dst := tensorBytes (cOut w) (dstCount w n j)
  let i := fld (wd w 0) 57 53
  let o := fld (wd w 0) 47 43
  let fmtBad := if red then !(fabricFmt i && fabricFmt (fld (wd w 0) 52 48) && fabricFmt o)
    else (Fmt.ofCode i).isNone || i != o
  lowestCode [
    (cOp w == 0 || decide (5 < cOp w) || cRed w == 3 || decide (1 < cRound w) || cOvf w == 3 || fld (wd w 0) 29 0 != 0 ||
      fld (wd w 1) 15 0 != 0 || fld (wd w 2) 23 0 != 0 || fld (wd w 3) 23 0 != 0 || fld (wd w 4) 63 48 != 0 ||
      fld (wd w 5) 63 48 != 0 || fld (wd w 6) 22 0 != 0 || fld (wd w 7) 47 0 != 0, 1),
    (fmtBad, 2),
    (bitAt (wd w 0) 30 && fld (wd w 0) 35 31 != 31, 3),
    (cCount w == 0 || (red && (decide (n * cChunk w < cCount w) || ((cWire w).isMx && cChunk w % 32 != 0) ||
      (cReport w && cChunk w % 2048 != 0))), 4),
    (cSrc w % 64 != 0 || cDst w % 64 != 0 || !s.collRead (cSrc w) src || !s.collWrite (cDst w) dst, 5),
    (cOp w == 5 && decide (n ≤ cRoot w), 6)]

def State.noteColl (s : State) (mismatch : Bool) (reason member seq : Nat) : State :=
  ((((s.wr F.FAB_COLL_REJECT_valid 1).wr F.FAB_COLL_REJECT_mismatch (bit mismatch)).wr F.FAB_COLL_REJECT_reason reason).wr
    F.FAB_COLL_REJECT_member member).wr F.FAB_COLL_REJECT_coll_seq seq

/-- A rejected descriptor: the step is discarded and the module held (R275). -/
def State.rejectColl (s : State) (code seq : Nat) : State :=
  ((s.noteColl false code 0 seq).raiseRec .COLL_DESC_INVALID 0xFFFF Rec.fabCollReject).failStep 1 true

/-- Member `m` disagrees with member 0 (R275). -/
def State.collMismatch (s : State) (m seq : Nat) : State :=
  ((s.noteColl true 0 m seq).raiseRec .COLL_MISMATCH 0xFFFF Rec.fabCollReject).failStep 1 true

/-! ### Arithmetic (R273, R274, R276) -/

/-- FAB_COLL_FLAGS gathers NV, OF and UF. -/
def State.collFlags (s : State) (f : Flags) : State :=
  ((s.wr F.FAB_COLL_FLAGS_nv (max (s.rd F.FAB_COLL_FLAGS_nv) (bit f.nv))).wr F.FAB_COLL_FLAGS_of
    (max (s.rd F.FAB_COLL_FLAGS_of) (bit f.of))).wr F.FAB_COLL_FLAGS_uf (max (s.rd F.FAB_COLL_FLAGS_uf) (bit f.uf))

/-- NaN events of engine 4. -/
def State.collNans (s : State) (w : List Nat) (n : Nat) : State :=
  s.nanEvents { engine := 4, core := 0, location := cSeq w, tensor := cTensor w, mb := fld (wd w 7) 63 52,
                branch := fld (wd w 7) 51 48, cmd := s.job.cmdSeq } n

/-- Rounding of element `i` of the contribution at level `h`. -/
def State.collRnd (s : State) (w : List Nat) (h i : Nat) : Rnd :=
  if cRound w = 1 then .stochastic (rbits (useKey (stepKey s.genKey s.nextInstar) (1 + h)) (cTensor w) i) else .nearest

/-- Convert FP32 values, elements `first` on, to a format at level `h`: codes, scales, flags. -/
def State.collConvert (s : State) (w : List Nat) (f : Fmt) (h first : Nat) (vs : List Nat) : List Nat × List Nat × Flags :=
  let md (k : Nat) : Rnd := s.collRnd w h (first + k)
  if f.isMx then
    let bs := (chunksOf 32 vs.length vs).zipIdx.map (fun p =>
      mxBlock f (fun k => md (32 * p.2 + k)) (saturates (cOvf w) f) (p.1.map f32val))
    (bs.flatMap (fun b => b.2.1), bs.map (fun b => b.1), bs.foldl (fun a b => a.join b.2.2) {})
  else
    let es := vs.zipIdx.map (fun p => convertScalar f (md p.2) (cOvf w) .keep (f32val p.1))
    (es.map Prod.fst, [], es.foldl (fun a x => a.join x.2) {})

/-- The FP32 values of codes and scales of a format. -/
def valuesOf (f : Fmt) (codes scales : List Nat) : List (Nat × Flags) :=
  codes.zipIdx.map (fun p => toF32 (f.value p.1 (if f.isMx then scales.getD (p.2 / 32) 0x7F else 0x7F)))

/-- wire(v, h): FP32 unchanged, else rounded to wire_fmt and read back. -/
def State.wire (s : State) (w : List Nat) (h first : Nat) (vs : List Nat) : List Nat × Flags :=
  if cWire w = .fp32 then (vs, {})
  else
    let r := s.collConvert w (cWire w) h first vs
    ((valuesOf (cWire w) r.1 r.2.1).map Prod.fst, r.2.2)

/-- op of two FP32 values. -/
def redOp (k a b : Nat) : Nat × Flags :=
  match k with
  | 1 => fmax a b
  | 2 => fmin a b
  | _ => fadd a b

/-- Codes of a format as bytes: the elements, then the scales. -/
def encodeTensor (f : Fmt) (codes scales : List Nat) : List Byte :=
  packBytes f.bits codes ++ (if f.isMx then scales.map (BitVec.ofNat 8) else [])

/-- Codes and scales of `n` elements from bytes. -/
def decodeTensor (f : Fmt) (n : Nat) (bs : List Byte) : List Nat × List Nat :=
  let k := (n * f.bits + 7) / 8
  (unpackBytes f.bits n (bs.take k), (bs.drop k).map BitVec.toNat)

/-- Marks of the elements of marked bytes, and of the bytes of marked elements. -/
def marksOf (f : Fmt) (n : Nat) (bs : List (Byte × Bool)) : List Bool :=
  let k := (n * f.bits + 7) / 8
  (List.range n).map (fun i => ((bs.getD (i * f.bits / 8) (0, false)).2 || (bs.getD ((i * f.bits + f.bits - 1) / 8) (0, false)).2) ||
    (f.isMx && (bs.getD (k + i / 32) (0, false)).2))

def markTensor (f : Fmt) (n : Nat) (bs : List Byte) (bad : List Bool) : List (Byte × Bool) :=
  let k := (n * f.bits + 7) / 8
  markBytes (bs.take k) bad (fun x => x * 8 / f.bits) (fun x => (x * 8 + 7) / f.bits + 1) ++
    markBytes (bs.drop k) bad (32 * ·) (fun x => 32 * x + 32)

/-! ### Messages -/

/-- A COLL_DATA payload: kind (0 a node's values, 1 a result, 2 moved data, 3 a digest alone), level, chunk or member, the
non-finite bit, the collective, the place of the data and its whole length, the digest, then the data. -/
def collBytes (kind level idx : Nat) (nf : Bool) (id first total digest : Nat) (data : List Byte) : List Byte :=
  leBytes 1 kind ++ leBytes 1 level ++ leBytes 2 idx ++ leBytes 1 (bit nf) ++ leBytes 3 0 ++ leBytes 8 id ++ leBytes 8 first ++
    leBytes 8 total ++ leBytes 32 digest ++ data

/-- Send marked bytes to a module, 192 to a flit. -/
def State.sendColl (m : Nat) (c : Coll) (kind level idx total : Nat) : Nat → State → List (Byte × Bool) → Nat → State
  | 0, s, _, _ => s
  | k + 1, s, bs, off =>
    if bs.isEmpty then s
    else
      let piece := bs.take 192
      let marks := (List.range 3).foldl (fun a g => a + (if ((piece.drop (64 * g)).take 64).any Prod.snd then 2 ^ (g + 1) else 0)) 0
      sendColl m c kind level idx total k
        (s.sendFlit (s.envelope m 0 .collData 0 false marks
          (granulePad (collBytes kind level idx c.nf c.id off total (cDigest c.words) (piece.map Prod.fst))))) (bs.drop 192) (off + 192)

def State.sendTo (s : State) (rank : Nat) (c : Coll) (kind level idx : Nat) (bs : List (Byte × Bool)) : State :=
  State.sendColl (s.moduleOf rank) c kind level idx bs.length (bs.length / 192 + 1) s bs 0

def stream (kind level idx : Nat) : Nat := kind * 2 ^ 32 + level * 2 ^ 20 + idx
/-- Bytes of a stream received, and whether all `n` have come. -/
def Coll.bytesOf (c : Coll) (st n : Nat) : List (Byte × Bool) :=
  (List.range n).map (fun k => (sget 0 c.got (st * 2 ^ 48 + k), sget false c.gotPoison (st * 2 ^ 48 + k)))
def Coll.whole (c : Coll) (st n : Nat) : Bool := (c.got.filter (fun p => p.1 / 2 ^ 48 == st)).length == n
/-- Take bytes into a stream. -/
def Coll.take (c : Coll) (st first : Nat) (bs : List (Byte × Bool)) : Coll :=
  bs.zipIdx.foldl (fun c p =>
    { c with got := sput c.got (st * 2 ^ 48 + first + p.2) p.1.1, gotPoison := sset false c.gotPoison (st * 2 ^ 48 + first + p.2) p.1.2 }) c

def State.setColl (s : State) (c : Coll) : State :=
  { s with fab := { s.fab with colls := s.fab.colls.map (fun x => if x.id = c.id then c else x) } }

/-! ### The norm (R236) -/

def normId : Nat := 63 * 2 ^ 33 + 2 ^ 32
def Coll.isNorm (c : Coll) : Bool := c.id == normId

/-- The total T and the OR come back: the norm, the clip factor, and whether the later steps run. -/
def State.normReturn (s : State) (t : Nat) (nf bad : Bool) : State :=
  let r := fsqrt t
  let n := toF32 ((f32val r.1).scale (-s.attemptExp))
  let clip := s.isSet F.UPD_CTRL_clip_enable && valLt false (f32val (s.rd F.UPD_CLIP_max_norm)) (f32val n.1)
  let c := if clip then fdiv (s.rd F.UPD_CLIP_max_norm) n.1 else (0x3F800000, {})
  let s := { s with upd := { s.upd with normDone := true, normOr := nf, clipBad := bad } }
  let s := if isFiniteF32 t then s else s.wr F.UPD_STATUS_nonfinite 1
  if nf then s
  else ((s.wr F.UPD_NORM_norm n.1).wr F.UPD_NORM_clip_factor c.1).updFlags ((r.2.join n.2).join c.2)

/-! ### Reductions (R273) -/

/-- Write the result of chunk `k` at dst (R272, R277). -/
def State.placeChunk (s : State) (c : Coll) (k : Nat) (bs : List (Byte × Bool)) : State × Coll :=
  let w := c.words
  let f := cOut w
  let m := chunkLen w k
  let e := m * f.bits / 8
  if c.isNorm then
    (s.normReturn (leNat ((bs.take 4).map Prod.fst)) c.nf ((bs.take 4).any Prod.snd), { c with placed := m, done := true })
  else
    let all := if cOp w = 2 then m else cCount w
    let at_ := if cOp w = 2 then 0 else k * cChunk w
    let s := s.storeMarked (cDst w + at_ * f.bits / 8) (bs.take e)
    let s := if f.isMx then s.storeMarked (cDst w + all * f.bits / 8 + at_ / 32) (bs.drop e) else s
    (s, { c with placed := c.placed + m })

/-- The root of chunk `k`: convert to out_fmt with use 1 + H, write the own result, send it where it belongs. -/
def State.rootChunk (s : State) (c : Coll) (k h : Nat) (vals : List (Nat × Bool)) : State × Coll :=
  let w := c.words
  let r := s.collConvert w (cOut w) h (k * cChunk w) (vals.map Prod.fst)
  let nans := ((valuesOf (cOut w) r.1 r.2.1).filter (fun v => isNanF32 v.1)).length
  let s := (s.collFlags r.2.2).collNans w nans
  let bs := markTensor (cOut w) vals.length (encodeTensor (cOut w) r.1 r.2.1) (vals.map Prod.snd)
  let p := s.placeChunk c k bs
  if cOp w = 1 then
    (((s.communicator w).filter (fun x => x != s.rank)).foldl (fun t x => t.sendTo x c 1 0 k bs) p.1, p.2)
  else p

/-- Carry chunk `k` up the tree as far as its data allows. -/
def State.climb (k : Nat) : Nat → State → Coll → State × Coll
  | 0, s, c => (s, c)
  | fuel + 1, s, c =>
    let w := c.words
    let rs := s.communicator w
    let n := rs.length
    let top := treeHeight n
    let ch := sget {} c.chunks k
    let h := ch.level
    let i := ((s.memberIndex w + n - k) % n) / 2 ^ h
    let put (x : CollChunk) : Coll := { c with chunks := sput c.chunks k x }
    let len := chunkLen w k
    if ch.fin then (s, c)
    else if h = top then s.rootChunk (put { ch with fin := true }) k top ch.vals
    else if i % 2 = 1 then
      let bs := encodeTensor (cWire w) (s.collConvert w (cWire w) h (k * cChunk w) (ch.vals.map Prod.fst)).1
        (s.collConvert w (cWire w) h (k * cChunk w) (ch.vals.map Prod.fst)).2.1
      let to_ := rs.getD ((k + (i - 1) * 2 ^ h) % n) 0
      (s.sendTo to_ c 0 h k (markTensor (cWire w) len bs (ch.vals.map Prod.snd)), put { ch with fin := true })
    else if n ≤ (i + 1) * 2 ^ h then climb k fuel s (put { ch with level := h + 1 })
    else
      let st := stream 0 h k
      let tb := tensorBytes (cWire w) len
      if c.whole st tb then
        let bs := c.bytesOf st tb
        let d := decodeTensor (cWire w) len (bs.map Prod.fst)
        let right := (valuesOf (cWire w) d.1 d.2).map Prod.fst
        let sums := (ch.vals.zip right).map (fun p => redOp (cRed w) p.1.1 p.2)
        let x := if h + 1 = top then (sums.map Prod.fst, ({} : Flags)) else s.wire w (h + 1) (k * cChunk w) (sums.map Prod.fst)
        let s := (s.collFlags (sums.foldl (fun f v => f.join v.2) x.2)).collNans w ((x.1.filter isNanF32).length)
        let s := s.add F.FAB_COLL_OPS_count len
        let bad := (ch.vals.zip (marksOf (cWire w) len bs)).map (fun p => p.1.2 || p.2)
        climb k fuel s (put { ch with level := h + 1, vals := x.1.zip bad })
      else (s, c)

/-- The elements of the contribution, exactly in FP32, with flags and marks. -/
def State.contribution (s : State) (w : List Nat) (first n : Nat) : List ((Nat × Flags) × Bool) :=
  (List.range n).map (fun k =>
    (toF32 (s.stored (cIn w) (cSrc w) (cCount w) (first + k)), s.storedPoison (cIn w) (cSrc w) (cCount w) (first + k)))

/-- Leaf of chunk `k`: the contribution rounded to wire_fmt. -/
def State.leaf (s : State) (c : Coll) (k : Nat) (xs : List ((Nat × Flags) × Bool)) : State × Coll :=
  let w := c.words
  let v := s.wire w 0 (k * cChunk w) (xs.map (fun x => x.1.1))
  let s := (s.collFlags (xs.foldl (fun f x => f.join x.1.2) v.2)).collNans w ((v.1.filter isNanF32).length)
  State.climb k (treeHeight (s.communicator w).length + 1) s
    { c with chunks := sput c.chunks k { vals := v.1.zip (xs.map Prod.snd) } }

/-! ### Operations that only move data (R272) -/

/-- `n` elements from `first` of a tensor of `total` at `a`, as a tensor of their own. -/
def State.slice (s : State) (f : Fmt) (a total first n : Nat) : List (Byte × Bool) :=
  let bs := s.loadMarked a (tensorBytes f total)
  let d := decodeTensor f total (bs.map Prod.fst)
  markTensor f n (encodeTensor f ((d.1.drop first).take n)
      ((List.range ((n + 31) / 32)).map (fun b => d.2.getD ((first + 32 * b) / 32) 0)))
    (((marksOf f total bs).drop first).take n)

/-- The result once every piece is here: pieces in member order. -/
def Coll.assemble (c : Coll) (pieces : List Nat) : List (Byte × Bool) :=
  let f := cOut c.words
  let m := cCount c.words
  let tb := tensorBytes f m
  let ds := pieces.map (fun i => c.bytesOf (stream 2 0 i) tb)
  let cs := ds.map (fun b => decodeTensor f m (b.map Prod.fst))
  let total := m * pieces.length
  let scales := (List.range ((total + 31) / 32)).map (fun b =>
    (cs.getD (32 * b / m) ([], [])).2.getD (32 * b % m / 32) 0)
  markTensor f total (encodeTensor f (cs.flatMap Prod.fst) scales) (ds.flatMap (marksOf f m))

/-- Write a moved result when it is whole. -/
def State.placeMoved (s : State) (c : Coll) : State × Coll :=
  let w := c.words
  let pieces := if cOp w = 5 then [cRoot w] else List.range (s.communicator w).length
  let tb := tensorBytes (cOut w) (cCount w)
  if c.placed = 0 && pieces.all (fun i => c.whole (stream 2 0 i) tb) then
    (s.storeMarked (cDst w) (c.assemble pieces), { c with placed := cCount w * pieces.length })
  else (s, c)

/-- Send the own pieces and take the own one. -/
def State.startMove (s : State) (c : Coll) : State × Coll :=
  let w := c.words
  let rs := s.communicator w
  let j := s.memberIndex w
  let f := cIn w
  let piece (i : Nat) : List (Byte × Bool) :=
    if cOp w = 4 then s.slice f (cSrc w) (srcCount w rs.length) (i * cCount w) (cCount w)
    else s.slice f (cSrc w) (cCount w) 0 (cCount w)
  if cOp w = 5 && cRoot w != j then (s, c)
  else
    let t := rs.zipIdx.foldl (fun t p => if p.2 = j then t else t.sendTo p.1 c 2 0 j (piece p.2)) s
    t.placeMoved (c.take (stream 2 0 j) 0 (piece j))

/-! ### Start and arrival -/

/-- Member of a collective that a module serves. -/
def State.memberOf (s : State) (c : Coll) (m : Nat) : Option Nat := (s.communicator c.words).findIdx? (fun r => s.moduleOf r == m)

/-- A member's digest meets the collective of member 0 (R275). -/
def State.checkDigest (s : State) (c : Coll) (f : Flit) : State :=
  let k := (s.memberOf c f.srcModule).getD 0
  if field f.payload 32 32 = cDigest c.words then s.setColl { c with checked := c.checked ++ [k] } else s.collMismatch k (c.id % 2 ^ 33)

/-- COLL_DATA for a collective in progress. -/
def State.collTake (s : State) (c : Coll) (f : Flit) : State :=
  let w := c.words
  let kind := field f.payload 0 1
  let level := field f.payload 1 1
  let idx := field f.payload 2 2
  let first := field f.payload 16 8
  let data := ((f.payload.drop 64).zipIdx.map (fun p => (p.1, bitAt f.poison (p.2 / 64 + 1)))).take (field f.payload 24 8 - first)
  if kind = 3 then s.checkDigest c f
  else
    let c := ({ c with nf := c.nf || bitAt (field f.payload 4 1) 0 }).take (stream kind level idx) first data
    let r := if kind = 0 then State.climb idx (treeHeight (s.communicator w).length + 1) s c
      else if kind = 1 then
        let tb := tensorBytes (cOut w) (chunkLen w idx)
        if c.whole (stream 1 0 idx) tb then s.placeChunk c idx (c.bytesOf (stream 1 0 idx) tb) else (s, c)
      else s.placeMoved c
    r.1.setColl r.2

def collFlitId (f : Flit) : Nat := field f.payload 8 8

/-- A member's digest that names another axis_mask than the collective of its coll_seq in progress at member 0 (R275, log entry 65). -/
def State.digestMeets (s : State) (c : Coll) (f : Flit) : Bool :=
  flitKind f == 3 && collFlitId f % 2 ^ 33 == c.id % 2 ^ 33 && !c.done && s.memberIndex c.words == 0 &&
  (match s.memberOf c f.srcModule with
    | some k => !c.checked.contains k
    | none => false)

/-- Start a collective: the digest to member 0, the own leaves or pieces, then what has come early. `own` gives the elements of
a chunk. -/
def State.startColl (s : State) (c : Coll) (own : Nat → List ((Nat × Flags) × Bool)) : State :=
  let w := c.words
  let rs := s.communicator w
  let s := { s with fab := { s.fab with colls := s.fab.colls.filter (fun (x : Coll) => x.id != c.id) ++ [c] } }
  let s := if s.memberIndex w = 0 then s
    else s.sendFlit (s.envelope (s.moduleOf (rs.headD 0)) 0 .collData 0 false 0 (collBytes 3 0 0 c.nf c.id 0 0 (cDigest w) []))
  let r := if cReduces w then
      ((List.range rs.length).filter (fun k => decide (k * cChunk w < cCount w))).foldl (fun r k => r.1.leaf r.2 k (own k)) (s, c)
    else s.startMove c
  let s := r.1.setColl r.2
  let mine := s.fab.early.filter (fun f => collFlitId f == c.id)
  let s := { s with fab := { s.fab with early := s.fab.early.filter (fun f => collFlitId f != c.id) } }
  let now (t : State) : Option Coll := t.fab.colls.find? (fun (x : Coll) => x.id == c.id)
  let s := mine.foldl (fun t f => match now t with
    | some x => t.collTake x f
    | none => t) s
  s.fab.early.foldl (fun t f => match now t with
    | some x => if t.digestMeets x f then t.checkDigest x f else t
    | none => t) s

/-- All-reduce S with the module's non-finite bit over the job (R236). -/
def State.startNorm (s : State) : State :=
  let v : FVal := if s.upd.normSpecial = 2 then .nan false else if s.upd.normSpecial = 1 then .inf false
    else .fin false s.upd.norm.toNat (-700)
  let x := if s.isSet F.UPD_CTRL_norm_contrib then toF32 v else (0, {})
  let w := [2 ^ 60 + 2 ^ 37 + 63 * 2 ^ 30, 0, 2 ^ 24, 2 ^ 24, 0, 0, 0, 0]
  ((s.updFlags x.2).wr F.UPD_STATUS_phase 3).startColl { id := normId, words := w, nf := s.nonFinite }
    (fun _ => [((x.1, {}), s.upd.normBad && s.isSet F.UPD_CTRL_norm_contrib)])

/-- Start the norm once every gradient of the shard is here, in HELD mode (R236). A shard without gradients waits for the end
of the micro-batch work. -/
def State.tryNorm (s : State) : State :=
  if s.arrival || s.upd.normDone || s.fab.colls.any Coll.isNorm || !s.live || s.barrier.own != 0 || !s.allGradients ||
      (s.shardStripes == 0 && s.step != .checking) then s
  else s.startNorm

def State.inFlight (s : State) : Nat := (s.fab.colls.filter (fun c => !c.done && !c.isNorm)).length

/-- A poisoned granule of the contribution that its reader may not pass on (R172). -/
def State.collBlocked (s : State) (w : List Nat) : Option Nat :=
  (granules (cSrc w) (tensorBytes (cIn w) (srcCount w (s.communicator w).length))).find? (fun g =>
    s.poisonAt g && (match place g with
      | .hbm b => s.regionOf b == s.bank || s.regionOf b == 3
      | _ => false))

/-- Pop the next descriptor and start it (R270). Descriptors are taken by the command of their operation; one of a reserved
operation is rejected by any. -/
def State.popColl (s : State) (op : Nat) : State :=
  let q := s.rd F.FAB_COLL_CTRL_queue
  if !(s.alive && s.live && s.isSet F.FAB_COLL_CTRL_enable && s.queueOn q && coreQueue q && !s.isSetAt F.QUE_CFG_forward q &&
      s.visible q && decide (s.inFlight < 16)) then s
  else
    let w := bytesWords ((s.queue q).items.headD { data := [] }).data
    if cOp w ≠ op ∧ decide (1 ≤ cOp w) ∧ decide (cOp w ≤ 5) then s
    else
      let r := s.popFront q
      if r.1.poison then ((r.2.consumed 5 (s.rdAt F.QUE_BACKING_base q)).raise .POISON 0xFFFF r.2.poisonDetail).failStep 2 false
      else
        let e := r.2.collCode w
        if e ≠ 0 then r.2.rejectColl e (cSeq w)
        else match (if cOp w = 5 ∧ cRoot w ≠ s.memberIndex w then none else s.collBlocked w) with
          | some g => s.consumePoison g
          | none =>
            let t := r.2.startColl { id := cId w, words := w, nf := cNfOr w && s.nonFinite }
              (fun k => s.contribution w (k * cChunk w) (chunkLen w k))
            t.wr F.FAB_COLL_STATUS_in_flight t.inFlight

/-- ALL_REDUCE: the descriptor at the head of the collective queue is checked and started. -/
def execAllReduce (s : State) : Host.Outcome State Fault Refusal := .next (s.popColl 1)
/-- REDUCE_SCATTER. -/
def execReduceScatter (s : State) : Host.Outcome State Fault Refusal := .next (s.popColl 2)
/-- ALL_GATHER. -/
def execAllGather (s : State) : Host.Outcome State Fault Refusal := .next (s.popColl 3)
/-- ALL_TO_ALL. -/
def execAllToAll (s : State) : Host.Outcome State Fault Refusal := .next (s.popColl 4)
/-- BROADCAST. -/
def execBroadcast (s : State) : Host.Outcome State Fault Refusal := .next (s.popColl 5)

/-- A COLL_DATA flit that is taken: it feeds its collective, or waits for its start. -/
def State.onCollData (s : State) (f : Flit) : State :=
  match s.fab.colls.find? (fun c => c.id == collFlitId f) with
  | some c => s.collTake c f
  | none => match s.fab.colls.find? (fun c => s.digestMeets c f) with
    | some c => s.checkDigest c f
    | none => { s with fab := { s.fab with early := s.fab.early ++ [f] } }

/-- COLL_DATA (R273, R275). -/
def execCollData (f : Flit) (s : State) : Host.Outcome State Fault Refusal :=
  .next (s.onFlit f .collData (fun s => s.onCollData f))

/-! ### Completion (R277) and reports (R235) -/

/-- Squares of gradients that have landed, for an entry with clip set (R236). -/
def State.addSquares (s : State) (e : List Nat) (first n : Nat) : State :=
  (List.range n).foldl (fun t k =>
    let t := if t.gradPoison e (first + k) then { t with upd := { t.upd with normBad := true } } else t
    match t.gradVal e (first + k) with
    | .nan _ => ({ t with upd := { t.upd with normSpecial := 2 } }).wr F.UPD_STATUS_nonfinite 1
    | .inf _ => ({ t with upd := { t.upd with normSpecial := max t.upd.normSpecial 1 } }).wr F.UPD_STATUS_nonfinite 1
    | .fin _ m x => { t with upd := { t.upd with norm := t.upd.norm + fixed (.fin false (m * m) (2 * x)) } }) s

/-- Report the bytes [a, b) of the gradient hold: the stripes of every entry whose gradients lie there (R235). -/
def State.reportRange (s : State) (a b : Nat) : State :=
  s.upd.table.zipIdx.foldl (fun t p =>
    let e := p.1
    let k := ((gradFmt e).getD .fp32).bits / 8
    let lo := max a (ueGrad e)
    let hi := min b (ueGrad e + ueCount e * k)
    if ueFrozen e || decide (hi ≤ lo) then t
    else
      let first := (lo - ueGrad e) / k / 2048
      let last := ((hi - ueGrad e) / k + 2047) / 2048
      let t := { t with upd := { t.upd with chunks := t.upd.chunks ++ [(p.2, first, last - first)] } }
      if !t.arrival && ueClip e then t.addSquares e (2048 * first) (min (ueCount e) (2048 * last) - 2048 * first) else t) s

/-- Report the member's chunk in ranges of 65,536 elements and the tail. -/
def State.reportChunk (s : State) (w : List Nat) (j : Nat) : State :=
  let k := (cOut w).bits / 8
  let a := cDst w + (if cOp w = 2 then 0 else j * cChunk w * k)
  let n := chunkLen w j
  (List.range ((n + 65535) / 65536)).foldl (fun t i =>
    t.reportRange (a + i * 65536 * k) (a + min n ((i + 1) * 65536) * k)) s

/-- COLL_COMPLETE: a member's result has been written: the done counter, then the reports. -/
def execCollComplete (collSeq : Nat) (s : State) : Host.Outcome State Fault Refusal :=
  match s.fab.colls.find? (fun c => cSeq c.words == collSeq && !c.done && !c.isNorm &&
      c.placed == dstCount c.words (s.communicator c.words).length (s.memberIndex c.words)) with
  | none => .next s
  | some c =>
    if s.alive && s.live then
      let w := c.words
      let s := s.setColl { c with done := true }
      let s := (s.wr F.FAB_COLL_STATUS_last_done collSeq).wr F.FAB_COLL_STATUS_in_flight s.inFlight
      let s := if fld (wd w 0) 36 36 = 1 then s.syncAdd (fld (wd w 6) 39 23) 1 else s
      .next (if cReport w then (s.reportChunk w (s.memberIndex w)).tryNorm else s)
    else .next s

end Sys2Proof.Machine
end

