-- ==== Sys2Proof/Machine/Vec.lean ====
section
/-! DEFINITION. Machine/Vec.lean: the vector instruction set: encodings (R146 to R148), guards, what each register-form
instruction computes on one lane (R147 to R150) and the poison it carries (R153). -/

namespace Sys2Proof.Machine

/-! ### Encodings -/

/-- The instructions of R147 and R148; `illegal` is every reserved or malformed word. -/
inductive VOp where
  | add | sub | mul | mulhi | mulhu | and | or | xor | shl | shr | sra | min | max | minu | maxu | adds | subs | mad | sel | mov
  | intEq | intNe | intLt | intLe | intLtu | intLeu
  | fadd | fsub | fmul | ffma | ffms | fnma | fmin | fmax | fabs | fneg | fsqrt | frcpe | frsqe | fexp2 | fscale | fexpo
  | fpEq | fpLt | fpLe | fpUn
  | hadd2 | hmul2 | hfma2 | hmin2 | hmax2 | hdot2 | cvt
  | pand | por | pxor | pnot | pmov
  | movi | movhi | addi | ld | st | faddM | fmulM | ffmaM | hfma2M | hdot2M | iaddM
  | dmaIssue | sqPush | sqPop | sqStat
  | syncAdd | syncAddr | syncSet | syncReadlo | syncReadhi | syncWait
  | br | call | nop | exit | ret | fenceOc | fenceDma
  | gangMaskp | gangPush | gangPop | laneid | bcast | gangVote | maskrd | lred
  | hintHeavy | hintLight | trap | tick | tickh | tid | flags | clrf | ftz | srt | sri
  | illegal
deriving DecidableEq, Repr

/-- Operations of each R-format major by function code (R148, R147). -/
def majorOps : Nat → List VOp
  | 0x00 => [.add, .sub, .mul, .mulhi, .mulhu, .and, .or, .xor, .shl, .shr, .sra, .min, .max, .minu, .maxu, .adds, .subs,
      .mad, .sel, .mov]
  | 0x01 => [.intEq, .intNe, .intLt, .intLe, .intLtu, .intLeu]
  | 0x02 => [.fadd, .fsub, .fmul, .ffma, .ffms, .fnma, .fmin, .fmax, .fabs, .fneg, .fsqrt, .frcpe, .frsqe, .fexp2, .fscale,
      .fexpo]
  | 0x03 => [.fpEq, .fpLt, .fpLe, .fpUn]
  | 0x04 => [.hadd2, .hmul2, .hfma2, .hmin2, .hmax2, .hdot2]
  | 0x06 => [.pand, .por, .pxor, .pnot, .pmov]
  | 0x10 => [.dmaIssue]
  | 0x11 => [.sqPush, .sqPop, .sqStat]
  | 0x12 => [.syncAdd, .syncAddr, .syncSet, .syncReadlo, .syncReadhi, .syncWait]
  | 0x15 => [.nop, .exit, .ret, .fenceOc, .fenceDma]
  | 0x16 => [.gangMaskp, .gangPush, .gangPop, .laneid, .bcast, .gangVote, .maskrd]
  | 0x17 => [.lred, .lred, .lred, .lred, .lred, .lred, .lred]
  | 0x1A => [.tick, .tickh, .tid, .flags, .clrf, .ftz, .srt, .sri]
  | _ => []

def fGuard (w : Nat) : Nat := fld w 31 29
def fMajor (w : Nat) : Nat := fld w 28 24
def fRd (w : Nat) : Nat := fld w 23 21
def fRs1 (w : Nat) : Nat := fld w 20 18
def fRs2 (w : Nat) : Nat := fld w 17 15
def fRs3 (w : Nat) : Nat := fld w 14 12
def fFn (w : Nat) : Nat := fld w 11 6
def fMod (w : Nat) : Nat := fld w 5 0
def fImm (w : Nat) : Nat := fld w 15 0
def fAddr (w : Nat) : Nat := fld w 16 0
def fIdx (w : Nat) : Bool := bitAt w 17

/-- Register fields an R-format operation uses (rd, rs1, rs2, rs3) and the mod bits it uses. -/
def VOp.uses : VOp → Bool × Bool × Bool × Bool × Nat
  | .mad | .ffma | .ffms | .fnma | .hfma2 | .hdot2 => (true, true, true, true, 0)
  | .sel => (true, true, true, false, 3)
  | .mov | .fabs | .fneg | .fsqrt | .frcpe | .frsqe | .fexp2 | .fexpo => (true, true, false, false, 0)
  | .intEq | .intNe | .intLt | .intLe | .intLtu | .intLeu | .fpEq | .fpLt | .fpLe | .fpUn | .pand | .por | .pxor =>
    (false, true, true, false, 3)
  | .pnot | .pmov => (false, true, false, false, 3)
  | .dmaIssue | .srt => (false, true, false, false, 0)
  | .sqPush => (false, true, true, false, 63)
  | .sqPop => (true, true, true, false, 35)
  | .sqStat | .syncReadlo | .syncReadhi => (true, true, false, false, 0)
  | .syncAdd | .sri => (false, true, true, false, 0)
  | .syncAddr => (false, true, true, true, 4)
  | .syncSet => (false, true, true, true, 0)
  | .syncWait => (true, true, true, true, 3)
  | .gangMaskp => (false, false, false, false, 7)
  | .gangVote => (false, true, false, false, 7)
  | .lred => (true, true, false, false, 1)
  | .laneid | .maskrd | .tick | .tickh | .tid | .flags => (true, false, false, false, 0)
  | .ftz => (false, false, false, false, 1)
  | .nop | .exit | .ret | .fenceOc | .fenceDma | .gangPush | .gangPop | .clrf => (false, false, false, false, 0)
  | _ => (true, true, true, false, 0)

/-- Unused fields of an R-format word are zero. -/
def VOp.clean (o : VOp) (w : Nat) : Bool :=
  let u := o.uses
  (u.1 || fRd w == 0) && (u.2.1 || fRs1 w == 0) && (u.2.2.1 || fRs2 w == 0) && (u.2.2.2.1 || fRs3 w == 0) &&
    (fMod w &&& u.2.2.2.2) == fMod w

/-- Formats a CVT may name. -/
def cvtWide (c : Nat) : Bool := c == 0x00 || c == 0x14

/-- A width in bits of an element in a register (R149). -/
def regBits (f : Fmt) : Nat := if f.bits = 6 then 8 else f.bits

/-- The fields of a C-format word are allowed (R149, R54, R56). -/
def cvtOk (w : Nat) : Bool :=
  let d := fld w 17 13
  let sc := fld w 12 8
  match Fmt.ofCode d, Fmt.ofCode sc with
  | some fd, some fs =>
    let narrow := if cvtWide d then fs else fd
    bitAt w 0 == false && decide (fld w 4 3 ≤ 1) && decide (fld w 2 1 ≤ 2) &&
    (if cvtWide d && cvtWide sc then d != sc && fld w 7 5 == 0
     else cvtWide d != cvtWide sc && decide (fld w 7 5 * regBits narrow < 32))
  | _, _ => false

/-- The instruction a word encodes (R146 to R149) (log entry 20). -/
def VOp.ofWord (w : Nat) : VOp :=
  match fMajor w with
  | 0x05 => if cvtOk w then .cvt else .illegal
  | 0x07 => match fld w 17 16 with
    | 0 => if fRs1 w = 0 then .movi else .illegal
    | 1 => if fRs1 w = 0 then .movhi else .illegal
    | 2 => .addi
    | _ => .illegal
  | 0x08 => if fRs1 w = 0 then .ld else .illegal
  | 0x09 => if fRs1 w = 0 then .st else .illegal
  | 0x0A => .faddM
  | 0x0B => .fmulM
  | 0x0C => .ffmaM
  | 0x0D => .hfma2M
  | 0x0E => .hdot2M
  | 0x0F => .iaddM
  | 0x13 => .br
  | 0x14 => .call
  | 0x18 => match fld w 23 20 with
    | 1 => .hintHeavy
    | 2 => .hintLight
    | _ => .illegal
  | 0x19 => if fld w 23 16 = 0 then .trap else .illegal
  | m =>
    let o := (majorOps m).getD (fFn w) .illegal
    if o == .illegal then .illegal else if o.clean w then o else .illegal

/-! ### Guards (R146) -/

/-- The guard's value on a lane and whether it is poisoned. -/
def guardOf (g : Nat) (l : Lane) : Bool × Bool :=
  if g = 0 then (true, false)
  else if g < 4 then (l.pred g, l.predPoison g)
  else if g = 4 then (false, false)
  else (!l.pred (g - 4), l.predPoison (g - 4))

/-! ### Arithmetic on one lane -/

def b32 : Nat := 2 ^ 32
def s32 (x : Nat) : Int := sext 32 x
def u32 (i : Int) : Nat := toCode 32 i

/-- Integer operations on two register values; the truth value is SAT. -/
def intOp (o : VOp) (a b : Nat) : Nat × Bool :=
  match o with
  | .add | .iaddM => ((a + b) % b32, false)
  | .sub => (u32 (s32 a - s32 b), false)
  | .mul => (a * b % b32, false)
  | .mulhi => (u32 (s32 a * s32 b / (2 ^ 32 : Int)), false)
  | .mulhu => (a * b / b32, false)
  | .and => (a &&& b, false)
  | .or => (a ||| b, false)
  | .xor => (a ^^^ b, false)
  | .shl => (a * 2 ^ (b % 32) % b32, false)
  | .shr => (a / 2 ^ (b % 32), false)
  | .sra => (u32 (s32 a / (2 ^ (b % 32) : Int)), false)
  | .min => (if s32 a ≤ s32 b then a else b, false)
  | .max => (if s32 a ≤ s32 b then b else a, false)
  | .minu => (if a ≤ b then a else b, false)
  | .maxu => (if a ≤ b then b else a, false)
  | .adds => let r := toInt 32 true .nearest (FVal.ofInt (s32 a + s32 b)); (r.1, r.2.sat)
  | .subs => let r := toInt 32 true .nearest (FVal.ofInt (s32 a - s32 b)); (r.1, r.2.sat)
  | _ => (a, false)

/-- Integer compares. -/
def intCmp (o : VOp) (a b : Nat) : Bool :=
  match o with
  | .intEq => a == b
  | .intNe => a != b
  | .intLt => decide (s32 a < s32 b)
  | .intLe => decide (s32 a ≤ s32 b)
  | .intLtu => decide (a < b)
  | _ => decide (a ≤ b)

/-- A floating-point format's subnormal inputs are zeros of the same sign under FTZ (R59). -/
def ftzIn (f : FpFmt) (on : Bool) (v : FVal) : FVal :=
  if on then match v with
    | .fin s m e => if m ≠ 0 ∧ flog2 m e < f.emin then .fin s 0 0 else v
    | w => w
  else v

def fpIn (on : Bool) (c : Nat) : FVal := ftzIn .fp32 on (f32val c)
def bfIn (on : Bool) (c : Nat) : FVal := ftzIn .bf16 on (FpFmt.bf16.decode c)

/-- Round to FP32, or to BF16, as a vector operation writes it (R59). -/
def vround (f : FpFmt) (ftz : Bool) (r : FVal × Flags) : Nat × Flags :=
  let c := f.convert .nearest false (if ftz then .flush else .keep) false r.1
  (c.1, r.2.join c.2)

/-- An estimate (R150): 12 significant bits with unbounded exponent, then FP32; too small becomes zero, too large infinity;
no flag but the operation's NV for a negative root. -/
def estimate (v : FVal) : Nat :=
  match v with
  | .fin s m e =>
    if m = 0 then FpFmt.fp32.withSign s 0
    else
      let r := roundSig .nearest 12 m e
      if flog2 r.1 r.2.1 < -126 then FpFmt.fp32.withSign s 0
      else (FpFmt.fp32.convert .nearest false .keep false (.fin s r.1 r.2.1)).1
  | w => (FpFmt.fp32.convert .nearest false .keep false w).1

/-- FEXPO (R150): exact for subnormals, whatever the FTZ bit (log entry 13). -/
def fexpo (a : Nat) : Nat × Flags :=
  match f32val a with
  | .fin _ m e => if m = 0 then (0x80000000, .NV) else (u32 (flog2 m e), .none)
  | _ => (0x7FFFFFFF, .NV)

/-- FP32 register operations with operands rs1, rs2, rs3 (R148, R150). -/
def fpOp (o : VOp) (ftz : Bool) (a b c : Nat) : Nat × Flags :=
  let x := fpIn ftz a
  let y := fpIn ftz b
  let z := fpIn ftz c
  let r := vround .fp32 ftz
  match o with
  | .fadd | .faddM => r (addVal x y)
  | .fsub => r (addVal x y.neg)
  | .fmul | .fmulM => r (mulVal x y)
  | .ffma | .ffmaM => r (fmaVal x y z)
  | .ffms => r (fmaVal x y z.neg)
  | .fnma => r (fmaVal x.neg y z)
  | .fmin => r (minVal x y)
  | .fmax => r (maxVal x y)
  | .fabs => r (if x.isNan then nanOf [x] else (x.abs, .none))
  | .fneg => r (if x.isNan then nanOf [x] else (x.neg, .none))
  | .fsqrt => r (sqrtVal x)
  | .fexp2 => r (exp2Val x)
  | .fscale => r (match x with
    | .nan sg => nanOf [.nan sg]
    | v => (v.scale (s32 b), .none))
  | .frcpe => (estimate (divVal FVal.one x).1, .none)
  | .frsqe => (estimate (rsqrtVal x).1, if !x.isNan && !x.isZero && x.sign then .NV else .none)
  | _ => fexpo a

/-- Quiet compares (R150): NV only for a signalling NaN. -/
def fpCmp (o : VOp) (ftz : Bool) (a b : Nat) : Bool × Flags :=
  let x := fpIn ftz a
  let y := fpIn ftz b
  let nan := x.isNan || y.isNan
  let v := match o with
    | .fpEq => !nan && valEq x y
    | .fpLt => !nan && valLt false x y
    | .fpLe => !nan && (valLt false x y || valEq x y)
    | _ => nan
  (v, if x.isSnan || y.isSnan then .NV else .none)

def halves (c : Nat) : Nat × Nat := (c % 65536, c / 65536 % 65536)

/-- One half of a BF16x2 operation. -/
def halfOp (o : VOp) (ftz : Bool) (a b c : Nat) : Nat × Flags :=
  let x := bfIn ftz a
  let y := bfIn ftz b
  let z := bfIn ftz c
  vround .bf16 ftz (match o with
    | .hadd2 => addVal x y
    | .hmul2 => mulVal x y
    | .hmin2 => minVal x y
    | .hmax2 => maxVal x y
    | _ => fmaVal x y z)

def pairOp (o : VOp) (ftz : Bool) (a b c : Nat) : Nat × Flags :=
  let l := halfOp o ftz (halves a).1 (halves b).1 (halves c).1
  let h := halfOp o ftz (halves a).2 (halves b).2 (halves c).2
  (l.1 + 65536 * h.1, l.2.join h.2)

/-- HDOT2: c + a.lo × b.lo + a.hi × b.hi, exact and rounded once to FP32; invalid products and infinities of both signs
make NaN as in R68 for the sum of three terms. -/
def dotOp (ftz : Bool) (a b c : Nat) : Nat × Flags :=
  let p := mulVal (bfIn ftz (halves a).1) (bfIn ftz (halves b).1)
  let q := mulVal (bfIn ftz (halves a).2) (bfIn ftz (halves b).2)
  let z := fpIn ftz c
  let vs := [z, p.1, q.1]
  let fl := (p.2.join q.2).join (if z.isSnan then .NV else .none)
  match specialSum vs with
  | some r => vround .fp32 ftz (r.1, fl.join r.2)
  | none =>
    let sum := fixed z + fixed p.1 + fixed q.1
    let v : FVal := if sum = 0 then .fin (vs.all FVal.sign) 0 0 else .fin (decide (sum < 0)) sum.natAbs (-700)
    vround .fp32 ftz (v, fl)

/-- Whether an FP32 or BF16x2 result holds NaNs, and how many (R71). -/
def nans32 (c : Nat) : Nat := bit (isNanF32 c)
def nansPair (c : Nat) : Nat :=
  bit (FpFmt.bf16.decode (halves c).1).isNan + bit (FpFmt.bf16.decode (halves c).2).isNan

/-- CVT (R149): rd's new value, flags, whether random bits were used up, and whether a NaN was written. -/
def cvtOp (w : Nat) (l : Lane) (key : Nat) (a d : Nat) : Nat × Flags × Bool × Bool :=
  match Fmt.ofCode (fld w 17 13), Fmt.ofCode (fld w 12 8) with
  | some fd, some fs =>
    let e := fld w 7 5
    let narrow := if cvtWide (fld w 17 13) then fs else fd
    let b := regBits narrow
    let code := if cvtWide (fld w 12 8) then a else a / 2 ^ (b * e) % 2 ^ fs.bits
    let v0 : FVal := match fs with
      | .mxInt8 => (FVal.ofInt (sext 8 code)).scale (-6)
      | .int8 | .uint8 | .int4 | .uint4 | .int32 => FVal.ofInt (fs.intVal code)
      | g => match g.fp with
        | some p => ftzIn p l.ftz (p.decode code)
        | none => .zero
    let stoch := fld w 4 3 == 1 && decide (fd.bits ≤ 16)
    let md : Rnd := if stoch then .stochastic (rbits (useKey key 0) l.srt l.sri) else .nearest
    let ovf := fld w 2 1
    let r : Nat × Flags :=
      if fd.isMx then mxElement fd md (saturates ovf fd) 127 v0
      else convertScalar fd md ovf (if l.ftz then .flush else .keep) v0
    let used := stoch && v0.isFinite && (r.2.nx || r.2.sat)
    let nan := match fd.fp with
      | some p => (p.decode r.1).isNan
      | none => false
    if cvtWide (fld w 17 13) then (r.1, r.2, used, nan)
    else
      let lo := d % 2 ^ (b * e)
      let hi := d / 2 ^ (b * (e + 1))
      (lo + 2 ^ (b * e) * (r.1 % 2 ^ b) + 2 ^ (b * (e + 1)) * hi, r.2, used, nan)
  | _, _ => (d, .none, false, false)

/-- What a lane sees beside its own state. -/
structure VEnv where
  tick : Nat
  key : Nat
  lane : Nat
  tid : Nat
  mask : Nat
  /-- The operand-cache word of an M-format instruction and its poison mark. -/
  mem : Nat
  memPoison : Bool

/-- Write a register result: its poison, the flags it raises, the NaNs it writes. -/
def Lane.result (l : Lane) (k v : Nat) (poison : Bool) (fl : Flags) (nan : Nat) : Lane × Flags × Nat :=
  ({ (l.setReg k v poison) with flags := l.flags.join fl }, fl, nan)

/-- What a register-form, immediate-form or M-form instruction does on one lane: the lane, the flags it raised and the NaN
events it made. Instructions with effects beyond the lane are in Machine/VecRun.lean. -/
def laneOp (o : VOp) (w : Nat) (env : VEnv) (l : Lane) : Lane × Flags × Nat :=
  let rd := fRd w
  let a := l.reg (fRs1 w)
  let b := l.reg (fRs2 w)
  let c := l.reg (fRs3 w)
  let d := l.reg rd
  let p1 := l.regPoison (fRs1 w)
  let p2 := p1 || l.regPoison (fRs2 w)
  let p3 := p2 || l.regPoison (fRs3 w)
  let pm := p1 || env.memPoison
  let pmd := pm || l.regPoison rd
  let pd := fMod w % 4
  match o with
  | .add | .sub | .mul | .mulhi | .mulhu | .and | .or | .xor | .shl | .shr | .sra | .min | .max | .minu | .maxu | .adds | .subs =>
    let r := intOp o a b
    l.result rd r.1 p2 (if r.2 then .SAT else .none) 0
  | .mad => l.result rd ((a * b + c) % b32) p3 .none 0
  | .sel => l.result rd (if l.pred pd then a else b) (p2 || l.predPoison pd) .none 0
  | .mov => l.result rd a p1 .none 0
  | .intEq | .intNe | .intLt | .intLe | .intLtu | .intLeu => (l.setPred pd (intCmp o a b) p2, .none, 0)
  | .fadd | .fsub | .fmul | .fmin | .fmax | .fscale =>
    let r := fpOp o l.ftz a b 0
    l.result rd r.1 p2 r.2 (nans32 r.1)
  | .ffma | .ffms | .fnma =>
    let r := fpOp o l.ftz a b c
    l.result rd r.1 p3 r.2 (nans32 r.1)
  | .fabs | .fneg | .fsqrt | .frcpe | .frsqe | .fexp2 =>
    let r := fpOp o l.ftz a 0 0
    l.result rd r.1 p1 r.2 (nans32 r.1)
  | .fexpo =>
    let r := fexpo a
    l.result rd r.1 p1 r.2 0
  | .fpEq | .fpLt | .fpLe | .fpUn =>
    let r := fpCmp o l.ftz a b
    ({ (l.setPred pd r.1 p2) with flags := l.flags.join r.2 }, r.2, 0)
  | .hadd2 | .hmul2 | .hmin2 | .hmax2 =>
    let r := pairOp o l.ftz a b 0
    l.result rd r.1 p2 r.2 (nansPair r.1)
  | .hfma2 =>
    let r := pairOp o l.ftz a b c
    l.result rd r.1 p3 r.2 (nansPair r.1)
  | .hdot2 =>
    let r := dotOp l.ftz a b c
    l.result rd r.1 p3 r.2 (nans32 r.1)
  | .cvt =>
    let r := cvtOp w l env.key a d
    let poison := p1 || (!cvtWide (fld w 17 13) && l.regPoison rd)
    let l := if r.2.2.1 then { l with sri := (l.sri + 1) % 2 ^ 40 } else l
    l.result rd r.1 poison r.2.1 (bit r.2.2.2)
  | .pand | .por | .pxor =>
    let x := l.pred (fRs1 w % 4)
    let y := l.pred (fRs2 w % 4)
    let v := match o with
      | .pand => x && y
      | .por => x || y
      | _ => x != y
    (l.setPred pd v (l.predPoison (fRs1 w % 4) || l.predPoison (fRs2 w % 4)), .none, 0)
  | .pnot => (l.setPred pd (!l.pred (fRs1 w % 4)) (l.predPoison (fRs1 w % 4)), .none, 0)
  | .pmov => (l.setPred pd (l.pred (fRs1 w % 4)) (l.predPoison (fRs1 w % 4)), .none, 0)
  | .movi => l.result rd (u32 (sext 16 (fImm w))) false .none 0
  | .movhi => l.result rd (d % 65536 + 65536 * fImm w) (l.regPoison rd) .none 0
  | .addi => l.result rd (u32 (s32 a + sext 16 (fImm w))) p1 .none 0
  | .ld => l.result rd env.mem env.memPoison .none 0
  | .faddM | .fmulM =>
    let r := fpOp o l.ftz a env.mem 0
    l.result rd r.1 pm r.2 (nans32 r.1)
  | .ffmaM =>
    let r := fpOp o l.ftz a env.mem d
    l.result rd r.1 pmd r.2 (nans32 r.1)
  | .hfma2M =>
    let r := pairOp o l.ftz a env.mem d
    l.result rd r.1 pmd r.2 (nansPair r.1)
  | .hdot2M =>
    let r := dotOp l.ftz a env.mem d
    l.result rd r.1 pmd r.2 (nans32 r.1)
  | .iaddM => l.result rd ((a + env.mem) % b32) pm .none 0
  | .laneid => l.result rd env.lane false .none 0
  | .maskrd => l.result rd env.mask false .none 0
  | .tick => l.result rd (env.tick % b32) false .none 0
  | .tickh => l.result rd (env.tick / b32) false .none 0
  | .tid => l.result rd env.tid false .none 0
  | .flags => l.result rd l.flags.vecBits false .none 0
  | .clrf => ({ l with flags := .none }, .none, 0)
  | .ftz => ({ l with ftz := bitAt (fMod w) 0 }, .none, 0)
  | .srt => ({ l with srt := a % 2 ^ 24 }, .none, 0)
  | .sri => ({ l with sri := (b % 256) * b32 + a }, .none, 0)
  | _ => (l, .none, 0)

/-- What a masked lane contributes to a reduction (R137). -/
def lredIdentity : Nat → Nat
  | 1 => 0xFF800000
  | 2 => 0x7F800000
  | 4 => 0xFFFFFFFF
  | _ => 0

/-- One node of the reduction tree. -/
def lredNode (fn : Nat) (ftz : Bool) (x y : Nat × Flags) : Nat × Flags :=
  let f := x.2.join y.2
  let fp (o : VOp) : Nat × Flags :=
    let r := fpOp o ftz x.1 y.1 0
    (r.1, f.join r.2)
  match fn with
  | 0 => fp .fadd
  | 1 => fp .fmax
  | 2 => fp .fmin
  | 3 => ((x.1 + y.1) % b32, f)
  | 4 => (x.1 &&& y.1, f)
  | 5 => (x.1 ||| y.1, f)
  | _ => (x.1 ^^^ y.1, f)

def lredTree (fn : Nat) (ftz : Bool) (xs : List Nat) : Nat × Flags :=
  (treeReduce (lredNode fn ftz) 5 (xs.map (fun c => (c, Flags.none)))).headD (0, .none)

end Sys2Proof.Machine
end

