-- ==== Sys2Proof/Machine/VecRun.lean ====
section
/-! DEFINITION. Machine/VecRun.lean: how a vector thread issues an instruction (R134, R145), what each instruction does beyond
its lane (R135 to R137, R141 to R144, R151 to R153), and exceptions (R154, R155). -/

namespace Sys2Proof.Machine

/-- An instruction about to take effect: where its thread stands, the word, and the lanes on which it takes effect. -/
structure Issue where
  core : Nat
  phys : Nat
  key : Nat
  th : Thread
  word : Nat
  lanes : List Nat

def Issue.scalar (x : Issue) : Nat := x.key / 32
def Issue.slot (x : Issue) : Nat := x.key % 32
/-- Thread number (scalar core × 32 + slot) of a lane. -/
def Issue.tid (x : Issue) (i : Nat) : Nat := (x.scalar + i) * 32 + x.slot
def Issue.mod (x : Issue) : Nat := fMod x.word

def State.putThread (s : State) (x : Issue) (t : Thread) : State :=
  let v := s.vecAt x.phys
  s.setVec x.phys (v.setThread x.key t)

def maskOf (lanes : List Nat) : Nat := lanes.foldl (fun a i => a + 2 ^ i) 0
def lanesOf (mask : Nat) : List Nat := (List.range 32).filter (bitAt mask)

/-! ### Exceptions (R154, R155) -/

/-- The thread faults: it keeps everything as it was; VEC_FAULT records the first fault of the attempt (log entry 21). -/
def State.threadFaults (s : State) (x : Issue) (cause lanes code : Nat) : State :=
  (s.putThread x { x.th with st := .faulted, left := 0 }).vecFault x.phys cause x.scalar x.slot x.th.gang lanes x.th.pc code

/-- An exception other than POISON: VEC_EXCEPTION, the step discarded and the module held. -/
def State.vecException (s : State) (x : Issue) (cause lanes code : Nat) : State :=
  let s := s.threadFaults x cause lanes code
  (s.raise .VEC_EXCEPTION x.core (s.vecRecord x.phys)).failStep 1 true

/-- POISON: consumption in the vector cluster (R153, R172). The manual names no granule for a value held in a register: the
recorded address is then a free value (log entry 16). -/
def State.vecPoison (s : State) (x : Issue) (lanes : Nat) (addr : Option Nat) : State :=
  let s := s.threadFaults x 6 lanes 0
  let r := s.draw
  let s := match addr with
    | some a => s.consumed 6 a
    | none => r.2.consumed 6 (r.1 % 2 ^ 48)
  (s.raise .POISON x.core s.poisonDetail).failStep 2 false

/-! ### Fetch and guards -/

inductive Fetched where
  | word (w : Nat)
  | fault
  | poison
deriving DecidableEq, Repr

/-- Fetch through the instruction cache (R145): from HBM outside the carve-out only (log entry 23). -/
def State.fetch (s : State) (p pc : Nat) : Fetched :=
  match sget? (s.vecAt p).icache pc with
  | some w => .word w
  | none =>
    if pc % 4 = 0 ∧ s.mayReadHbm .engine pc 4 then
      if s.poisonAt pc then .poison else .word (leNat (s.loadN pc 4))
    else .fault

def State.cacheWord (s : State) (p pc w : Nat) : State :=
  let v := s.vecAt p
  s.setVec p { v with icache := sput v.icache pc w }

/-- Lanes on which the instruction takes effect (R134), and active lanes whose guard is poisoned (R153). -/
def Thread.active (t : Thread) : List Nat := (List.range t.lanes.length).filter (bitAt t.mask)
def Thread.effect (t : Thread) (w : Nat) : List Nat := t.active.filter (fun i => (guardOf (fGuard w) (t.lane i)).1)
def Thread.guardPoison (t : Thread) (w : Nat) : List Nat := t.active.filter (fun i => (guardOf (fGuard w) (t.lane i)).2)

/-- The thread of a reference that may issue: RUNNING, or WAITING on an instruction that is tried again. -/
def State.ready (s : State) (th : ThreadRef) (again : Bool) : Option (Nat × Nat × Thread) :=
  if s.alive && decide (th.core < 256) && decide (th.scalar < 128) && decide (th.slot < 32) then
    let p := s.phys th.core
    let v := s.vecAt p
    let k := v.home th.scalar th.slot
    let t := v.thread k
    if t.st == .running || (again && t.st == .waiting) then some (p, k, t) else none
  else none

/-- Operations that try again while their thread waits. -/
def VOp.retries : VOp → Bool
  | .sqPush | .sqPop | .dmaIssue | .fenceDma => true
  | _ => false

/-- Issue instruction `o` of a thread: `body` is its effect; one that waits is issued, and counted, once. Another instruction at the thread's address means that this
command does not occur (log entry 4), nor does one that must wait before it issues (`may`); a fetch that faults, or a poisoned guard, is the exception of R154. -/
def State.issueWhen (s : State) (o : VOp) (th : ThreadRef) (may : Issue → Bool) (body : Issue → State → State) : State :=
  match s.ready th o.retries with
  | none => s
  | some (p, k, t) =>
    let x : Issue := ⟨th.core, p, k, t, 0, []⟩
    match s.fetch p t.pc with
    | .fault => s.vecException x 5 (if t.gang then t.mask else 1) 0
    | .poison =>
      if s.regionOf t.pc = s.bank then s.consumePoison t.pc
      else (s.threadFaults x 6 (if t.gang then t.mask else 1) 0).consumePoison t.pc
    | .word w =>
      let x := { x with word := w, lanes := if t.st == .waiting then lanesOf t.left else t.effect w }
      if VOp.ofWord w = o && may x then
        let s := s.cacheWord p t.pc w
        let bad := if t.st == .waiting then [] else t.guardPoison w
        if bad.isEmpty then body x (if t.st == .waiting then s else s.addAt F.VEC_ISSUE_count p t.lanes.length)
        else s.vecPoison x (maskOf bad) none
      else s

/-- Issue an instruction that never waits before it issues. -/
def State.issue (s : State) (o : VOp) (th : ThreadRef) (body : Issue → State → State) : State := s.issueWhen o th (fun _ => true) body

/-- The launch of a thread, as its entry words. -/
def State.launchWords (s : State) (p id : Nat) : List Nat :=
  match ((s.vecAt p).launches.find? (fun l => l.id == id)) with
  | some l => l.words
  | none => []

def State.vecTag (s : State) (x : Issue) : NanTag :=
  let l := s.launchWords x.phys x.th.launch
  { engine := 2, core := x.core, location := x.th.pc, tensor := fld (wd l 4) 63 40, mb := fld (wd l 4) 39 28,
    branch := fld (wd l 4) 27 24, cmd := fld (wd l 5) 31 0 }

/-- VEC_FLAGS gathers the flags of an attempt (R156). -/
def State.vecFlags (s : State) (p : Nat) (f : Flags) : State :=
  let set (t : State) (r : Field) (b : Bool) : State := if b then t.wrAt r p 1 else t
  set (set (set (set (set s F.VEC_FLAGS_nv f.nv) F.VEC_FLAGS_of f.of) F.VEC_FLAGS_uf f.uf) F.VEC_FLAGS_nx f.nx) F.VEC_FLAGS_sat f.sat

/-! ### Operand cache -/

/-- Operand-cache word address of an M-format instruction on a lane (R146). -/
def mAddr (w : Nat) (l : Lane) : Nat := (fAddr w + (if fIdx w then l.reg 7 % 2 ^ 17 else 0)) % 2 ^ 17

def ocAddr (core word : Nat) : Nat := ocBase core + 4 * word

/-- A thread touches operand-cache bytes: transfers in progress that read them (for a store) or write them are marked
(R142). -/
def State.touch (s : State) (a n : Nat) (store : Bool) : State :=
  { s with xfers := s.xfers.map (fun x =>
      let hit (rs : List (Nat × Nat)) : Bool := rs.any (fun r => decide (r.1 < a + n) && decide (a < r.1 + r.2))
      let hitDst : Bool := !s.dstRemote x.words && hit (dstRuns x.words)
      let hitSrc : Bool := store && !s.srcRemote x.words && hit (srcRuns x.words)
      if hitDst || hitSrc then
        { x with raced := x.raced ++ ((List.range (n / 4)).map (fun k => a / 4 + k)).filter (fun k => !x.raced.contains k) }
      else x) }

/-- Extra clocks of bank conflicts of a gang access (R141): words of one bank beyond the first, in the fullest bank. -/
def bankConflicts (words : List Nat) : Nat :=
  (List.range 32).foldl (fun m b => max m ((words.eraseDups.filter (fun a => a % 32 == b)).length - 1)) 0

/-- Which instructions reach the operand cache through format M. -/
def VOp.isMem : VOp → Bool
  | .ld | .st | .faddM | .fmulM | .ffmaM | .hfma2M | .hdot2M | .iaddM => true
  | _ => false

/-- Active lanes with a poisoned idx base (R153). -/
def Issue.idxPoison (x : Issue) : List Nat :=
  if fIdx x.word then x.lanes.filter (fun i => (x.th.lane i).regPoison 7) else []

def Issue.conflicts (x : Issue) : Nat :=
  if x.th.gang then bankConflicts (x.lanes.map (fun i => mAddr x.word (x.th.lane i))) else 0

/-! ### Lane instructions -/

def State.laneEnv (s : State) (x : Issue) (o : VOp) (i : Nat) : VEnv :=
  let a := ocAddr x.core (mAddr x.word (x.th.lane i))
  { tick := s.tick, key := s.roundKey x.core, lane := i, tid := x.tid i, mask := x.th.mask,
    mem := if o.isMem then leNat (s.loadN a 4) else 0, memPoison := o.isMem && s.poisonAt a }

/-- Run a lane instruction on every lane on which it takes effect. -/
def State.runLanes (s : State) (x : Issue) (o : VOp) : State :=
  let r := x.lanes.foldl (fun (acc : Thread × Flags × Nat) i =>
    let q := laneOp o x.word (s.laneEnv x o i) (x.th.lane i)
    (acc.1.setLane i q.1, acc.2.1.join q.2.1, acc.2.2 + q.2.2)) (x.th, Flags.none, 0)
  ((s.putThread x r.1.advance).vecFlags x.phys r.2.1).nanEvents (s.vecTag x) r.2.2

/-- A register-form or immediate-form instruction. -/
def State.runAlu (o : VOp) (x : Issue) (s : State) : State := s.runLanes x o

/-- An M-format load or arithmetic instruction. -/
def State.runMem (o : VOp) (x : Issue) (s : State) : State :=
  let bad := x.idxPoison
  if !bad.isEmpty then s.vecPoison x (maskOf bad) none
  else
    let t := (s.runLanes x o).addAt F.VEC_OC_CONFLICT_count x.phys x.conflicts
    x.lanes.foldl (fun t i => t.touch (ocAddr x.core (mAddr x.word (x.th.lane i))) 4 false) t

/-- ST (R141, R142, R153): the highest active lane's value stays in a word several lanes store to. -/
def State.runStore (x : Issue) (s : State) : State :=
  let bad := x.idxPoison
  if !bad.isEmpty then s.vecPoison x (maskOf bad) none
  else
    let t := x.lanes.foldl (fun t i =>
      let l := x.th.lane i
      let a := ocAddr x.core (mAddr x.word l)
      (t.touch a 4 true).storeN a (leBytes 4 (l.reg (fRd x.word))) (l.regPoison (fRd x.word))) s
    (t.addAt F.VEC_OC_CONFLICT_count x.phys x.conflicts).putThread x x.th.advance

/-! ### Control flow and gangs (R135, R136) -/

/-- A gang-only instruction in free mode (R154); nothing on a masked lane (R134). -/
def State.gangOnly (body : Issue → State → State) (x : Issue) (s : State) : State :=
  if x.lanes.isEmpty then s.putThread x x.th.advance
  else if x.th.gang then body x s
  else s.vecException x 2 1 0

/-- Taken: with the all bit clear, some active lane's guard holds; with it set, every active lane's does. -/
def Issue.taken (x : Issue) : Bool :=
  !x.lanes.isEmpty && (!bitAt x.word 23 || x.lanes.length == x.th.active.length)

/-- The target of a branch before the program's start wraps in 48 bits. -/
def Issue.goto (x : Issue) : Nat := toCode 48 ((x.th.pc : Int) + 4 * sext 23 (fld x.word 22 0))

def State.runBr (x : Issue) (s : State) : State :=
  s.putThread x (if x.taken then { x.th with pc := x.goto } else x.th.advance)

def State.runCall (x : Issue) (s : State) : State :=
  if x.taken then
    if 4 ≤ x.th.ret.length then s.vecException x 4 (maskOf x.lanes) 0
    else s.putThread x { x.th with pc := x.goto, ret := (x.th.pc + 4) % 2 ^ 48 :: x.th.ret }
  else s.putThread x x.th.advance

def State.runRet (x : Issue) (s : State) : State :=
  if x.lanes.isEmpty then s.putThread x x.th.advance
  else match x.th.ret with
    | [] => s.vecException x 4 (maskOf x.lanes) 0
    | r :: rs => s.putThread x { x.th with pc := r, ret := rs }

def State.runNop (x : Issue) (s : State) : State := s.putThread x x.th.advance

/-- A thread has ended: its launch has one fewer and gathers its flags (R139). -/
def VecSt.threadEnds (v : VecSt) (k : Nat) (t : Thread) : VecSt :=
  let fl := t.lanes.foldl (fun a l => a.join l.flags) Flags.none
  { (v.setThread k { t with st := .idle }) with
    launches := v.launches.map (fun l => if l.id = t.launch then { l with left := l.left - 1, flags := l.flags.join fl } else l) }

/-- EXIT (R136): lanes on which the guard holds retire; the thread ends when all have. -/
def State.runExit (x : Issue) (s : State) : State :=
  let e := maskOf x.lanes
  let cut (m : Nat) : Nat := m - (m &&& e)
  let t : Thread := { x.th with mask := cut x.th.mask, stack := x.th.stack.map cut, retired := x.th.retired ||| e }
  if t.retired == (if t.gang then 2 ^ 32 - 1 else 1) then
    let v := s.vecAt x.phys
    s.setVec x.phys (v.threadEnds x.key t.advance)
  else s.putThread x t.advance

def State.runMaskp (x : Issue) (s : State) : State :=
  let k := x.mod % 4
  let bad := x.lanes.filter (fun i => (x.th.lane i).predPoison k)
  if !bad.isEmpty then s.vecPoison x (maskOf bad) none
  else
    let drop := x.lanes.filter (fun i => (x.th.lane i).pred k == bitAt x.mod 2)
    s.putThread x ({ x.th with mask := x.th.mask - maskOf drop }).advance

def State.runPush (x : Issue) (s : State) : State :=
  if 8 ≤ x.th.stack.length then s.vecException x 3 (maskOf x.lanes) 0
  else s.putThread x ({ x.th with stack := x.th.mask :: x.th.stack }).advance

def State.runPop (x : Issue) (s : State) : State :=
  match x.th.stack with
  | [] => s.vecException x 3 (maskOf x.lanes) 0
  | m :: ms => s.putThread x ({ x.th with mask := m, stack := ms }).advance

def State.runBcast (x : Issue) (s : State) : State :=
  s.putThread x (x.lanes.foldl (fun t i =>
    let l := x.th.lane i
    let src := x.th.lane (l.reg (fRs2 x.word) % 32)
    t.setLane i (l.setReg (fRd x.word) (src.reg (fRs1 x.word)) (src.regPoison (fRs1 x.word) || l.regPoison (fRs2 x.word)))) x.th).advance

def State.runVote (x : Issue) (s : State) : State :=
  let q := fRs1 x.word % 4
  let vs := x.lanes.map (fun i => (x.th.lane i).pred q)
  let v := if bitAt x.mod 2 then vs.all id else vs.any id
  let poison := x.lanes.any (fun i => (x.th.lane i).predPoison q)
  s.putThread x (x.lanes.foldl (fun t i => t.setLane i ((x.th.lane i).setPred (x.mod % 4) v poison)) x.th).advance

/-- LRED (R137). -/
def State.runLred (x : Issue) (s : State) : State :=
  let fn := fFn x.word
  let low := x.lanes.headD 0
  let r := lredTree fn (x.th.lane low).ftz
    ((List.range 32).map (fun i => if x.lanes.contains i then (x.th.lane i).reg (fRs1 x.word) else lredIdentity fn))
  let poison := x.lanes.any (fun i => (x.th.lane i).regPoison (fRs1 x.word))
  let dst := if bitAt x.mod 0 then x.lanes else x.lanes.filter (· == 0)
  let t := dst.foldl (fun t i => t.setLane i ((x.th.lane i).setReg (fRd x.word) r.1 poison)) x.th
  let t := t.setLane low { (t.lane low) with flags := (t.lane low).flags.join r.2 }
  ((s.putThread x t.advance).vecFlags x.phys r.2).nanEvents (s.vecTag x) (if fn ≤ 2 && isNanF32 r.1 then 1 else 0)

/-- TRAP (R152, R154). -/
def State.runTrap (x : Issue) (s : State) : State :=
  let code := fImm x.word
  if x.lanes.isEmpty then s.putThread x x.th.advance
  else if 0x8000 ≤ code then s.vecException x 7 (maskOf x.lanes) code
  else (s.putThread x { x.th.advance with st := .paused }).raise .VEC_TRAP x.core (s.vecRecord x.phys)

/-! ### Stream queues (R151) -/

/-- Lanes that fail a check, and lanes with a poisoned operand among the registers named. -/
def Issue.failing (x : Issue) (bad : Lane → Bool) : List Nat := x.lanes.filter (fun i => bad (x.th.lane i))

/-- Run a body unless a lane consumes poison or fails an address check. `at_` gives the address of a poisoned granule that a lane
consumes, where there is one. -/
def State.lanesChecked (x : Issue) (s : State) (poison addr : Lane → Bool) (at_ : Lane → Option Nat) (body : State → State) : State :=
  let pz := x.failing poison
  let az := x.failing addr
  let where_ := at_ (x.th.lane (pz.headD 0))
  match pz, az with
  | [], [] => body s
  | [], _ => s.vecException x 5 (maskOf az) 0
  | _, [] => s.vecPoison x (maskOf pz) where_
  | i :: _, j :: _ => if i ≤ j then s.vecPoison x (maskOf pz) where_ else s.vecException x 5 (maskOf az) 0

/-- The checks of an instruction whose operands lie in registers; nothing is checked again for a thread that waits. -/
def State.checked (x : Issue) (s : State) (poison addr : Lane → Bool) (body : State → State) : State :=
  if x.th.st == .waiting then body s else s.lanesChecked x poison addr (fun _ => none) body

/-- Put a thread to WAITING with lanes left, or on past its instruction (R155); a discard that its instruction set off has left it
IDLE (R140). -/
def State.settle (x : Issue) (s : State) (t : Thread) (left : List Nat) : State :=
  if ((s.vecAt x.phys).thread x.key).st = .idle then s
  else if left.isEmpty then s.putThread x ({ t with st := .running, left := 0 }).advance
  else s.putThread x { t with st := .waiting, left := maskOf left, since := if x.th.st == .waiting then x.th.since else s.tick }

def State.pushOne (x : Issue) (acc : State × Thread × List Nat) (i : Nat) : State × Thread × List Nat :=
  let s := acc.1
  let l := x.th.lane i
  let q := l.reg (fRs1 x.word)
  let a := ocAddr x.core (l.reg (fRs2 x.word))
  let item : Item := { data := s.loadN a 64, start := bitAt x.mod 3, fin := bitAt x.mod 4, abort := bitAt x.mod 2, poison := s.poisonAt a }
  let who := Producer.thread x.core (x.tid i)
  let full := s.fullFor who q
  if full && bitAt x.mod 5 then (s, acc.2.1, acc.2.2 ++ [i])
  else
    ((s.tryPush who q item).touch a 64 false, acc.2.1.setLane i (l.setPred (x.mod % 4) (!full) false), acc.2.2)

/-- SQ PUSH: lanes push in increasing order; with the wait bit a lane that finds FULL waits. -/
def State.runSqPush (x : Issue) (s : State) : State :=
  State.checked x s
    (fun l => l.regPoison (fRs1 x.word) || l.regPoison (fRs2 x.word))
    (fun l => !s.mayPush (.thread x.core 0) (l.reg (fRs1 x.word)) || l.reg (fRs2 x.word) % 16 != 0 ||
      decide (2 ^ 17 ≤ l.reg (fRs2 x.word)))
    (fun s =>
      let r := x.lanes.foldl (State.pushOne x) (s, x.th, [])
      r.1.settle x r.2.1 r.2.2)

def State.popOne (x : Issue) (acc : State × Thread × List Nat) (i : Nat) : State × Thread × List Nat :=
  let s := acc.1
  let l := x.th.lane i
  let q := l.reg (fRs1 x.word)
  let a := ocAddr x.core (l.reg (fRs2 x.word))
  if !s.visible q && bitAt x.mod 5 then (s, acc.2.1, acc.2.2 ++ [i])
  else
    let r := s.tryPop q
    let it := r.1
    let marks := bit it.start + 2 * bit it.fin + 4 * bit it.abort + 8 * bit it.poison
    ((r.2.2.touch a 64 true).storeN a it.data it.poison,
      acc.2.1.setLane i ((l.setReg (fRd x.word) marks false).setPred (x.mod % 4) (!r.2.1) false), acc.2.2)

/-- SQ POP. -/
def State.runSqPop (x : Issue) (s : State) : State :=
  State.checked x s
    (fun l => l.regPoison (fRs1 x.word) || l.regPoison (fRs2 x.word))
    (fun l => !s.mayPop x.core (l.reg (fRs1 x.word)) || l.reg (fRs2 x.word) % 16 != 0 || decide (2 ^ 17 ≤ l.reg (fRs2 x.word)))
    (fun s =>
      let r := x.lanes.foldl (State.popOne x) (s, x.th, [])
      r.1.settle x r.2.1 r.2.2)

/-- What SQ STAT shows of a queue. -/
def State.queueStat (s : State) (q : Nat) : Nat :=
  bit (s.queueEmpty q) + 2 * bit (s.queueFull q) + 4 * s.rdAt F.QUE_STATUS_underrun q + 8 * s.rdAt F.QUE_STATUS_overrun q +
    s.itemCount q * 256

def State.runSqStat (x : Issue) (s : State) : State :=
  State.checked x s (fun l => l.regPoison (fRs1 x.word))
    (fun l => !(s.mayPush (.thread x.core 0) (l.reg (fRs1 x.word)) || s.mayPop x.core (l.reg (fRs1 x.word))))
    (fun s => s.putThread x (x.lanes.foldl (fun t i =>
      let l := x.th.lane i
      t.setLane i (l.setReg (fRd x.word) (s.queueStat (l.reg (fRs1 x.word))) false)) x.th).advance)

/-! ### Sync counters (R151, R191, R192) -/

/-- The issuer of a lane's counter operations and transfers. -/
def Issue.owner (x : Issue) (i : Nat) : XferOwner := .thread x.phys (x.tid i)

def State.runSyncAdd (x : Issue) (s : State) : State :=
  State.checked x s (fun l => l.regPoison (fRs1 x.word) || l.regPoison (fRs2 x.word))
    (fun l => !counterOk (l.reg (fRs1 x.word)))
    (fun s => (x.lanes.foldl (fun t i =>
      t.counterOp (x.owner i) t.self ((x.th.lane i).reg (fRs1 x.word)) ((x.th.lane i).reg (fRs2 x.word)))
      (s.putThread x x.th.advance)))

def State.runSyncAddr (x : Issue) (s : State) : State :=
  let rank := bitAt x.mod 2
  State.checked x s (fun l => l.regPoison (fRs1 x.word) || l.regPoison (fRs2 x.word) || l.regPoison (fRs3 x.word))
    (fun l => !counterOk (l.reg (fRs1 x.word)) || !s.nodeOk (if rank then 2 else 1) (l.reg (fRs3 x.word)))
    (fun s => x.lanes.foldl (fun t i =>
      let l := x.th.lane i
      t.counterOp (x.owner i) (t.nodeModule (if rank then 2 else 1) (l.reg (fRs3 x.word))) (l.reg (fRs1 x.word)) (l.reg (fRs2 x.word)))
      (s.putThread x x.th.advance))

/-- The 64-bit operand {rs3, rs2}. -/
def Issue.wide (x : Issue) (l : Lane) : Nat := l.reg (fRs3 x.word) * b32 + l.reg (fRs2 x.word)

/-- Lanes whose SET wins: of the SETs of one clock of a counter the lowest lane's does (R193, log entry 8). -/
def Issue.winners (x : Issue) : List Nat :=
  x.lanes.filter (fun i => x.lanes.find? (fun j => (x.th.lane j).reg (fRs1 x.word) == (x.th.lane i).reg (fRs1 x.word)) == some i)

/-- An own counter operation of a lane waits for its counter still: a READ or a WAIT_GE follows it (R192). -/
def State.opFree (s : State) (x : Issue) : Bool := !x.lanes.any (fun i => s.opPending (x.owner i) ((x.th.lane i).reg (fRs1 x.word)))

/-- SETs of one instruction. -/
def State.runSyncSet (x : Issue) (s : State) : State :=
  State.checked x s (fun l => l.regPoison (fRs1 x.word) || l.regPoison (fRs2 x.word) || l.regPoison (fRs3 x.word))
    (fun l => !counterOk (l.reg (fRs1 x.word)))
    (fun s => x.winners.foldl (fun t i => t.counterOp (x.owner i) t.self ((x.th.lane i).reg (fRs1 x.word)) (x.wide (x.th.lane i)) true)
      (s.putThread x x.th.advance))

def State.runSyncRead (high : Bool) (x : Issue) (s : State) : State :=
  State.checked x s (fun l => l.regPoison (fRs1 x.word)) (fun l => !counterOk (l.reg (fRs1 x.word)))
    (fun s => s.putThread x (x.lanes.foldl (fun t i =>
      let l := x.th.lane i
      let v := s.counter (l.reg (fRs1 x.word))
      t.setLane i (l.setReg (fRd x.word) (if high then v / b32 else v % b32) false)) x.th).advance)

/-- SYNC WAIT: the thread waits; each lane's wait is registered in increasing lane order. -/
def State.runSyncWait (x : Issue) (s : State) : State :=
  State.checked x s (fun l => l.regPoison (fRs1 x.word) || l.regPoison (fRs2 x.word) || l.regPoison (fRs3 x.word) ||
      l.regPoison (fRd x.word))
    (fun l => !counterOk (l.reg (fRs1 x.word)))
    (fun s => if x.lanes.isEmpty then s.putThread x x.th.advance
      else x.lanes.foldl (fun t i =>
        let l := x.th.lane i
        t.waitGe (l.reg (fRs1 x.word)) (x.wide l) (l.reg (fRd x.word)) (.thread x.phys (x.tid i)))
        (s.putThread x { x.th with st := .waiting, left := maskOf x.lanes, since := s.tick }))

/-! ### DMA issue and fences (R143, R144, R142) -/

/-- Transfers of a thread, and of a core's threads, that have not completed. -/
def State.threadXfers (s : State) (p t : Nat) : Nat := (s.xfers.filter (fun y => y.owner == .thread p t)).length
def State.coreXfers (s : State) (n : Nat) : Nat :=
  (s.xfers.filter (fun y => y.core == n && (match y.owner with
    | .thread _ _ => true
    | _ => false))).length

/-- The 64-entry queue and the four engines (R144) (log entry 22). -/
def coreXferLimit : Nat := 68

/-- A lane may issue a transfer now: fewer than 16 of its own are incomplete and the queue has room (R144; log entry 22). -/
def State.roomFor (s : State) (x : Issue) (i : Nat) : Bool :=
  decide (s.threadXfers x.phys (x.tid i) < 16) && decide (s.coreXfers x.core < coreXferLimit)

def State.issueOne (x : Issue) (acc : State × List Nat) (i : Nat) : State × List Nat :=
  let s := acc.1
  let a := ocAddr x.core ((x.th.lane i).reg (fRs1 x.word))
  if !s.roomFor x i then (s, acc.2 ++ [i])
  else
    (s.issueXfer { id := 0, core := x.core, owner := .thread x.phys (x.tid i), words := s.loadWords a 8, pc := x.th.pc,
                   gang := x.th.gang, lanes := 2 ^ i }, acc.2)

/-- DMA ISSUE: the descriptors of the lanes that are left are checked when it takes effect, at its first try or after a wait (R144,
R153); with no room for any it waits. -/
def State.runDmaIssue (x : Issue) (s : State) : State :=
  let at_ (l : Lane) : Nat := ocAddr x.core (l.reg (fRs1 x.word))
  let badAddr (l : Lane) : Bool := l.reg (fRs1 x.word) % 16 != 0 || decide (2 ^ 17 ≤ l.reg (fRs1 x.word))
  if !x.lanes.isEmpty && x.lanes.all (fun i => !s.roomFor x i) then s.settle x x.th x.lanes
  else State.lanesChecked x s (fun l => l.regPoison (fRs1 x.word) || (!badAddr l && s.poisonAt (at_ l)))
    (fun l => badAddr l || s.xferBad false (s.loadWords (at_ l) 8))
    (fun l => if l.regPoison (fRs1 x.word) then none else some (at_ l))
    (fun s =>
      let r := x.lanes.foldl (State.issueOne x) (s, [])
      r.1.settle x x.th r.2)

def State.runFenceDma (x : Issue) (s : State) : State :=
  s.settle x x.th (x.lanes.filter (fun i => decide (0 < s.threadXfers x.phys (x.tid i))))

/-! ### Commands -/

def State.vecAlu (s : State) (o : VOp) (th : ThreadRef) : State := s.issue o th (State.runAlu o)
def State.vecMem (s : State) (o : VOp) (th : ThreadRef) : State := s.issue o th (State.runMem o)

end Sys2Proof.Machine
end

