-- ==== Sys2Proof/Machine/Ring.lean ====
section
/-! DEFINITION. Machine/Ring.lean: the command rings (R197 to R202): doorbells, taking, starting in order, completions, abort,
enable and disable, and the ring commands 0x00 to 0x06 (R198). -/

namespace Sys2Proof.Machine

def State.ring (s : State) (r : Nat) : Ring := sget {} s.rings r
def State.setRing (s : State) (r : Nat) (x : Ring) : State := { s with rings := sput s.rings r x }
def State.cmdSlots (s : State) (r : Nat) : Nat := 2 ^ s.rdAt F.QUE_RING_CTRL_cmd_log2 r
def State.cplSlots (s : State) (r : Nat) : Nat := 2 ^ s.rdAt F.QUE_RING_CTRL_cpl_log2 r
def ringOk (r : Nat) : Bool := decide (r < 2)
def State.ringOn (s : State) (r : Nat) : Bool := ringOk r && s.isSetAt F.QUE_RING_CTRL_enable r

/-- Completions written and not acknowledged fill the completion ring (R199). -/
def State.cplFull (s : State) (r : Nat) : Bool :=
  decide (s.cplSlots r ≤ (s.rdAt F.QUE_RING_STATE_cpl_sent r + 2 ^ 32 - s.rdAt F.QUE_RING_CPL_ACK_seq r) % 2 ^ 32)

def cmdOp (ws : List Nat) : Nat := fld (wd ws 0) 31 24
def cmdFence (ws : List Nat) : Bool := bitAt (wd ws 0) 23
/-- Commands the table gives an effect: the others complete at once with BAD_OPCODE (R198, R221). -/
def cmdKnown (op : Nat) : Bool := decide (op ≤ 6) || (decide (0x20 ≤ op) && decide (op ≤ 0x25))
/-- Commands that start alone: fenced ones, SYNC_WAIT and STEP_WAIT (R199, R221). -/
def cmdAlone (ws : List Nat) : Bool := cmdFence ws || cmdOp ws == 5 || cmdOp ws == 0x23

/-- The bases a ring needs: inside the carve-out, aligned to their ring's size (R197). -/
def State.ringBasesOk (s : State) (r : Nat) : Bool :=
  let n := s.cmdSlots r * 64
  let m := s.cplSlots r * 32
  let a := s.rdAt F.QUE_RING_BASE_base r
  let b := s.rdAt F.QUE_RING_CPL_BASE_base r
  inCarve a n && inCarve b m && a % n == 0 && b % m == 0

/-- The engine takes commands now (R199, R200). -/
def State.mayTake (s : State) (r : Nat) : Bool :=
  s.ringOn r && !(s.ring r).disabling && !s.isSetAt F.QUE_RING_STATUS_stopped r && !s.isSetAt F.QUE_RING_CTRL_abort r &&
  !s.cplFull r && decide ((s.ring r).cmds.length < 64) &&
  newer32 (s.rdAt F.QUE_RING_DOORBELL_seq r) (s.rdAt F.QUE_RING_STATE_taken r)

/-- Take one command: read its entry and check its seq (R199). A poisoned entry completes with POISON (log entry 17). -/
def State.takeOne (s : State) (r : Nat) : State :=
  let q := (s.rdAt F.QUE_RING_STATE_taken r + 1) % 2 ^ 32
  let a := s.rdAt F.QUE_RING_BASE_base r + q % s.cmdSlots r * 64
  let ws := s.loadWords a 8
  let x := s.ring r
  let add (t : State) (c : RingCmd) : State :=
    ((t.setRing r { x with cmds := x.cmds ++ [c] }).wrAt F.QUE_RING_STATE_taken r q).wrAt F.QUE_RING_STATUS_in_progress r
      (x.cmds.length + 1)
  if s.poisonAt a then
    add ((s.consumed 8 a).raiseRec .MEM_POISON_CTRL 0xFFFF Rec.memPoisonLast)
      { seq := q, words := ws, started := true, result := some (4, 0) }
  else if fld (wd ws 0) 63 32 ≠ q then (s.wrAt F.QUE_RING_STATUS_stopped r 1).raise .RING_SEQ_ERR r
  else if cmdKnown (cmdOp ws) then add s { seq := q, words := ws }
  else add s { seq := q, words := ws, started := true, result := some (2, 0) }

/-- Take commands as far as the doorbell and the places allow. -/
def State.takeRing (r : Nat) : Nat → State → State
  | 0, s => s
  | n + 1, s => if s.mayTake r then takeRing r n (s.takeOne r) else s

def State.take (s : State) (r : Nat) : State := State.takeRing r 64 s

/-- A doorbell write (R199) (log entry 26). -/
def State.doorbell (s : State) (r v : Nat) : State :=
  let v := v % 2 ^ 32
  if !s.ringOn r then s.wrAt F.QUE_RING_DOORBELL_seq r v
  else if !newer32 v (s.rdAt F.QUE_RING_STATE_taken r) then s
  else if s.cmdSlots r < (v + 2 ^ 32 - s.rdAt F.QUE_RING_STATUS_done r) % 2 ^ 32 then s.raise .RING_DOORBELL_ERR r
  else (s.wrAt F.QUE_RING_DOORBELL_seq r v).take r

/-- RING_DOORBELL (R199). -/
def execRingDoorbell (ring value : Nat) (s : State) : Host.Outcome State Fault Refusal :=
  .next (if s.alive && ringOk ring then s.doorbell ring value else s)

/-- Enabling (R197, R200). -/
def State.enableRing (s : State) (r : Nat) : State :=
  if s.ringOn r then s
  else if s.ringBasesOk r then
    let d := s.rdAt F.QUE_RING_DOORBELL_seq r
    ((((((((s.setRing r {}).wrAt F.QUE_RING_CTRL_enable r 1).wrAt F.QUE_RING_STATUS_cfg_error r 0).wrAt
      F.QUE_RING_STATE_taken r d).wrAt F.QUE_RING_STATUS_done r d).wrAt F.QUE_RING_STATE_cpl_sent r
      (s.rdAt F.QUE_RING_CPL_ACK_seq r)).wrAt F.QUE_RING_STATUS_in_progress r 0).wrAt F.QUE_RING_STATUS_stopped r 0)
  else s.wrAt F.QUE_RING_STATUS_cfg_error r 1

/-- RING_ENABLE (R200). -/
def execRingEnable (ring : Nat) (s : State) : Host.Outcome State Fault Refusal :=
  .next (if s.alive && ringOk ring then s.enableRing ring else s)

/-- Writing enable 0 (R200): no more commands are taken; with none in progress the ring is disabled. -/
def State.disableRing (s : State) (r : Nat) : State :=
  if s.ringOn r then
    if (s.ring r).cmds.isEmpty then (s.setRing r {}).wrAt F.QUE_RING_CTRL_enable r 0
    else s.setRing r { s.ring r with disabling := true }
  else s

/-- RING_DISABLE (R200). -/
def execRingDisable (ring : Nat) (s : State) : Host.Outcome State Fault Refusal :=
  .next (if s.alive && ringOk ring then s.disableRing ring else s)

/-- Bytes that a ring's transfer had moved. -/
def State.ringMoved (s : State) (r : Nat) (c : RingCmd) : Nat :=
  match s.xfers.find? (fun x => x.owner == .ring r c.seq) with
  | some x => s.xferMoved x
  | none => c.moved

/-- Setting abort (R200): every command taken and not completed completes with ABANDONED. -/
def State.abortRing (s : State) (r : Nat) : State :=
  let x := s.ring r
  if x.cmds.isEmpty then s
  else
    let cmds := x.cmds.map (fun c => if c.result.isNone then { c with started := true, result := some (6, s.ringMoved r c) } else c)
    let mine (o : XferOwner) : Bool := match o with
      | .ring q _ => q == r
      | _ => false
    ({ s with
        waits := s.waits.filter (fun w => w.who != Waiter.ring r),
        xfers := s.xfers.filter (fun y => !mine y.owner),
        ops := s.ops.filter (fun o => !mine o.owner),
        rings := sput s.rings r { x with cmds := cmds } }).wrAt F.QUE_RING_CTRL_abort r 1

/-- RING_ABORT (R200). -/
def execRingAbort (ring : Nat) (s : State) : Host.Outcome State Fault Refusal :=
  .next (if s.alive && ringOk ring then s.abortRing ring else s)

/-- Setting restart resumes a stopped ring from the same number (R199). -/
def State.restartRing (s : State) (r : Nat) : State :=
  if s.isSetAt F.QUE_RING_STATUS_stopped r then (s.wrAt F.QUE_RING_STATUS_stopped r 0).take r else s

/-- RING_RESTART (R199). -/
def execRingRestart (ring : Nat) (s : State) : Host.Outcome State Fault Refusal :=
  .next (if s.alive && ringOk ring then s.restartRing ring else s)

/-- A write of QUE_RING_CPL_ACK frees completion places (R199). -/
def State.cplAck (s : State) (r v : Nat) : State := (s.wrAt F.QUE_RING_CPL_ACK_seq r v).take r

/-- RING_CPL_ACK (R199). -/
def execRingCplAck (ring value : Nat) (s : State) : Host.Outcome State Fault Refusal :=
  .next (if s.alive && ringOk ring then s.cplAck ring value else s)

/-- Post the completion of the oldest command (R198, R199). -/
def State.postCompletion (s : State) (r : Nat) (c : RingCmd) (status value : Nat) : State :=
  let n := (s.rdAt F.QUE_RING_STATE_cpl_sent r + 1) % 2 ^ 32
  let a := s.rdAt F.QUE_RING_CPL_BASE_base r + n % s.cplSlots r * 32
  let ws := [n * 2 ^ 32 + c.seq, status * 2 ^ 56 + cmdOp c.words * 2 ^ 48, value % 2 ^ 64, s.tick]
  let x := s.ring r
  let rest := x.cmds.drop 1
  let s := (((s.storeN a (wordBytes ws)).wrAt F.QUE_RING_STATE_cpl_sent r n).wrAt F.QUE_RING_STATUS_done r c.seq).wrAt
    F.QUE_RING_STATUS_in_progress r rest.length
  let s := s.setRing r { x with cmds := rest }
  let s := if rest.isEmpty then s.wrAt F.QUE_RING_CTRL_abort r 0 else s
  if rest.isEmpty && x.disabling then (s.setRing r {}).wrAt F.QUE_RING_CTRL_enable r 0 else s.take r

/-- COMMAND_COMPLETE: the oldest command of a ring has its result, and its completion is posted (R199). -/
def execCommandComplete (ring : Nat) (s : State) : Host.Outcome State Fault Refusal :=
  match (s.ring ring).cmds with
  | [] => .next s
  | c :: _ =>
    match c.result with
    | none => .next s
    | some (st, v) => .next (if s.alive && !s.cplFull ring then s.postCompletion ring c st v else s)

/-! ### Starting commands (R199) -/

/-- The words of command `seq` of ring `r` when it is of opcode `op` and may start now, or has started and is tried again. -/
def State.startable (s : State) (r seq op : Nat) : Option RingCmd :=
  let cs := (s.ring r).cmds
  let before := cs.takeWhile (fun c => c.seq != seq)
  match cs.find? (fun c => c.seq == seq) with
  | none => none
  | some c =>
    if s.alive && cmdOp c.words == op && c.result.isNone &&
      (c.started ||
        (before.all (fun b => b.started) && before.all (fun b => !cmdAlone b.words || b.result.isSome) &&
          (!cmdAlone c.words || before.isEmpty)))
    then some c else none

/-- Mark a command started. -/
def State.markStarted (s : State) (r seq : Nat) (moved tag : Nat) : State :=
  let x := s.ring r
  s.setRing r { x with cmds := x.cmds.map (fun c => if c.seq = seq then { c with started := true, moved := moved, tag := tag } else c) }

/-- Run a command that may start, its first time. -/
def State.onStart (s : State) (r seq op : Nat) (body : List Nat → State → State) : State :=
  match s.startable r seq op with
  | some c => if c.started then s else body c.words s
  | none => s

/-- CMD_NOP (R198). -/
def execCmdNop (ring seq : Nat) (s : State) : Host.Outcome State Fault Refusal :=
  .next (s.onStart ring seq 0 (fun _ s => s.ringResult ring seq 0 0))

/-- The items of a QUEUE_PUSH from number `from_` on, framed as one packet where asked. -/
def State.pushItems (s : State) (a count from_ : Nat) (frame : Bool) : List Item :=
  ((List.range count).drop from_).map (fun k =>
    { data := s.loadN (a + 64 * k) 64, start := frame && k == 0, fin := frame && k + 1 == count,
      poison := s.poisoned (a + 64 * k) 64 })

/-- QUEUE_PUSH (R198): pushes as far as the queue accepts, and stalls on FULL. -/
def State.ringPush (s : State) (r seq : Nat) (c : RingCmd) : State :=
  let w1 := wd c.words 1
  let q := fld w1 12 0
  let n := fld w1 29 19
  let a := fld (wd c.words 2) 47 0
  if n = 0 ∨ 1024 < n ∨ !s.mayPush (.ring r) q ∨
      !(s.mayReadHbm .dma a (64 * n) || inTiles a (64 * n) || inCaches a (64 * n)) then s.ringResult r seq 3 c.moved
  else
    let p := State.pushAll (.ring r) q s (s.pushItems a n c.moved (bitAt w1 30)) 0
    let moved := c.moved + p.2
    if moved = n then p.1.ringResult r seq 0 n else p.1.markStarted r seq moved 0

/-- QUEUE_PUSH (R198). -/
def execQueuePush (ring seq : Nat) (s : State) : Host.Outcome State Fault Refusal :=
  match s.startable ring seq 1 with
  | some c => .next (s.ringPush ring seq c)
  | none => .next s

/-- SYNC_ADD of a ring or an epilogue: the counter, where it lies, and whether the target exists. -/
def addTarget (ws : List Nat) : Nat × Nat × Nat := (fld (wd ws 1) 16 0, fld (wd ws 1) 33 32, fld (wd ws 1) 63 48)

/-- CMD_SYNC_ADD (R198): it takes effect after the ring's earlier transfers into that module (R192); a remote one completes when its
flit is acknowledged. -/
def State.ringAdd (s : State) (r seq : Nat) (ws : List Nat) : State :=
  let t := addTarget ws
  if t.2.1 ≠ 0 ∧ (t.2.1 = 3 ∨ !s.nodeOk t.2.1 t.2.2) then s.ringResult r seq 3 0
  else (s.markStarted r seq 0 0).counterOp (.ring r seq) (s.nodeModule t.2.1 t.2.2) t.1 (wd ws 2)

/-- Start a command on an own counter once the ring's earlier operations on it have taken effect (R192). -/
def State.onCounter (s : State) (r seq op : Nat) (body : List Nat → State → State) : State :=
  s.onStart r seq op (fun ws s => if s.opPending (.ring r seq) (fld (wd ws 1) 16 0) then s else body ws s)

/-- CMD_SYNC_ADD (R198). -/
def execCmdSyncAdd (ring seq : Nat) (s : State) : Host.Outcome State Fault Refusal :=
  .next (s.onStart ring seq 2 (fun ws s => s.ringAdd ring seq ws))

/-- CMD_SYNC_SET (R198). -/
def execCmdSyncSet (ring seq : Nat) (s : State) : Host.Outcome State Fault Refusal :=
  .next (s.onCounter ring seq 3 (fun ws s => (s.syncSet (fld (wd ws 1) 16 0) (wd ws 2)).ringResult ring seq 0 0))

/-- CMD_SYNC_READ (R198). -/
def execCmdSyncRead (ring seq : Nat) (s : State) : Host.Outcome State Fault Refusal :=
  .next (s.onCounter ring seq 4 (fun ws s => s.ringResult ring seq 0 (s.counter (fld (wd ws 1) 16 0))))

/-- CMD_SYNC_WAIT (R198, R195, R196). -/
def execCmdSyncWait (ring seq : Nat) (s : State) : Host.Outcome State Fault Refusal :=
  .next (s.onCounter ring seq 5 (fun ws s =>
    (s.markStarted ring seq 0 0).waitGe (fld (wd ws 1) 16 0) (wd ws 2) (fld (wd ws 3) 31 0) (.ring ring)))

/-- CMD_DMA (R198, R144): the descriptor lies in the carve-out. -/
def State.ringDma (s : State) (r seq : Nat) (ws : List Nat) : State :=
  let a := fld (wd ws 2) 47 0
  if !inCarve a 64 then s.ringResult r seq 3 0
  else if s.poisoned a 64 then ((s.consumed 8 a).raiseRec .MEM_POISON_CTRL 0xFFFF Rec.memPoisonLast).ringResult r seq 4 0
  else
    let d := s.loadWords a 8
    if s.xferBad true d then s.ringResult r seq 3 0
    else (s.markStarted r seq 0 0).issueXfer { id := 0, core := 0, owner := .ring r seq, words := d }

/-- CMD_DMA (R198). -/
def execCmdDma (ring seq : Nat) (s : State) : Host.Outcome State Fault Refusal :=
  .next (s.onStart ring seq 6 (fun ws s => s.ringDma ring seq ws))

/-- A remote ADD of a ring is acknowledged: its command completes (R198); unreachable, it ends with REMOTE_ERR (R262). -/
def State.settleRingTags (s : State) : State :=
  { s with rings := smap (fun _ x => { x with cmds := x.cmds.map (fun c =>
      if c.tag ≠ 0 ∧ c.moved = 0 ∧ c.result.isNone ∧ !s.tagPending c.tag then { c with result := some (0, 0) } else c) }) s.rings }

def State.failRingTag (s : State) (tag : Nat) : State :=
  { s with rings := smap (fun _ x => { x with cmds := x.cmds.map (fun c =>
      if c.tag = tag ∧ c.result.isNone then { c with result := some (5, 0) } else c) }) s.rings }

/-- Remote ADDs of the rings whose flits a reset of the sequence spaces took are sent again (R198, R262). -/
def State.resendRingTags (s : State) : State :=
  let sent : State := { s with rings := smap (fun _ x => { x with cmds := x.cmds.map (fun c =>
      if c.tag ≠ 0 then { c with moved := 0 } else c) }) s.rings }
  (s.rings.flatMap (fun p => p.2.cmds)).foldl (fun t c =>
    if c.tag ≠ 0 ∧ c.moved = 1 ∧ c.result.isNone then
      let g := addTarget c.words
      t.sendFlit (t.envelope (t.nodeModule g.2.1 g.2.2) g.1 .syncAdd 2 true 0 (leBytes 8 (wd c.words 2) ++ leBytes 56 0)) c.tag
    else t) sent

end Sys2Proof.Machine
end

