-- ==== Sys2Proof/Machine/Sched.lean ====
section
/-! DEFINITION. Machine/Sched.lean: the step program and its checks (R205 to R209, R223, R224), admission (R212), segments and
their feeding (R204, R211), epilogues (R209), the cocoon (R214 to R216), deadlines (R218) and stand-ins (R217). -/

namespace Sys2Proof.Machine

/-! ### The step program in memory -/

def State.header (s : State) : Nat := s.rd F.SCH_STEP_header
def State.headerWord (s : State) (k : Nat) : Nat := s.load64 (s.header + 8 * k)
def State.mbCount (s : State) : Nat := fld (s.headerWord 0) 58 46
def State.mbAddr (s : State) (m : Nat) : Nat := fld (s.headerWord 1) 47 0 + 32 * m
def State.mbWord (s : State) (m k : Nat) : Nat := s.load64 (s.mbAddr m + 8 * k)
/-- keep_est in units of 64 KiB. -/
def State.keepEst (s : State) (m : Nat) : Nat := fld (s.mbWord m 1) 63 32 * 16
def State.entryAddr (s : State) (m e : Nat) : Nat := fld (s.mbWord m 2) 47 0 + 16 * e
def State.entryWord (s : State) (m e k : Nat) : Nat := s.load64 (s.entryAddr m e + 8 * k)
/-- Count and address of a core's list. -/
def State.listOf (s : State) (n : Nat) (hw : Bool) : Nat × Nat :=
  let w := s.load64 (fld (s.headerWord 3) 47 0 + 16 * n + 8 * bit hw)
  (fld w 63 48, fld w 47 0)
def State.segWords (s : State) (n : Nat) (hw : Bool) (i : Nat) : List Nat := s.loadWords ((s.listOf n hw).2 + 64 * i) 8

def segKind (ws : List Nat) : Nat := fld (wd ws 0) 63 60
def segMb (ws : List Nat) : Nat := fld (wd ws 0) 59 48
def segAlloc (ws : List Nat) : Bool := bitAt (wd ws 0) 43
def segEntry (ws : List Nat) : Nat := fld (wd ws 0) 42 35
def segPriv (ws : List Nat) : Nat × Nat := (fld (wd ws 0) 34 18, fld (wd ws 0) 17 10)
def segTiles (ws : List Nat) : Nat × Nat := (fld (wd ws 1) 63 48, fld (wd ws 1) 47 0)
def segLaunches (ws : List Nat) : Nat × Nat := (fld (wd ws 2) 63 48, fld (wd ws 2) 47 0)
def segRows (ws : List Nat) : Nat × Nat := (fld (wd ws 3) 63 48, fld (wd ws 3) 47 0)
def segWait (ws : List Nat) : Bool × Nat × Nat := (bitAt (wd ws 4) 14, fld (wd ws 4) 63 47, fld (wd ws 4) 46 15)
def segEpi (ws : List Nat) : Nat × Nat := (fld (wd ws 5) 63 48, fld (wd ws 5) 47 0)
def segRead (ws : List Nat) : Bool × Nat := (bitAt (wd ws 6) 55, fld (wd ws 6) 63 56)

/-! ### Checks (R223) -/

/-- Codes of a table or list at an address: misplaced or misaligned 0x03, poisoned 0x0A; a count of 0 is not checked. -/
def State.tableCode (s : State) (a len : Nat) : Nat :=
  if len = 0 then 0
  else if a % 64 ≠ 0 ∨ !s.inHeap a len then 3
  else if s.poisoned a len then 0x0A
  else 0

/-- Codes of one segment (R223): its fields, its lists and its epilogue. `prev` is the micro-batch of the segment before. -/
def State.segCode (s : State) (hw : Bool) (ws : List Nat) (prev : Nat) : Nat :=
  let mb := segMb ws
  let kind := segKind ws
  let entries := fld (s.mbWord mb 0) 35 28
  let epi := segEpi ws
  let epiCode := s.tableCode epi.2 (32 * epi.1)
  let keep := bitAt (s.entryWord mb (segEntry ws) 0) 39
  lowestCode [
    (kind == 0 || decide (3 < kind) || fld (wd ws 0) 47 44 != 0 || fld (wd ws 0) 9 0 != 0 || fld (wd ws 4) 13 0 != 0 ||
      fld (wd ws 6) 54 0 != 0 || wd ws 7 != 0, 1),
    (s.tableCode (segTiles ws).2 (64 * (segTiles ws).1) == 3, 3), (s.tableCode (segLaunches ws).2 (64 * (segLaunches ws).1) == 3, 3),
    (s.tableCode (segRows ws).2 (64 * (segRows ws).1) == 3, 3), (epiCode == 3, 3),
    (decide (s.mbCount ≤ mb), 5),
    (decide (mb < s.mbCount) && segAlloc ws && decide (entries ≤ segEntry ws), 5),
    (decide (mb < s.mbCount) && (segRead ws).1 && decide (entries ≤ (segRead ws).2), 5),
    (decide (131072 < (segPriv ws).1 + (segPriv ws).2) || decide (64 < epi.1), 6),
    (epiCode == 0 && decide (epi.1 ≤ 64) && (List.range epi.1).any (fun k =>
      let op := fld (s.load64 (epi.2 + 32 * k)) 31 24
      op != 1 && op != 2 && op != 6), 6),
    ((kind == 1 && hw) || ((kind == 2 || kind == 3) && !hw), 7),
    (!hw && decide (mb < prev), 8),
    (kind == 3 && (!segAlloc ws || (decide (mb < s.mbCount) && decide (segEntry ws < entries) && keep)), 9),
    (s.tableCode (segTiles ws).2 (64 * (segTiles ws).1) == 0x0A || s.tableCode (segLaunches ws).2 (64 * (segLaunches ws).1) == 0x0A ||
      s.tableCode (segRows ws).2 (64 * (segRows ws).1) == 0x0A || epiCode == 0x0A, 0x0A)]

/-- What failed: code, logical core, micro-batch, segment index, wing. -/
structure BadItem where
  code : Nat
  core : Nat := 0
  mb : Nat := 0
  seg : Nat := 0
  hw : Bool := false
deriving DecidableEq, Repr

def headerCode (s : State) (a : Nat) : Nat :=
  let c := s.tableCode a 64
  if c = 3 then 3
  else
    let ws := s.loadWords a 8
    lowestCode [
      (fld (wd ws 0) 63 60 != 1 || fld (wd ws 0) 33 0 != 0 || fld (wd ws 1) 63 48 != 0 || fld (wd ws 2) 63 48 != 0 ||
        fld (wd ws 3) 63 48 != 0 || wd ws 6 != 0 || wd ws 7 != 0, 1),
      (fld (wd ws 0) 58 46 == 0 || decide (4096 < fld (wd ws 0) 58 46), 2), (c == 0x0A, 0x0A)]

/-- Codes of a micro-batch entry with its cocoon entries, for a program whose header is `SCH_STEP.header`. -/
def State.mbCode (s : State) (m : Nat) : Nat :=
  let n := fld (s.mbWord m 0) 35 28
  let own := lowestCode [
    (fld (s.mbWord m 0) 27 0 != 0 || fld (s.mbWord m 1) 31 0 != 0 || fld (s.mbWord m 2) 63 48 != 0, 1),
    (s.tableCode (fld (s.mbWord m 2) 47 0) (16 * n) == 3, 3), (s.tableCode (fld (s.mbWord m 2) 47 0) (16 * n) == 0x0A, 0x0A)]
  if own ≠ 0 then own
  else ((firstBad (fun e =>
    let w := s.entryWord m e 0
    let b := s.entryWord m e 1
    lowestCode [
      (fld w 16 0 != 0 || fld b 63 48 != 0, 1), (fld b 47 0 % 8 != 0 || !s.inHeap (fld b 47 0) 8, 3),
      (fld w 38 28 == 0 || fld w 27 17 == 0, 4)]) (List.range n)).map Prod.snd).getD 0

/-- Codes of a list of segments, in order. -/
def State.listCode (s : State) (n : Nat) (hw : Bool) : Option BadItem :=
  let l := s.listOf n hw
  let c := s.tableCode l.2 (64 * l.1)
  if c = 3 then some ⟨3, n, 0, 0, hw⟩
  else (firstBad (fun i =>
      let ws := s.segWords n hw i
      let prev := if i = 0 then 0 else segMb (s.segWords n hw (i - 1))
      if s.poisoned (l.2 + 64 * i) 64 then 0x0A else s.segCode hw ws prev) (List.range l.1)).map
    (fun r => { code := r.2, core := n, mb := segMb (s.segWords n hw r.1), seg := r.1, hw := hw })

/-- The first list that fails, by core, forewing before hindwing. -/
def State.listsCode (s : State) : List Nat → Option BadItem
  | [] => none
  | n :: ns => match s.listCode n false with
    | some b => some b
    | none => match s.listCode n true with
      | some b => some b
      | none => s.listsCode ns

/-- Check the program whose header lies at `a` (R223), with `s.header` already standing for it (log entry 58). -/
def State.programBad (s : State) (a : Nat) : Option BadItem :=
  let h := headerCode s a
  if h ≠ 0 then some { code := h }
  else
    let t := s.wr F.SCH_STEP_header a
    let ws := t.loadWords a 8
    let mbs := t.tableCode (fld (wd ws 1) 47 0) (32 * t.mbCount)
    let cost := t.tableCode (fld (wd ws 2) 47 0) 128
    let init := t.tableCode (fld (wd ws 4) 47 0) (16 * fld (wd ws 4) 63 48)
    let segs := t.tableCode (fld (wd ws 3) 47 0) 4096
    if mbs ≠ 0 then some { code := mbs }
    else match firstBad t.mbCode (List.range t.mbCount) with
      | some r => some { code := r.2, mb := r.1 }
      | none =>
        if cost ≠ 0 then some { code := cost }
        else if init ≠ 0 then some { code := init }
        else if (List.range (fld (wd ws 4) 63 48)).any (fun k => fld (t.load64 (fld (wd ws 4) 47 0 + 16 * k)) 63 17 != 0) then
          some { code := 1 }
        else if segs ≠ 0 then some { code := segs }
        else t.listsCode allCores

/-- STEP_LOAD (R221, R223). -/
def State.stepLoad (s : State) (r seq : Nat) (ws : List Nat) : State :=
  let a := fld (wd ws 1) 47 0
  if s.stepOpen || !(s.mode == .running || s.mode == .held) then s.ringResult r seq 3 0
  else match s.programBad a with
    | some b => (s.schReject false b.code b.core b.mb b.seg b.hw).ringResult r seq 3 b.code
    | none =>
      let w := s.load64 a
      ((((s.wr F.SCH_STEP_loaded 1).wr F.SCH_STEP_frozen (fld w 59 59)).wr F.SCH_STEP_header a).wr F.SCH_ADMIT_window
        (fld w 45 34)).ringResult r seq 0 0

/-- STEP_LOAD. -/
def execStepLoad (ring seq : Nat) (s : State) : Host.Outcome State Fault Refusal :=
  .next (s.onStart ring seq 0x20 (fun ws s => s.stepLoad ring seq ws))

/-! ### Passes and admission (R212, R218) -/

def passKey (m : Nat) (backward : Bool) : Nat := 2 * m + bit backward
def State.pass? (s : State) (m : Nat) (b : Bool) : Option Pass := sget? s.sched.passes (passKey m b)
def State.setPass (s : State) (m : Nat) (b : Bool) (p : Pass) : State :=
  { s with sched := { s.sched with passes := sput s.sched.passes (passKey m b) p } }
def State.endPass (s : State) (m : Nat) (b : Bool) : State := match s.pass? m b with
  | some p => s.setPass m b { p with ended := true }
  | none => s

def State.resvOf (s : State) (m : Nat) : Nat := sget 0 s.sched.resv m
def State.setResv (s : State) (m v : Nat) : State :=
  let r := sset 0 s.sched.resv m v
  ({ s with sched := { s.sched with resv := r } }).wr F.SCH_COCOON_reserved_units ((r.map Prod.snd).sum)
/-- The unreserved cocoon space (R214). -/
def State.unreserved (s : State) : Nat := s.rd F.SCH_COCOON_free - s.rd F.SCH_COCOON_reserved_units

/-- No segment of micro-batch `m` that a test names is left in a core's list (R212, R218). -/
def State.noneLeft (s : State) (m : Nat) (hw : Bool) : Bool :=
  allCores.all (fun n =>
    let l := s.listOf n hw
    ((List.range l.1).drop (s.wing n hw).idx).all (fun i => segMb (s.segWords n hw i) != m))

/-- The forward pass of `m` has ended: what is left of its reservation goes (R212). -/
def State.endForward (s : State) (m : Nat) : State :=
  if s.noneLeft m false then
    ((s.endPass m false).setResv m 0).wr F.SCH_ADMIT_in_flight (s.rd F.SCH_ADMIT_in_flight - 1)
  else s

def fwWaiting (s : State) : Bool := s.sched.waiting.any (fun q => !q.backward)
def bwWaiting (s : State) : Bool := s.sched.waiting.any (fun q => q.backward)

/-- The conditions of R212 for the next micro-batch. -/
def State.mayAdmit (s : State) : Bool :=
  let m := s.rd F.SCH_ADMIT_next
  let w := s.rd F.SCH_ADMIT_window
  s.alive && s.working && s.isSet F.SCH_STEP_loaded && decide (m < s.mbCount) &&
  (w == 0 || decide (s.rd F.SCH_ADMIT_in_flight < w)) && decide (s.keepEst m ≤ s.unreserved) && !fwWaiting s

/-- Every list of every core has completed (R211). -/
def State.listsDone (s : State) : Bool :=
  allCores.all (fun n => decide ((s.listOf n false).1 ≤ (s.wing n false).idx) && decide ((s.listOf n true).1 ≤ (s.wing n true).idx))

/-- No launch of a micro-batch has a thread that has not ended (R139); canary work is none of a micro-batch's (R324). -/
def State.launchesEnded (s : State) : Bool :=
  s.vec.all (fun p => p.2.launches.isEmpty || allCores.any (fun n => s.phys n == p.1 && s.canaryOn n))

/-- The last micro-batch has ended: every list has completed, and every launch (R30, R33, R139, R211). The step is CHECKING. -/
def State.toChecking (s : State) : State :=
  if s.working && s.listsDone && s.launchesEnded then ({ s with step := .checking }).tryNorm else s

/-- MB_ADMIT: the next micro-batch is admitted and reserves keep_est (R212). -/
def execMbAdmit (s : State) : Host.Outcome State Fault Refusal :=
  if s.mayAdmit then
    let m := s.rd F.SCH_ADMIT_next
    let s := ((s.add F.SCH_ADMIT_next 1).add F.SCH_ADMIT_in_flight 1).setResv m (s.keepEst m)
    .next ((s.setPass m false { start := s.tick }).endForward m)
  else .next s

/-! ### Deadlines (R218) -/

/-- The expected duration of a pass in ticks. -/
def State.expect (s : State) (m : Nat) (backward : Bool) : Nat :=
  let w3 := s.mbWord m 3
  let w0 := s.mbWord m 0
  let cost := s.load64 (fld (s.headerWord 2) 47 0 + 8 * fld w0 63 60)
  let w5 := s.headerWord 5
  let ms := if backward then fld w3 31 0 else fld w3 63 32
  let perTok := if backward then fld cost 31 0 else fld cost 63 32
  let fixedUs := if backward then fld w5 31 0 else fld w5 63 32
  if ms ≠ 0 then ms * 100000 else (fld w0 59 36 * perTok + fixedUs * 1000) / 10

def State.mbDeadline (s : State) (start e : Nat) : Nat :=
  start + e * (16 + s.rd F.SCH_DEADLINE_slack) / 16 + s.rd F.SCH_DEADLINE_grace_ms * 100000
def State.mbHard (s : State) (start e : Nat) : Nat := start + 4 * e + s.rd F.SCH_DEADLINE_grace_ms * 100000

/-- SCH_LATE keeps the first late pass; MB_STALLED of that pass sets its hard bit. -/
def State.noteLate (s : State) (m : Nat) (backward hard : Bool) (e : Nat) : State :=
  if s.isSet F.SCH_LATE_valid then
    if hard && s.rd F.SCH_LATE_micro_batch == m && s.rd F.SCH_LATE_phase == bit backward then s.wr F.SCH_LATE_hard 1 else s
  else
    ((((s.wr F.SCH_LATE_valid 1).wr F.SCH_LATE_hard (bit hard)).wr F.SCH_LATE_phase (bit backward)).wr F.SCH_LATE_micro_batch m).wr
      F.SCH_LATE_expected_ms (e / 100000)

/-- MB_DEADLINE_EXPIRY (R218). -/
def execMbDeadlineExpiry (mb : Nat) (backward : Bool) (s : State) : Host.Outcome State Fault Refusal :=
  match s.pass? mb backward with
  | none => .next s
  | some p =>
    let e := s.expect mb backward
    if s.alive && !p.ended && !p.overdue && s.past (s.mbDeadline p.start e) then
      .next (((s.setPass mb backward { p with overdue := true }).noteLate mb backward false e).raiseRec .MB_OVERDUE 0xFFFF Rec.schLate)
    else .next s

/-- MB_HARD_LIMIT_EXPIRY (R218). -/
def execMbHardLimitExpiry (mb : Nat) (backward : Bool) (s : State) : Host.Outcome State Fault Refusal :=
  match s.pass? mb backward with
  | none => .next s
  | some p =>
    let e := s.expect mb backward
    if s.alive && !p.ended && !p.stalled && s.past (s.mbHard p.start e) then
      .next (((s.setPass mb backward { p with stalled := true }).noteLate mb backward true e).raiseRec .MB_STALLED 0xFFFF Rec.schLate)
    else .next s

/-! ### The cocoon (R214 to R216) -/

def unit64K : Nat := 0x10000
def State.cocoonUnits (s : State) : Nat := s.rdAt F.MEM_REGION_size 6 * 1024
def State.cocoonEntry (s : State) (m e : Nat) : Option CocoonEntry := s.sched.entries.find? (fun c => c.mb == m && c.entry == e)
def State.setEntries (s : State) (es : List CocoonEntry) : State := { s with sched := { s.sched with entries := es } }
def State.mapEntry (s : State) (m e : Nat) (f : CocoonEntry → CocoonEntry) : State :=
  s.setEntries (s.sched.entries.map (fun c => if c.mb = m ∧ c.entry = e then f c else c))

def State.baseWord (s : State) (m e : Nat) : Nat := fld (s.entryWord m e 1) 47 0

/-- A run [c, c + n) meets no stored entry and lies in the cocoon. -/
def State.runFree (s : State) (c n : Nat) : Bool :=
  decide (c + n ≤ s.cocoonUnits) &&
  s.sched.entries.all (fun x => !x.stored || decide (c + n ≤ x.first) || decide (x.first + x.units ≤ c))

/-- The lowest-addressed run of `n` free units: it starts at 0 or where a stored entry ends. -/
def State.lowestRun (s : State) (n : Nat) : Option Nat :=
  (0 :: (s.sched.entries.filter (fun x => x.stored)).map (fun x => x.first + x.units)).foldl (fun b c =>
    if s.runFree c n && (match b with
      | some d => decide (c < d)
      | none => true) then some c else b) none

/-- The size an entry asks for, in units; none where R214 finds it invalid. -/
def State.entrySize (s : State) (m e : Nat) : Option Nat :=
  let z := fld (s.entryWord m e 0) 63 40
  let n := if z = 0 then (s.load64 (s.baseWord m e) + unit64K - 1) / unit64K else z
  if n = 0 ∨ s.cocoonUnits < n then none else some n

/-- Free the units of a stored entry. -/
def State.freeEntry (s : State) (m e : Nat) : State :=
  match s.cocoonEntry m e with
  | some c => if c.stored then s.add F.SCH_COCOON_free c.units else s
  | none => s

/-- An entry's record: as its descriptor counts it. -/
def State.newEntry (s : State) (q : CocoonReq) (stored : Bool) (first : Nat) : CocoonEntry :=
  let w := s.entryWord q.mb q.entry 0
  let old := s.cocoonEntry q.mb q.entry
  { mb := q.mb, entry := q.entry, stored := stored, first := first, units := q.units, keep := q.keep,
    readersLeft := (old.map (fun c => c.readersLeft)).getD (fld w 38 28),
    readStarted := (old.map (fun c => c.readStarted)).getD false, writersLeft := fld w 27 17, order := s.sched.order,
    wasStored := stored && !q.backward, backward := q.backward }

def State.putEntry (s : State) (c : CocoonEntry) : State :=
  let es := s.sched.entries.filter (fun x => !(x.mb == c.mb && x.entry == c.entry)) ++ [c]
  { s with sched := { s.sched with entries := es, order := s.sched.order + 1 } }

/-- Grant a request at a run (R214). -/
def State.grantAt (s : State) (q : CocoonReq) (first : Nat) : State :=
  let s := (s.putEntry (s.newEntry q true first)).wr F.SCH_COCOON_free (s.rd F.SCH_COCOON_free - q.units)
  let s := if q.keep && !q.backward then s.setResv q.mb (s.resvOf q.mb - min q.units (s.resvOf q.mb)) else s
  s.store64 (s.baseWord q.mb q.entry) (s.regionBase 6 + first * unit64K)

/-- The grant of R214, when a run exists and the space rule holds. -/
def State.tryGrant (s : State) (q : CocoonReq) : Option State :=
  let room := if q.keep && !q.backward then s.resvOf q.mb + s.unreserved else s.unreserved
  if q.units ≤ room then (s.lowestRun q.units).map (s.grantAt q) else none

/-- A RECOMPUTE request that cannot be granted: the entry is not stored (R215, step 1). -/
def State.notStored (s : State) (q : CocoonReq) : State :=
  ((s.putEntry (s.newEntry q false 0)).addSat F.SCH_COCOON_EVENTS_not_stored 1).store64 (s.baseWord q.mb q.entry) 0

/-- The newest stored RECOMPUTE entry of a micro-batch that may be evicted (R215, step 2). -/
def State.evictable (s : State) (m : Nat) : Option CocoonEntry :=
  (s.sched.entries.filter (fun c => c.mb == m && c.stored && !c.keep && !c.backward && c.writersLeft == 0 && !c.readStarted)).foldl
    (fun b c => match b with
      | some d => if d.order < c.order then some c else b
      | none => some c) none

def State.evict (s : State) (c : CocoonEntry) : State :=
  let s := (s.freeEntry c.mb c.entry).mapEntry c.mb c.entry (fun x => { x with stored := false, wasStored := false })
  (s.addSat F.SCH_COCOON_EVENTS_not_stored 1).store64 (s.baseWord c.mb c.entry) 0

/-- Evict until the request can be granted or nothing is left to evict; the state after, and whether it was granted. -/
def State.evictFor : Nat → State → CocoonReq → State × Bool
  | 0, s, q => match s.tryGrant q with
    | some t => (t, true)
    | none => (s, false)
  | n + 1, s, q => match s.tryGrant q with
    | some t => (t, true)
    | none => match s.evictable q.mb with
      | some c => evictFor n (s.evict c) q
      | none => (s, false)

/-- The stalled bits of SCH_COCOON_CTRL. -/
def State.noteStalled (s : State) : State :=
  (s.wr F.SCH_COCOON_CTRL_fw_stalled (bit (fwWaiting s))).wr F.SCH_COCOON_CTRL_bw_stalled (bit (bwWaiting s))

/-- Serve a request now if it can be served (R214, R215, steps 1 and 2); the truth value says whether it was resolved. -/
def State.serve (s : State) (q : CocoonReq) : State × Bool :=
  if q.backward then
    match s.tryGrant q with
    | some t => (t, true)
    | none => (s, false)
  else if q.keep then State.evictFor s.sched.entries.length s q
  else match s.tryGrant q with
    | some t => (t, true)
    | none => (s.notStored q, true)

/-- The first failure found while the step runs (R224): SEG_INVALID, SCH_REJECT, discard and HELD. -/
def State.segInvalid (s : State) (n : Nat) (hw : Bool) (code mb : Nat) : State :=
  if s.sched.segFailed then s
  else
    let s := ({ s with sched := { s.sched with segFailed := true } }).schReject true code n mb (s.wing n hw).idx hw
    (s.raiseRec .SEG_INVALID n Rec.schReject).failStep 1 true

/-! ### Start conditions (R211) -/

/-- The code that segment `i` of a list fails with (R224). -/
def State.headCode (s : State) (n : Nat) (hw : Bool) (i : Nat) (ws : List Nat) : Nat :=
  let prev := if i = 0 then 0 else segMb (s.segWords n hw (i - 1))
  if s.poisoned ((s.listOf n hw).2 + 64 * i) 64 then 0x0A else s.segCode hw ws prev

/-- A segment's lists as memory holds them now. -/
def State.readWork (s : State) (ws : List Nat) (code : Nat) : SegWork :=
  let bytes (l : Nat × Nat) : List (List Byte) := (List.range l.1).map (fun k => s.loadN (l.2 + 64 * k) 64)
  if code ≠ 0 then { words := ws, code := code }
  else
    { words := ws, tiles := (List.range (segTiles ws).1).map (fun k => s.loadWords ((segTiles ws).2 + 64 * k) 8),
      launches := bytes (segLaunches ws), rows := bytes (segRows ws),
      epilogue := (List.range (segEpi ws).1).map (fun k => s.loadWords ((segEpi ws).2 + 32 * k) 4) }

/-- The scheduler reads the segment that heads a list, with its lists, afresh (R211). -/
def State.readHead (s : State) (n : Nat) (hw : Bool) : State :=
  let w := s.wing n hw
  if w.idx < (s.listOf n hw).1 then
    let ws := s.segWords n hw w.idx
    s.setWing n hw { w with head := some (s.readWork ws (s.headCode n hw w.idx ws)) }
  else s.setWing n hw { w with head := none }

/-- The heads of every list, as a step opens or replays. -/
def State.readHeads (s : State) : State := allCores.foldl (fun t n =>
  let t := if (t.listOf n false).1 = 0 then t else t.readHead n false
  if (t.listOf n true).1 = 0 then t else t.readHead n true) s

/-- The head segment of a list, when the core's scheduler may run it. -/
def State.headSeg (s : State) (n : Nat) (hw : Bool) : Option SegWork :=
  let w := s.wing n hw
  if s.alive && s.working && s.isSet F.SCH_STEP_loaded && decide (n < 256) && s.coreServed n && w.run.isNone then w.head else none

/-- A forward segment waits for its micro-batch's admission. -/
def State.admitted (s : State) (ws : List Nat) : Bool := segKind ws != 1 || decide (segMb ws < s.rd F.SCH_ADMIT_next)

/-- Register the wait of a segment, or find it satisfied (R211). -/
def State.segWaits (s : State) (n : Nat) (hw : Bool) (ws : List Nat) : State :=
  let w := s.wing n hw
  let c := segWait ws
  if !c.1 then s.setWing n hw { w with waitReg := true, waitDone := true }
  else if w.waitReg then s
  else (s.setWing n hw { w with waitReg := true }).waitGe c.2.1 c.2.2 0xFFFFFFFF (.wing n hw)

/-- The segment needs an allocation that is not resolved yet (R214). A RECOMPUTE segment needs one when its entry was not
stored in the forward pass and no earlier RECOMPUTE segment has it rebuilt. -/
def State.needsAlloc (s : State) (ws : List Nat) : Bool :=
  segAlloc ws &&
  (match s.cocoonEntry (segMb ws) (segEntry ws) with
    | none => true
    | some c => segKind ws != 1 && !c.wasStored && !c.backward)

/-- A RECOMPUTE segment of an entry that was stored is skipped (R216). -/
def State.skips (s : State) (ws : List Nat) : Bool :=
  segKind ws == 3 &&
  (match s.cocoonEntry (segMb ws) (segEntry ws) with
    | some c => c.wasStored
    | none => false)

/-- All conditions before the allocation hold; the state with the wait registered. -/
def State.readyForAlloc (s : State) (n : Nat) (hw : Bool) (ws : List Nat) : State × Bool :=
  if s.admitted ws then
    let t := s.segWaits n hw ws
    (t, (t.wing n hw).waitDone)
  else (s, false)

/-! ### Feeding (R204, R211) -/

def State.wingQueue (s : State) (n : Nat) (hw : Bool) : List (List Nat) := sget [] s.sched.queues (2 * n + bit hw)
def State.setWingQueue (s : State) (n : Nat) (hw : Bool) (q : List (List Nat)) : State :=
  { s with sched := { s.sched with queues := sput s.sched.queues (2 * n + bit hw) q } }

/-- Copy tile descriptors of the running segment into its wing queue, to 64 of them. -/
def State.feedTiles (n : Nat) (hw : Bool) : Nat → State → State
  | 0, s => s
  | k + 1, s =>
    match (s.wing n hw).run with
    | none => s
    | some r =>
      let q := s.wingQueue n hw
      match r.tiles[r.tilesFed]? with
      | none => s
      | some d =>
        if r.skip || decide (64 ≤ q.length) then s
        else feedTiles n hw k ((s.setWingQueue n hw (q ++ [d])).setWing n hw
          { s.wing n hw with run := some { r with tilesFed := r.tilesFed + 1 } })

/-- Push 64-byte entries into a stream queue, stalling on FULL; the state, and how many have been pushed after the first `k`. -/
def State.feedItems (n : Nat) (hw : Bool) (queue : Nat) : List (List Byte) → State → Nat → State × Nat
  | [], s, k => (s, k)
  | b :: bs, s, k =>
    if !s.mayPush (.scheduler n) queue then (s, k)
    else match s.hwPush (.scheduler n) queue { data := b, feed := if hw then 2 else 1 } with
      | some t => feedItems n hw queue bs t (k + 1)
      | none => (s.waitFull (.scheduler n) queue, k)

/-- Feed what the running segment of a wing can feed now. -/
def State.feed (s : State) (n : Nat) (hw : Bool) : State :=
  let s := State.feedTiles n hw 64 s
  match (s.wing n hw).run with
  | none => s
  | some r =>
    if r.skip then s
    else
      let p := s.phys n
      let a := State.feedItems n hw (s.rdAt F.VEC_CTRL_launch_queue p) (r.launches.drop r.launchesFed) s r.launchesFed
      let b := State.feedItems n hw (a.1.rdAt F.ROW_CTRL_cmd_queue p) (r.rows.drop r.rowsFed) a.1 r.rowsFed
      b.1.setWing n hw { b.1.wing n hw with run := some { r with launchesFed := a.2, rowsFed := b.2 } }

def State.feedBoth (s : State) (n : Nat) : State := (s.feed n true).feed n false

/-- Every running segment feeds what its queues take now. -/
def State.feedAll (s : State) : State := s.sched.wings.foldl (fun t p => t.feed (p.1 / 2) (p.1 % 2 == 1)) s

/-- Start a segment (R211): its private counters are set to zero and its work is fed. -/
def State.startSeg (s : State) (n : Nat) (hw : Bool) (x : SegWork) : State :=
  let ws := x.words
  let mb := segMb ws
  let skip := s.skips ws
  let s := if skip then s
    else (List.range (segPriv ws).2).foldl (fun t k => t.syncSet ((segPriv ws).1 + k) 0) s
  let s := if segKind ws ≠ 1 ∧ (s.pass? mb true).isNone then s.setPass mb true { start := s.tick } else s
  let s := if (segRead ws).1 then s.mapEntry mb (segRead ws).2 (fun c => { c with readStarted := true }) else s
  let run : RunSeg := { words := ws, tiles := x.tiles, launches := x.launches, rows := x.rows, epilogue := x.epilogue, skip := skip }
  (s.setWing n hw { s.wing n hw with run := some run }).feed n hw

/-- SEGMENT_START (R211, R224). -/
def execSegmentStart (core : Nat) (hw : Bool) (s : State) : Host.Outcome State Fault Refusal :=
  match s.headSeg core hw with
  | none => .next s
  | some x =>
    if x.code ≠ 0 then .next (s.segInvalid core hw x.code (segMb x.words))
    else
      let r := s.readyForAlloc core hw x.words
      if r.2 && !r.1.needsAlloc x.words then .next (r.1.startSeg core hw x) else .next r.1

/-- Make the allocation request of the head segment (R214, R215): it is served, left waiting behind an earlier request, or
waits itself. -/
def State.request (s : State) (n : Nat) (hw : Bool) (ws : List Nat) : State :=
  let m := segMb ws
  let e := segEntry ws
  if s.sched.waiting.any (fun q => q.mb == m && q.entry == e) then s
  else match s.entrySize m e with
    | none => s.segInvalid n hw 0x0B m
    | some units =>
      let back := segKind ws != 1
      let q : CocoonReq := { core := n, hw := hw, mb := m, entry := e, units := units,
                             keep := bitAt (s.entryWord m e 0) 39 && !back, backward := back, since := s.tick }
      let behind := if back then bwWaiting s else fwWaiting s
      let r := if behind then (s, false) else s.serve q
      if r.2 then r.1.noteStalled
      else
        let t := r.1
        (({ t with sched := { t.sched with waiting := t.sched.waiting ++ [q] } }).addSat F.SCH_COCOON_EVENTS_stalls 1).noteStalled

/-- COCOON_ALLOC_REQUEST (R214, R215): the head segment's other start conditions hold and it needs an allocation. -/
def execCocoonAllocRequest (core : Nat) (hw : Bool) (s : State) : Host.Outcome State Fault Refusal :=
  match s.headSeg core hw with
  | none => .next s
  | some x =>
    if x.code ≠ 0 then .next (s.segInvalid core hw x.code (segMb x.words))
    else
      let r := s.readyForAlloc core hw x.words
      if r.2 && r.1.needsAlloc x.words then .next (r.1.request core hw x.words) else .next r.1

/-- COCOON_ALLOC_GRANT (R215): the oldest waiting backward request is tried first, then the oldest forward one. -/
def execCocoonAllocGrant (s : State) : Host.Outcome State Fault Refusal :=
  let again (t : State) (b : Bool) : State × Bool := match t.sched.waiting.find? (fun q => q.backward == b) with
    | some q =>
      let r := t.serve q
      (if r.2 then ({ r.1 with sched := { r.1.sched with waiting := r.1.sched.waiting.erase q } }).noteStalled else r.1, r.2)
    | none => (t, false)
  let bw := again s true
  .next (if bw.2 then bw.1 else (again bw.1 false).1)

/-- COCOON_STALL_TIMEOUT (R215): a request has waited for the stall limit. -/
def execCocoonStallTimeout (core : Nat) (hw : Bool) (s : State) : Host.Outcome State Fault Refusal :=
  match s.sched.waiting.find? (fun q => q.core == core && q.hw == hw) with
  | none => .next s
  | some q =>
    if s.alive && s.past (q.since + msTicks (s.rd F.SCH_COCOON_CTRL_stall_limit_ms)) then
      .next ((s.raise .COCOON_EXHAUSTED).failStep 9 true)
    else .next s

/-! ### Epilogues and completion (R209, R211) -/

/-- Every descriptor, launch and row command of a running segment has completed. -/
def RunSeg.workDone (r : RunSeg) : Bool :=
  r.skip || (decide ((segTiles r.words).1 ≤ r.tilesDone) && decide ((segLaunches r.words).1 ≤ r.launchesDone) &&
    decide ((segRows r.words).1 ≤ r.rowsDone))

def State.setRun (s : State) (n : Nat) (hw : Bool) (r : RunSeg) : State := s.setWing n hw { s.wing n hw with run := some r }

/-- Push the items of an epilogue's QUEUE_PUSH as far as they go. -/
def State.epiPush (s : State) (n : Nat) (hw : Bool) (r : RunSeg) (ws : List Nat) : State :=
  let w1 := wd ws 1
  let q := fld w1 12 0
  let k := fld w1 29 19
  let a := fld (wd ws 2) 47 0
  if k = 0 ∨ 1024 < k ∨ !coreQueue q ∨ !s.mayPush (.epilogue n (bit hw)) q ∨
      !(s.mayReadHbm .engine a (64 * k) || inTiles a (64 * k) || inCaches a (64 * k)) then s.epilogueFails n hw
  else
    let p := State.pushAll (.epilogue n (bit hw)) q s (s.pushItems a k r.epiMoved (bitAt w1 30)) 0
    let moved := r.epiMoved + p.2
    if moved = k then p.1.setRun n hw { r with epi := r.epi + 1, epiBusy := false, epiMoved := 0, epiStarted := true }
    else p.1.setRun n hw { r with epiBusy := decide (0 < moved), epiMoved := moved, epiStarted := true }

/-- Perform entry `r.epi` of an epilogue (R209). -/
def State.epiEntry (s : State) (n : Nat) (hw : Bool) (r : RunSeg) : State :=
  let ws := r.epilogue.getD r.epi []
  let op := cmdOp ws
  let r := { r with epiStarted := true }
  let next := { r with epi := r.epi + 1 }
  if r.skip && op != 2 then s.setRun n hw next
  else if op = 1 then s.epiPush n hw r ws
  else if op = 2 then
    let t := addTarget ws
    if t.2.1 ≠ 0 ∧ (t.2.1 = 3 ∨ !s.nodeOk t.2.1 t.2.2) then s.epilogueFails n hw
    else (s.setRun n hw { r with epiBusy := true }).counterOp (.epilogue n hw) (s.nodeModule t.2.1 t.2.2) t.1 (wd ws 2)
  else if op = 6 then
    let a := fld (wd ws 2) 47 0
    if !s.inHeap a 64 then s.epilogueFails n hw
    else
      let d := s.loadWords a 8
      if s.xferBad false d then s.epilogueFails n hw
      else (s.setRun n hw { r with epiBusy := true }).issueXfer { id := 0, core := n, owner := .epilogue n hw, words := d }
  else s.epilogueFails n hw

/-- EPILOGUE_ENTRY (R209): the next entry, once the work has completed and the entry before it has. -/
def execEpilogueEntry (core : Nat) (hw : Bool) (s : State) : Host.Outcome State Fault Refusal :=
  match (s.wing core hw).run with
  | none => .next s
  | some r =>
    if s.alive && s.coreWorks core && r.workDone && decide (r.epi < (segEpi r.words).1) && (!r.epiBusy || decide (0 < r.epiMoved)) then
      .next (s.epiEntry core hw r)
    else .next s

/-- A remote ADD of an epilogue is acknowledged: its entry has completed (R209). -/
def WingSt.settle (s : State) (w : WingSt) : WingSt := match w.run with
  | some r =>
    if r.epiTag ≠ 0 ∧ !s.tagPending r.epiTag then
      let r' : RunSeg := { r with epi := r.epi + 1, epiBusy := false, epiTag := 0 }
      { w with run := some r' }
    else w
  | none => w

def State.settleEpiTags (s : State) : State :=
  let ws := smap (fun _ w => WingSt.settle s w) s.sched.wings
  { s with sched := { s.sched with wings := ws } }

/-- One reader of an entry has completed: at none left its units are freed (R211, R216). -/
def State.readerDone (s : State) (m e : Nat) : State :=
  match s.cocoonEntry m e with
  | none => s
  | some c =>
    if c.readersLeft ≤ 1 then
      (s.freeEntry m e).mapEntry m e (fun x => { x with readersLeft := 0, stored := false, units := 0 })
    else s.mapEntry m e (fun x => { x with readersLeft := x.readersLeft - 1 })

/-- A segment completes (R211): counts of writers and readers, ends of passes, the end of the micro-batch work. -/
def State.completeSeg (s : State) (n : Nat) (hw : Bool) (r : RunSeg) : State :=
  let ws := r.words
  let mb := segMb ws
  let w := s.wing n hw
  let s := (s.setWing n hw { idx := w.idx + 1 }).readHead n hw
  let p := s.phys n
  let s := if hw then s.addAt F.SCH_SEGS_hw_done p 1 else s.addAt F.SCH_SEGS_fw_done p 1
  let s := if segAlloc ws && segKind ws == 1 then s.mapEntry mb (segEntry ws) (fun c => { c with writersLeft := c.writersLeft - 1 }) else s
  let s := if (segRead ws).1 && segKind ws != 1 then s.readerDone mb (segRead ws).2 else s
  let s := if segKind ws = 1 then s.endForward mb else if s.noneLeft mb true then s.endPass mb true else s
  s.toChecking

/-- SEGMENT_COMPLETE (R211). -/
def execSegmentComplete (core : Nat) (hw : Bool) (s : State) : Host.Outcome State Fault Refusal :=
  match (s.wing core hw).run with
  | none => .next s
  | some r =>
    if s.alive && s.working && r.canary.isNone && r.workDone && decide ((segEpi r.words).1 ≤ r.epi) then .next (s.completeSeg core hw r) else .next s

/-! ### Suspect cores (R13, R14, R217) -/

/-- Work of the running segments of a suspect core is abandoned, but for a segment whose epilogue has started. -/
def State.abandonWing (s : State) (n : Nat) (hw : Bool) : State :=
  let w := s.wing n hw
  let s := s.setWingQueue n hw []
  match w.run with
  | some r => if r.epiStarted then s else s.setWing n hw { w with run := none, abandoned := true }
  | none => s

/-- What a core that has become suspect loses at once (R217): its queued work, threads, tiles. -/
def State.fenceCore (s : State) (n : Nat) : State :=
  let p := s.phys n
  let s := (s.abandonWing n false).abandonWing n true
  let v := VecSt.ended (s.vecAt p)
  let s := s.setVec p v
  { s with arr := sput s.arr p {}, row := sput s.row p {}, sched := { s.sched with fenced := s.sched.fenced ++ [n] } }

/-- Registers by which software configures a core, and the counts of an attempt, go with the logical core (log entry 18). -/
def coreConfig : List Field :=
  [F.ARR_CTRL_retry_limit, F.SCH_RERUNS_reruns, F.ROW_CTRL_cmd_queue, F.ROW_CTRL_ctx_count, F.ROW_CTRL_ctx_base_slot, F.VEC_CTRL_launch_queue,
   F.SCH_CTRL_fw_share, F.SCH_TILES_fw_tiles, F.SCH_TILES_hw_tiles, F.SCH_SEGS_fw_done, F.SCH_SEGS_hw_done]
def State.copyConfig (s : State) (p q : Nat) : State := coreConfig.foldl (fun t f => t.wrAt f q (t.rdAt f p)) s

/-- A suspect core has no healthy spare left (R14): CORE_SPARES_EXHAUSTED, a discard and HELD. No stand-in serves it. -/
def State.noSpare (s : State) (n : Nat) : State :=
  let sc := { s.sched with standin := sdel s.sched.standin n, fenced := s.sched.fenced.filter (fun m => m != n) }
  (({ s with sched := sc }).raise .CORE_SPARES_EXHAUSTED n).failStep 1 true

/-- Transfers of abandoned work of a core are still in progress. -/
def State.abandonedXfers (s : State) (n : Nat) : Bool :=
  s.xfers.any (fun x => x.core == n && (match x.owner with
    | .thread _ _ => true
    | .epilogue _ hw => match (s.wing n hw).run with
      | some r => !r.epiStarted
      | none => true
    | .ring _ _ => false))

/-- STANDIN_TAKEOVER: once the abandoned transfers have ended, the lowest healthy free spare stands in for the suspect core
and the abandoned segments start again (R217). -/
def execStandinTakeover (core : Nat) (s : State) : Host.Outcome State Fault Refusal :=
  if s.alive && s.sched.fenced.contains core && s.suspect core && !s.abandonedXfers core then
    match s.takeSpare (quadOf core) with
    | none => .next (if s.working then s.noSpare core else s)
    | some (q, s) =>
      let p := s.phys core
      let reruns := bit (s.wing core false).abandoned + bit (s.wing core true).abandoned
      let again (t : State) (hw : Bool) : State :=
        if (t.wing core hw).abandoned then (t.setWing core hw { t.wing core hw with abandoned := false }).readHead core hw else t
      let s := ((s.loseStores q true).copyResidents core p q).copyConfig p q
      let sc := { s.sched with standin := sput s.sched.standin core q, fenced := s.sched.fenced.filter (fun n => n != core) }
      let s := { s with sched := sc }
      let s := ((List.range 24).map (fun k => 24 * core + k)).foldl (fun t k => if (sget? t.queues k).isSome then t.resetQueue k else t) s
      .next (again (again (s.addSatAt F.SCH_RERUNS_reruns q reruns) false) true)
  else .next s

end Sys2Proof.Machine
end

