-- ==== Sys2Proof/Machine/RowCtx.lean ====
section
/-! DEFINITION. Machine/RowCtx.lean: the contexts of the row engine (R105 to R107): their fields, the cache, the checks of R124,
positions and masks (R116 to R118), and blocks of the tile store in the layout of R77. -/

namespace Sys2Proof.Machine

/-! ### Blocks of the tile store (R77) -/

def slotAddr (n slot : Nat) : Nat := tileBase n + slot * 1024
def entryAddr32 (n e : Nat) : Nat := tileBase n + 0x3E0000 + 32 * e

/-- Element codes of a block, row by row; `half` picks the block of a 4-bit slot. -/
def State.readBlock (s : State) (n slot : Nat) (f : Fmt) (half : Nat) : List (List Nat) :=
  ((rowsOfSlots f ((List.range (groupSlots f)).map (fun b => s.loadN (slotAddr n (slot + b)) 1024))).drop (32 * half)).take 32

/-- The 32 scale bytes of a scale entry. -/
def State.readScales (s : State) (n e : Nat) : List Nat := (s.loadN (entryAddr32 n e) 32).map BitVec.toNat

/-- A block, with its scale entry where the format has one, holds poison. -/
def State.blockPoison (s : State) (n slot : Nat) (f : Fmt) (entry : Nat) : Bool :=
  (List.range (groupSlots f)).any (fun b => s.poisonAt (slotAddr n (slot + b))) || (f.isMx && s.poisonAt (entryAddr32 n entry))

/-- Replace a nibble-packed run: `cs` codes from the start of the bytes `old`. -/
def packOver (cs : List Nat) (old : List Byte) : List Byte :=
  let cs := if cs.length % 2 = 1 then cs ++ [((old.getD (cs.length / 2) 0).toNat) / 16] else cs
  packBytes 4 cs

/-- Write the codes of the valid rows and columns of a block (R77, R89): a whole slot at once where it is written whole. -/
def State.writeBlock (s : State) (n slot : Nat) (f : Fmt) (half : Nat) (rows : List (List Nat)) (poison : Bool) : State :=
  if f.bits = 4 then
    rows.zipIdx.foldl (fun t p =>
      let a := slotAddr n slot + 32 * p.2 + 16 * half
      t.storeN a (packOver p.1 (t.loadN a 16)) poison) s
  else
    let byte (b c : Nat) : Byte := BitVec.ofNat 8 ((if f.bits = 6 then c % 64 else c) / 256 ^ b)
    (List.range (groupSlots f)).foldl (fun t b =>
      if rows.length = 32 && rows.all (fun r => r.length == 32) then
        t.storeN (slotAddr n (slot + b)) (rows.flatMap (fun r => r.map (byte b))) poison
      else rows.zipIdx.foldl (fun t p => t.storeN (slotAddr n (slot + b) + 32 * p.2) (p.1.map (byte b)) poison) t) s

/-- Valid rows or columns of the last block: 0 stands for 32. -/
def lastOf (v : Nat) : Nat := if v = 0 then 32 else v
/-- Valid rows or columns of block `k` of `n`. -/
def validIn (k n last : Nat) : Nat := if k + 1 = n then lastOf last else 32

/-! ### Contexts -/

def rcOp (c : List Nat) : Nat := fld (wd c 0) 63 60
def rcRms (c : List Nat) : Bool := bitAt (wd c 0) 59
def rcMask (c : List Nat) : Nat := fld (wd c 0) 58 56
def rcSkip (c : List Nat) : Bool := bitAt (wd c 0) 55
def rcRound (c : List Nat) : Nat := fld (wd c 0) 54 53
def rcOvf (c : List Nat) : Nat := fld (wd c 0) 52 51
def rcDual (c : List Nat) : Bool := bitAt (wd c 0) 50
def rcAxis (c : List Nat) : Nat := fld (wd c 0) 49 49
def rcOut (c : List Nat) : Option Fmt := Fmt.ofCode (fld (wd c 0) 48 44)
def rcIn (c : List Nat) : Option Fmt := Fmt.ofCode (fld (wd c 0) 43 39)
def rcAux (c : List Nat) : Option Fmt := Fmt.ofCode (fld (wd c 0) 38 34)
def rcM (c : List Nat) : Nat := fld (wd c 1) 63 52
def rcN (c : List Nat) : Nat := fld (wd c 1) 51 40
def rcMLast (c : List Nat) : Nat := fld (wd c 1) 39 35
def rcNLast (c : List Nat) : Nat := fld (wd c 1) 34 30
def rcQ (c : List Nat) : Nat := fld (wd c 2) 63 42
def rcK (c : List Nat) : Nat := fld (wd c 2) 41 20
def rcWindow (c : List Nat) : Nat := fld (wd c 2) 19 0
def rcTable (c : List Nat) : Nat := fld (wd c 2) 19 8
def rcGain (c : List Nat) : Nat := fld (wd c 2) 63 52
def rcAcc (c : List Nat) : Nat := fld (wd c 2) 51 40
def rcScale (c : List Nat) : Nat := fld (wd c 3) 63 32
def rcScale2 (c : List Nat) : Nat := fld (wd c 3) 31 0
def rcStat (c : List Nat) : Nat := fld (wd c 6) 15 4

/-- Operand k (word 4 X, word 5 Y, word 6 D): the slot and the scale entry of block (m, n). -/
def rcSlot (c : List Nat) (k m n : Nat) : Nat := fld (wd c k) 63 52 + m * fld (wd c k) 51 40 + n * fld (wd c k) 39 28
def rcEntry (c : List Nat) (k m n : Nat) : Nat := fld (wd c k) 27 16 + m * fld (wd c k) 51 40 + n * fld (wd c k) 39 28
def rcRecord (c : List Nat) (m : Nat) : Nat := rcStat c + m

/-- Valid rows of row block m, valid columns of column block n, and the width W of R63. -/
def rcRows (c : List Nat) (m : Nat) : Nat := validIn m (rcM c) (rcMLast c)
def rcCols (c : List Nat) (n : Nat) : Nat := validIn n (rcN c) (rcNLast c)
def rcWidth (c : List Nat) : Nat := 32 * (rcN c - 1) + lastOf (rcNLast c)
def rcAttn (c : List Nat) : Bool := decide (1 ≤ rcOp c) && decide (rcOp c ≤ 5)
def rcTileFed (c : List Nat) : Bool := rcOp c == 1 || rcOp c == 2 || rcOp c == 4

/-! ### The cache (R105) -/

def State.rowAt (s : State) (p : Nat) : RowSt := sget {} s.row p
def State.setRow (s : State) (p : Nat) (r : RowSt) : State := { s with row := sput s.row p r }

/-- Address of context `i` of core `n`; none where the index or the entry is out of range. -/
def State.ctxAddr (s : State) (n i : Nat) : Option Nat :=
  let p := s.phys n
  let off := s.rdAt F.ROW_CTRL_ctx_base_slot p * 1024 + 64 * i
  if i < s.rdAt F.ROW_CTRL_ctx_count p ∧ off + 64 ≤ 0x3E0000 then some (tileBase n + off) else none

/-- The words of a context: cached, or as the tile store holds them now. -/
def State.ctxWords (s : State) (n i : Nat) : Option (List Nat) :=
  (s.ctxAddr n i).map (fun a => match (s.rowAt (s.phys n)).cache.find? (fun (e : Nat × List Nat) => e.1 == i) with
    | some e => e.2
    | none => s.loadWords a 8)

/-- Cache a context at its first tile or command; of 17 the oldest goes (R105). -/
def State.cacheCtx (s : State) (n i : Nat) (ws : List Nat) : State :=
  let p := s.phys n
  let r := s.rowAt p
  if r.cache.any (fun (e : Nat × List Nat) => e.1 == i) then s
  else
    let kept := if 16 ≤ r.cache.length then r.cache.drop 1 else r.cache
    let r : RowSt := { r with cache := kept ++ [(i, ws)] }
    s.setRow p r

/-! ### Masks (R117, R118) -/

/-- Element (i, j) of block (m, n) is allowed. -/
def State.allowed (s : State) (core : Nat) (c : List Nat) (m n i j : Nat) : Bool :=
  let q := rcQ c + 32 * m + i
  let k := rcK c + 32 * n + j
  match rcMask c with
  | 1 => decide (k ≤ q)
  | 2 => decide (k ≤ q) && decide (q - k < rcWindow c)
  | 3 =>
    let b := m * rcN c + n
    bitAt (s.peek (slotAddr core (rcTable c) + b / 8)).toNat (b % 8)
  | _ => true

/-- No valid element of the block is allowed. -/
def State.blockEmpty (s : State) (core : Nat) (c : List Nat) (m n : Nat) : Bool :=
  (List.range (rcRows c m)).all (fun i => (List.range (rcCols c n)).all (fun j => !s.allowed core c m n i j))

def recordHeader (s : State) (core : Nat) (c : List Nat) (m : Nat) : Nat := s.load64 (slotAddr core (rcRecord c m))

/-- The array asks at a tile start whether the tile is EMPTY (R118). -/
def State.tileEmpty (s : State) (core i m n : Nat) : Bool :=
  match s.ctxWords core i with
  | none => false
  | some c =>
    rcSkip c &&
    (match rcOp c with
      | 1 | 4 => s.blockEmpty core c m n
      | 2 => bitAt (recordHeader s core c m) 61
      | _ => false)

/-! ### Checks (R124) -/

/-- An operand of a context leaves its window, or one of its multi-slot blocks is misaligned (R77, R124). -/
def operandBad (c : List Nat) (k : Nat) (f : Fmt) : Bool :=
  let g := groupSlots f
  let m := rcM c - 1
  let n := rcN c - 1
  decide (3968 < rcSlot c k m n + g) || (f.isMx && decide (4096 ≤ rcEntry c k m n)) ||
  fld (wd c k) 63 52 % g != 0 || (decide (1 < rcM c) && fld (wd c k) 51 40 % g != 0) ||
  (decide (1 < rcN c) && fld (wd c k) 39 28 % g != 0)

/-- A format that the row engine reads or writes: floating and block formats, no integer and no UE5M3. -/
def rowFmt (f : Option Fmt) : Bool := match f with
  | some g => OpClass.allowsOut .block g
  | none => false

/-- Operands of a context: word, format, and whether it is written. -/
def rcOperands (c : List Nat) : List (Nat × Option Fmt × Bool) :=
  match rcOp c with
  | 1 => [(6, rcOut c, true)]
  | 2 => [(6, some .fp32, true)]
  | 3 => [(5, some .fp32, false), (6, rcOut c, true)]
  | 4 => [(5, rcAux c, true), (6, rcOut c, true)] ++ (if rcDual c then [(4, rcOut c, true)] else [])
  | 5 => [(4, rcIn c, false), (5, rcAux c, false)]
  | 6 => [(4, rcIn c, false), (6, rcOut c, true)]
  | _ => [(4, rcIn c, false), (5, rcAux c, false), (6, rcOut c, true)]

/-- Bytes of the gain (and bias) vectors, and of the accumulators, of a norm context. -/
def rcVecBytes (c : List Nat) : Nat := 128 * rcN c * (if rcRms c then 1 else 2)

/-- An operand's blocks meet a resident range. -/
def State.operandResident (s : State) (core : Nat) (c : List Nat) (k : Nat) (f : Fmt) : Bool :=
  (List.range (rcM c)).any (fun m => (List.range (rcN c)).any (fun n =>
    s.slotResident core (rcSlot c k m n) (groupSlots f) || (f.isMx && s.entryResident core (rcEntry c k m n) 1)))

/-- The context marks an operand that its operation does not use (R107). -/
def unusedBad (c : List Nat) : Bool :=
  let x := fld (wd c 4) 63 16 != 0
  let y := fld (wd c 5) 63 16 != 0
  let d := fld (wd c 6) 63 16 != 0
  match rcOp c with
  | 1 | 2 => x || y
  | 3 => x
  | 5 => d
  | 6 => y
  | _ => false

/-- The lowest code of R124 that a context itself meets, 0 for none. -/
def State.ctxCode (s : State) (core : Nat) (c : List Nat) : Nat :=
  let ops := rcOperands c
  lowestCode [
    (rcOp c == 0 || decide (7 < rcOp c), 1),
    (ops.any (fun o => !rowFmt o.2.1), 2),
    (decide (3 < rcMask c) || decide (1 < rcRound c) || rcOvf c == 3 || (rcMask c == 2 && rcWindow c == 0 && rcAttn c), 3),
    ((rcOp c == 1 || rcOp c == 4) && decide (16 < rcM c * rcN c), 5),
    (ops.any (fun o => match o.2.1 with
      | some f => operandBad c o.1 f
      | none => false) || decide (3968 < rcStat c + rcM c) ||
      (decide (6 ≤ rcOp c) && decide (0x3E0000 < rcGain c * 1024 + rcVecBytes c)) ||
      (rcOp c == 7 && decide (0x3E0000 < rcAcc c * 1024 + rcVecBytes c)) ||
      (rcMask c == 3 && rcAttn c && decide (0x3E0000 < rcTable c * 1024 + (rcM c * rcN c + 7) / 8)), 6),
    (rcAttn c && (decide (4194303 < rcQ c + 32 * (rcM c - 1) + lastOf (rcMLast c) - 1) ||
      decide (4194303 < rcK c + 32 * (rcN c - 1) + lastOf (rcNLast c) - 1)), 8),
    (unusedBad c || (rcDual c && rcOp c != 4), 9),
    (s.stepOpen && !(s.residents core).isEmpty &&
      (ops.any (fun o => o.2.2 && (match o.2.1 with
        | some f => s.operandResident core c o.1 f
        | none => false)) || s.slotResident core (rcStat c) (rcM c) ||
        (rcOp c == 7 && s.tileResident core (rcAcc c * 1024) (rcVecBytes c))), 0x0A)]

/-- A rejection (R124): ROW_REJECT, the row engine stops, and the step is discarded and held. -/
def State.rowReject (s : State) (core reason source ctx : Nat) : State :=
  let p := s.phys core
  let r : RowSt := { s.rowAt p with stopped := true }
  let s := ((((s.setRow p r).wrAt F.ROW_REJECT_valid p 1).wrAt F.ROW_REJECT_reason p reason).wrAt F.ROW_REJECT_source p source).wrAt
    F.ROW_REJECT_ctx p ctx
  (s.raiseRec .ROW_DESC_INVALID core Rec.rowReject p).failStep 1 true

/-- ROW_FLAGS gathers NV, OF and UF (R123). -/
def State.rowFlags (s : State) (p : Nat) (f : Flags) : State :=
  let set (t : State) (r : Field) (b : Bool) : State := if b then t.wrAt r p 1 else t
  set (set (set s F.ROW_FLAGS_nv f.nv) F.ROW_FLAGS_of f.of) F.ROW_FLAGS_uf f.uf

/-- The location of an element (R73). -/
def tileLoc (m n i j : Nat) : Nat := m % 2 ^ 16 * 2 ^ 32 + n % 2 ^ 16 * 2 ^ 16 + (32 * i + j) % 1024

/-- Tags of a NaN event of the array (engine 0) or of the row engine (1), from word 7 of its descriptor (R73). -/
def State.tileTag (s : State) (engine core loc : Nat) (w7 : Nat) : NanTag :=
  { engine := engine, core := core, location := loc, tensor := fld w7 63 40, mb := fld w7 39 28, branch := fld w7 27 24,
    cmd := s.job.cmdSeq }

/-! ### Converting a block and writing it -/

/-- A block of values converted: rows of codes, scale bytes along the non-block axis, flags (R54 to R61, R83). -/
structure OutBlock where
  codes : List (List Nat)
  scales : List Nat
  flags : Flags
deriving DecidableEq, Repr

/-- Transpose rows of equal length `k`. -/
def transposeN {α : Type} (d : α) (k : Nat) (rows : List (List α)) : List (List α) :=
  (List.range k).map (fun j => rows.map (fun r => r.getD j d))

/-- Convert the valid values of a block (rows × cols). `rnd i j` gives the rounding of element (i, j); `axis` 0 forms MX blocks
along the rows, 1 along the columns. -/
def convertBlock (f : Fmt) (axis ovf : Nat) (under : Under) (rnd : Nat → Nat → Rnd) (vals : List (List FVal)) : OutBlock :=
  let cols := (vals.headD []).length
  if f.isMx then
    let lines := if axis = 0 then vals else transposeN FVal.zero cols vals
    let bs := lines.zipIdx.map (fun p =>
      mxBlock f (fun k => if axis = 0 then rnd p.2 k else rnd k p.2) (saturates ovf f) p.1)
    let codes := bs.map (fun b => b.2.1)
    { codes := if axis = 0 then codes else transposeN 0 vals.length codes, scales := bs.map (fun b => b.1),
      flags := bs.foldl (fun a b => a.join b.2.2) {} }
  else
    let rs := vals.zipIdx.map (fun p => p.1.zipIdx.map (fun q => convertScalar f (rnd p.2 q.2) ovf under q.1))
    { codes := rs.map (fun r => r.map Prod.fst), scales := [],
      flags := rs.foldl (fun a r => r.foldl (fun a x => a.join x.2) a) {} }

/-- Places (i, j) of a converted block that hold a NaN (R71). -/
def OutBlock.nans (b : OutBlock) (f : Fmt) (axis : Nat) : List (Nat × Nat) :=
  b.codes.zipIdx.flatMap (fun p => p.1.zipIdx.filterMap (fun q =>
    let sc := if f.isMx then b.scales.getD (if axis = 0 then p.2 else q.2) 0x7F else 0x7F
    if (f.value q.1 sc).isNan then some (p.2, q.2) else none))

/-- Write a converted block with its scale entry, and make its NaN events at the places that `live` admits. `tag loc` are the
tags at a location. -/
def State.writeOut (s : State) (core slot entry half : Nat) (f : Fmt) (axis : Nat) (b : OutBlock) (m n : Nat) (poison : Bool)
    (tag : Nat → NanTag) (live : Nat → Nat → Bool := fun _ _ => true) : State :=
  let s := s.writeBlock core slot f half b.codes poison
  let s := if f.isMx then s.storeN (entryAddr32 core entry) (b.scales.map (BitVec.ofNat 8)) poison else s
  let ns := (b.nans f axis).filter (fun p => live p.1 p.2)
  match ns with
  | [] => s
  | p :: _ => s.nanEvents (tag (tileLoc m n p.1 p.2)) ns.length

/-- The rounding of an output of the array or of the row engine (R54, R63). -/
def State.outRnd (s : State) (core mode id width m n i j : Nat) : Rnd :=
  if mode = 1 then .stochastic (rbits (useKey (s.roundKey core) 0) id ((32 * m + i) * width + 32 * n + j)) else .nearest

/-- A tile descriptor, or a row command, of a segment has completed (R211). -/
def State.segTileDone (s : State) (n : Nat) (hw : Bool) : State :=
  let w := s.wing n hw
  match w.run with
  | some r => s.setWing n hw { w with run := some { r with tilesDone := r.tilesDone + 1 } }
  | none => s

def State.segRowDone (s : State) (n feed : Nat) : State :=
  if feed = 0 then s
  else
    let hw := feed == 2
    let w := s.wing n hw
    match w.run with
    | some r => s.setWing n hw { w with run := some { r with rowsDone := r.rowsDone + 1 } }
    | none => s

end Sys2Proof.Machine
end

