-- ==== Sys2Proof/Machine/Array.lean ====
section
/-! DEFINITION. Machine/Array.lean: the tensor array (03_tensor_array): descriptors and their checks (R84 to R86), the operand
blocks and scales (R77, R81, R85), accumulation (R48 to R53, R87, R88), the arbiter (R213), checks and retries (R94 to R100) and
writeback (R89 to R93). -/

namespace Sys2Proof.Machine

/-! ### Descriptor fields (R84) -/

def tdAcc (d : List Nat) : Nat := fld (wd d 0) 59 58
def tdHold (d : List Nat) : Bool := bitAt (wd d 0) 57
def tdPolicy (d : List Nat) : Nat := fld (wd d 0) 56 55
def tdRound (d : List Nat) : Nat := fld (wd d 0) 54 53
def tdOvf (d : List Nat) : Nat := fld (wd d 0) 52 51
def tdDual (d : List Nat) : Bool := bitAt (wd d 0) 50
def tdAxis (d : List Nat) : Nat := fld (wd d 0) 49 49
def tdDest (d : List Nat) : Nat := fld (wd d 0) 48 47
def tdOutCode (d : List Nat) : Nat := fld (wd d 0) 46 42
def tdOut (d : List Nat) : Fmt := (Fmt.ofCode (tdOutCode d)).getD .fp32
def tdFmt (d : List Nat) (b : Bool) : Option Fmt := Fmt.ofCode (if b then fld (wd d 0) 36 32 else fld (wd d 0) 41 37)
def tdC (d : List Nat) : Option Fmt := Fmt.ofCode (fld (wd d 0) 31 27)
def tdTrans (d : List Nat) (b : Bool) : Bool := if b then bitAt (wd d 0) 25 else bitAt (wd d 0) 26
def tdMode (d : List Nat) (b : Bool) : Nat := if b then fld (wd d 0) 22 21 else fld (wd d 0) 24 23
def tdDone (d : List Nat) : Bool := bitAt (wd d 0) 20
def tdM (d : List Nat) : Nat := fld (wd d 1) 63 52
def tdN (d : List Nat) : Nat := fld (wd d 1) 51 40
def tdK (d : List Nat) : Nat := fld (wd d 1) 39 24
def tdMLast (d : List Nat) : Nat := fld (wd d 1) 23 19
def tdNLast (d : List Nat) : Nat := fld (wd d 1) 18 14
def tdQueue (d : List Nat) : Nat := fld (wd d 5) 63 51
def tdRowCtx (d : List Nat) : Nat := fld (wd d 5) 63 52
def tdTensor (d : List Nat) : Nat := fld (wd d 7) 63 40
def tdCounter (d : List Nat) : Nat := fld (wd d 7) 23 7
def tdRows (d : List Nat) (m : Nat) : Nat := validIn m (tdM d) (tdMLast d)
def tdCols (d : List Nat) (n : Nat) : Nat := validIn n (tdN d) (tdNLast d)
def tdWidth (d : List Nat) : Nat := 32 * (tdN d - 1) + lastOf (tdNLast d)

/-! ### Blocks (R85) -/

/-- An operand as the tiles read it, or as the prepass reads it. -/
structure Opd where
  fmt : Fmt
  trans : Bool
  /-- Each element takes the scale at its place along the reduction axis (CROSS, and the source of REQUANT). -/
  cross : Bool
  slot : Nat
  outer : Nat
  kst : Nat
  entry : Nat
deriving DecidableEq, Repr

/-- Operand A or B where its words place it. -/
def tdSource (d : List Nat) (b : Bool) : Opd :=
  let w := wd d (if b then 3 else 2)
  { fmt := (tdFmt d b).getD .fp32, trans := tdTrans d b, cross := tdMode d b == 1 || tdMode d b == 2, slot := fld w 63 52,
    outer := fld w 51 40, kst := fld w 39 28, entry := fld w 27 16 }

/-- The scratch copy of a REQUANT operand (R82). -/
def tdScratch (d : List Nat) (b : Bool) : Opd :=
  let w := wd d 6
  { fmt := (tdFmt d b).getD .fp32, trans := false, cross := false, slot := if b then fld w 39 28 else fld w 63 52, outer := tdK d,
    kst := 1, entry := if b then fld w 27 16 else fld w 51 40 }

def tdOpd (d : List Nat) (b : Bool) : Opd := if tdMode d b = 2 then tdScratch d b else tdSource d b

/-- `block_slot` and `block_scale` of R85, and the half of a 4-bit slot. -/
def Opd.slotOf (x : Opd) (o k : Nat) : Nat :=
  if x.fmt.bits ≠ 4 then x.slot + o * x.outer + k * x.kst
  else if !x.trans then x.slot + o * x.outer + k / 2 * x.kst
  else x.slot + o / 2 * x.outer + k * x.kst
def Opd.half (x : Opd) (o k : Nat) : Nat := if x.fmt.bits ≠ 4 then 0 else if x.trans then o % 2 else k % 2
def Opd.entryOf (x : Opd) (o k : Nat) : Nat :=
  if x.fmt.bits ≠ 4 then x.entry + o * x.outer + k * x.kst else x.entry + 2 * (x.slotOf o k - x.slot) + x.half o k

/-- Block (m, n) of C (word 4), of the destination (5) or of the second copy (6): slot, half, scale entry. -/
def outBlockAt (d : List Nat) (w : Nat) (f : Fmt) (m n : Nat) : Nat × Nat × Nat :=
  let x := wd d w
  let ms := fld x 51 40
  let ns := fld x 39 28
  if f.bits = 4 then
    (fld x 63 52 + m * ms + n / 2 * ns, n % 2, fld x 27 16 + 2 * (m * ms + n / 2 * ns) + n % 2)
  else (fld x 63 52 + m * ms + n * ns, 0, fld x 27 16 + m * ms + n * ns)

/-! ### Rates (R74, R101) -/

def tdFloating (d : List Nat) : Bool := (tdFmt d false).bind Fmt.opClass == some .floating
def tdInteger (d : List Nat) : Bool := (tdFmt d false).bind Fmt.opClass == some .integer
def fourBit (f : Option Fmt) : Bool := match f with
  | some g => g.bits == 4
  | none => false
def tdNatural (d : List Nat) (b : Bool) : Bool := !tdTrans d b || tdMode d b == 2

/-- Products of a DPU per clock: 8, 32 or 64, half of it with a CROSS operand. -/
def tdProducts (d : List Nat) : Nat :=
  let base := if tdFloating d then 8
    else if fourBit (tdFmt d false) && fourBit (tdFmt d true) && tdNatural d false && tdNatural d true then 64 else 32
  if tdMode d false = 1 ∨ tdMode d true = 1 then base / 2 else base

/-- Nominal clocks of a descriptor with one output tile. -/
def tdClocks (d : List Nat) : Nat := (32 * tdK d + tdProducts d - 1) / tdProducts d

/-- Clocks that conflicts add to tile (m, n): one for each K block whose slots lie in the same half, or whose scale entries do (R79). -/
def tdConflicts (d : List Nat) (m n : Nat) : Nat :=
  let a := tdOpd d false
  let b := tdOpd d true
  if tdFloating d then 0 else ((List.range (tdK d)).filter (fun k =>
    a.slotOf m k % 2 == b.slotOf n k % 2 ||
      (a.fmt.isMx && b.fmt.isMx && decide (a.entryOf m k < 2048) == decide (b.entryOf n k < 2048)))).length

def tileClocks (ds : List (List Nat)) (m n : Nat) : Nat := (ds.map tdClocks).sum + (ds.map (fun d => tdConflicts d m n)).sum

/-- Count the clocks of the descriptors of a tile that run now, their conflict clocks, and, where the tile is written back, the clocks its
writeback takes beyond those of its whole chain (R76, R102). -/
def State.countClocks (s : State) (p : Nat) (now chain : List (List Nat)) (m n : Nat) : State :=
  let w := if tdHold (chain.getLastD []) then 0 else if tdDual (chain.getLastD []) then 8 else 4
  ((s.addAt F.ARR_BUSY_count p (now.map tdClocks).sum).addAt F.ARR_CONFLICT_count p (now.map (fun d => tdConflicts d m n)).sum).addAt
    F.ARR_WB_STALL_count p (w - tileClocks chain m n)

/-! ### Checks (R86) -/

/-- The largest slots and entries of an operand lie at the last or second-last index of each axis. -/
def ends (n : Nat) : List Nat := [n - 1, n - 2]

def opdBad (x : Opd) (outer k : Nat) : Bool :=
  let g := groupSlots x.fmt
  x.slot % g != 0 || x.outer % g != 0 || x.kst % g != 0 ||
  (ends outer).any (fun o => (ends k).any (fun i =>
    decide (3968 < x.slotOf o i + g) || (x.fmt.isMx && decide (4096 ≤ x.entryOf o i))))

def outBad (d : List Nat) (w : Nat) (f : Fmt) : Bool :=
  let g := groupSlots f
  let x := wd d w
  fld x 63 52 % g != 0 || fld x 51 40 % g != 0 || fld x 39 28 % g != 0 ||
  (ends (tdM d)).any (fun m => (ends (tdN d)).any (fun n =>
    let b := outBlockAt d w f m n
    decide (3968 < b.1 + g) || (w != 4 && f.isMx && decide (4096 ≤ b.2.2))))

/-- Slots, halves and entries that the descriptor writes: destinations and REQUANT scratch. -/
def State.descResident (s : State) (core : Nat) (d : List Nat) : Bool :=
  let f := tdOut d
  let hit (slot entry : Nat) (f : Fmt) : Bool :=
    s.slotResident core slot (groupSlots f) || (f.isMx && s.entryResident core entry 1)
  let outs := if tdDest d ≠ 0 then [] else if tdDual d then [5, 6] else [5]
  outs.any (fun w => (List.range (tdM d)).any (fun m => (List.range (tdN d)).any (fun n =>
    let b := outBlockAt d w f m n
    hit b.1 b.2.2 f))) ||
  [false, true].any (fun b => tdMode d b == 2 && (List.range (if b then tdN d else tdM d)).any (fun o => (List.range (tdK d)).any
    (fun k => let x := tdScratch d b; hit (x.slotOf o k) (x.entryOf o k) x.fmt)))

def isSomeMx (f : Option Fmt) : Bool := match f with
  | some g => g.isMx
  | none => false

/-- The lowest code of R86 that a descriptor meets, 0 for none. `held` is the held tile of its wing with its nominal clocks (log entry 67). -/
def State.descCode (s : State) (core : Nat) (d : List Nat) (held : Option (Tile × Nat)) : Nat :=
  let ca := (tdFmt d false).bind Fmt.opClass
  let cb := (tdFmt d true).bind Fmt.opClass
  let out := Fmt.ofCode (tdOutCode d)
  let outOk : Bool := match out with
    | some f => OpClass.allowsOut .block f || f == .int32
    | none => false
  let cOk : Bool := tdC d == some .fp32 || tdC d == some .bf16 || tdC d == some .int32
  let classOk : Bool := match ca, out with
    | some c, some f => OpClass.allowsOut c f
    | _, _ => false
  let cont := tdAcc d == 2
  let chain := match held with
    | some h => (h.1.chain.length, h.2)
    | none => (0, 0)
  let rq := tdMode d false == 2 || tdMode d true == 2
  lowestCode [
    (fld (wd d 0) 63 60 != 1, 1),
    (ca.isNone || cb.isNone || !outOk || (tdAcc d == 1 && !cOk), 2),
    (ca != cb || !classOk || (tdAcc d == 1 && (tdC d == some .int32) != tdInteger d), 3),
    (tdAcc d == 3 || decide (1 < tdRound d) || tdOvf d == 3 || tdMode d false == 3 || tdMode d true == 3 || tdPolicy d == 3 ||
      tdDest d == 3, 4),
    (tdM d == 0 || tdN d == 0 || tdK d == 0, 5),
    (opdBad (tdSource d false) (tdM d) (tdK d) || opdBad (tdSource d true) (tdN d) (tdK d) ||
      (!tdDual d && tdMode d false == 2 && opdBad (tdScratch d false) (tdM d) (tdK d)) ||
      (!tdDual d && tdMode d true == 2 && opdBad (tdScratch d true) (tdN d) (tdK d)) ||
      (tdAcc d == 1 && outBad d 4 ((tdC d).getD .fp32)) || (tdDest d == 0 && outBad d 5 (tdOut d)) ||
      (tdDest d == 0 && tdDual d && outBad d 6 (tdOut d)), 6),
    ((tdMode d false != 0 && !isSomeMx (tdFmt d false)) || (tdMode d true != 0 && !isSomeMx (tdFmt d true)), 7),
    (cont != held.isSome || ((tdHold d || cont) && (tdM d != 1 || tdN d != 1 || decide (16 < chain.1 + 1) ||
      decide (262144 < chain.2 + tdClocks d))), 8),
    (tdDual d && (tdDest d != 0 || rq || !isSomeMx out), 9),
    (tdPolicy d == 2 && s.rd F.SEC_BOOT_mode != 0, 0x0A),
    ((fourBit (tdFmt d false) && (if tdTrans d false then tdM d else tdK d) % 2 == 1) ||
      (fourBit (tdFmt d true) && (if tdTrans d true then tdN d else tdK d) % 2 == 1), 0x0B),
    (tdDest d == 2 && !(s.mayPush (.core core) (tdQueue d)), 0x0C),
    (s.stepOpen && !(s.residents core).isEmpty && s.descResident core d, 0x0D)]

/-! ### Operand values -/

/-- The values of block (o, k) of an operand, by place along the outer axis and along the reduction axis, each with the scale
byte that belongs to it (R41, R43, R81). -/
def State.opBlock (s : State) (core : Nat) (x : Opd) (o k : Nat) : List (List (FVal × Nat)) :=
  let rows := s.readBlock core (x.slotOf o k) x.fmt (x.half o k)
  let sc := if x.fmt.isMx then s.readScales core (x.entryOf o k) else []
  (List.range 32).map (fun i => (List.range 32).map (fun j =>
    let c := if x.trans then (rows.getD j []).getD i 0 else (rows.getD i []).getD j 0
    let e := if x.fmt.isMx then sc.getD (if x.cross then j else i) 0x7F else 0x7F
    (x.fmt.value c e, e)))

/-- Row i of the operand's blocks along the whole reduction axis. -/
def State.opLine (s : State) (core : Nat) (x : Opd) (o k : Nat) : List (List (FVal × Nat)) :=
  (List.range k).foldl (fun acc kb =>
    let b := s.opBlock core x o kb
    acc.zipIdx.map (fun p => p.1 ++ b.getD p.2 [])) (List.replicate 32 [])

def State.opPoison (s : State) (core : Nat) (x : Opd) (o k : Nat) : Bool :=
  (List.range k).any (fun kb => s.blockPoison core (x.slotOf o kb) x.fmt (x.entryOf o kb))

/-! ### Accumulation -/

/-- The flags of a combined scale (R52, R53). -/
def scaleFlags (block : Bool) (ea eb : Nat) : Flags :=
  if !block || ea == 0xFF || eb == 0xFF then {}
  else { scaleOvf := decide (381 < ea + eb), scaleUf := decide (ea + eb < 128) }

/-- The integer accumulator after one clock (R51). -/
def intStep (acc : FVal) (ps : List FVal) : FVal × Flags :=
  let int (v : FVal) : Int := match v with
    | .fin g m e => (if g then -1 else 1) * (m * 2 ^ e.toNat : Nat)
    | _ => 0
  let sum := ps.foldl (fun a v => a + int v) (int acc)
  if 2 ^ 31 - 1 < sum then (.ofInt (2 ^ 31 - 1), .SAT) else if sum < -(2 ^ 31) then (.ofInt (-(2 ^ 31)), .SAT) else (.ofInt sum, {})

/-- One DPU: the accumulator over all clocks of a descriptor, from its value and flags before. -/
def dpu (integer block : Bool) (w : Nat) (a b : List (FVal × Nat)) (start : FVal × Flags) : FVal × Flags :=
  let ps := (a.zip b).map (fun p => (mulVal p.1.1 p.2.1, scaleFlags block p.1.2 p.2.2))
  (chunksOf w ps.length ps).foldl (fun (acc : FVal × Flags) g =>
    let r := if integer then intStep acc.1 (g.map (fun p => p.1.1)) else waStep acc.1 (g.map (fun p => p.1.1))
    (r.1, g.foldl (fun f p => (f.join p.1.2).join p.2) (acc.2.join r.2))) start

/-- Where a tile's accumulators start (R50, R87). -/
def State.accStart (s : State) (core : Nat) (d : List Nat) (m n : Nat) : List (FVal × Flags) :=
  if tdAcc d = 1 then
    let f := (tdC d).getD .fp32
    (s.readBlock core (outBlockAt d 4 f m n).1 f 0).flatMap (fun r => r.map (fun c =>
      let v := f.value c 0x7F
      (v, if v.isSnan then Flags.NV else {})))
  else List.replicate 1024 (.zero, {})

/-- The infinite products of one dot product: whether +∞ and whether −∞ is among them (R68). -/
def infProducts (a b : List (FVal × Nat)) : Bool × Bool :=
  let ps := (a.zip b).map (fun p => (mulVal p.1.1 p.2.1).1)
  (ps.contains (.inf false), ps.contains (.inf true))

def hasInf (ls : List (List (FVal × Nat))) : Bool := ls.any (fun l => l.any (fun p => p.1 == .inf false || p.1 == .inf true))

/-- The accumulators of tile (m, n) of a descriptor after all its K blocks, and the infinite products met, from those before. -/
def State.accumulate (s : State) (core : Nat) (d : List Nat) (m n : Nat) (start : List (FVal × Flags) × List (Bool × Bool)) :
    List (FVal × Flags) × List (Bool × Bool) :=
  let a := s.opLine core (tdOpd d false) m (tdK d)
  let b := s.opLine core (tdOpd d true) n (tdK d)
  let block := !tdFloating d && !tdInteger d
  let infs := if tdInteger d || !(hasInf a || hasInf b) then start.2
    else (List.range 1024).map (fun k =>
      let x := infProducts (a.getD (k / 32) []) (b.getD (k % 32) [])
      let y := start.2.getD k (false, false)
      (x.1 || y.1, x.2 || y.2))
  (start.1.zipIdx.map (fun p =>
    dpu (tdInteger d) block (tdProducts d) (a.getD (p.2 / 32) []) (b.getD (p.2 % 32) []) p.1), infs)

/-- Some operand block or C block of the tile is poisoned (R93). -/
def State.tilePoisoned (s : State) (core : Nat) (d : List Nat) (m n : Nat) : Bool :=
  s.opPoison core (tdOpd d false) m (tdK d) || s.opPoison core (tdOpd d true) n (tdK d) ||
  (tdAcc d == 1 && s.blockPoison core (outBlockAt d 4 ((tdC d).getD .fp32) m n).1 ((tdC d).getD .fp32) 0)

/-- A tile, or a chain, computed afresh from its first descriptor. -/
def State.compute (s : State) (core : Nat) (t : Tile) : Tile :=
  let d0 := t.chain.headD []
  let r := t.chain.foldl (fun a d => s.accumulate core d t.m t.n a) (s.accStart core d0 t.m t.n, [])
  { t with acc := r.1, infs := r.2, poison := t.chain.any (fun d => s.tilePoisoned core d t.m t.n) }

/-! ### State of the array -/

def State.arrAt (s : State) (p : Nat) : ArrSt := sget {} s.arr p
def State.setArr (s : State) (p : Nat) (a : ArrSt) : State := { s with arr := sput s.arr p a }
def ArrSt.wing (a : ArrSt) (hw : Bool) : Option WingDesc := if hw then a.hw else a.fw
def ArrSt.setWing (a : ArrSt) (hw : Bool) (w : Option WingDesc) : ArrSt := if hw then { a with hw := w } else { a with fw := w }
def ArrSt.held (a : ArrSt) (hw : Bool) : Option (Tile × Nat) := if hw then a.heldHw else a.heldFw
def ArrSt.setHeld (a : ArrSt) (hw : Bool) (h : Option (Tile × Nat)) : ArrSt := if hw then { a with heldHw := h } else { a with heldFw := h }
def ArrSt.flagsOf (a : ArrSt) (hw : Bool) : Flags := if hw then a.flagsHw else a.flagsFw
def ArrSt.setFlags (a : ArrSt) (hw : Bool) (f : Flags) : ArrSt := if hw then { a with flagsHw := f } else { a with flagsFw := f }

/-- Accumulator sets in use (R75, R76, R88): a tile takes the lowest free one (log entry 67). -/
def ArrSt.setsUsed (a : ArrSt) : List Nat :=
  ((a.tiles.filter (fun t => !t.empty)).map (fun t => t.set)) ++ (a.heldFw.map (fun h => h.1.set)).toList ++
    (a.heldHw.map (fun h => h.1.set)).toList
def ArrSt.sets (a : ArrSt) : Nat := a.setsUsed.length
def ArrSt.freeSet (a : ArrSt) : Nat := ((List.range 4).find? (fun k => !a.setsUsed.contains k)).getD 0

/-- The last descriptor of a tile, whose format and destination it has (R88). -/
def Tile.words (t : Tile) : List Nat := t.chain.getLastD []

/-! ### Suspect cores (R13, R14, R97) -/

/-- Logical core `n` becomes suspect: it is fenced off; a stand-in that fails is retired until the next boot. With no healthy
spare the step is discarded and the job held. -/
def State.markSuspect (s : State) (n : Nat) : State :=
  let p := s.phys n
  let s := s.fenceCore n
  let s := match sget? s.sched.standin n with
    | some q => { s with test := { s.test with retired := s.test.retired ++ [q] } }
    | none => s
  let s := (s.wrAt F.MOD_CORE_MAP_suspect n 1).raiseRec .CORE_SUSPECT n Rec.arrChkLast p
  if (s.healthy (quadOf n)).isEmpty then s.noSpare n else s

/-! ### Checks and retries -/

/-- Record a mismatch (R97): the tile and the checkers that found it ([0] row, [1] column, [2] corner, [3] duplicated column). -/
def State.recordMismatch (s : State) (p : Nat) (t : Tile) (checkers : Nat) : State :=
  let w7 := wd (t.words) 7
  let s := (((s.wrAt F.ARR_CHK_STATUS_last_row p (fld checkers 0 0)).wrAt F.ARR_CHK_STATUS_last_col p (fld checkers 1 1)).wrAt
    F.ARR_CHK_STATUS_last_corner p (fld checkers 2 2)).wrAt F.ARR_CHK_STATUS_last_acc p (fld checkers 3 3)
  (((((s.wrAt F.ARR_CHK_LAST_valid p 1).wrAt F.ARR_CHK_LAST_tensor_id p (fld w7 63 40)).wrAt F.ARR_CHK_LAST_m_block p t.m).wrAt
    F.ARR_CHK_LAST_n_block p t.n).wrAt F.ARR_CHK_LAST_micro_batch p (fld w7 39 28)).wrAt F.ARR_CHK_LAST_wing p (bit t.hw)

/-- The tile that started last, unless it waits for its restart. -/
def ArrSt.current (a : ArrSt) : Option Tile :=
  (match a.last with
    | 1 => (a.tiles.filter (fun (t : Tile) => !t.empty)).getLast?
    | 2 => a.heldFw.map Prod.fst
    | 3 => a.heldHw.map Prod.fst
    | _ => none).filter (fun (t : Tile) => !t.void)

/-- The running tile whose checks are evaluated: a poisoned tile has none (R93). -/
def ArrSt.running (a : ArrSt) : Option Tile := a.current.filter (fun t => !t.poison && !t.empty)

/-- Change the tile that started last. -/
def ArrSt.mapRunning (a : ArrSt) (f : Tile → Tile) : ArrSt :=
  match a.last with
  | 1 => { a with tiles := a.tiles.map (fun t => if a.current = some t then f t else t) }
  | 2 => { a with heldFw := a.heldFw.map (fun h => (f h.1, h.2)) }
  | 3 => { a with heldHw := a.heldHw.map (fun h => (f h.1, h.2)) }
  | _ => a

/-- A mismatch in the running tile (R97). -/
def State.mismatch (s : State) (n checkers : Nat) : State :=
  let p := s.phys n
  let a := s.arrAt p
  match a.running with
  | none => s
  | some t =>
    let s := s.recordMismatch p t checkers
    let policy := tdPolicy t.words
    if policy = 2 then s
    else if policy = 0 && !t.retry then
      let b := { a.mapRunning (fun t => { t with void := true, acc := [] }) with retry := true }
      let s := s.setArr p b
      let r := sset 0 s.job.retries n (sget 0 s.job.retries n + 1)
      ({ s with job := { s.job with retries := r } }).raiseRec .TILE_RETRY n Rec.arrChkLast p
    else s.markSuspect n

/-- CHECK_MISMATCH: the checkers of logical core `core` find a mismatch in the running tile. -/
def execCheckMismatch (core checkers : Nat) (s : State) : Host.Outcome State Fault Refusal :=
  .next (if s.alive && s.coreWorks core && decide (0 < checkers % 16) then s.mismatch core (checkers % 16) else s)

/-- INJECT_MISMATCH (R100). -/
def execInjectMismatch (core : Nat) (s : State) : Host.Outcome State Fault Refusal :=
  .next (if s.alive && decide (core < 256) then s.wrAt F.ARR_CTRL_inject_mismatch (s.phys core) 1 else s)

/-- A tile start (R96, R100): the duplicated column moves on, and an injected mismatch is reported, save of a poisoned tile, whose checks
are not evaluated (R93, log entry 67). -/
def State.tileStart (s : State) (n : Nat) : State :=
  let p := s.phys n
  let s := s.addAt F.ARR_CHK_STATUS_dup_column p 1
  if s.isSetAt F.ARR_CTRL_inject_mismatch p then (s.wrAt F.ARR_CTRL_inject_mismatch p 0).mismatch n 1 else s

/-! ### Starting tiles -/

/-- A rejected descriptor (R86): its wing stops, and the step is discarded and held. -/
def State.rejectTile (s : State) (n : Nat) (hw : Bool) (code : Nat) : State :=
  let p := s.phys n
  let a := s.arrAt p
  let b : ArrSt := if hw then { a with stopHw := true } else { a with stopFw := true }
  let s := (((s.setArr p b).wrAt F.ARR_REJECT_valid p 1).wrAt F.ARR_REJECT_wing p (bit hw)).wrAt F.ARR_REJECT_reason p code
  (s.raiseRec .TILE_DESC_INVALID n Rec.arrReject p).failStep 1 true

/-- Put a tile whose descriptor has run into its place: held, or on its way out of the array. An EMPTY one is skipped (R118). -/
def State.placeTile (s : State) (p : Nat) (a : ArrSt) (t : Tile) (clocks : Nat) : State :=
  if tdHold t.words then
    s.setArr p { a.setHeld t.hw (some (t, clocks)) with last := if t.empty then a.last else if t.hw then 3 else 2 }
  else
    let s := s.setArr p { a.setHeld t.hw none with tiles := a.tiles ++ [t], last := if t.empty then a.last else 1 }
    if t.empty then s.addAt F.ROW_SKIP_count p 1 else s

/-- A descriptor with one more continues a held tile. A chain whose first descriptor's block is EMPTY computes nothing, unless its last
descriptor sends it elsewhere than to an EMPTY block (R88, R118, log entry 67). -/
def State.continueTile (s : State) (n : Nat) (t : Tile) (d : List Nat) : Tile :=
  let u : Tile := { t with chain := t.chain ++ [d] }
  if !t.empty then
    let r := s.accumulate n d 0 0 (t.acc, t.infs)
    { u with acc := r.1, infs := r.2, poison := t.poison || s.tilePoisoned n d 0 0 }
  else if tdHold d || (tdDest d == 1 && s.tileEmpty n (tdRowCtx d) 0 0) then u
  else s.compute n { u with empty := false }

/-- Start the next tile of the wing's descriptor, or its part of a chain. -/
def State.startTile (s : State) (n : Nat) (hw : Bool) (w : WingDesc) : State :=
  let p := s.phys n
  let a := s.arrAt p
  let d := w.words
  let m := w.nextTile / tdN d
  let nn := w.nextTile % tdN d
  let s := if hw then s.addAt F.SCH_TILES_hw_tiles p 1 else s.addAt F.SCH_TILES_fw_tiles p 1
  let next := if w.nextTile + 1 < tdM d * tdN d then some { w with nextTile := w.nextTile + 1 } else none
  let a := a.setWing hw next
  match a.held hw with
  | some h =>
    let t := s.continueTile n h.1 d
    let u := s.placeTile p a t (h.2 + tdClocks d)
    if t.empty then u
    else if h.1.empty then (u.countClocks p t.chain t.chain m nn).tileStart n
    else u.countClocks p [d] t.chain m nn
  | none =>
    let t : Tile := { hw := hw, chain := [d], m := m, n := nn, acc := [], poison := false, set := a.freeSet }
    if tdDest d = 1 && s.tileEmpty n (tdRowCtx d) m nn then s.placeTile p a { t with empty := true } (tdClocks d)
    else ((s.placeTile p a (s.compute n t) (tdClocks d)).countClocks p [d] [d] m nn).tileStart n

/-- A wing has a descriptor ready (R213). -/
def State.wingReady (s : State) (n : Nat) (hw : Bool) : Bool :=
  let a := s.arrAt (s.phys n)
  let free := decide (a.sets < 4) || (a.held hw).isSome
  -- while a retry runs, only the retried chain goes on (R99)
  free && (!a.retry || (a.held hw).any (fun h => h.1.retry && !h.1.void)) &&
  (match a.wing hw with
    | some w => !w.prepass
    | none => !(s.wingQueue n hw).isEmpty)

/-- Serve a granted wing: its running descriptor, or the next one of its queue, which is checked first. -/
def State.serveWing (s : State) (n : Nat) (hw : Bool) : State :=
  let p := s.phys n
  let a := s.arrAt p
  match a.wing hw with
  | some w => s.startTile n hw w
  | none => match s.wingQueue n hw with
    | [] => s
    | d :: ds =>
      let s := s.setWingQueue n hw ds
      let code := s.descCode n d (a.held hw)
      if code ≠ 0 then s.rejectTile n hw code
      else
        (s.feedBoth n).startTile n hw { words := d }

/-- A REQUANT descriptor at the head of a wing queue leaves it for its prepass, before its first tile takes a grant (R82, R213). -/
def State.startPrepass (s : State) (n : Nat) (hw : Bool) : State :=
  let p := s.phys n
  let a := s.arrAt p
  match s.wingQueue n hw with
  | d :: ds =>
    if (a.wing hw).isNone && (tdMode d false == 2 || tdMode d true == 2) && s.descCode n d (a.held hw) == 0 then
      ((s.setWingQueue n hw ds).setArr p (a.setWing hw (some { words := d, prepass := true }))).feedBoth n
    else s
  | [] => s

/-- Core `n` has an array at work for the attempt. -/
def State.arrayWorks (s : State) (n : Nat) : Bool := s.alive && s.coreWorks n && decide (n < 256) && s.coreServed n

/-- The array takes tiles: it works, and no rejection stops it (R213). -/
def State.arrayRuns (s : State) (n : Nat) : Bool :=
  let a := s.arrAt (s.phys n)
  s.arrayWorks n && !a.stopFw && !a.stopHw

/-- ARBITER_GRANT (R213). -/
def execArbiterGrant (core : Nat) (s : State) : Host.Outcome State Fault Refusal :=
  if s.arrayRuns core then
    let s := (s.startPrepass core false).startPrepass core true
    match s.wingReady core false, s.wingReady core true with
    | true, true =>
      let p := s.phys core
      let k := sget 0 s.sched.arb core
      let t := { s with sched := { s.sched with arb := sset 0 s.sched.arb core ((k + 1) % 16) } }
      .next (t.serveWing core !(decide (k < s.rdAt F.SCH_CTRL_fw_share p)))
    | true, false => .next (s.serveWing core false)
    | false, true => .next (s.serveWing core true)
    | false, false => .next s
  else .next s

/-- RETRY_RESTART (R99): the earlier writebacks have completed; the tile or chain starts again from its first K block. -/
def execRetryRestart (core : Nat) (s : State) : Host.Outcome State Fault Refusal :=
  let p := s.phys core
  let a := s.arrAt p
  let again (t : Tile) : Tile := s.compute core { t with void := false, retry := true }
  if s.alive && s.coreWorks core && a.retry then
    match a.tiles.filter (fun t => !t.empty) with
    | [t] => if t.void then .next (((s.setArr p { a with tiles := a.tiles.map (fun v => if v = t then again t else v), last := 1 }).countClocks p t.chain t.chain t.m t.n).tileStart core) else .next s
    | [] =>
      match a.heldFw, a.heldHw with
      | some h, k =>
        if h.1.void then .next (((s.setArr p { a with heldFw := some (again h.1, h.2), last := 2}).countClocks p h.1.chain
          h.1.chain 0 0).tileStart core)
        else (match k with
          | some h => if h.1.void then
              .next (((s.setArr p { a with heldHw := some (again h.1, h.2), last := 3}).countClocks p h.1.chain h.1.chain 0 0).tileStart core) else .next s
          | none => .next s)
      | none, some h => if h.1.void then
          .next (((s.setArr p { a with heldHw := some (again h.1, h.2), last := 3}).countClocks p h.1.chain h.1.chain 0 0).tileStart core) else .next s
      | none, none => .next s
    | _ => .next s
  else .next s

/-! ### The REQUANT prepass (R82) -/

/-- Rebuild one block of an operand in its scratch copy. -/
def State.requantBlock (s : State) (core : Nat) (d : List Nat) (b : Bool) (o k : Nat) : State :=
  let x := tdSource d b
  let y := tdScratch d b
  let vals := (s.opBlock core x o k).map (fun r => r.map Prod.fst)
  let r := convertBlock x.fmt 0 2 .element (fun _ _ => .nearest) vals
  let poison := s.blockPoison core (x.slotOf o k) x.fmt (x.entryOf o k)
  let s := s.writeOut core (y.slotOf o k) (y.entryOf o k) (y.half o k) x.fmt 0 r o k poison
    (fun loc => s.tileTag 1 core loc (wd d 7))
  s.rowFlags (s.phys core) r.flags

def State.requant (s : State) (core : Nat) (d : List Nat) (b : Bool) : State :=
  if tdMode d b = 2 then
    (List.range (if b then tdN d else tdM d)).foldl (fun t o => (List.range (tdK d)).foldl (fun t k =>
      t.requantBlock core d b o k) t) s
  else s

/-- REQUANT_PREPASS_DONE. -/
def execRequantPrepassDone (core : Nat) (hw : Bool) (s : State) : Host.Outcome State Fault Refusal :=
  let p := s.phys core
  match (s.arrAt p).wing hw with
  | some w =>
    if s.arrayWorks core && w.prepass then
      let t := (s.requant core w.words false).requant core w.words true
      let c := 2 * (bit (tdMode w.words false == 2) * tdM w.words + bit (tdMode w.words true == 2) * tdN w.words) * tdK w.words
      .next (((t.addAt F.ARR_REQUANT_count p c).addAt F.ROW_PREPASS_count p c).setArr p ((t.arrAt p).setWing hw (some { w with prepass := false })))
    else .next s
  | none => .next s

/-! ### Writeback -/

/-- The written values of a tile, by row (R89). -/
def Tile.vals (t : Tile) : List (List FVal) :=
  let d := t.words
  (List.range (tdRows d t.m)).map (fun i => (List.range (tdCols d t.n)).map (fun j => (t.acc.getD (32 * i + j) (.zero, {})).1))

/-- The flags its written elements raised while they accumulated; infinite products of both signs set NV, whatever else the dot
product holds (R68). -/
def Tile.accFlags (t : Tile) : Flags :=
  let d := t.words
  (List.range (tdRows d t.m)).foldl (fun f i => (List.range (tdCols d t.n)).foldl (fun f j =>
    let f := f.join (t.acc.getD (32 * i + j) (.zero, {})).2
    if t.infs.getD (32 * i + j) (false, false) == (true, true) then f.join .NV else f) f) {}

/-- The converted tile, its MX blocks along the given axis (R58, R83). -/
def State.tileOut (s : State) (core : Nat) (t : Tile) (axis : Nat) : OutBlock :=
  let d := t.words
  convertBlock (tdOut d) axis (tdOvf d) .flush (s.outRnd core (tdRound d) (tdTensor d) (tdWidth d) t.m t.n) t.vals

/-- ARR_FLAGS gathers the flags of an attempt (R92). -/
def State.arrFlags (s : State) (p : Nat) (f : Flags) : State :=
  let set (t : State) (r : Field) (b : Bool) : State := if b then t.wrAt r p 1 else t
  set (set (set (set (set (set s F.ARR_FLAGS_nv f.nv) F.ARR_FLAGS_of f.of) F.ARR_FLAGS_uf f.uf) F.ARR_FLAGS_sat f.sat)
    F.ARR_FLAGS_scale_ovf f.scaleOvf) F.ARR_FLAGS_scale_uf f.scaleUf

/-- The items of a tile's packet (R90): scales first for an MX output, then the rows, padding rows as zero items. -/
def tilePacket (f : Fmt) (b : OutBlock) (poison : Bool) : List Item :=
  let per := if f.bits = 32 then 2 else 1
  let rows := (List.range 32).map (fun i => (b.codes.getD i []) ++ List.replicate (32 - (b.codes.getD i []).length) 0)
  let rowItems := rows.flatMap (fun r =>
    let bs := packBytes f.bits r
    (List.range per).map (fun k => padTo 64 ((bs.drop (64 * k)).take 64)))
  let sc := b.scales.map (BitVec.ofNat 8)
  let all := (if f.isMx then [padTo 64 sc] else []) ++ rowItems
  all.zipIdx.map (fun (q : List Byte × Nat) =>
    { data := q.1, start := q.2 == 0, fin := q.2 + 1 == all.length, poison := poison })

/-- The descriptors of a written tile complete (R88, R91), in chain order. -/
def State.descsDone (s : State) (n : Nat) (t : Tile) (f : Flags) : State :=
  let p := s.phys n
  t.chain.foldl (fun s d =>
    let s := if t.hw then (s.addAt F.ARR_DESC_FLAGS_HW_desc_done p 1).wrAt F.ARR_DESC_FLAGS_HW_flags p f.arrBits
      else (s.addAt F.ARR_DESC_FLAGS_FW_desc_done p 1).wrAt F.ARR_DESC_FLAGS_FW_flags p f.arrBits
    let s := if tdDone d then s.syncAdd (tdCounter d) 1 else s
    s.segTileDone n t.hw) s

/-- A retry written back with no mismatch is corrected (R98). -/
def State.correctedRetry (s : State) (n : Nat) : State :=
  let p := s.phys n
  let s := (s.addSatAt F.ARR_CHK_STATUS_retries_attempt p 1).addSatAt F.ARR_CHK_STATUS_retries_total p 1
  let limit := s.rdAt F.ARR_CTRL_retry_limit p
  let a := s.arrAt p
  let s := s.setArr p { a with corrected := a.corrected + 1 }
  if limit ≠ 0 ∧ limit < a.corrected + 1 then s.markSuspect n else s

/-- A tile leaves the array: its set is free, its flags are gathered, and the last tile completes its descriptor. -/
def State.retireTile (s : State) (n : Nat) (t : Tile) (f : Flags) : State :=
  let p := s.phys n
  let a := s.arrAt p
  let f := f.dropNx
  let g := (a.flagsOf t.hw).join f
  let d := t.words
  let lastTile := t.m + 1 == tdM d && t.n + 1 == tdN d
  let tiles := a.tiles.erase t
  let b : ArrSt := { a.setFlags t.hw (if lastTile then {} else g) with
    tiles := tiles, last := if tiles.isEmpty && a.last == 1 then 0 else a.last, retry := a.retry && !t.retry }
  let s := (s.setArr p b).arrFlags p f
  let s := if lastTile then s.descsDone n t g else s
  if t.retry then s.correctedRetry n else s

/-- Write a tile to the tile store (R83, R85, R89, R93). -/
def State.tileToStore (s : State) (n : Nat) (t : Tile) : State × Flags :=
  let d := t.words
  let f := tdOut d
  let tag (loc : Nat) : NanTag := s.tileTag 0 n loc (wd d 7)
  let one (s : State) (w axis : Nat) : State × Flags :=
    let b := s.tileOut n t axis
    let at_ := outBlockAt d w f t.m t.n
    (s.writeOut n at_.1 at_.2.2 at_.2.1 f axis b t.m t.n t.poison tag, b.flags)
  let r := one s 5 (tdAxis d)
  if tdDual d then
    let q := one r.1 6 (1 - tdAxis d)
    (q.1, r.2.join q.2)
  else r

/-- The oldest tile of a wing. -/
def ArrSt.oldest (a : ArrSt) (hw : Bool) : Option Tile := a.tiles.find? (fun t => t.hw == hw)

/-- NaN events of a tile that leaves for the row engine or a stream queue (R71). -/
def State.tileNans (s : State) (n : Nat) (t : Tile) (b : OutBlock) : State :=
  let d := t.words
  let ns := b.nans (tdOut d) (tdAxis d)
  match ns with
  | [] => s
  | q :: _ => s.nanEvents (s.tileTag 0 n (tileLoc t.m t.n q.1 q.2) (wd d 7)) ns.length

/-- TILE_COMPLETE: the writeback of the oldest tile of a wing ends (R76, R90). A tile for the row engine leaves when the row
engine has accepted it; a tile for a stream queue when the queue has accepted its last item. -/
def execTileComplete (core : Nat) (hw : Bool) (s : State) : Host.Outcome State Fault Refusal :=
  let p := s.phys core
  let a := s.arrAt p
  match a.oldest hw with
  | none => .next s
  | some t =>
    if !(s.alive && s.coreWorks core) || t.void then .next s
    else if t.empty then
      (if t.taken then .next (s.retireTile core t {}) else .next s)
    else
      let b := s.tileOut core t (tdAxis t.words)
      match tdDest t.words with
      | 0 =>
        let r := s.tileToStore core t
        .next (r.1.retireTile core t (r.2.join t.accFlags))
      | 1 => if t.taken then .next ((s.tileNans core t b).retireTile core t (b.flags.join t.accFlags)) else .next s
      | _ =>
        let items := tilePacket (tdOut t.words) b t.poison
        if !s.mayPush (.core core) (tdQueue t.words) then .next s
        else
          let r := State.pushAll (.core core) (tdQueue t.words) s (items.drop t.sent) 0
          let u : Tile := { t with sent := t.sent + r.2 }
          let x := r.1.arrAt p
          let s := r.1.setArr p { x with tiles := x.tiles.map (fun v => if v == t then u else v) }
          if u.sent = items.length then .next ((s.tileNans core u b).retireTile core u (b.flags.join u.accFlags))
          else .next s

end Sys2Proof.Machine
end

