-- ==== Sys2Proof/Machine/MemUnit.lean ====
section
/-! DEFINITION. Machine/MemUnit.lean: patrol and idle scrub (R165, R168), error counts
and their trend (R169), the imbalance monitor (R161), refetches and resends (R172, R173) and resident ranges (R166). -/

namespace Sys2Proof.Machine

/-! ### Patrol scrub -/

/-- Granules of HBM. -/
def hbmGranules : Nat := 0xC000000000 / 64

/-- The address of the scrub's granule `n`: all bursts of the 768 interleave granules at each offset, by rising offset
(DEDUCED from MEM_SCRUB_STATUS.position) (log entry 63). -/
def scrubAddr (n : Nat) : Nat := (n / 4 % 768 * 2 ^ 22 + n / 3072) * 256 + n % 4 * 64

/-- An uncorrectable error in an HBM granule (R168 to R170) (log entry 27). -/
def State.uncorrectable (s : State) (a : Nat) : State :=
  let k := s.stackOf a
  let again := sget false s.mem.rewritten (a / 64)
  if s.poisonAt a then s
  else
    let s := ((s.setPoison a true).addAt F.MEM_UE_COUNT_count k 1).raise .MEM_UE k
    let s := if again then (s.raise .MEM_UE_REPEAT k).warn else s
    match place a with
    | .hbm b =>
      if s.job.active && s.regionOf b == s.bank && s.inRegion s.bank b 1 then s.requestCopy (b / 64 * 64) false
      else if s.job.active && s.regionOf b == 2 then s.requestCopy (b / 64 * 64) true
      else s
    | _ => s

/-- The scrub moves to its next granule; a pass ends after the last. -/
def State.scrubOn (s : State) : State :=
  let n := s.mem.scrubAt + 1
  if n < hbmGranules then
    ({ s with mem := { s.mem with scrubAt := n } }).wr F.MEM_SCRUB_STATUS_position (n / 3072 / 4096)
  else
    (({ s with mem := { s.mem with scrubAt := 0, rewritten := [] } }).wr F.MEM_SCRUB_STATUS_position 0).add F.MEM_SCRUB_STATUS_passes 1

/-- A pattern that lies within 3 symbols of another codeword is taken for it: counted as corrected, and the granule holds what no rule
states (R167). -/
def State.miscorrect (s : State) (a : Nat) : State :=
  ({ s.storeRaw a ((List.range 64).map (fun k => Config.memFill s.drawn (a + k))) with drawn := s.drawn + 1 }).addAt
    F.MEM_CE_COUNT_count (s.stackOf a) 1

/-- What the code of granule `a` finds (R167): up to 3 symbol errors are corrected, more are uncorrectable, save a miscorrection; data of
another location is detected. -/
def State.checkCode (s : State) (a : Nat) (c : CodeCheck) : State :=
  if c.moved then s.uncorrectable a
  else if c.symbols = 0 then s
  else if c.symbols ≤ 3 then s.addAt F.MEM_CE_COUNT_count (s.stackOf a) 1
  else if 6 ≤ c.symbols ∧ c.other then s.miscorrect a
  else s.uncorrectable a

/-- PATROL_SCRUB (R167, R168): the scrub reads the next granule and passes on; or a demand read finds what the code finds in its own
granule (R169). -/
def execPatrolScrub (check : CodeCheck) (s : State) : Host.Outcome State Fault Refusal :=
  if !s.alive then .next s
  else match check.demand with
    | some a => .next (if a < 0xC000000000 then s.checkCode (a / 64 * 64) check else s)
    | none =>
      .next (if s.mode != .dormant && s.isSet F.MEM_CTRL_scrub_enable then (s.checkCode (scrubAddr s.mem.scrubAt) check).scrubOn else s)

/-- SRAM_SCRUB (R165): the idle scrub, or a read of an engine, reads a word of physical core `core`'s operand cache or tile store. -/
def execSramScrub (core : Nat) (ocache corrected uncorrectable : Bool) (offset : Nat) (s : State) :
    Host.Outcome State Fault Refusal :=
  if s.alive && decide (core < 272) then
    let s := if corrected then
        (if ocache then s.addSat F.MEM_SRAM_CE_operand_cache 1 else s.addSat F.MEM_SRAM_CE_tile_store 1) else s
    let m := if !uncorrectable then s.mem
      else if ocache then { s.mem with ocPoison := sset false s.mem.ocPoison ((core * 0x80000 + offset % 0x80000) / 64) true }
      else { s.mem with tilePoison := sset false s.mem.tilePoison (tileUnit core (offset % 0x400000)) true }
    .next { s with mem := { m with sramAt := offset } }
  else .next s

/-- Compare one stack with the threshold (R169). -/
def State.ceTrend (s : State) (k : Nat) : State :=
  let n := s.rdAt F.MEM_CE_COUNT_count k
  let was := sget 0 s.mem.ceHour k
  let s := { s with mem := { s.mem with ceHour := sset 0 s.mem.ceHour k n } }
  if s.job.active && decide (s.rd F.MEM_CE_THRESH_per_hour < n - was) && !s.mem.ceRaised.contains k then
    (({ s with mem := { s.mem with ceRaised := s.mem.ceRaised ++ [k] } }).raise .MEM_CE_TREND k).warn
  else s

/-- MEM_CE_HOURLY (R169): at a whole hour of MOD_TICK that has not been compared yet. -/
def execMemCeHourly (s : State) : Host.Outcome State Fault Refusal :=
  if s.alive && decide (s.mem.ceHourNo < s.tick / hourTicks) then
    .next (({ s with mem := { s.mem with ceHourNo := s.tick / hourTicks } }).each (List.range 12) State.ceTrend)
  else .next s

/-- A queue depth in units of 2^-16 as FP32. -/
def depthF32 (d : Nat) : Nat := (toF32 (.fin false d (-16))).1

/-- `mean` of R161: the sum of the 768 depths in channel order, each addition rounded, over 768 (log entry 63). -/
def imbMean (depths : List Nat) : Nat := (fdiv ((depths.take 768).foldl (fun a d => (fadd a (depthF32 d)).1) 0) (f32OfInt 768)).1

/-- The channel is hot in this window: the mean is at least 1 and its depth above factor × mean (R161). -/
def channelHot (factor mean d : Nat) : Bool :=
  !valLt false (f32val mean) (f32val (f32OfInt 1)) && valLt false (f32val (fmul (f32OfInt factor) mean).1) (f32val (depthF32 d))

/-- q[p] ÷ mean as unsigned 8.8 fixed point, truncated and saturating (R175) (log entry 63). -/
def imbRatio (mean d : Nat) : Nat := match f32val (fdiv (depthF32 d) mean).1 with
  | .fin _ m e => min (if 0 ≤ e + 8 then m * 2 ^ (e + 8).toNat else m / 2 ^ (-(e + 8)).toNat) 0xFFFF
  | _ => 0xFFFF

/-- IMBALANCE_WINDOW (R161): the mean queue depths of the 768 pseudo-channels over the window of 100 ms that has ended, in units of 2^-16.
Each window counts once. -/
def execImbalanceWindow (depths : List Nat) (s : State) : Host.Outcome State Fault Refusal :=
  if s.alive && s.job.active && s.isSet F.MEM_IMB_CTRL_enable && decide (s.mem.imbWindow < s.tick / msTicks 100) then
    let mean := imbMean depths
    let f := s.rd F.MEM_IMB_CTRL_factor
    let hot := (depths.take 768).zipIdx.foldl (fun h p =>
      if channelHot f mean p.1 then sset 0 h p.2 (sget 0 s.mem.hot p.2 + 1) else sset 0 h p.2 0) []
    let s := { s with mem := { s.mem with hot := hot, imbWindow := s.tick / msTicks 100 } }
    match hot.find? (fun p => decide (10 * s.rd F.MEM_IMB_CTRL_duration_s ≤ p.2)) with
    | some p =>
      if s.isSet F.MEM_IMB_STATUS_valid then .next s
      else
        let s := { s with mem := { s.mem with imbTick := s.tick } }
        .next ((((s.wr F.MEM_IMB_STATUS_valid 1).wr F.MEM_IMB_STATUS_pc p.1).wr F.MEM_IMB_STATUS_ratio
          (imbRatio mean (depths.getD p.1 0))).raiseRec .MEM_IMBALANCE p.1 Rec.memImbStatus)
    | none => .next s
  else .next s

/-! ### Refetches and resends (R172, R173) -/

/-- A reply to a refetch or a resend (R173): written only if the granule is still poisoned and its bank still holds the
instar; the chrysalis writer takes a copy it asked for (R373). -/
def State.copyReply (s : State) (g instar : Nat) (resend : Bool) (data : List Byte) (poison : Bool) : State :=
  let asked : Bool := match s.chrys.writer with
    | some w => w.asked.contains g && w.instar == instar && !resend
    | none => false
  let s := match s.chrys.writer with
    | some w => if asked then s.writerPatch w g data poison else s
    | none => s
  match s.mem.refetches.find? (fun r => r.granule == g && r.resend == resend && r.instar == instar) with
  | none => s
  | some r =>
    let s := { s with mem := { s.mem with refetches := s.mem.refetches.erase r } }
    let holds := s.heldInstar g resend == instar && (resend || s.inRegion s.bank g 64)
    if !(s.poisonAt g && holds) || data.length ≠ 64 then s
    else if poison then (if resend then s else s.poisonFatal g)
    else
      let s := s.storeN g data
      if resend then s else (s.addSat F.MEM_POISON_COUNT_refetches 1).raise .MEM_REFETCH (s.stackOf g)

/-- REFETCH_REPLY: granule by its local address. -/
def execRefetchReply (granule instar : Nat) (data : List Byte) (poison : Bool) (s : State) : Host.Outcome State Fault Refusal :=
  .next (if s.alive then s.copyReply granule instar (s.regionOf granule == 2) data poison else s)

/-- Answer a partner's request for a granule of its mirror, by its address in this module's banks (R172): from the committed
bank, or from the incoming bank while that is streaming. A committed granule poisoned here too has no clean copy. -/
def State.resendGranule (s : State) (a instar src : Nat) : State :=
  if src = s.partner && s.job.active && s.heldInstar a false == instar && decide (s.regionOf a < 2) then
    if s.regionOf a = s.bank && s.poisonAt a then s.poisonFatal a
    else s.sendFlit (s.envelope src (2 ^ 47 + 2 ^ 45 + a) .readData 1 false (bit (s.poisonAt a)) (s.loadN a 64))
  else s

/-- RESEND_REQUEST (R172). -/
def execResendRequest (granule instar src : Nat) (s : State) : Host.Outcome State Fault Refusal :=
  .next (if s.alive then s.resendGranule granule instar src else s)

/-- CARVE_OUT_POISON_READ (R172): the control complex reads a granule of the carve-out. Where its system cannot contain the poison it says
so through the mailbox, and the module raises MEM_CTRL_FATAL. -/
def execCarveOutPoisonRead (read : CarveRead) (s : State) : Host.Outcome State Fault Refusal :=
  match place read.addr with
  | .carve _ =>
    if s.powered && s.poisonAt read.addr then
      let t := s.consumePoison read.addr
      .next (if read.contained then t else t.raise .MEM_CTRL_FATAL 0xFFFF t.poisonDetail)
    else .next s
  | _ => .next s

/-! ### Resident ranges -/

/-- A write of MEM_TS_RESIDENT[index] (R166): ignored while a step is open, and ignored whole when a valid range would run
past its window. -/
def State.writeResident (s : State) (i v : Nat) : State :=
  let bad := bitAt v 0 && (decide (3968 < fld v 63 52 + fld v 51 40) || decide (4096 < fld v 39 28 + fld v 27 15))
  if s.stepOpen || bad || decide (1024 ≤ i) then s
  else
    ((((s.wrAt F.MEM_TS_RESIDENT_slot_first i (fld v 63 52)).wrAt F.MEM_TS_RESIDENT_slot_count i (fld v 51 40)).wrAt
      F.MEM_TS_RESIDENT_entry_first i (fld v 39 28)).wrAt F.MEM_TS_RESIDENT_entry_count i (fld v 27 15)).wrAt
      F.MEM_TS_RESIDENT_valid i (fld v 0 0)

/-- TS_RESIDENT_WRITE (R166). -/
def execTsResidentWrite (index value : Nat) (s : State) : Host.Outcome State Fault Refusal :=
  .next (if s.alive then s.writeResident index value else s)

end Sys2Proof.Machine
end

