-- ==== Sys2Proof/Machine/Fabric.lean ====
section
/-! DEFINITION. Machine/Fabric.lean: flits that reach this module (R18, R185 to R187, R192, R262, R278, R327): writes, reads and
their data, items, counter additions and acknowledgements. The contexts they carry are the model's own (log entry 7). -/

namespace Sys2Proof.Machine

/-- As `onFlit`, but a flit that must wait is not accepted: the state is `wait`'s and its sender sends it again (R262). -/
def State.onFlitOr (s : State) (f : Flit) (ty : FlitType) (wait : State → Option State) (h : State → State) : State :=
  if !s.arrives f ty then s
  else s.linkCheck f (fun s => match s.receive f with
    | .drop t => t
    | .hold t => { t with fab := { t.fab with held := t.fab.held ++ [f] } }
    | .take t => match wait s with
      | some u => u
      | none => h t)

/-! ### WRITE -/

/-- Bytes of a payload with the marks of their granules. -/
def flitBytes (f : Flit) : List (Byte × Bool) := f.payload.zipIdx.map (fun p => (p.1, bitAt f.poison (p.2 / 64)))

/-- Where a WRITE goes, and what it writes. -/
def writeAddr (f : Flit) : Nat := f.dstAddr % 2 ^ 42
def writeBytes (f : Flit) : List (Byte × Bool) := (flitBytes f).take (wroteBytes f)

/-- A module that serves the rank mirrored here. -/
def State.heldBy (s : State) (m : Nat) : Bool := match s.heldRank with
  | some r => s.moduleOf r == m
  | none => false

/-- A write of the mirror stream or of a build: only the module serving the mirrored rank writes the mirror region (R327) (log entry 7). -/
def State.toMirror (s : State) (f : Flit) : Bool := s.heldBy f.srcModule && s.inRegion 2 (writeAddr f) (wroteBytes f)

/-- A mirror flit with poison is stored poisoned and its granules are asked again; it is not accepted until the clean copies
have come (R172: the mirror acknowledgement waits for the resend). -/
def State.mirrorWait (s : State) (f : Flit) : Option State :=
  let a := writeAddr f
  let gs := (granules a (wroteBytes f)).filter (fun g => bitAt f.poison ((max g a - a) / 64))
  if !s.toMirror f || gs.isEmpty then none
  else if gs.all (fun g => s.mirror.asked.contains g) then (if gs.any s.poisonAt then some s else none)
  else
    let t := s.storeMarked a (writeBytes f)
    let t := { t with mirror := { t.mirror with asked := t.mirror.asked ++ gs } }
    some (gs.foldl (fun t g => (t.consumed 2 g).requestCopy g true) t)

/-- An error completion (R18): READ_DATA of one granule whose context names the write by its number, or the transfer that read. -/
def State.sendError (s : State) (dst ctx : Nat) : State := s.sendFlit (s.envelope dst (2 ^ 46 + ctx) .readData 1 false 0 (granulePad []))
def State.refuseWrite (s : State) (src seq : Nat) : State := s.sendError src seq

/-- A write that is taken (R18, R164): HBM outside the carve-out under the region rules, or a tile store. -/
def State.onWrite (s : State) (f : Flit) : State :=
  let a := writeAddr f
  let n := wroteBytes f
  if s.toMirror f then (if f.poison = 0 then s.storeMarked a (writeBytes f) else s)
  else if s.mayWriteHbm .dma a n || (inTiles a n && !s.hitsResident a n) then s.storeMarked a (writeBytes f)
  else s.refuseWrite f.srcModule f.seq

/-- WRITE. -/
def execWrite (f : Flit) (s : State) : Host.Outcome State Fault Refusal :=
  .next (s.onFlitOr f .write (fun s => s.mirrorWait f) (fun s => s.onWrite f))

/-! ### READ_REQ and READ_DATA -/

/-- What a READ_REQ asks (log entry 7). -/
def reqContext (f : Flit) : Nat := field f.payload 8 8
def reqCount (f : Flit) : Nat := min 256 (field f.payload 16 8)
def reqInstar (f : Flit) : Nat := field f.payload 24 8

/-- A read of poisoned committed or kept data waits for the repair (R172). -/
def State.readWait (s : State) (f : Flit) : Option State :=
  if flitReadKind f ≠ 0 then none
  else ((granules f.dstAddr (reqCount f)).find? (fun g => s.poisonAt g && (match place g with
      | .hbm b => s.regionOf b == s.bank || s.regionOf b == 3
      | _ => false))).map s.consumePoison

/-- Poison bits of bytes, one per 64. -/
def markBits (bs : List (Byte × Bool)) : Nat :=
  (List.range 4).foldl (fun a g => a + (if ((bs.drop (64 * g)).take 64).any Prod.snd then 2 ^ g else 0)) 0

def State.sendData (s : State) (dst ctx : Nat) (bs : List (Byte × Bool)) : State :=
  s.sendFlit (s.envelope dst ctx .readData 1 false (markBits bs) (granulePad (bs.map Prod.fst)))

/-- A read that is taken: data of a transfer, a refetch from the mirror held here (R172), a resend to the mirror of this
module's banks (R172), or a takeover pull (R330). A refused read is answered by an error completion (R18). -/
def State.onReadReq (s : State) (f : Flit) : State :=
  let m := f.srcModule
  match flitReadKind f with
  | 0 =>
    let n := reqCount f
    if s.mayReadHbm .dma f.dstAddr n || inTiles f.dstAddr n then s.sendData m (reqContext f) (s.loadMarked f.dstAddr n)
    else s.sendError m (2 ^ 16 + reqContext f / 2 ^ 36)
  | 1 =>
    if s.heldBy m && s.inRegion 2 f.dstAddr 64 then s.sendData m (2 ^ 47 + reqContext f) (s.loadMarked f.dstAddr 64) else s
  | 2 => s.resendGranule f.dstAddr (reqInstar f) m
  | _ =>
    let n := reqCount f
    if s.heldBy m && s.inRegion 2 f.dstAddr n then s.sendData m (2 ^ 47 + 2 ^ 46 + reqContext f) (s.loadMarked f.dstAddr n) else s

/-- READ_REQ. -/
def execReadReq (f : Flit) (s : State) : Host.Outcome State Fault Refusal :=
  .next (s.onFlitOr f .readReq (fun s => s.readWait f) (fun s => s.onReadReq f))

/-- Mark transfers failed. -/
def State.markFailed (s : State) (p : Xfer → Bool) : State :=
  { s with xfers := s.xfers.map (fun x => if p x then { x with failed := true } else x) }

/-- A transfer that reads under context number `k`. -/
def State.readsUnder (s : State) (k : Nat) (x : Xfer) : Bool := x.id % 2 ^ 10 == k && x.asked && s.srcRemote x.words

/-- Data of a transfer arrive: what was asked for at that place of its run, without the filling of the last granule. -/
def State.xferData (s : State) (ctx : Nat) (bs : List (Byte × Bool)) : State :=
  let place := ctx % 2 ^ 36
  { s with xfers := s.xfers.map (fun x =>
      if s.readsUnder (ctx / 2 ^ 36) x then
        let run := max 1 ((srcRuns x.words).headD (0, 1)).2
        (bs.take (run - place % run)).zipIdx.foldl (fun y p =>
          { y with got := sput y.got (place + p.2) p.1.1, gotPoison := sset false y.gotPoison (place + p.2) p.1.2 }) x
      else x) }

/-- A takeover pull's data arrive: they go to the own banks, where the mirror keeps them (R330). -/
def State.pullData (s : State) (place : Nat) (bs : List (Byte × Bool)) : State :=
  if s.mirror.pulling && s.inRegion (if place < s.bankBytes then 0 else 1) place bs.length then s.storeMarked place bs else s

/-- The instar that a refetch or resend outstanding for a granule named. -/
def State.askedInstar (s : State) (g : Nat) (resend : Bool) : Nat :=
  match s.mem.refetches.find? (fun r => r.granule == g && r.resend == resend) with
  | some r => r.instar
  | none => match s.chrys.writer with
    | some w => w.instar
    | none => s.instar

/-- READ_DATA that is taken. -/
def State.onReadData (s : State) (f : Flit) : State :=
  let a := f.dstAddr
  let bs := flitBytes f
  if a < 2 ^ 46 then s.xferData a bs
  else if a < 2 ^ 47 then
    let k := a - 2 ^ 46
    if 2 ^ 16 ≤ k then s.markFailed (s.readsUnder (k - 2 ^ 16))
    else match (s.txSpace (spaceKey f.srcModule false)).unacked.find? (fun t => t.flit.seq == k) with
    | some t => s.markFailed (fun x => x.id == t.tag)
    | none => s
  else
    let b := a - 2 ^ 47
    if b < 2 ^ 45 then s.copyReply b (s.askedInstar b false) false f.payload (f.poison != 0)
    else if b < 2 ^ 46 then
      let g := s.regionBase 2 + (b - 2 ^ 45)
      s.copyReply g (s.askedInstar g true) true f.payload (f.poison != 0)
    else s.pullData (b - 2 ^ 46) bs

/-- READ_DATA. -/
def execReadData (f : Flit) (s : State) : Host.Outcome State Fault Refusal :=
  .next (s.onFlit f .readData (fun s => s.onReadData f))

/-! ### QUEUE_ITEM and SYNC_ADD -/

/-- The queue, the source queue and the item of a QUEUE_ITEM flit. -/
def itemQueue (f : Flit) : Nat := f.dstAddr % 8192
def itemSource (f : Flit) : Nat := f.dstAddr / 2 ^ 16 % 8192
def itemOf (f : Flit) : Item :=
  { data := f.payload, start := bitAt f.dstAddr 13, fin := bitAt f.dstAddr 14, abort := bitAt f.dstAddr 15, poison := f.poison != 0 }

/-- Items dropped under R185 and R187 (QUE_COUNT.foreign) (log entry 25). -/
def State.foreignItem (s : State) (q : Nat) : State := s.addSatAt F.QUE_COUNT_foreign q 1

/-- The queue is bound to the flit's forwarding queue (R185). -/
def State.itemBound (s : State) (f : Flit) : Bool :=
  let q := itemQueue f
  !coreQueue q && s.queueOn q && s.forwardTo q == f.srcModule && s.rdAt F.QUE_FWD_remote_queue q == itemSource f

/-- An item of the current attempt goes into its queue; of a later one, or before the attempt opens, behind the boundary. -/
def State.onItem (s : State) (f : Flit) (now : Bool) : State :=
  let q := itemQueue f
  if !s.itemBound f then s.foreignItem q
  else if now then s.routerPush q (itemOf f)
  else
    let x := s.queue q
    s.setQueue q { x with held := x.held ++ [{ itemOf f with att := some (s.flitAttempt f) }] }

/-- QUEUE_ITEM (R185 to R187): an item of an earlier attempt is counted and its credit returned. -/
def execQueueItem (f : Flit) (s : State) : Host.Outcome State Fault Refusal :=
  if !s.arrives f .queueItem then .next s
  else .next (s.linkCheck f (fun s =>
    let old := s.alive && f.dstModule == s.self && s.inJob f && !newer32 s.epoch (extend16 32 s.epoch f.epoch) &&
      (s.flitAttempt f).before s.attempt
    match s.receive f with
    | .drop t => if old then (t.foreignItem (itemQueue f)).send (.credits f.srcModule (itemSource f) 1) else t
    | .hold t => t.onItem f false
    | .take t => t.onItem f true))

/-- A remote ADD that is taken (R192): its operand is the first word of the payload. -/
def State.onSyncAdd (s : State) (f : Flit) : State :=
  if counterOk f.dstAddr then s.syncAdd f.dstAddr (field f.payload 0 8) else s

/-- SYNC_ADD_FLIT (R192). -/
def execSyncAddFlit (f : Flit) (s : State) : Host.Outcome State Fault Refusal :=
  .next (s.onFlit f .syncAdd (fun s => s.onSyncAdd f))

/-! ### ACK (R262) -/

/-- An ACK releases the number: it is at or below the cumulative one, or marked in the bitmap above it. -/
def ackCovers (cum map seq : Nat) : Bool :=
  !newer16 seq cum || (let d := (seq + 2 ^ 16 - (cum + 1) % 2 ^ 16) % 2 ^ 16; decide (d < 64) && bitAt map d)

/-- Release what an ACK of a space covers, count mirror bytes (CHK_MIRROR_BYTES), and let what waited go on. -/
def State.onAck (s : State) (f : Flit) : State :=
  let ordered := f.dstAddr % 2 == 1
  let k := spaceKey f.srcModule ordered
  let x := s.txSpace k
  let cum := field f.payload 0 2
  let map := field f.payload 8 8
  let gone := x.unacked.filter (fun t => ackCovers cum map t.flit.seq)
  let s := s.setTx k { x with unacked := x.unacked.filter (fun t => !ackCovers cum map t.flit.seq) }
  let s := s.add F.CHK_MIRROR_BYTES_bytes (((gone.filter (fun t => t.tag == mirrorTag)).map (fun t => wroteBytes t.flit)).sum)
  let s := State.drainTx x.waiting.length s k
  let o := spaceKey f.srcModule true
  let s := if ordered then s else State.drainTx (s.txSpace o).waiting.length s o
  (s.settleRingTags.settleEpiTags).settleFence

/-- An ACK that has passed its link. -/
def State.ackTaken (s : State) (f : Flit) : State :=
  if !s.alive then s
  else if f.dstModule ≠ s.self then (s.add F.FAB_TRANSIT_FLITS_count 1).route { f with hops := f.hops + 1 }
  else
    let s := s.add F.FAB_RX_FLITS_count 1
    if !s.inJob f then s.dropped F.FAB_DROP_foreign_job
    else
      let s := s.hear f.srcModule
      if newer32 s.epoch (extend16 32 s.epoch f.epoch) then s.dropped F.FAB_DROP_old_epoch
      else if s.flitAttempt f == s.attempt then s.onAck f
      else if (s.flitAttempt f).before s.attempt then s.dropped F.FAB_DROP_old_attempt
      else s

/-- ACK: of this job and of the attempt it acknowledges. -/
def execAck (f : Flit) (s : State) : Host.Outcome State Fault Refusal :=
  .next (if s.arrives f .ack then s.linkCheck f (fun s => s.ackTaken f) else s)

end Sys2Proof.Machine
end

