-- ==== Sys2Proof/Machine/VecCtl.lean ====
section
/-! DEFINITION. Machine/VecCtl.lean: memory, queue, counter, control and gang instructions of the vector cluster (R135 to R144, R147, R151,
R152, R154), launches (R138 to R140) and the writes that flush the instruction cache or resume a thread (R156). -/

namespace Sys2Proof.Machine

/-- LD rd ← operand-cache word, with its poison (R147, R153). -/
def execLd (th : ThreadRef) (s : State) : Host.Outcome State Fault Refusal :=
  .next (s.issue .ld th (State.runMem .ld))

/-- ST word ← rd (R147, R142). -/
def execSt (th : ThreadRef) (s : State) : Host.Outcome State Fault Refusal :=
  .next (s.issue .st th State.runStore)

/-- DMA_ISSUE (R143, R144). -/
def execDmaIssue (th : ThreadRef) (s : State) : Host.Outcome State Fault Refusal :=
  .next (s.issue .dmaIssue th State.runDmaIssue)

/-- SQ_PUSH (R151). -/
def execSqPush (th : ThreadRef) (s : State) : Host.Outcome State Fault Refusal :=
  .next (s.issue .sqPush th State.runSqPush)

/-- SQ_POP (R151). -/
def execSqPop (th : ThreadRef) (s : State) : Host.Outcome State Fault Refusal :=
  .next (s.issue .sqPop th State.runSqPop)

/-- SQ_STAT (R151). -/
def execSqStat (th : ThreadRef) (s : State) : Host.Outcome State Fault Refusal :=
  .next (s.issue .sqStat th State.runSqStat)

/-- SYNC_ADD (R151, R191). -/
def execSyncAdd (th : ThreadRef) (s : State) : Host.Outcome State Fault Refusal :=
  .next (s.issue .syncAdd th State.runSyncAdd)

/-- SYNC_ADDR (R151, R192). -/
def execSyncAddr (th : ThreadRef) (s : State) : Host.Outcome State Fault Refusal :=
  .next (s.issue .syncAddr th State.runSyncAddr)

/-- SYNC_SET (R151, R193). -/
def execSyncSet (th : ThreadRef) (s : State) : Host.Outcome State Fault Refusal :=
  .next (s.issue .syncSet th State.runSyncSet)

/-- SYNC_READLO (R151). -/
def execSyncReadlo (th : ThreadRef) (s : State) : Host.Outcome State Fault Refusal :=
  .next (s.issueWhen .syncReadlo th s.opFree (State.runSyncRead false))

/-- SYNC_READHI (R151). -/
def execSyncReadhi (th : ThreadRef) (s : State) : Host.Outcome State Fault Refusal :=
  .next (s.issueWhen .syncReadhi th s.opFree (State.runSyncRead true))

/-- SYNC_WAIT (R151, R195). -/
def execSyncWait (th : ThreadRef) (s : State) : Host.Outcome State Fault Refusal :=
  .next (s.issueWhen .syncWait th s.opFree State.runSyncWait)

/-- BR (R135, R147). -/
def execBr (th : ThreadRef) (s : State) : Host.Outcome State Fault Refusal :=
  .next (s.issue .br th State.runBr)

/-- CALL (R135, R147). -/
def execCall (th : ThreadRef) (s : State) : Host.Outcome State Fault Refusal :=
  .next (s.issue .call th State.runCall)

/-- NOP (R147). -/
def execNop (th : ThreadRef) (s : State) : Host.Outcome State Fault Refusal :=
  .next (s.issue .nop th State.runNop)

/-- EXIT (R136). -/
def execExit (th : ThreadRef) (s : State) : Host.Outcome State Fault Refusal :=
  .next (s.issue .exit th State.runExit)

/-- RET (R147). -/
def execRet (th : ThreadRef) (s : State) : Host.Outcome State Fault Refusal :=
  .next (s.issue .ret th State.runRet)

/-- FENCE_OC stores are visible at once (R142, log entry 15). -/
def execFenceOc (th : ThreadRef) (s : State) : Host.Outcome State Fault Refusal :=
  .next (s.issue .fenceOc th State.runNop)

/-- FENCE_DMA waits for the thread's earlier transfers (R144). -/
def execFenceDma (th : ThreadRef) (s : State) : Host.Outcome State Fault Refusal :=
  .next (s.issue .fenceDma th State.runFenceDma)

/-- GANG_MASKP (R136). -/
def execGangMaskp (th : ThreadRef) (s : State) : Host.Outcome State Fault Refusal :=
  .next (s.issue .gangMaskp th (State.gangOnly State.runMaskp))

/-- GANG_PUSH (R136). -/
def execGangPush (th : ThreadRef) (s : State) : Host.Outcome State Fault Refusal :=
  .next (s.issue .gangPush th (State.gangOnly State.runPush))

/-- GANG_POP (R136). -/
def execGangPop (th : ThreadRef) (s : State) : Host.Outcome State Fault Refusal :=
  .next (s.issue .gangPop th (State.gangOnly State.runPop))

/-- LANEID (R148). -/
def execLaneid (th : ThreadRef) (s : State) : Host.Outcome State Fault Refusal :=
  .next (s.issue .laneid th (State.gangOnly (State.runAlu .laneid)))

/-- BCAST (R148). -/
def execBcast (th : ThreadRef) (s : State) : Host.Outcome State Fault Refusal :=
  .next (s.issue .bcast th (State.gangOnly State.runBcast))

/-- GANG_VOTE (R148). -/
def execGangVote (th : ThreadRef) (s : State) : Host.Outcome State Fault Refusal :=
  .next (s.issue .gangVote th (State.gangOnly State.runVote))

/-- MASKRD (R148). -/
def execMaskrd (th : ThreadRef) (s : State) : Host.Outcome State Fault Refusal :=
  .next (s.issue .maskrd th (State.gangOnly (State.runAlu .maskrd)))

/-- LRED (R137). -/
def execLred (th : ThreadRef) (s : State) : Host.Outcome State Fault Refusal :=
  .next (s.issue .lred th (State.gangOnly State.runLred))

/-- TRAP (R152). -/
def execTrap (th : ThreadRef) (s : State) : Host.Outcome State Fault Refusal :=
  .next (s.issue .trap th State.runTrap)

/-- ILLEGAL a reserved encoding (R154). -/
def execIllegal (th : ThreadRef) (s : State) : Host.Outcome State Fault Refusal :=
  .next (s.issue .illegal th (fun x s => if x.lanes.isEmpty then s.putThread x x.th.advance else s.vecException x 1 (maskOf x.lanes) 0))

/-! ### Launches (R138 to R140) -/

/-- Not mapped by R15, or in the control carve-out. -/
def unfetchable : Place → Bool
  | .unmapped | .carve _ => true
  | _ => false

/-- The reason a launch entry is rejected for, the lowest code first; 0 for a valid entry (R140). -/
def launchReason (ws : List Nat) : Nat :=
  let w0 := wd ws 0
  let entry := fld (wd ws 1) 47 0
  if fld w0 63 60 ≠ 1 then 1
  else if fld w0 59 56 = 0 ∨ fld w0 48 43 = 0 ∨ 32 < fld w0 53 49 + fld w0 48 43 then 2
  else if entry % 4 ≠ 0 ∨ unfetchable (place entry) then 3
  else if fld w0 42 0 ≠ 0 ∨ fld (wd ws 1) 63 48 ≠ 0 ∨ fld (wd ws 4) 5 0 ≠ 0 ∨ fld (wd ws 5) 63 32 ≠ 0 ∨ wd ws 6 ≠ 0 ∨
      wd ws 7 ≠ 0 then 4
  else 0

def launchGang (ws : List Nat) : Bool := bitAt (wd ws 0) 55
def launchGroups (ws : List Nat) : List Nat := (List.range 4).filter (fun g => bitAt (wd ws 0) (56 + g))
def launchSlots (ws : List Nat) : List Nat := (List.range (fld (wd ws 0) 48 43)).map (· + fld (wd ws 0) 53 49)

/-- Some thread of a lane group is not IDLE. -/
def VecSt.groupBusy (v : VecSt) (g : Nat) : Bool := v.threads.any (fun p => p.1 / 1024 == g && p.2.st != .idle)
def VecSt.slotBusy (v : VecSt) (g slot : Nat) : Bool :=
  v.threads.any (fun p => p.1 / 1024 == g && p.1 % 32 == slot && p.2.st != .idle)

/-- Every slot named is IDLE, and every mode change is possible (R133, R139). -/
def VecSt.canStart (v : VecSt) (ws : List Nat) : Bool :=
  (launchGroups ws).all (fun g =>
    if bitAt v.gangMode g == launchGang ws then (launchSlots ws).all (fun sl => !v.slotBusy g sl) else !v.groupBusy g)

/-- A lane as a launch starts it (R139). -/
def startLane (ws : List Nat) (scalar slot : Nat) : Lane :=
  { w := [fld (wd ws 2) 31 0, fld (wd ws 2) 63 32, fld (wd ws 3) 31 0, fld (wd ws 3) 63 32, scalar * 32 + slot, 0, 0, 0],
    ftz := bitAt (wd ws 0) 54 }

/-- The threads a launch starts, with their numbers. -/
def startThreads (ws : List Nat) (id : Nat) : List (Nat × Thread) :=
  let pc := fld (wd ws 1) 47 0
  (launchGroups ws).flatMap (fun g => (launchSlots ws).flatMap (fun sl =>
    if launchGang ws then
      [(thKey (32 * g) sl, { st := .running, gang := true, pc := pc, mask := 2 ^ 32 - 1, launch := id,
                             lanes := (List.range 32).map (fun l => startLane ws (32 * g + l) sl) })]
    else (List.range 32).map (fun l =>
      (thKey (32 * g + l) sl, { st := .running, pc := pc, launch := id, lanes := [startLane ws (32 * g + l) sl] }))))

/-- Start a launch (R139). -/
def VecSt.start (v : VecSt) (ws : List Nat) (feed : Nat) : VecSt :=
  let ts := startThreads ws v.nextLaunch
  let mode := (launchGroups ws).foldl (fun m g => putBit m g (launchGang ws)) v.gangMode
  { v with
    head := none, gangMode := mode, nextLaunch := v.nextLaunch + 1,
    threads := ts.foldl (fun m t => sput m t.1 t.2) v.threads,
    launches := v.launches ++ [{ id := v.nextLaunch, words := ws, left := ts.length, feed := feed }] }

/-- A rejected launch entry (R140). -/
def State.rejectLaunch (s : State) (n p reason : Nat) : State :=
  let v := s.vecAt p
  let s := ((s.setVec p { v with head := none, stopped := true }).wrAt F.VEC_REJECT_valid p 1).wrAt F.VEC_REJECT_reason p reason
  (s.raiseRec .VEC_LAUNCH_INVALID n Rec.vecReject p).failStep 1 true

/-- A stream item that is consumed poisoned (R172): POISON and a discard. -/
def State.itemPoison (s : State) (n q : Nat) : State :=
  let s := s.consumed 5 (s.rdAt F.QUE_BACKING_base q)
  (s.raise .POISON n s.poisonDetail).failStep 2 false

/-- Check an entry and start it, or leave it at the head until its slots are IDLE. -/
def State.tryLaunch (s : State) (n p : Nat) (ws : List Nat) (feed : Nat) : State :=
  let v := s.vecAt p
  let e := launchReason ws
  if e ≠ 0 then s.rejectLaunch n p e
  else if v.canStart ws then s.setVec p (v.start ws feed)
  else s.setVec p { v with head := some (feed :: ws) }

/-- VEC_LAUNCH: the cluster of a core pops the next launch entry and starts it once its slots are IDLE (R138 to R140). -/
def execVecLaunch (core : Nat) (s : State) : Host.Outcome State Fault Refusal :=
  let p := s.phys core
  let v := s.vecAt p
  let q := s.rdAt F.VEC_CTRL_launch_queue p
  if s.alive && decide (core < 256) && s.stepOpen && !v.stopped && s.coreServed core then
    match v.head with
    | some h => .next (s.tryLaunch core p (h.drop 1) (h.headD 0))
    | none =>
      if s.mayPop core q && s.visible q then
        let r := s.popFront q
        if r.1.poison then .next (r.2.itemPoison core q)
        else .next ((r.2.tryLaunch core p (bytesWords r.1.data) r.1.feed).feedBoth core)
      else .next s
  else .next s

/-- A launch of a segment has completed (R211). -/
def State.segLaunchDone (s : State) (n feed : Nat) : State :=
  if feed = 0 then s
  else
    let hw := feed == 2
    let w := s.wing n hw
    match w.run with
    | some r => s.setWing n hw { w with run := some { r with launchesDone := r.launchesDone + 1 } }
    | none => s

/-- Invalidate the instruction cache once no thread runs (R145, R156). -/
def State.flushIcache (s : State) (p : Nat) : State :=
  let v := s.vecAt p
  if v.threads.any (fun t => t.2.st != .idle) then s.wrAt F.VEC_CTRL_flush_icache p 1
  else (s.setVec p { v with icache := [] }).wrAt F.VEC_CTRL_flush_icache p 0

/-- VEC_LAUNCH_COMPLETE: all threads of a launch have ended (R139). -/
def execVecLaunchComplete (core : Nat) (s : State) : Host.Outcome State Fault Refusal :=
  let p := s.phys core
  let v := s.vecAt p
  match v.launches.find? (fun l => l.left == 0) with
  | none => .next s
  | some l =>
    let s := s.setVec p { v with launches := v.launches.filter (fun m => m.id != l.id) }
    let s := (s.addAt F.VEC_LAUNCH_DONE_launches_done p 1).wrAt F.VEC_LAUNCH_DONE_flags p l.flags.vecBits
    let s := if fld (wd l.words 4) 6 6 = 1 then s.syncAdd (fld (wd l.words 4) 23 7) 1 else s
    let s := if s.isSetAt F.VEC_CTRL_flush_icache p then s.flushIcache p else s
    .next (s.segLaunchDone core l.feed).toChecking

/-- FLUSH_ICACHE: a write of VEC_CTRL.flush_icache (R145, R156). -/
def execFlushIcache (core : Nat) (s : State) : Host.Outcome State Fault Refusal :=
  .next (if s.alive && decide (core < 256) then s.flushIcache (s.phys core) else s)

/-- Resume the PAUSED thread that VEC_THREAD_SEL selects (R152, R156). -/
def State.resumeThread (s : State) (p : Nat) : State :=
  let v := s.vecAt p
  let k := v.home (s.rdAt F.VEC_THREAD_SEL_scalar_core p) (s.rdAt F.VEC_THREAD_SEL_slot p)
  let t := v.thread k
  if t.st == .paused then s.setVec p (v.setThread k { t with st := .running }) else s

/-- THREAD_RESUME: a write of VEC_THREAD_CTRL.resume (R152, R156). -/
def execThreadResume (core : Nat) (s : State) : Host.Outcome State Fault Refusal :=
  .next (if s.alive && decide (core < 256) then s.resumeThread (s.phys core) else s)

/-! ### Queue waits (R190) -/

/-- The queue that a waiting lane names. -/
def waitQueue (w : Nat) (l : Lane) : Nat := l.reg (fRs1 w)

/-- A hardware consumer pops the queue: the router, the vector cluster's launch input, the row engine's command input, the collective
engine (R109, R138, R180, R270). -/
def State.hwConsumes (s : State) (q : Nat) : Bool :=
  let p := s.phys (q / 24)
  coreQueue q && (s.isSetAt F.QUE_CFG_forward q || s.rdAt F.VEC_CTRL_launch_queue p == q || s.rdAt F.ROW_CTRL_cmd_queue p == q ||
    (s.isSet F.FAB_COLL_CTRL_enable && s.rd F.FAB_COLL_CTRL_queue == q))

/-- A hardware waiter has waited on EMPTY or on FULL for the queue's limit (R190, R194). -/
def State.hwWaited (s : State) (q limit : Nat) : Bool :=
  (s.hwConsumes q && s.queueEmpty q && s.past ((s.queue q).since + limit)) || (s.queue q).waiting.any (fun w => s.past (w.2 + limit))

/-- QUEUE_WAIT_TIMEOUT: a queue wait has lasted QUE_TIMEOUT ticks. A hardware waiter keeps waiting; an SQ instruction
completes with pd = 0 on the lanes that wait for this queue (R190, R194). -/
def execQueueWaitTimeout (queue : Nat) (thread : Option ThreadRef) (s : State) : Host.Outcome State Fault Refusal :=
  let limit := s.rdAt F.QUE_TIMEOUT_ticks queue
  if limit = 0xFFFFFFFF ∨ !s.queueOn queue then .next s
  else match thread with
    | none =>
      .next (if s.hwWaited queue limit then s.queueStalls queue else s)
    | some th =>
      let p := s.phys th.core
      let v := s.vecAt p
      let k := v.home th.scalar th.slot
      let t := v.thread k
      let w := sget 0 v.icache t.pc
      let o := VOp.ofWord w
      if t.st == .waiting && (o == .sqPush || o == .sqPop) && s.past (t.since + limit) then
        let ls := (lanesOf t.left).filter (fun i => waitQueue w (t.lane i) == queue)
        if ls.isEmpty then .next s
        else
          let t := ls.foldl (fun t i => t.endLaneWait i (fMod w % 4) false) t
          .next ((s.setVec p (v.setThread k t)).queueStalls queue)
      else .next s

end Sys2Proof.Machine
end

