-- ==== Sys2Proof/Machine/Row.lean ====
section
/-! DEFINITION. Machine/Row.lean: the row engine (04_row_engine): tiles taken from the array (R104, R110, R118), the online
soft-maximum (R113 to R115), attention backward (R121), normalisation (R119, R120), row commands (R109) and completion (R111). -/

namespace Sys2Proof.Machine

/-! ### FP32 steps that carry their flags -/

def l1 (op : Nat → Nat × Flags) (a : Nat × Flags) : Nat × Flags :=
  let r := op a.1
  (r.1, a.2.join r.2)
def l2 (op : Nat → Nat → Nat × Flags) (a b : Nat × Flags) : Nat × Flags :=
  let r := op a.1 b.1
  (r.1, (a.2.join b.2).join r.2)
def l3 (op : Nat → Nat → Nat → Nat × Flags) (a b c : Nat × Flags) : Nat × Flags :=
  let r := op a.1 b.1 c.1
  (r.1, ((a.2.join b.2).join c.2).join r.2)
def lc (c : Nat) : Nat × Flags := (c, {})

def f32NegInf : Nat := 0xFF800000
def f32One : Nat := 0x3F800000
def f32Nan : Nat := 0x7FC00000

/-- The five-level tree of a column block (R113, R119): places beyond its valid columns contribute +0. -/
def treeSumF (xs : List (Nat × Flags)) : Nat × Flags :=
  (treeReduce faddF 5 (xs ++ List.replicate (32 - xs.length) (lc 0))).headD (lc 0)

/-! ### State records (R108) -/

def recordAddr (core : Nat) (c : List Nat) (m : Nat) : Nat := slotAddr core (rcRecord c m)

/-- Register r0 to r3 of row i in the record of row block m. -/
def State.recReg (s : State) (core : Nat) (c : List Nat) (m r i : Nat) : Nat :=
  leNat (s.loadN (recordAddr core c m + 64 + 128 * r + 4 * i) 4)
/-- NaN events of FP32 words of row block `m` and column block `n` that the row engine writes outside a tile, at the places of `vs`
with `place` (R71; log entry 68). -/
def State.wordNans (s : State) (core : Nat) (c : List Nat) (m n : Nat) (vs : List Nat) (place : Nat → Nat × Nat) : State :=
  match vs.zipIdx.filter (fun v => isNanF32 v.1) with
  | [] => s
  | v :: ns => s.nanEvents (s.tileTag 1 core (tileLoc m n (place v.2).1 (place v.2).2) (wd c 7)) (ns.length + 1)

/-- Write a register of every row of a record; row i is element (i, 0) of column block 0. -/
def State.setRecReg (s : State) (core : Nat) (c : List Nat) (m r : Nat) (vs : List Nat) (poison : Bool) : State :=
  (s.storeN (recordAddr core c m + 64 + 128 * r) (vs.flatMap (leBytes 4)) poison).wordNans core c m 0 vs (fun i => (i, 0))

def hdrMerged (h : Nat) : Nat := fld h 59 52
def hdrScored (h : Nat) : Nat := fld h 51 44
def hdrKEnd (h : Nat) : Nat := fld h 43 22

/-- A record header (R108): k_end of 4,194,304, which its 22 bits do not hold, stands as 0 (log entry 68). -/
def mkHeader (fin chunkEmpty : Bool) (merged scored kEnd qPos : Nat) : Nat :=
  bit fin * 2 ^ 63 + bit chunkEmpty * 2 ^ 61 + merged % 256 * 2 ^ 52 + scored % 256 * 2 ^ 44 + kEnd % 2 ^ 22 * 2 ^ 22 + qPos % 2 ^ 22

def State.setHeader (s : State) (core : Nat) (c : List Nat) (m h : Nat) (poison : Bool) : State :=
  s.storeN (recordAddr core c m) (leBytes 8 h) poison

def State.recordPoison (s : State) (core : Nat) (c : List Nat) (m : Nat) : Bool := s.poisonAt (recordAddr core c m)

/-! ### Operands -/

/-- Element (i, j) of block (m, n) of operand k as FP32. -/
def State.ctxElems (s : State) (core : Nat) (c : List Nat) (k : Nat) (f : Fmt) (alongRows : Bool) (m n : Nat) :
    List (List (Nat × Flags)) :=
  let rows := s.readBlock core (rcSlot c k m n) f 0
  let sc := if f.isMx then s.readScales core (rcEntry c k m n) else []
  (List.range (rcRows c m)).map (fun i => (List.range (rcCols c n)).map (fun j =>
    let e := if f.isMx then sc.getD (if alongRows then i else j) 0x7F else 0x7F
    toF32 (f.value ((rows.getD i []).getD j 0) e)))

/-- Row i of an operand, block by block. -/
def State.ctxRow (s : State) (core : Nat) (c : List Nat) (k : Nat) (f : Fmt) (m i : Nat) : List (List (Nat × Flags)) :=
  (List.range (rcN c)).map (fun n => (s.ctxElems core c k f true m n).getD i [])

def State.ctxPoison (s : State) (core : Nat) (c : List Nat) (k : Nat) (f : Fmt) (m : Nat) : Bool :=
  (List.range (rcN c)).any (fun n => s.blockPoison core (rcSlot c k m n) f (rcEntry c k m n))

/-- Sum over a row in the order of R119: per column block the tree, blocks in increasing order, from +0 (log entry 68). -/
def blocksSum (blocks : List (List (Nat × Flags))) : Nat × Flags :=
  blocks.foldl (fun a b => l2 fadd a (treeSumF b)) (lc 0)

/-- Write a block of FP32 values to operand `k` of a context in format `f` (R113, R119, R121). -/
def State.ctxWrite (s : State) (core : Nat) (c : List Nat) (k : Nat) (f : Fmt) (axis m n : Nat) (vals : List (List Nat))
    (posZero poison : Bool) (live : Nat → Nat → Bool) : State :=
  let b := convertBlock f axis (rcOvf c) .keep (s.outRnd core (rcRound c) (fld (wd c 7) 63 40) (rcWidth c) m n)
    (vals.map (fun r => r.map f32val))
  let neg0 := 2 ^ (f.bits - 1)
  let b := if posZero then { b with codes := b.codes.map (fun r => r.map (fun x => if x = neg0 then 0 else x)) } else b
  let t := s.writeOut core (rcSlot c k m n) (rcEntry c k m n) 0 f axis b m n poison (fun loc => s.tileTag 1 core loc (wd c 7)) live
  t.rowFlags (t.phys core) b.flags

/-- The flags of a conversion of a block (for the context's own flags, R123). -/
def State.ctxWriteFlags (s : State) (core : Nat) (c : List Nat) (f : Fmt) (axis m n : Nat) (vals : List (List Nat)) : Flags :=
  (convertBlock f axis (rcOvf c) .keep (s.outRnd core (rcRound c) (fld (wd c 7) 63 40) (rcWidth c) m n) (vals.map (fun r => r.map f32val))).flags

def joinAll (rows : List (List (Nat × Flags))) : Flags := rows.foldl (fun a r => r.foldl (fun a x => a.join x.2) a) {}
def codesOf (rows : List (List (Nat × Flags))) : List (List Nat) := rows.map (fun r => r.map Prod.fst)

/-! ### Accepting tiles (R104, R110, R114, R118) -/

/-- Tiles that a wing's half of the score buffer holds. -/
def RowSt.buffered (r : RowSt) (hw : Bool) : Nat :=
  ((r.chunks.filter (fun k => k.hw == hw)).map (fun k => (k.tiles.filter (fun t => !t.empty)).length)).sum

/-- The records of a context have all had a START in this attempt. -/
def RowSt.hasStart (r : RowSt) (c : List Nat) : Bool := (List.range (rcM c)).all (fun m => r.started.contains (rcRecord c m))

/-- The chunk that a score tile of a context belongs to: one that is being filled, or a new one. -/
def RowSt.filling (r : RowSt) (i : Nat) (hw : Bool) : Option RowChunk :=
  r.chunks.find? (fun k => k.ctx == i && k.hw == hw && decide (k.tiles.length < rcM k.words * rcN k.words))

/-- The ATTN_BWD chunk of a context that takes dP tiles. -/
def RowSt.awaiting (r : RowSt) (i : Nat) : Option RowChunk :=
  r.chunks.find? (fun k => k.ctx == i && rcOp k.words == 4 && k.tiles.length == rcM k.words * rcN k.words)

def RowSt.replace (r : RowSt) (a b : RowChunk) : RowSt := { r with chunks := r.chunks.map (fun k => if k = a then b else k) }

/-- The row engine's FP32 values of a tile; what the array does not write of it is a free value (R89, R107, log entry 68). -/
def State.rowTile (s : State) (core : Nat) (t : Tile) : RowTile :=
  let b := s.tileOut core t (tdAxis t.words)
  { m := t.m, n := t.n, poison := t.poison, empty := t.empty,
    vals := (List.range 1024).map (fun e => ((b.codes[e / 32]?).bind (fun r => r[e % 32]?)).getD (Config.scoreFill s.drawn e).toNat) }

/-- Extents of a feeding descriptor (R121). -/
def tdExtents (d : List Nat) : List Nat := [tdM d, tdN d, lastOf (tdMLast d), lastOf (tdNLast d)]

/-- The array's tile has been accepted. -/
def State.taken (s : State) (p : Nat) (t : Tile) : State :=
  let a := s.arrAt p
  s.setArr p { a with tiles := a.tiles.map (fun v => if v = t then { v with taken := true } else v) }

/-- Some block of the chunk is not EMPTY (R117). -/
def State.chunkLive (s : State) (core : Nat) (k : RowChunk) : Bool := k.tiles.any (fun t => !s.blockEmpty core k.words t.m t.n)

/-- The outputs of a chunk are written: with `skip` clear no tile is skipped, with it set those of a chunk that is not all EMPTY (R118). -/
def State.chunkWritten (s : State) (core : Nat) (k : RowChunk) : Bool := !rcSkip k.words || s.chunkLive core k

/-- Poison in an input reaches every output and the state record of the row block it touches (R123). -/
def State.poisonRow (s : State) (core : Nat) (c : List Nat) (m : Nat) : State :=
  let outs := (rcOperands c).flatMap (fun o => if o.2.2 then
    let f := o.2.1.getD .fp32
    (List.range (rcN c)).flatMap (fun n => (List.range (groupSlots f)).map (fun b => slotAddr core (rcSlot c o.1 m n + b)) ++
      (if f.isMx then [entryAddr32 core (rcEntry c o.1 m n)] else [])) else [])
  (recordAddr core c m :: outs).foldl (fun t a => t.setPoison a true) s

/-- Finish a chunk: its context's completion can be published (R111). -/
def State.endChunk (s : State) (p : Nat) (k : RowChunk) (f : Flags) : State :=
  let r := s.rowAt p
  let d : RowDone := { ctx := k.ctx, words := k.words, flags := f, feed := 0 }
  let r : RowSt := { r with chunks := r.chunks.erase k, finished := r.finished ++ [d] }
  s.setRow p r

/-- A dP tile of ATTN_BWD (R121): dS is formed and written. -/
def State.dpTile (s : State) (core : Nat) (k : RowChunk) (t : RowTile) : State :=
  let c := k.words
  let p := s.phys core
  let empty := s.blockEmpty core c t.m t.n
  let ps := k.ps.getD k.dp []
  let vals := (List.range (rcRows c t.m)).map (fun i => (List.range (rcCols c t.n)).map (fun j =>
    if empty then lc 0
    else
      let d := lc (s.recReg core c t.m 3 i)
      l2 fmul (l2 fmul (lc (ps.getD (32 * i + j) 0)) (l2 fsub (lc (t.vals.getD (32 * i + j) 0)) d)) (lc (rcScale2 c))))
  let poison := t.poison || s.recordPoison core c t.m || k.tiles.any (fun x => x.m == t.m && x.poison)
  let live (i j : Nat) : Bool := s.allowed core c t.m t.n i j
  let out := (rcOut c).getD .fp32
  let f := joinAll vals
  let ax := rcAxis c
  let write := s.chunkWritten core k
  let fw := if write then
      (s.ctxWriteFlags core c out ax t.m t.n (codesOf vals)).join
        (if rcDual c then s.ctxWriteFlags core c out (1 - ax) t.m t.n (codesOf vals) else {})
    else {}
  let s := if write then s.ctxWrite core c 6 out ax t.m t.n (codesOf vals) false poison live else s
  let s := if write && rcDual c then s.ctxWrite core c 4 out (1 - ax) t.m t.n (codesOf vals) false poison live else s
  let s := if poison then s.poisonRow core c t.m else s
  let s := s.rowFlags p f
  let k2 : RowChunk := { k with dp := k.dp + 1, flags := (k.flags.join f).join fw }
  let s := s.setRow p ((s.rowAt p).replace k k2)
  if k2.dp = rcM c * rcN c then s.endChunk p k2 k2.flags else s

/-- What becomes of a tile whose context is in order: none while the row engine cannot accept it (log entry 68). -/
def State.acceptTile (s : State) (core i : Nat) (hw : Bool) (c ext : List Nat) (t : RowTile) : Option State :=
  let p := s.phys core
  let r := s.rowAt p
  let src := bit hw
  let idx := t.m * rcN c + t.n
  let room := t.empty || decide (r.buffered hw < 16)
  if rcOp c = 2 then
    if r.merge.isSome then none
    else
      let done := ((r.merging.find? (fun x => x.1 == i)).map (fun x => x.2.1)).getD 0
      if idx ≠ done then some (s.rowReject core 7 src i)
      else
        let q : RowMerge := { ctx := i, words := c, tile := t }
        some (s.setRow p { r with merge := some q })
  else match r.awaiting i with
    | some k =>
      if rcOp c = 1 then none
      else if k.passed.length < rcM c then none
      else if ext ≠ k.ext then some (s.rowReject core 5 src i)
      else if idx ≠ k.dp then some (s.rowReject core 7 src i) else some (s.dpTile core k t)
    | none =>
      match r.filling i hw with
      | some k =>
        if idx ≠ k.tiles.length then some (s.rowReject core 7 src i)
        else if room then some (s.setRow p (r.replace k { k with tiles := k.tiles ++ [t] })) else none
      | none =>
        if idx ≠ 0 then some (s.rowReject core 7 src i)
        else if room then
          let k : RowChunk := { ctx := i, words := c, hw := hw, ext := ext, tiles := [t] }
          some (s.setRow p { r with chunks := r.chunks ++ [k] })
        else none

/-- ROW_TILE_ACCEPT: the oldest tile of a wing goes to the row engine (R104, R107, R124). -/
def execRowTileAccept (core : Nat) (hw : Bool) (s : State) : Host.Outcome State Fault Refusal :=
  let p := s.phys core
  match (s.arrAt p).oldest hw with
  | none => .next s
  | some t =>
    let d := t.words
    let i := tdRowCtx d
    if !(s.alive && s.coreWorks core) || t.void || t.taken || tdDest d != 1 || (s.rowAt p).stopped then .next s
    else match s.ctxWords core i with
      | none => .next (s.rowReject core (if tdOutCode d ≠ 0 ∨ tdDual d then 2 else 4) (bit hw) i)
      | some c =>
        let a := (s.ctxAddr core i).getD 0
        if s.poisonAt a then .next (s.consumePoison a)
        else
          let s := s.cacheCtx core i c
          let code := lowestCode [
            (let x := s.ctxCode core c; (x != 0, x)),
            (tdOutCode d != 0 || tdDual d, 2), (tdM d != rcM c || tdN d != rcN c, 5),
            (!rcTileFed c || !(s.rowAt p).hasStart c, 7)]
          if code ≠ 0 then .next (s.rowReject core code (bit hw) i)
          else match s.acceptTile core i hw c (tdExtents d) (s.rowTile core t) with
            | some u => .next (if (u.rowAt p).stopped then u else ({ u with drawn := u.drawn + 1 }).taken p t)
            | none => .next s

/-! ### The exponential pass (R113, R121) -/

/-- Scores of row i of a chunk's row block m by column block: masked elements are −∞ (R113). -/
def State.scores (s : State) (core : Nat) (k : RowChunk) (m i : Nat) : List (List (Nat × Flags)) :=
  let c := k.words
  (List.range (rcN c)).map (fun n =>
    let t := k.tiles.find? (fun t => t.m == m && t.n == n)
    let none_ := s.blockEmpty core c m n
    (List.range (rcCols c n)).map (fun j =>
      if none_ || !s.allowed core c m n i j then lc f32NegInf
      else l2 fmul (lc ((t.map (fun t => t.vals.getD (32 * i + j) 0)).getD 0)) (lc (rcScale c))))

/-- The result of one row of the soft-maximum: new m, l, f, the probabilities by column block, flags and exponentials. -/
structure SoftRow where
  m : Nat
  l : Nat
  f : Nat
  p : List (List Nat)
  flags : Flags
  exps : Nat
deriving DecidableEq, Repr

/-- One row of SOFTMAX_FWD (R113). -/
def softRow (m l : Nat) (x : List (List (Nat × Flags))) : SoftRow :=
  let mc := x.foldl (fun a b => b.foldl (fun a v => l2 fmax a v) a) (lc f32NegInf)
  let mn := l2 fmax (lc m) mc
  if mn.1 = f32NegInf then
    let p := x.map (fun b => b.map (fun _ => 0))
    let l' := l3 ffma (lc l) (lc f32One) (lc 0)
    { m := mn.1, l := l'.1, f := f32One, p := p, flags := mn.2.join l'.2, exps := 0 }
  else
    let f := l1 fexp2 (l2 fsub (lc m) (lc mn.1))
    let p := x.map (fun b => b.map (fun v => l1 fexp2 (l2 fsub (lc v.1) (lc mn.1))))
    let c := blocksSum (p.map (fun b => b.map (fun v => lc v.1)))
    let l' := l3 ffma (lc l) (lc f.1) (lc c.1)
    { m := mn.1, l := l'.1, f := f.1, p := codesOf p,
      flags := (((mn.2.join f.2).join (joinAll p)).join c.2).join l'.2, exps := 1 + (p.map List.length).sum }

/-- One row of the S pass of ATTN_BWD (R121). -/
def bwdRow (m l : Nat) (x : List (List (Nat × Flags))) : SoftRow :=
  let p := x.map (fun b => b.map (fun v =>
    if m = f32NegInf then (0, v.2) else l1 fexp2 (l2 fsub (l2 fsub v (lc m)) (lc l))))
  { m := m, l := l, f := 0, p := codesOf p, flags := joinAll p, exps := if m = f32NegInf then 0 else (p.map List.length).sum }

/-- Write the probabilities of row block m of a chunk. -/
def State.writeProbs (s : State) (core : Nat) (k : RowChunk) (m op axis : Nat) (f : Fmt) (rows : List SoftRow) (poison : Bool) :
    State × Flags :=
  let c := k.words
  if s.chunkWritten core k then
    (List.range (rcN c)).foldl (fun (t : State × Flags) n =>
      let vals := rows.map (fun r => r.p.getD n [])
      (t.1.ctxWrite core c op f axis m n vals false poison (fun i j => t.1.allowed core c m n i j),
        t.2.join (t.1.ctxWriteFlags core c f axis m n vals))) (s, {})
  else (s, {})

/-- The pass over one row block. -/
def State.passBlock (s : State) (core : Nat) (k : RowChunk) (m : Nat) : State × Flags × List SoftRow :=
  let c := k.words
  let p := s.phys core
  let bwd := rcOp c == 4
  let rows := (List.range (rcRows c m)).map (fun i =>
    let x := s.scores core k m i
    if bwd then bwdRow (s.recReg core c m 0 i) (s.recReg core c m 1 i) x
    else softRow (s.recReg core c m 0 i) (s.recReg core c m 1 i) x)
  let poison := s.recordPoison core c m || k.tiles.any (fun t => t.m == m && t.poison)
  let h := recordHeader s core c m
  let f := rows.foldl (fun a r => a.join r.flags) {}
  let w := s.writeProbs core k m (if bwd then 5 else 6) (if bwd then 1 else rcAxis c)
    ((if bwd then rcAux c else rcOut c).getD .fp32) rows poison
  let t := (w.1.rowFlags p f).addAt F.ROW_EXP_count p ((rows.map (fun r => r.exps)).sum)
  let t := if bwd then t
    else
      let t := ((t.setRecReg core c m 0 (rows.map (fun r => r.m)) poison).setRecReg core c m 1 (rows.map (fun r => r.l)) poison).setRecReg
        core c m 2 (rows.map (fun r => r.f)) poison
      let empty := !t.chunkLive core k
      let kEnd := max (hdrKEnd h) (rcK c + 32 * (rcN c - 1) + lastOf (rcNLast c))
      t.setHeader core c m (mkHeader (bitAt h 63) empty (hdrMerged h) (hdrScored h + 1) kEnd (fld h 21 0)) poison
  (if poison then t.poisonRow core c m else t, f.join w.2, rows)

/-- Run the pass of a complete chunk over the row blocks `ms`; with the last of them a SOFTMAX_FWD chunk ends. -/
def State.runPass (s : State) (core : Nat) (k : RowChunk) (ms : List Nat) : State :=
  let c := k.words
  let p := s.phys core
  let r := ms.foldl (fun (t : State × Flags × List (List Nat)) m =>
    let b := t.1.passBlock core k m
    let tiles := (List.range (rcN c)).map (fun n => (List.range 1024).map (fun e =>
      (((b.2.2.getD (e / 32) { m := 0, l := 0, f := 0, p := [], flags := {}, exps := 0 }).p.getD n [])).getD (e % 32) 0))
    (b.1, t.2.1.join b.2.1, t.2.2 ++ tiles)) (s, {}, [])
  let k2 : RowChunk := { k with passed := k.passed ++ ms, ps := k.ps ++ r.2.2, flags := k.flags.join r.2.1 }
  let t := r.1.setRow p ((r.1.rowAt p).replace k k2)
  if rcOp c ≠ 4 && decide (rcM c ≤ k2.passed.length) then t.endChunk p k2 k2.flags else t

/-- Every tile of the chunk has come. -/
def RowChunk.whole (k : RowChunk) : Bool := k.tiles.length == rcM k.words * rcN k.words
/-- Row blocks whose pass has not run. -/
def RowChunk.rest (k : RowChunk) : List Nat := (List.range (rcM k.words)).filter (fun m => !k.passed.contains m)

/-- The pass over row block `m` may start: for SOFTMAX_FWD merged equals scored (R114), and no chunk delivered before it has a pass over
the same state record still to run (R115, R122). -/
def State.mayPass (s : State) (core : Nat) (k : RowChunk) (m : Nat) : Bool :=
  let h := recordHeader s core k.words m
  let before := (s.rowAt (s.phys core)).chunks.takeWhile (fun x => x != k)
  rcOp k.words == 4 || (hdrMerged h == hdrScored h && before.all (fun x => rcOp x.words == 4 ||
    x.rest.all (fun i => rcRecord x.words i != rcRecord k.words m)))

/-- The row blocks of a whole chunk whose pass may run now. -/
def State.passable (s : State) (core : Nat) (k : RowChunk) : List Nat := if k.whole then k.rest.filter (s.mayPass core k) else []

/-- A tile or a pass is held under R114 (ROW_STATUS.holding). -/
def State.rowHolding (s : State) (core : Nat) : Bool :=
  let r := s.rowAt (s.phys core)
  (r.merge.any (fun q =>
    let h := recordHeader s core q.words q.tile.m
    hdrScored h == hdrMerged h)) ||
  r.chunks.any (fun k => k.whole && k.rest.any (fun m => !s.mayPass core k m))

/-- SOFTMAX_EXP_PASS: of the oldest whole chunk of context `ctx` whose pass has not run everywhere, the row blocks that may pass now. -/
def execSoftmaxExpPass (core ctx : Nat) (s : State) : Host.Outcome State Fault Refusal :=
  let r := s.rowAt (s.phys core)
  match r.chunks.find? (fun k => k.ctx == ctx && k.whole && !k.rest.isEmpty) with
  | none => .next s
  | some k =>
    let ms := s.passable core k
    if s.alive && s.coreWorks core && !r.stopped && !ms.isEmpty then .next (s.runPass core k ms) else .next s

/-! ### Merging (R114) -/

/-- Merge the held tile into O. -/
def State.mergeTile (s : State) (core : Nat) (q : RowMerge) : State :=
  let c := q.words
  let p := s.phys core
  let t := q.tile
  let h := recordHeader s core c t.m
  let o := s.readBlock core (rcSlot c 6 t.m t.n) .fp32 0
  let vals := (List.range (rcRows c t.m)).map (fun i => (List.range (rcCols c t.n)).map (fun j =>
    let old := (o.getD i []).getD j 0
    if t.empty then ffma old f32One 0 else ffma old (s.recReg core c t.m 2 i) (t.vals.getD (32 * i + j) 0)))
  let rec_ := s.recordPoison core c t.m
  let poison := t.poison || rec_ || s.blockPoison core (rcSlot c 6 t.m t.n) .fp32 0
  let b : OutBlock := { codes := codesOf vals, scales := [], flags := joinAll vals }
  let s := (s.writeOut core (rcSlot c 6 t.m t.n) 0 0 .fp32 0 b t.m t.n poison (fun loc => s.tileTag 1 core loc (wd c 7))).rowFlags p b.flags
  let s := if t.n + 1 = rcN c then
      s.setHeader core c t.m (mkHeader (bitAt h 63) (bitAt h 61) (hdrMerged h + 1) (hdrScored h) (hdrKEnd h) (fld h 21 0)) poison
    else s
  let s := if poison then s.poisonRow core c t.m else s
  let r := s.rowAt p
  let was := ((r.merging.find? (fun x => x.1 == q.ctx)).map (fun x => x.2)).getD (0, {})
  let n := was.1 + 1
  let f := was.2.join b.flags
  let rest := r.merging.filter (fun x => x.1 != q.ctx)
  if n = rcM c * rcN c then
    let d : RowDone := { ctx := q.ctx, words := c, flags := f, feed := 0 }
    s.setRow p { r with merge := none, merging := rest, finished := r.finished ++ [d] }
  else s.setRow p { r with merge := none, merging := rest ++ [(q.ctx, n, f)] }

/-- ATTN_MERGE_TILE (R114): once scored exceeds merged, both modulo 256. -/
def execAttnMergeTile (core : Nat) (s : State) : Host.Outcome State Fault Refusal :=
  let r := s.rowAt (s.phys core)
  match r.merge with
  | none => .next s
  | some q =>
    let h := recordHeader s core q.words q.tile.m
    if s.alive && s.coreWorks core && !r.stopped && hdrScored h != hdrMerged h then .next (s.mergeTile core q) else .next s

/-! ### RUN operations -/

/-- ATTN_FINAL over one row block (R115); a NaN in O reaches the output of a row without keys too (log entry 68). -/
def State.finalBlock (s : State) (core : Nat) (c : List Nat) (m : Nat) : State × Flags :=
  let p := s.phys core
  let out := (rcOut c).getD .fp32
  let poison := s.recordPoison core c m || s.ctxPoison core c 5 .fp32 m
  let ls := (List.range (rcRows c m)).map (fun i => s.recReg core c m 1 i)
  let ms := (List.range (rcRows c m)).map (fun i => s.recReg core c m 0 i)
  let r := (List.range (rcN c)).foldl (fun (t : State × Flags) n =>
    let o := t.1.ctxElems core c 5 .fp32 true m n
    let vals := o.zipIdx.map (fun q => q.1.map (fun v =>
      let l := ls.getD q.2 0
      if isNanF32 l || isNanF32 (ms.getD q.2 0) then lc f32Nan else if l = 0 then lc (if isNanF32 v.1 then f32Nan else 0) else l2 fdiv v (lc l)))
    let f := (joinAll vals).join (t.1.ctxWriteFlags core c out (rcAxis c) m n (codesOf vals))
    ((t.1.ctxWrite core c 6 out (rcAxis c) m n (codesOf vals) true poison (fun _ _ => true)).rowFlags p (joinAll vals), t.2.join f)) (s, {})
  let lg := ls.map (fun l => if l = 0 then lc f32NegInf else flog2op l)
  let nm := (ms.zip ls).map (fun q => if q.2 = 0 then f32NegInf else q.1)
  let fl := lg.foldl (fun a v => a.join v.2) {}
  let h := recordHeader s core c m
  let t := ((r.1.setRecReg core c m 0 nm poison).setRecReg core c m 1 (lg.map Prod.fst) poison).setHeader core c m
    (mkHeader true (bitAt h 61) (hdrMerged h) (hdrScored h) (hdrKEnd h) (fld h 21 0)) poison
  (t.rowFlags p fl, r.2.join fl)

/-- ROW_DOT over one row block (R121). -/
def State.dotBlock (s : State) (core : Nat) (c : List Nat) (m : Nat) : State × Flags :=
  let fx := (rcIn c).getD .fp32
  let fy := (rcAux c).getD .fp32
  let poison := s.recordPoison core c m || s.ctxPoison core c 4 fx m || s.ctxPoison core c 5 fy m
  let ds := (List.range (rcRows c m)).map (fun i =>
    blocksSum (((s.ctxRow core c 4 fx m i).zip (s.ctxRow core c 5 fy m i)).map (fun b => (b.1.zip b.2).map (fun v => l2 fmul v.1 v.2))))
  let f := ds.foldl (fun a v => a.join v.2) {}
  ((s.setRecReg core c m 3 (ds.map Prod.fst) poison).rowFlags (s.phys core) f, f)

/-- Mean and reciprocal deviation of a row (R119). -/
def normStats (rms : Bool) (n eps : Nat) (x : List (List (Nat × Flags))) : (Nat × Flags) × (Nat × Flags) :=
  let num (k : Nat) : Nat × Flags := lc (f32OfInt k)
  let r := x.foldl (fun (a : (Nat × Flags) × (Nat × Flags) × Nat) b =>
    let nc := b.length
    if rms then
      let q := treeSumF (b.map (fun v => l2 fmul v v))
      (a.1, l2 fadd a.2.1 q, a.2.2 + nc)
    else
      let mc := l2 fdiv (treeSumF b) (num nc)
      let q := treeSumF (b.map (fun v => let e := l2 fsub v mc; l2 fmul e e))
      let nn := a.2.2 + nc
      let d := l2 fsub mc a.1
      let mean := l2 fadd a.1 (l2 fdiv (l2 fmul d (num nc)) (num nn))
      let m2 := l2 fadd (l2 fadd a.2.1 q) (l2 fdiv (l2 fmul (l2 fmul (l2 fmul d d) (num a.2.2)) (num nc)) (num nn))
      (mean, m2, nn)) (lc 0, lc 0, 0)
  let rstd := l1 frsqrt (l2 fadd (l2 fdiv r.2.1 (num n)) (lc eps))
  (if rms then lc 0 else r.1, rstd)

/-- Element `k` of the FP32 vector whose first slot is given; the second vector follows the first (R106). -/
def State.vecElem (s : State) (core slot : Nat) (c : List Nat) (second : Bool) (col : Nat) : Nat :=
  leNat (s.loadN (slotAddr core slot + (if second then 128 * rcN c else 0) + 4 * col) 4)

/-- The working values r2 and r3 of a norm's record are left open: free bytes. -/
def State.normWork (s : State) (core : Nat) (c : List Nat) (m : Nat) (poison : Bool) : State :=
  let a := recordAddr core c m + 320
  let t := s.storeN a ((List.range 256).map (fun k => Config.memFill s.drawn (a + k))) poison
  { t with drawn := t.drawn + 1 }

/-- NORM_FWD over one row block (R119). -/
def State.normBlock (s : State) (core : Nat) (c : List Nat) (m : Nat) : State × Flags :=
  let fx := (rcIn c).getD .fp32
  let out := (rcOut c).getD .fp32
  let rows := rcRows c m
  let vecs := s.poisoned (slotAddr core (rcGain c)) (rcVecBytes c)
  let poison := s.recordPoison core c m || s.ctxPoison core c 4 fx m || vecs
  let st := (List.range rows).map (fun i => normStats (rcRms c) (rcWidth c) (rcScale2 c) (s.ctxRow core c 4 fx m i))
  let fst := st.foldl (fun a v => (a.join v.1.2).join v.2.2) {}
  let r := (List.range (rcN c)).foldl (fun (t : State × Flags) n =>
    let x := t.1.ctxElems core c 4 fx true m n
    let vals := x.zipIdx.map (fun q => q.1.zipIdx.map (fun v =>
      let mean := lc (st.getD q.2 (lc 0, lc 0)).1.1
      let rstd := lc (st.getD q.2 (lc 0, lc 0)).2.1
      let g := lc (s.vecElem core (rcGain c) c false (32 * n + v.2))
      if rcRms c then l2 fmul (l2 fmul v.1 rstd) g
      else l3 ffma (l2 fmul (l2 fsub v.1 mean) rstd) g (lc (s.vecElem core (rcGain c) c true (32 * n + v.2)))))
    let f := (joinAll vals).join (t.1.ctxWriteFlags core c out (rcAxis c) m n (codesOf vals))
    ((t.1.ctxWrite core c 6 out (rcAxis c) m n (codesOf vals) false poison (fun _ _ => true)).rowFlags (t.1.phys core) (joinAll vals),
      t.2.join f)) (s, {})
  let t := ((r.1.setRecReg core c m 0 (st.map (fun v => v.1.1)) poison).setRecReg core c m 1 (st.map (fun v => v.2.1)) poison).normWork
    core c m poison
  (t.rowFlags (t.phys core) fst, r.2.join fst)

/-- One row of NORM_BWD (R120): dx by column block, the dg and db addends, flags. -/
def normBwdRow (rms : Bool) (n : Nat) (mean rstd : Nat) (g : List (List Nat)) (x dy : List (List (Nat × Flags))) :
    List (List (Nat × Flags)) × List (List (Nat × Flags)) :=
  let xh := x.map (fun b => b.map (fun v => l2 fmul (l2 fsub v (lc mean)) (lc rstd)))
  let gy := (g.zip dy).map (fun b => (b.1.zip b.2).map (fun v => l2 fmul (lc v.1) v.2))
  let num := lc (f32OfInt n)
  let c1 := if rms then lc 0 else l2 fdiv (blocksSum gy) num
  let c2 := l2 fdiv (blocksSum ((gy.zip xh).map (fun b => (b.1.zip b.2).map (fun v => l2 fmul v.1 v.2)))) num
  ((gy.zip xh).map (fun b => (b.1.zip b.2).map (fun v =>
      l2 fmul (lc rstd) (l2 fsub (l2 fsub v.1 c1) (l2 fmul v.2 c2)))),
    (dy.zip xh).map (fun b => (b.1.zip b.2).map (fun v => l2 fmul v.1 v.2)))

/-- Add a row to a dg or db accumulator (R120). -/
def State.addVec (s : State) (core : Nat) (c : List Nat) (second : Bool) (vs : List (List (Nat × Flags))) (poison : Bool) :
    State × Flags :=
  vs.zipIdx.foldl (fun (t : State × Flags) b =>
    let a := slotAddr core (rcAcc c) + (if second then 128 * rcN c else 0) + 128 * b.2
    let sums := b.1.zipIdx.map (fun v => l2 fadd (lc (leNat (t.1.loadN (a + 4 * v.2) 4))) v.1)
    ((t.1.storeN a (sums.flatMap (fun v => leBytes 4 v.1)) poison).wordNans core c 0 b.2 (sums.map Prod.fst) (fun j => (0, j)), sums.foldl (fun f v => f.join v.2) t.2)) (s, {})

/-- NORM_BWD over one row block (R120). -/
def State.normBwdBlock (s : State) (core : Nat) (c : List Nat) (m : Nat) : State × Flags :=
  let fx := (rcIn c).getD .fp32
  let fy := (rcAux c).getD .fp32
  let out := (rcOut c).getD .fp32
  let p := s.phys core
  let vecs := s.poisoned (slotAddr core (rcGain c)) (rcVecBytes c)
  let poison := s.recordPoison core c m || s.ctxPoison core c 4 fx m || s.ctxPoison core c 5 fy m || vecs
  let g := (List.range (rcN c)).map (fun n => (List.range (rcCols c n)).map (fun j => s.vecElem core (rcGain c) c false (32 * n + j)))
  let rs := (List.range (rcRows c m)).map (fun i =>
    normBwdRow (rcRms c) (rcWidth c) (s.recReg core c m 0 i) (s.recReg core c m 1 i) g (s.ctxRow core c 4 fx m i) (s.ctxRow core c 5 fy m i))
  let acc := (List.range (rcRows c m)).foldl (fun (t : State × Flags) i =>
    let a := t.1.addVec core c false ((rs.getD i ([], [])).2) poison
    let b := if rcRms c then (a.1, {}) else a.1.addVec core c true (s.ctxRow core c 5 fy m i) poison
    (b.1, (t.2.join a.2).join b.2)) (s, {})
  let r := (List.range (rcN c)).foldl (fun (t : State × Flags) n =>
    let vals := rs.map (fun q => q.1.getD n [])
    let f := (joinAll vals).join (t.1.ctxWriteFlags core c out (rcAxis c) m n (codesOf vals))
    ((t.1.ctxWrite core c 6 out (rcAxis c) m n (codesOf vals) false poison (fun _ _ => true)).rowFlags p (joinAll vals), t.2.join f)) acc
  ((if poison then r.1.poisonRow core c m else r.1).rowFlags p acc.2, r.2)

/-- A RUN-fed operation over its context. -/
def State.runOp (s : State) (core : Nat) (c : List Nat) : State × Flags :=
  (List.range (rcM c)).foldl (fun (t : State × Flags) m =>
    let r := match rcOp c with
      | 3 => t.1.finalBlock core c m
      | 5 => t.1.dotBlock core c m
      | 6 => t.1.normBlock core c m
      | _ => t.1.normBwdBlock core c m
    (r.1, t.2.join r.2)) (s, {})

/-! ### Row commands (R109) -/

/-- A whole state record as START writes it; reserved bytes are zero, the tags are the context's. -/
def startRecord (c : List Nat) (m : Nat) : List Byte :=
  let attn := rcAttn c
  let hdr := if attn then mkHeader false false 0 0 (rcK c) (rcQ c + 32 * m) else 0
  let reg (v : Nat) : List Byte := (List.range 32).flatMap (fun _ => leBytes 4 v)
  leBytes 8 hdr ++ leBytes 8 (wd c 7 / 2 ^ 24 * 2 ^ 24) ++ leBytes 48 0 ++
  reg (if attn then f32NegInf else 0) ++ reg 0 ++ reg (if attn then f32One else 0) ++ reg 0 ++ leBytes 448 0

/-- START. -/
def State.rowStart (s : State) (core : Nat) (c : List Nat) : State :=
  let s := (List.range (rcM c)).foldl (fun t m => t.storeN (recordAddr core c m) (startRecord c m)) s
  let s := if rcOp c = 2 then
      (List.range (rcM c)).foldl (fun t m => (List.range (rcN c)).foldl (fun t n =>
        (List.range 4).foldl (fun t b => t.storeN (slotAddr core (rcSlot c 6 m n + b)) (List.replicate 1024 0)) t) t) s
    else s
  let p := s.phys core
  let r := s.rowAt p
  let ns := ((List.range (rcM c)).map (rcRecord c)).filter (fun k => !r.started.contains k)
  s.setRow p { r with started := r.started ++ ns }

/-- Tiles already accepted for a context have been processed. -/
def RowSt.idleFor (r : RowSt) (i : Nat) : Bool :=
  r.chunks.all (fun k => k.ctx != i || k.rest.isEmpty) && (match r.merge with
    | some q => q.ctx != i
    | none => true)

/-- Take the front row command when it has the action `act`; a reserved action is rejected by either command. -/
def State.rowCommand (s : State) (core act : Nat) : State :=
  let p := s.phys core
  let q := s.rdAt F.ROW_CTRL_cmd_queue p
  if !(s.alive && s.coreWorks core && decide (core < 256) && s.mayPop core q && s.visible q) || (s.rowAt p).stopped || !s.coreServed core then s
  else
    match (s.queue q).items with
    | [] => s
    | it :: _ =>
      let w := wd (bytesWords it.data) 0
      let a := fld w 63 60
      let i := fld w 59 48
      let r := s.popFront q
      if r.1.poison then r.2.itemPoison core q
      else if a ≠ 1 ∧ a ≠ 2 then r.2.rowReject core 1 2 i
      else if a ≠ act then s
      else match s.ctxWords core i with
        | none => r.2.rowReject core 4 2 i
        | some c =>
          let ad := (s.ctxAddr core i).getD 0
          if s.poisonAt ad then r.2.consumePoison ad
          else if !(s.rowAt p).idleFor i then s
          else
            let t := r.2.cacheCtx core i c
            let code := lowestCode [(let x := t.ctxCode core c; (x != 0, x)),
              (act == 2 && (rcTileFed c || !(t.rowAt p).hasStart c), 7)]
            if code ≠ 0 then t.rowReject core code 2 i
            else if act = 1 then (t.rowStart core c).segRowDone core it.feed
            else
              let u := t.runOp core c
              let x := u.1.rowAt p
              let d : RowDone := { ctx := i, words := c, flags := u.2, feed := it.feed, run := true }
              u.1.setRow p { x with finished := x.finished ++ [d] }

/-- ROW_CMD_START. -/
def execRowCmdStart (core : Nat) (s : State) : Host.Outcome State Fault Refusal := .next (s.rowCommand core 1)
/-- ROW_CMD_RUN. -/
def execRowCmdRun (core : Nat) (s : State) : Host.Outcome State Fault Refusal := .next (s.rowCommand core 2)

/-! ### Completion and the cache -/

/-- No work in progress: the cache may be dropped (R105). -/
def RowSt.idle (r : RowSt) : Bool := r.chunks.isEmpty && r.merge.isNone && r.merging.isEmpty && r.finished.isEmpty

/-- Drop the cached contexts once the engine idles, if a flush is asked for. -/
def State.settleFlush (s : State) (p : Nat) : State :=
  let r := s.rowAt p
  if s.isSetAt F.ROW_CTRL_flush_ctx p && r.idle then (s.setRow p { r with cache := [] }).wrAt F.ROW_CTRL_flush_ctx p 0 else s

/-- ROW_CONTEXT_COMPLETE: publish the oldest completed context (R111, R123). -/
def execRowContextComplete (core : Nat) (s : State) : Host.Outcome State Fault Refusal :=
  let p := s.phys core
  let r := s.rowAt p
  match r.finished with
  | [] => .next s
  | d :: ds =>
    if s.alive && s.coreWorks core then
      let t := s.setRow p { r with finished := ds }
      let t := ((t.addAt F.ROW_CTX_FLAGS_ctx_done p 1).wrAt F.ROW_CTX_FLAGS_ctx p d.ctx).wrAt F.ROW_CTX_FLAGS_flags p d.flags.bits3
      let t := if bitAt (wd d.words 0) 33 then t.syncAdd (fld (wd d.words 7) 23 7) 1 else t
      .next ((t.segRowDone core d.feed).settleFlush p)
    else .next s

/-- A write of 1 to ROW_CTRL.flush_ctx (R105). -/
def State.flushRow (s : State) (p : Nat) : State := (s.wrAt F.ROW_CTRL_flush_ctx p 1).settleFlush p

/-- ROW_FLUSH_CTX. -/
def execRowFlushCtx (core : Nat) (s : State) : Host.Outcome State Fault Refusal :=
  .next (if s.alive && decide (core < 256) then s.flushRow (s.phys core) else s)

end Sys2Proof.Machine
end

