-- ==== Sys2Proof/Machine/Molt.lean ====
section
/-! DEFINITION. Machine/Molt.lean: the molt barrier (R309 to R316), the flip (R318) with its core changes (R12, R13, R335), the
policies for a non-finite step (R251), the partner mirror's build and pull (R329 to R331) and the canaries (R322 to R325). -/

namespace Sys2Proof.Machine

/-! ### Core changes at a molt (R12, R13, R335) -/

/-- Logical core `n` moves to physical core `q`: its resident ranges and its configuration go with it (R12, log entry 18). -/
def State.moveCore (s : State) (n q : Nat) : State :=
  let p := s.phys n
  let s := if p = q then s else ((s.loseStores q true).copyResidents n p q).copyConfig p q
  s.wrAt F.MOD_CORE_MAP_phys_core n q

/-- The old physical core of a suspect core is out of service until the next boot (log entry 31). -/
def State.retireCore (s : State) (p : Nat) : State := { s with test := { s.test with retired := s.test.retired ++ [p] } }

/-- Swap suspect core `n`: its stand-in, or the spare that is taken for it, becomes its entry. -/
def State.swapSuspect (s : State) (n : Nat) : State :=
  let old := s.rdAt F.MOD_CORE_MAP_phys_core n
  match (match (if s.sched.fenced.contains n then none else sget? s.sched.standin n) with
    | some q => some (q, s)
    | none => s.takeSpare (quadOf n)) with
  | none => s
  | some (q, s) =>
    let s := (s.moveCore n q).wrAt F.MOD_CORE_MAP_suspect n 0
    let sc := { s.sched with standin := sdel s.sched.standin n, fenced := s.sched.fenced.filter (fun m => m != n) }
    ({ s with sched := sc }).retireCore old

/-- The in-service physical core of a quadrant whose last test is oldest, ties to the lower number, with its logical core (log entry 29). -/
def State.oldestTested (s : State) (q : Nat) : Option (Nat × Nat) :=
  (quadPhys q).foldl (fun b p =>
    match (quadCores q).find? (fun n => s.rdAt F.MOD_CORE_MAP_phys_core n == p) with
    | none => b
    | some n => match b with
      | some (x, m) => if s.rdAt F.CHK_CORE_TEST_tick p < s.rdAt F.CHK_CORE_TEST_tick x then some (p, n) else some (x, m)
      | none => some (p, n)) none

/-- Begin the test of a core out of service (R336, R337). -/
def State.beginTest (s : State) (p : Nat) : State := s.wrAt F.CHK_CORE_TEST_testing p 1

/-- Rotate a quadrant: the oldest-tested core's logical core moves to the lowest healthy free spare, and it is tested. -/
def State.rotate (s : State) (q : Nat) : State :=
  match s.oldestTested q, (s.spares q).head? with
  | some (p, n), some sp =>
    let s := (s.moveCore n sp).beginTest p
    { s with test := { s.test with due := s.test.due.filter (fun k => k != q), rotated := sput s.test.rotated q s.tick } }
  | _, _ => s

/-- At most one change per quadrant: a suspect swap first, then a rotation that is due. -/
def State.coreChange (s : State) (q : Nat) : State :=
  match (quadCores q).find? s.suspect with
  | some n => s.swapSuspect n
  | none => if s.test.due.contains q && s.isSet F.CHK_TEST_CTRL_enable then s.rotate q else s

def State.coreChanges (s : State) : State :=
  let s := s.each (List.range 4) State.coreChange
  if s.test.due.isEmpty then s.wr F.CHK_TEST_CTRL_test_now 0 else s

/-! ### The flip (R318) -/

/-- Release the input map (R306). -/
def State.releaseInputs (s : State) : State :=
  ({ s with job := { s.job with inputs := [], repairs := [] } }).clear
    [F.CHK_KEPT_CUR_valid, F.CHK_KEPT_CUR_repair, F.CHK_KEPT_CUR_repair_done, F.CHK_KEPT_CUR_count, F.CHK_KEPT_CUR_address]

/-- A fault found in the incoming bank after the vote is repaired from the partner after the flip (R31). -/
def State.repairCommitted (s : State) : State :=
  let b := s.bank
  (s.mem.hbmPoison.filter (fun p => p.2 && s.inRegion b (64 * p.1) 64)).foldl (fun t p => (t.consumed 0 (64 * p.1)).requestCopy (64 * p.1) false) s

/-- The mirror record's age, and what the build has still to copy: after a molt whose whole stream went to this partner only
the FROZEN extents (R312, R331). -/
def State.moltMirror (s : State) : State :=
  let r := match s.mirror.record with
    | some x => if x.flips < 1 then some { x with flips := x.flips + 1 } else none
    | none => none
  { s with mirror := { s.mirror with record := r, buildLeft := if s.mirror.whole then min s.mirror.buildLeft 1 else s.mirror.buildLeft } }

/-- Steps 1 and 2 of R318, with the counts and times of R340 and the energy stamp of R400. -/
def State.flipBank (s : State) : State :=
  let wait := (s.tick - s.barrier.votedAt) % 2 ^ 32
  let ran := s.canary.due
  let s := ((s.wr F.CHK_MOLT_TIME_last wait).wr F.CHK_MOLT_TIME_worst (max wait (s.rd F.CHK_MOLT_TIME_worst))).add F.CHK_MOLT_COUNT_molts 1
  let s := ((s.wr F.MOD_STEP_active_bank (1 - s.bank)).wr F.MOD_INSTAR_instar s.nextInstar).showScale
  let s := (s.wr F.PWR_ENERGY_STAMP_count (s.rd F.PWR_ENERGY_JOB_count)).wr F.PWR_ENERGY_STAMP_INSTAR_count s.instar
  let s := ((s.wr F.MOD_STEP_replay_count 0).wr F.UPD_STATUS_reductions 0).wr F.ERR_STATUS_local_discards 0
  if ran then (s.wr F.CHK_CANARY_PASS_instar s.instar).addSat F.CHK_CANARY_STATUS_passes 1 else s

/-- STEP_STOP takes effect at the molt (R221). -/
def State.settleRun (s : State) : State :=
  if s.isSet F.SCH_RUN_stopping then s.clear [F.SCH_RUN_running, F.SCH_RUN_stopping, F.SCH_RUN_steps_left] else s

/-- MOLT: the flip (R318). -/
def State.flip (s : State) : State :=
  let s := (s.wr F.CHK_MOLT_STATUS_last_decision 1).flipBank.releaseInputs
  let s := s.moltMirror.endAttempt
  let hold := s.job.holdAfter
  let s := ({ s with barrier := {}, step := .molted, job := { s.job with mismatches := 0, exhausted := false, holdAfter := false } }).promoteRx.askAgain
  let s := ((((s.coreChanges.cutAtMolt).settleRun).settleLoads).repairCommitted)
  (if hold then s.enterHeld else s).atBoundary.settleSteps

/-! ### Non-finite steps (R251) -/

/-- The copy pass of SKIP_STEP begins, and the module votes again in the next round. -/
def State.skipStep (s : State) : State :=
  let u := { s.upd with stripes := [], factors := [], header := false, rerun := [], copying := true }
  let b : BarrierSt := { round := s.barrier.round + 1, awaitNew := s.barrier.awaitNew }
  let s := { s with upd := u, barrier := b, step := .checking, job := { s.job with digests := [], digestDone := false } }
  ((s.wr F.CHK_MIRROR_STATUS_fence 0).wr F.UPD_STATUS_phase 6).wr F.UPD_STATUS_stripes_done 0

/-- NONFINITE under UPD_NAN_POLICY (log entry 71). -/
def State.onNonfinite (s : State) : State :=
  let s := s.wr F.CHK_MOLT_STATUS_last_decision 2
  let p := s.rd F.UPD_NAN_POLICY_policy
  if p = 1 then s.skipStep
  else if p = 2 ∧ s.reductions + 1 ≤ s.rd F.UPD_NAN_POLICY_max_reductions ∧ s.effExp ≠ s.minExp then
    (s.discardStep 0xF 0 false).add F.UPD_STATUS_reductions 1
  else s.discardStep 0xF 0 true

/-! ### Votes and decisions (R311 to R313) -/

/-- Send a DECISION to every child; a DISCARD carries its cause and origin (log entry 90). -/
def State.sendDecision (s : State) (code cause flags count origin : Nat) : State :=
  s.kids.foldl (fun t k => t.sendBarrier (t.moduleOf k) 0x11 code cause flags count origin 0) s

/-- The root sends its MOLT record to its partner (R312). -/
def State.sendMoltRecord (s : State) : State :=
  let s := s.sendBarrier s.partner 0x12 1 0 0 0 0 0
  { s with barrier := { s.barrier with recordSent := true, due := 0 } }

/-- The root's decision on a whole tree without FAIL. -/
def State.decideTree (s : State) (nf : Bool) : State :=
  if nf then (s.sendDecision 2 0 0 0 0).onNonfinite
  else if s.rankCount = 1 then s.flip
  else s.sendMoltRecord

/-- The tick ends: what the root found in it is decided, now that no FAIL of the tick can come any more (R314). -/
def State.decideDue (s : State) : State :=
  if s.alive && s.isRoot && s.step == .moltPending && s.barrier.due != 0 then
    State.decideTree { s with barrier := { s.barrier with due := 0 } } (s.barrier.due == 2)
  else s

/-- Every vote of the subtree is in. -/
def State.treeVoted (s : State) : Bool := s.barrier.own != 0 && s.kids.all (fun k => (sget? s.barrier.kids k).isSome)

/-- Send the subtree's vote up (R311); the root of several ranks decides at the end of the tick (R312, R314). -/
def State.tryUp (s : State) : State :=
  if !s.treeVoted || s.barrier.sentUp || s.barrier.recordSent then s
  else
    let nf := s.barrier.own == 2 || s.barrier.kids.any (fun p => p.2 == 2)
    if s.isRoot then
      if s.rankCount = 1 then s.decideTree nf else { s with barrier := { s.barrier with due := if nf then 2 else 1 } }
    else
      let s := { s with barrier := { s.barrier with sentUp := true } }
      s.sendBarrier (s.moduleOf (barrierParent s.rank)) 0x10 (if nf then 2 else 1) 0 0 0 0 0

/-- A child's subtree fails: its first origin and cause are kept (R311). -/
def State.childFails (s : State) (k cause origin : Nat) : State :=
  let first := s.barrier.own != 3 && !s.barrier.kids.any (fun p => p.2 == 3)
  let b := { s.barrier with kids := sput s.barrier.kids k 3, cause := (if first then cause else s.barrier.cause),
                            origin := (if first then origin else s.barrier.origin) }
  ({ s with barrier := b }).passFail

/-- A message of the present instar, attempt and round (R310). -/
def State.current (s : State) (f : Flit) : Bool :=
  field f.payload 8 8 == s.nextInstar && field f.payload 1 1 == s.replay && field f.payload 2 1 == s.barrier.round

/-- A barrier message of a kind. -/
def isBarrier (f : Flit) (kind : Nat) : Bool := f.dstAddr == 0 && flitKind f == kind

/-- A child's vote is taken (R311). -/
def State.onVote (s : State) (f : Flit) : State :=
  match s.rankAt f.srcModule with
  | none => s
  | some k =>
    let code := field f.payload 3 1
    let old := sget 0 s.barrier.kids k
    if !isBarrier f 0x10 || !s.current f || !s.live || !s.kids.contains k || s.barrier.recordSent then s
    else if code = 3 then (if old = 3 then s else s.childFails k (field f.payload 4 1) (field f.payload 16 2))
    else if (code = 1 ∨ code = 2) ∧ old = 0 then ({ s with barrier := { s.barrier with kids := sput s.barrier.kids k code } }).tryUp
    else s

/-- VOTE. -/
def execVote (f : Flit) (s : State) : Host.Outcome State Fault Refusal :=
  .next (s.onFlit f .control (fun s => s.onVote f))

/-- A DECISION is acted on (R313, R350). -/
def State.actOn (s : State) (code cause flags count origin : Nat) : State :=
  if code = 1 then (if s.step == .moltPending then s.flip else s)
  else if code = 2 then (if s.step == .moltPending then s.onNonfinite else s)
  else if code = 3 then
    ((s.wr F.CHK_MOLT_STATUS_last_decision 3).wr F.ERR_STATUS_local_discards count).discardStep cause origin (bitAt flags 0)
  else s

/-- Tell children that the step of instar `n` has molted, or, with cause 7, that it is discarded, in a new epoch (R315). What is
discarded is the attempt before the one that this module brings, so that a module which replays already keeps its replay. -/
def State.sayDecision (s : State) (ks : List Nat) (n code cause count : Nat) : State :=
  ks.foldl (fun t k => t.sendFlit (t.envelope (t.moduleOf k) 0 .control 2 true 0
    (barrierBytes 0x11 (if code = 3 then t.replay - 1 else t.replay) 0 code cause 0 count n 0 0))) s

/-- A DECISION is taken: for the present attempt, or, after a rise of the mapping epoch, for the step whatever its attempt
(R315); it goes to the children first. A module that has flipped passes a further MOLT on and ignores it (R313). -/
def State.onDecision (s : State) (f : Flit) : State :=
  let b := f.payload
  let mine := s.current f || (s.barrier.awaitNew && field b 8 8 == s.nextInstar)
  if isBarrier f 0x11 && field b 3 1 == 1 && field b 8 8 == s.instar then s.sayDecision s.kids s.instar 1 0 0
  else if !isBarrier f 0x11 || !mine || !s.live then s
  else
    let s := s.sendDecision (field b 3 1) (field b 4 1) (field b 5 1) (field b 6 1) (field b 16 2)
    s.actOn (field b 3 1) (field b 4 1) (field b 5 1) (field b 6 1) (field b 16 2)

/-- DECISION. -/
def execDecision (f : Flit) (s : State) : Host.Outcome State Fault Refusal :=
  .next (s.onFlit f .control (fun s => s.onDecision f))

/-- The partner of rank 0 accepts a MOLT record and acknowledges it (R312). -/
def State.onRecord (s : State) (f : Flit) : State :=
  if isBarrier f 0x12 && s.current f && field f.payload 3 1 == 1 && s.heldRank == some 0 && f.srcModule == s.moduleOf 0 then
    let r : RecordSt := { instar := s.nextInstar, flips := 0 }
    let s := { s with mirror := { s.mirror with record := some r } }
    s.sendBarrier f.srcModule 0x13 0 0 0 0 0 0
  else s

/-- RECORD. -/
def execRecord (f : Flit) (s : State) : Host.Outcome State Fault Refusal :=
  .next (s.onFlit f .control (fun s => s.onRecord f))

/-- The record is accepted: the step has molted, and the root tells its children and flips (R312). -/
def State.onRecordAck (s : State) (f : Flit) : State :=
  if isBarrier f 0x13 && s.current f && s.isRoot && s.barrier.recordSent && s.step == .moltPending && f.srcModule == s.partner then
    (s.sendDecision 1 0 0 0 0).flip
  else s

/-- RECORD_ACK. -/
def execRecordAck (f : Flit) (s : State) : Host.Outcome State Fault Refusal :=
  .next (s.onFlit f .control (fun s => s.onRecordAck f))

/-- A member's digest is taken (R321). -/
def State.onDigest (s : State) (f : Flit) : State :=
  let r := field f.payload 16 2
  if isBarrier f 0x14 && s.current f && s.live && s.replicas.contains r && s.moduleOf r == f.srcModule then
    ({ s with job := { s.job with digests := sput s.job.digests r (field f.payload 24 32) } }).settleDigest
  else s

/-- DIGEST. -/
def execDigest (f : Flit) (s : State) : Host.Outcome State Fault Refusal :=
  .next (s.onFlit f .control (fun s => s.onDigest f))

/-- VOTE_TIMEOUT (R314): the root decides DISCARD when its timer has expired before the last vote. -/
def execVoteTimeout (s : State) : Host.Outcome State Fault Refusal :=
  match s.barrier.deadline with
  | none => .next s
  | some d =>
    if s.alive && s.isRoot && s.step == .moltPending && !s.barrier.recordSent && s.barrier.due == 0 && s.past d then .next (s.decideDiscard 6 s.rank)
    else .next s

/-! ### Canaries (R322 to R325) -/

/-- An entry of the canary image; an image outside the heap names none (log entry 32). -/
def State.canaryCount (s : State) : Nat :=
  let a := s.rd F.CHK_CANARY_CTRL_image
  let w := s.load64 a
  if s.inHeap a 64 && s.inHeap (fld w 47 0) (64 * fld w 63 48) then fld w 63 48 else 0
def State.canaryWords (s : State) (e : Nat) : List Nat := s.loadWords (fld (s.load64 (s.rd F.CHK_CANARY_CTRL_image)) 47 0 + 64 * e) 8
def canaryKind (w : List Nat) : Nat := fld (wd w 0) 63 60
def canaryOut (w : List Nat) (unit : Nat) : Nat := fld (wd w 2) 47 0 + unit * fld (wd w 3) 39 0
def canaryOnCore (w : List Nat) : Bool := canaryKind w == 0 || canaryKind w == 1 || canaryKind w == 2 || canaryKind w == 6

/-- The units that run an entry: logical cores, engines in service, or the one built-in pattern. -/
def State.canaryUnits (s : State) (w : List Nat) : List Nat :=
  if canaryOnCore w then allCores
  else if canaryKind w = 3 then (List.range 4).filter s.engineUp
  else if canaryKind w = 4 ∨ canaryKind w = 5 then [0] else []

/-- Every output due in the attempt has passed. -/
def State.canariesPassed (s : State) : Bool :=
  !s.canary.due || (List.range s.canaryCount).all (fun e => (s.canaryUnits (s.canaryWords e)).all (fun u => s.canary.passed.contains (e, u)))

/-- Canary entry `e` may start on unit `u` now (R324). -/
def State.canaryMay (s : State) (e u : Nat) : Bool :=
  let w := s.canaryWords e
  let live := s.alive && s.canary.due && (s.working || s.step == .checking) && s.barrier.own == 0
  live && decide (e < s.canaryCount) && (s.canaryUnits w).contains u && !s.canary.started.contains (e, u) &&
  (if canaryOnCore w then
    decide ((s.listOf u false).1 ≤ (s.wing u false).idx) && decide ((s.listOf u true).1 ≤ (s.wing u true).idx) &&
      (s.wing u false).run.isNone && (s.wing u true).run.isNone && !s.sched.fenced.contains u && s.inHeap (fld (wd w 1) 47 0) 64
  else if canaryKind w = 3 then s.upd.header else true)

/-- CANARY_START: the canary segment of a core, which its ended lists had left power-gated (R390), runs on its wing; the engines' and the built-in work is its unit's own. -/
def execCanaryStart (entry unit : Nat) (s : State) : Host.Outcome State Fault Refusal :=
  if s.canaryMay entry unit then
    let w := s.canaryWords entry
    let s := ({ s with canary := { s.canary with started := s.canary.started ++ [(entry, unit)] } }).wr F.CHK_CANARY_STATUS_running 1
    if canaryOnCore w then
      let ws := s.loadWords (fld (wd w 1) 47 0) 8
      let hw := segKind ws != 1
      let x := s.readWork ws 0
      let run : RunSeg := { words := ws, tiles := x.tiles, launches := x.launches, rows := x.rows, epilogue := x.epilogue, canary := some entry }
      let s := (List.range (segPriv ws).2).foldl (fun t k => t.syncSet ((segPriv ws).1 + k) 0) (s.loseStores (s.phys unit) false)
      .next ((s.setWing unit hw { s.wing unit hw with run := some run }).feed unit hw)
    else .next s
  else .next s

/-- The wing of core `u` that runs canary entry `e`, with its segment. -/
def State.canaryRun (s : State) (e u : Nat) : Option (Bool × RunSeg) :=
  [false, true].findSome? (fun hw => match (s.wing u hw).run with
    | some r => if r.canary = some e then some (hw, r) else none
    | none => none)

/-- The digest of an output is the one expected (R324) (log entry 33). -/
def State.canaryGood (s : State) (w : List Nat) (u : Nat) : Bool :=
  let a := canaryOut w u
  let n := fld (wd w 3) 39 0
  !s.poisoned a n && Config.shake256 (s.loadN a n) % 2 ^ 256 == leNat (wordBytes (w.drop 4))

/-- An output has passed. -/
def State.canaryPass (s : State) (e u : Nat) : State :=
  let c := { s.canary with passed := s.canary.passed ++ [(e, u)] }
  let s := { s with canary := c }
  if c.started.all (fun x => c.passed.contains x) then s.wr F.CHK_CANARY_STATUS_running 0 else s

/-- A mismatch (R325): FAIL with cause 4, the unit is marked, and the entry is run once more for diagnosis; the first of an attempt is
the one recorded (log entry 33). -/
def State.canaryFail (s : State) (e u : Nat) : State :=
  let w := s.canaryWords e
  let s := if s.canary.rerun then s
    else
      let s := ((s.wr F.CHK_CANARY_STATUS_kind (canaryKind w)).wr F.CHK_CANARY_STATUS_unit u).wr F.CHK_CANARY_STATUS_entry e
      { s with canary := { s.canary with failed := some (e, u), rerun := true } }
  let s := s.failStep 4 true
  if canaryOnCore w then (if s.suspect u then s else s.markSuspect u)
  else if canaryKind w = 3 then s.dropEngine u else s

/-- The diagnostic rerun has ended: its outcome is recorded and CANARY_FAIL is raised (R325). -/
def State.canaryRerun (s : State) (ok : Bool) : State :=
  let s := { s with canary := { s.canary with failed := none, rerun := false } }
  let s := (s.wr F.CHK_CANARY_STATUS_valid 1).wr F.CHK_CANARY_STATUS_rerun_passed (bit ok)
  s.fatalJob .CANARY_FAIL (s.rd F.CHK_CANARY_STATUS_unit) [s.recWord Rec.chkCanaryStatus 0] 4

/-- CANARY_COMPLETE (R324, R325): the output of an entry on a core is compared once its segment has ended; `ok` is the outcome of
the work that the model does not compute: the engines' canary table, the built-in patterns and the diagnostic rerun (log
entry 33). -/
def execCanaryComplete (entry unit : Nat) (ok : Bool) (s : State) : Host.Outcome State Fault Refusal :=
  if !s.alive then .next s
  else if s.canary.rerun && s.canary.failed == some (entry, unit) then .next (s.canaryRerun ok)
  else if !s.canary.started.contains (entry, unit) || s.canary.passed.contains (entry, unit) then .next s
  else
    let w := s.canaryWords entry
    if canaryOnCore w then
      match s.canaryRun entry unit with
      | none => .next s
      | some (hw, r) =>
        if r.workDone && decide ((segEpi r.words).1 ≤ r.epi) then
          let s := s.setWing unit hw { s.wing unit hw with run := none }
          .next (if s.canaryGood w unit then s.canaryPass entry unit else s.canaryFail entry unit)
        else .next s
    else .next (if ok then s.canaryPass entry unit else s.canaryFail entry unit)

/-! ### The module's vote (R311) -/

/-- A poisoned granule of the incoming bank (R172). -/
def State.incomingPoison (s : State) : Option Nat :=
  (s.mem.hbmPoison.find? (fun p => p.2 && s.inRegion s.incoming (64 * p.1) 64)).map (fun p => 64 * p.1)

/-- The local conditions of R30 that do not depend on the values: header, fence, digests, canaries. -/
def State.conditionsMet (s : State) : Bool :=
  s.upd.header && s.isSet F.CHK_MIRROR_STATUS_fence && s.job.digestDone && s.canariesPassed

/-- In HELD mode a non-finite OR of R236 ends the update engines' work without a header (R249). -/
def State.heldNonFinite (s : State) : Bool := !s.arrival && s.upd.normDone && s.upd.normOr && !s.upd.copying

/-- Cast the module's vote: 1 READY, 2 READY_NF; the root's timer starts (R314) (log entry 82). -/
def State.castVote (s : State) (v : Nat) : State :=
  let b := { s.barrier with own := v, votedAt := s.tick,
                            deadline := if s.isRoot then some (s.tick + msTicks (s.rd F.CHK_MOLT_CTRL_vote_timeout_ms)) else none }
  ({ s with barrier := b, step := .moltPending }).tryUp

/-- MODULE_VOTE (R311). -/
def execModuleVote (s : State) : Host.Outcome State Fault Refusal :=
  if s.alive && s.step == .checking && s.barrier.own == 0 && (s.conditionsMet || s.heldNonFinite) then
    match (if s.heldNonFinite then none else s.incomingPoison) with
    | some a => .next ((s.consumed 3 a).failStep 2 false)
    | none =>
      let nf := s.heldNonFinite || (!s.upd.copying && s.nonFinite)
      .next ((if nf then s.wr F.UPD_STATUS_nonfinite 1 else s).castVote (if nf then 2 else 1))
  else .next s

/-! ### The mirror (R329, R330) -/

/-- The served module begins to copy for its partner (R329). -/
def State.startBuild (s : State) : State :=
  if s.rankCount = 1 then s
  else ((({ s with mirror := { s.mirror with buildLeft := 2, whole := false } }).wr F.CHK_MIRROR_STATUS_building 1).wr
    F.CHK_MIRROR_STATUS_own_complete 0).wr F.CHK_MIRROR_STATUS_progress 0

/-- The tag of build flits: the mirror fence does not wait for them. -/
def buildTag : Nat := 2 ^ 62 + 1

/-- Copy bytes of a bank to its copy at the partner (log entry 69). -/
def State.buildCopy (s : State) (a n : Nat) : State :=
  State.sendWrites s.partner (s.job.mirrorAt + a) buildTag (n / 256 + 1) s (s.loadMarked a n) 0

/-- FROZEN extents as (offset, length). -/
def State.frozenRuns (s : State) : List (Nat × Nat) :=
  (s.upd.table.filter ueFrozen).map (fun e => (ueOff e, extentBytes e))

/-- The served side's copies (R329): FROZEN extents into both bank copies, then the committed bank, unless a molt has made that
unnecessary (R331). -/
def State.buildWrites (s : State) : State :=
  let t := s.frozenRuns.foldl (fun t r => (t.buildCopy (t.bankBase 0 + r.1) r.2).buildCopy (t.bankBase 1 + r.1) r.2) s
  let n := ((s.frozenRuns.map Prod.snd).sum) * 2 + (if s.mirror.buildLeft = 2 then s.bankBytes else 0)
  let t := if s.mirror.buildLeft = 2 then t.buildCopy (t.bankBase t.bank) t.bankBytes else t
  (({ t with mirror := { t.mirror with buildLeft := 0 } }).wr F.CHK_MIRROR_STATUS_building 0).wr F.CHK_MIRROR_STATUS_progress (n / unit64M)

/-- The first poisoned granule of the committed bank that the copies read (R172). -/
def State.buildPoison (s : State) : Option Nat :=
  ((if s.mirror.buildLeft = 2 then [(0, s.bankBytes)] else s.frozenRuns).filterMap (fun r =>
    s.firstPoison (s.bankBase s.bank + r.1) r.2)).head?

/-- MIRROR_BUILD_END (R329): on the served side (`held` false) the copying ends, or meets poison; at the partner the build ends, the mirror held is
complete and the served module is told. -/
def execMirrorBuildEnd (held : Bool) (s : State) : Host.Outcome State Fault Refusal :=
  if !s.alive || !s.job.active then .next s
  else if held then
    match s.heldRank with
    | none => .next s
    | some r =>
      .next ((s.wr F.CHK_MIRROR_STATUS_held_complete 1).sendBarrier (s.moduleOf r) 0x15 0 0 0 0 0 0)
  else if s.mirror.buildLeft = 0 then .next s
  else match s.buildPoison with
    | some g => .next (s.consumePoison g)
    | none => .next s.buildWrites

/-- The partner has this rank's mirror whole. -/
def State.onMirrorDone (s : State) (f : Flit) : State :=
  if isBarrier f 0x15 && s.current f && f.srcModule == s.partner then
    ({ s with mirror := { s.mirror with buildLeft := 0 } }).wr F.CHK_MIRROR_STATUS_own_complete 1 |>.wr F.CHK_MIRROR_STATUS_building 0
  else s

/-- MIRROR_DONE (R329). -/
def execMirrorDone (f : Flit) (s : State) : Host.Outcome State Fault Refusal :=
  .next (s.onFlit f .control (fun s => s.onMirrorDone f))

/-- A bank's header is this rank's, of an instar (R330). -/
def State.headerIs (s : State) (b instar : Nat) : Bool :=
  s.hdrWord b 0 == instar && fld (s.hdrWord b 5) 31 0 == s.jobId && fld (s.hdrWord b 5) 47 32 == s.rank

/-- The pulled bank is taken as the committed bank (R330): MOD_STEP and MOD_INSTAR follow it, and its FROZEN extents go to the
other bank. -/
def State.takePulled (s : State) (b instar : Nat) (complete : Bool) : State :=
  let s := (((s.wr F.MOD_STEP_active_bank b).wr F.MOD_INSTAR_instar instar).wrBit F.CHK_MIRROR_STATUS_own_complete complete).showScale
  s.frozenRuns.foldl (fun t r => t.copyMarked (t.bankBase b + r.1) (t.bankBase (1 - b) + r.1) r.2) s

/-- After the pull a module that serves rank 0 decides for the step that was pending (R315): MOLT with the partner's record,
else DISCARD. -/
def State.rootAfterPull (s : State) (instar : Nat) (record : Bool) : State :=
  if !s.isRoot then s
  else if record then s.sayDecision s.kids instar 1 0 0
  else s.sayDecision s.kids (instar + 1) 3 7 (s.rd F.ERR_STATUS_local_discards)

/-- STATE_PULL_DONE (R330): the pull has brought the partner's copies. `instar` is the job's committed instar as the partner
holds it, `record` says that the partner holds its MOLT record, `heldComplete` is the partner's held_complete. -/
def execStatePullDone (instar : Nat) (record heldComplete : Bool) (s : State) : Host.Outcome State Fault Refusal :=
  if !s.alive || !s.mirror.pulling then .next s
  else
    let s := { s with mirror := { s.mirror with pulling := false } }
    match [0, 1].find? (fun b => s.headerIs b instar) with
    | none => .next (s.fatalJob .MIRROR_LOST s.rank [] 0xF)
    | some b =>
      if !heldComplete || s.mem.hbmPoison.any (fun p => p.2 && s.inRegion b (64 * p.1) 64) then
        .next (s.fatalJob .MIRROR_LOST s.rank [] 0xF)
      else .next ((s.takePulled b instar heldComplete).rootAfterPull instar record)

end Sys2Proof.Machine
end

