-- ==== Sys2Proof/Machine/InField.lean ====
section
/-! DEFINITION. Machine/InField.lean: in-field test and core rotation (R334 to R339) and the hourly retry trend (R344). -/

namespace Sys2Proof.Machine

def minTicks (n : Nat) : Nat := n * 6000000000
def State.testPeriod (s : State) : Nat := minTicks (s.rd F.CHK_TEST_CTRL_period_min)
def State.testing (s : State) : Bool := s.alive && s.isSet F.CHK_TEST_CTRL_enable
def State.lastTest (s : State) (p : Nat) : Nat := s.rdAt F.CHK_CORE_TEST_tick p
/-- Cores of a quadrant under test. -/
def State.underTest (s : State) (q : Nat) : Nat := ((quadPhys q).filter (fun p => s.isSetAt F.CHK_CORE_TEST_testing p)).length

/-- ROTATION_DUE (R335): the interval, period ÷ 68, has passed since the quadrant's last rotation. -/
def execRotationDue (quadrant : Nat) (s : State) : Host.Outcome State Fault Refusal :=
  if s.testing && decide (quadrant < 4) && !s.test.due.contains quadrant &&
      decide (s.testPeriod ≤ 68 * (s.tick - sget 0 s.test.rotated quadrant)) then
    .next { s with test := { s.test with due := s.test.due ++ [quadrant] } }
  else .next s

/-- CORE_TEST_COMPLETE (R336, R337): a core that passes is a free spare again, or serves on; one that fails is retired. -/
def execCoreTestComplete (phys : Nat) (passed : Bool) (s : State) : Host.Outcome State Fault Refusal :=
  if s.powered && decide (phys < 272) && s.isSetAt F.CHK_CORE_TEST_testing phys then
    let s := s.wrAt F.CHK_CORE_TEST_testing phys 0
    if passed then .next ((s.wrAt F.CHK_CORE_TEST_result phys 1).wrAt F.CHK_CORE_TEST_tick phys s.tick)
    else .next ((((s.wrAt F.CHK_CORE_TEST_result phys 2).retireCore phys).raiseRec .CORE_TEST_FAIL phys Rec.chkCoreTest phys).warn)
  else .next s

/-- A physical core's last test is a period old. -/
def State.testDue (s : State) (p : Nat) : Bool := decide (s.lastTest p + s.testPeriod ≤ s.tick)

/-- SPARE_TEST_DUE (R337): a free spare is tested in place; while no job runs, every core is, at most four per quadrant at once. -/
def execSpareTestDue (phys : Nat) (s : State) : Host.Outcome State Fault Refusal :=
  let q := quadOfPhys phys
  let free := (s.spares q).contains phys
  let idle := !s.job.active && !s.test.retired.contains phys && !s.isSetAt F.CHK_CORE_TEST_testing phys && decide (s.underTest q < 4)
  if s.testing && decide (phys < 272) && s.testDue phys && (if s.job.active then free else idle) then .next (s.beginTest phys) else .next s

/-- TEST_DEFER_TIMER (R339). -/
def execTestDeferTimer (s : State) : Host.Outcome State Fault Refusal :=
  if s.testing && s.live && !s.test.due.isEmpty && !s.test.deferred && s.past (s.job.openedAt + 4 * hourTicks - 1) then
    .next ((({ s with test := { s.test with deferred := true } }).wr F.CHK_TEST_STATUS_deferred 1).raise .TEST_DEFERRED)
  else .next s

/-- TEST_OVERDUE_TIMER (R339): once per job. -/
def execTestOverdueTimer (s : State) : Host.Outcome State Fault Refusal :=
  if s.testing && s.job.active && !s.isSet F.CHK_TEST_STATUS_overdue &&
      allCores.any (fun n => s.past (s.lastTest (s.rdAt F.MOD_CORE_MAP_phys_core n) + s.testPeriod + 24 * hourTicks)) then
    .next ((s.wr F.CHK_TEST_STATUS_overdue 1).raise .TEST_OVERDUE)
  else .next s

/-- TEST_NOW (R337): a rotation is due in every quadrant, and every free spare is tested at once. -/
def State.testNow (s : State) : State :=
  let s := { s with test := { s.test with due := [0, 1, 2, 3] } }
  (((List.range 4).flatMap s.spares)).foldl State.beginTest s

/-- CHK_TEST_NOW: a write of CHK_TEST_CTRL.test_now (R337, R340). -/
def execChkTestNow (s : State) : Host.Outcome State Fault Refusal :=
  .next (if s.alive && s.mode != .dormant then (s.wr F.CHK_TEST_CTRL_test_now 1).testNow else s)

/-- One core's retries of the past hour against ERR_RETRY_THRESH, at most once per core per job (R344). -/
def State.retryTrend (s : State) (n : Nat) : State :=
  let k := sget 0 s.job.retries n
  if s.rd F.ERR_RETRY_THRESH_per_hour < k ∧ !s.job.retryRaised.contains n then
    (({ s with job := { s.job with retryRaised := s.job.retryRaised ++ [n] } }).raise .CORE_RETRY_TREND n).warn
  else s

/-- CORE_RETRY_HOURLY (R344): at a whole hour of MOD_TICK the counts are compared and begin again. -/
def execCoreRetryHourly (s : State) : Host.Outcome State Fault Refusal :=
  if s.alive && s.job.active && decide (s.job.retryHour < s.tick / hourTicks) then
    let s := s.each (s.job.retries.map Prod.fst) State.retryTrend
    .next { s with job := { s.job with retries := [], retryHour := s.tick / hourTicks } }
  else .next s

end Sys2Proof.Machine
end

