-- ==== Sys2Proof/Machine/Steps.lean ====
section
/-! DEFINITION. Machine/Steps.lean: opening and replaying steps (R33, R222, R248, R305 to R307), the ring commands 0x21 to 0x25
(R221), and the runtime's writes for kept inputs. -/

namespace Sys2Proof.Machine

/-! ### Flits that waited for the attempt (R187) -/

/-- The content of a held flit. -/
def State.deliver (s : State) (f : Flit) : State :=
  match f.type with
  | .write => match s.mirrorWait f with
    | some t => t
    | none => s.onWrite f
  | .readReq => ((s.readWait f).getD s).onReadReq f
  | .readData => s.onReadData f
  | .queueItem => s.onItem f true
  | .syncAdd => s.onSyncAdd f
  | .collData => s.onCollData f
  | .control => ((((s.onVote f).onRecord f).onRecordAck f).onDigest f).onMirrorDone f
  | _ => s

def State.deliverHeld (s : State) : State :=
  let r := s.releaseHeld
  r.1.foldl State.deliver r.2

/-- A tick of the reference clock ends: the root decides (R314), flits held for an attempt that has become the module's own and that need
not wait for its opening are taken (R187), segments feed what their queues take (R211), and counter operations take effect whose transfers and
items are gone (R192). -/
def State.endOfTick (s : State) : State := s.decideDue.deliverHeld.feedAll.settleOps

/-! ### Opening an attempt (R222, R248) -/

/-- Put fields back to zero for every element at once; each of them has reset value 0. -/
def State.zeroAll (s : State) (fs : List Field) : State :=
  { s with regs := skeep (fun k => !fs.any (fun f => k % 2 ^ 64 == f.slot)) s.regs }

/-- What the registers of one attempt count or keep, cleared when a step opens or replays (R67, R155, R174, R222). -/
def attemptFields : List Field :=
  [F.ARR_FLAGS_scale_uf, F.ARR_FLAGS_scale_ovf, F.ARR_FLAGS_sat, F.ARR_FLAGS_uf, F.ARR_FLAGS_of, F.ARR_FLAGS_nv,
   F.ARR_DESC_FLAGS_FW_desc_done, F.ARR_DESC_FLAGS_HW_desc_done, F.ARR_CHK_STATUS_retries_attempt,
   F.ROW_FLAGS_uf, F.ROW_FLAGS_of, F.ROW_FLAGS_nv, F.ROW_CTX_FLAGS_ctx_done,
   F.VEC_FLAGS_sat, F.VEC_FLAGS_nx, F.VEC_FLAGS_uf, F.VEC_FLAGS_of, F.VEC_FLAGS_nv, F.VEC_LAUNCH_DONE_launches_done, F.VEC_FAULT_valid,
   F.SCH_TILES_fw_tiles, F.SCH_TILES_hw_tiles, F.SCH_SEGS_fw_done, F.SCH_SEGS_hw_done]

def attemptSingles : List Field :=
  [F.MEM_POISON_LAST_valid, F.SCH_LATE_valid, F.FAB_COLL_FLAGS_uf, F.FAB_COLL_FLAGS_of, F.FAB_COLL_FLAGS_nv, F.SCH_ADMIT_next,
   F.SCH_ADMIT_in_flight, F.SCH_COCOON_reserved_units, F.CHK_TEST_STATUS_deferred, F.CHK_MIRROR_STATUS_fence, F.CHK_MIRROR_BYTES_bytes]

/-- The counter initialisation list, in list order (R205, R222). -/
def State.initCounters (s : State) : State :=
  let w := s.headerWord 4
  (List.range (fld w 63 48)).foldl (fun t k =>
    let a := fld w 47 0 + 16 * k
    t.syncSet (fld (s.load64 a) 16 0) (s.load64 (a + 8))) s

/-- Wings stopped by a rejection, and engines likewise, take work again (R86, R124, R139). -/
def State.restartEngines (s : State) : State :=
  { s with arr := smap (fun _ a => { a with stopFw := false, stopHw := false }) s.arr,
           row := smap (fun _ r => { r with stopped := false }) s.row,
           vec := smap (fun _ v => { v with stopped := false }) s.vec }

/-- An attempt opens (R222): the attempt record, the counters, the registers of the attempt, admission, the heads of the lists, then
what waited for it (log entry 59); a program with no segment has no micro-batch work to do. -/
def State.beginAttempt (s : State) (st : StepState) : State :=
  let s := s.openUpd
  let s := s.initCounters
  let sc := { s.sched with arb := [], resv := [] }
  let s : State := { s with sched := sc }
  let s := (s.zeroAll attemptFields).clear attemptSingles
  let s := s.restartEngines
  let due := s.job.firstAttempt || s.nextInstar % max 1 (s.rd F.CHK_CANARY_CTRL_period) == 0
  let j := { s.job with trapArmed := s.isSet F.ERR_CTRL_nan_trap, nanAttempt := false, openedAt := s.tick, firstAttempt := false, starting := false }
  let s := { s with step := st, job := j, canary := { s.canary with due := due }, mirror := { s.mirror with whole := true } }
  let s := (s.wr F.SCH_COCOON_free s.cocoonUnits).openQueues.resendRingTags
  (if st == .opened then s.scheduledCut else s.servePending).readHeads.deliverHeld.toChecking

/-- STEP_RUN completes when its first step has opened: no replay completes it (R221). -/
def State.openDone (s : State) : State :=
  let n := s.nextInstar
  let done (c : RingCmd) : RingCmd :=
    if c.started && c.result.isNone && cmdOp c.words == 0x21 then { c with result := some (0, n) } else c
  { s with rings := smap (fun _ r => { r with cmds := r.cmds.map done }) s.rings }

/-! ### The input map (R304, R305) -/

def State.keptEntry (s : State) (a k : Nat) : Nat × Nat := (fld (s.load64 (a + 16 * k)) 47 0, fld (s.load64 (a + 16 * k + 8)) 39 0)

/-- The table named by CHK_KEPT_NEXT passes its check. -/
def State.keptOk (s : State) : Bool :=
  let n := s.rd F.CHK_KEPT_NEXT_count
  let a := s.rd F.CHK_KEPT_NEXT_address
  n == s.mbCount && a % 64 == 0 && s.inHeap a (16 * n) &&
  (List.range n).all (fun k => (s.keptEntry a k).1 % 64 == 0 && s.inRegion 3 (s.keptEntry a k).1 (s.keptEntry a k).2)

/-- Latch the table as the step's input map. -/
def State.latchInputs (s : State) : State :=
  let n := s.rd F.CHK_KEPT_NEXT_count
  let a := s.rd F.CHK_KEPT_NEXT_address
  let m := (List.range n).map (s.keptEntry a)
  ((({ s with job := { s.job with inputs := m, repairs := [] } }).wr F.CHK_KEPT_CUR_valid 1).wr F.CHK_KEPT_CUR_count n).wr
    F.CHK_KEPT_CUR_address a

/-- Nothing but the inputs keeps a step from opening. -/
def State.mayOpen (s : State) : Bool :=
  s.alive && s.mode == .running && (s.step == .none || s.step == .molted) && s.isSet F.SCH_STEP_loaded && s.isSet F.SCH_RUN_running &&
  !s.isSet F.SCH_RUN_stopping && !s.upd.regenDue && s.job.boundary.isNone && s.job.losses.isEmpty && !s.mirror.pulling

/-- One of the steps of STEP_RUN opens: at the last of a limited run none is left to open (R221, log entry 34). -/
def State.countStep (s : State) : State :=
  let n := s.rd F.SCH_RUN_steps_left
  if n = 0 then s
  else if n = 1 then s.clear [F.SCH_RUN_running, F.SCH_RUN_steps_left] else s.wr F.SCH_RUN_steps_left (n - 1)

/-- STEP_OPEN (R222, R305): the step opens for its first attempt once its inputs are ready. -/
def execStepOpen (s : State) : Host.Outcome State Fault Refusal :=
  if !s.mayOpen then .next s
  else if !s.isSet F.CHK_KEPT_NEXT_ready then
    .next { s with step := .none, job := { s.job with waitSince := some (s.job.waitSince.getD s.tick) } }
  else
    match s.firstPoison (s.bankBase s.bank) 256 with
    | some g => .next (s.consumePoison g)
    | none =>
    let s := (s.endInputWait).wr F.CHK_KEPT_NEXT_ready 0
    if !s.keptOk then .next (({ s with step := .none }).raise .KEPT_MAP_INVALID).enterHeld
    else
      let s := s.latchInputs.countStep
      .next ((s.beginAttempt (if s.replay = 0 then .opened else .replaying)).openDone.finishDirectives 3)

/-- STEP_REPLAY (R33): a discarded step restarts on its own from instar N and its kept inputs (R306, R307, R350, R353). -/
def execStepReplay (s : State) : Host.Outcome State Fault Refusal :=
  if s.alive && s.mode == .running && s.step == .discarded && s.job.losses.isEmpty && s.job.boundary.isNone &&
      !s.isSet F.CHK_KEPT_CUR_repair && !s.upd.regenDue && !s.mirror.pulling then
    match s.firstPoison (s.bankBase s.bank) 256 with
    | some g => .next (s.consumePoison g)
    | none => .next (((s.wr F.CHK_KEPT_CUR_repair_done 0).beginAttempt .replaying).finishDirectives 3)
  else .next s

/-! ### Ring commands (R221) -/

/-- STEP_RUN: the update table and the replica set are checked first (R233, R319). -/
def State.stepRun (s : State) (r seq : Nat) (ws : List Nat) : State :=
  if !s.isSet F.SCH_STEP_loaded || s.mode != .running then s.ringResult r seq 3 0
  else match s.tableBad s.upd.place s.upd.table with
    | some b => (s.rejectTable 0 b.1 b.2).ringResult r seq 3 0
    | none =>
      let m := s.replicas.length
      if 256 < m then (s.raise .REPLICA_INVALID).ringResult r seq 3 0
      else
        let s := (s.markStarted r seq 0 0).wr F.CHK_REPLICA_members m
        let s := ((s.wr F.SCH_RUN_running 1).wr F.SCH_RUN_stopping 0).wr F.SCH_RUN_steps_left (fld (wd ws 1) 31 0)
        { s with job := { s.job with cmdSeq := seq } }

/-- STEP_RUN (R221). -/
def execStepRun (ring seq : Nat) (s : State) : Host.Outcome State Fault Refusal :=
  .next (s.onStart ring seq 0x21 (fun ws s => s.stepRun ring seq ws))

/-- STEP_STOP (R221): no step opens after the open one. -/
def State.stepStop (s : State) : State :=
  if s.stepOpen || (s.step == .discarded && s.mode == .held) then (if s.isSet F.SCH_RUN_running then s.wr F.SCH_RUN_stopping 1 else s)
  else s.clear [F.SCH_RUN_running, F.SCH_RUN_stopping, F.SCH_RUN_steps_left]

/-- STEP_STOP (R221). -/
def execStepStop (ring seq : Nat) (s : State) : Host.Outcome State Fault Refusal :=
  .next (s.onStart ring seq 0x22 (fun _ s => ((s.markStarted ring seq 0 0).stepStop).settleSteps))

/-- STEP_WAIT (R221). -/
def execStepWait (ring seq : Nat) (s : State) : Host.Outcome State Fault Refusal :=
  .next (s.onStart ring seq 0x23 (fun _ s => (s.markStarted ring seq 0 0).settleSteps))

/-- The module will drain at the boundary: at once with no step open, or with the open step already discarded (R28, R221). -/
def State.drainAt (s : State) (b : Boundary) : State :=
  let s := { s with job := { s.job with boundary := some b } }
  if s.live then s else s.atBoundary

/-- JOB_END (R221). -/
def execJobEnd (ring seq : Nat) (s : State) : Host.Outcome State Fault Refusal :=
  .next (s.onStart ring seq 0x24 (fun _ s =>
    if s.mode == .running || s.mode == .held then ((s.markStarted ring seq 0 0).drainAt .jobEnd).settleSteps
    else s.ringResult ring seq 3 0))

/-- The job leaves at once: the open step is discarded and the chrysalis writer stops (R28, R221, R374). -/
def State.cancelJob (s : State) : State := ((s.discardStep 0xF s.rank false).stopWriter 5).enterDraining

/-- JOB_CANCEL (R221). -/
def execJobCancel (ring seq : Nat) (s : State) : Host.Outcome State Fault Refusal :=
  .next (s.onStart ring seq 0x25 (fun _ s =>
    if s.mode == .running || s.mode == .held then ((s.markStarted ring seq 0 0).cancelJob).settleSteps
    else s.ringResult ring seq 3 0))

/-! ### Kept inputs -/

/-- A write of CHK_KEPT_NEXT (R305). -/
def State.writeKeptNext (s : State) (v : Nat) : State :=
  let s := ((s.wr F.CHK_KEPT_NEXT_ready (fld v 63 63)).wr F.CHK_KEPT_NEXT_count (fld v 60 48)).wr F.CHK_KEPT_NEXT_address (fld v 47 0)
  if bitAt v 63 then s.endInputWait else s

/-- KEPT_NEXT_READY (R305). -/
def execKeptNextReady (value : Nat) (s : State) : Host.Outcome State Fault Refusal :=
  .next (if s.alive then s.writeKeptNext value else s)

/-- The runtime has rewritten the inputs under repair (R307): their ranges are read-only again, and the replay may open. -/
def State.repairDone (s : State) : State :=
  if s.isSet F.CHK_KEPT_CUR_repair then
    (({ s with job := { s.job with repairs := [] } }).wr F.CHK_KEPT_CUR_repair 0).wr F.CHK_KEPT_CUR_repair_done 1
  else s

/-- KEPT_REPAIR_DONE (R307). -/
def execKeptRepairDone (s : State) : Host.Outcome State Fault Refusal :=
  .next (if s.alive then s.repairDone else s)

end Sys2Proof.Machine
end

