-- ==== Sys2Proof/Machine/Loss.lean ====
section
/-! DEFINITION. Machine/Loss.lean: watching the other modules of the job (R352 to R354), retransmission (R262), the hub's watchdog
(R345), the fault manager's silence (R356) and the coalescing windows (R348). -/

namespace Sys2Proof.Machine

/-! ### Watched modules (R352) -/

/-- Modules serving ranks, without this module, absent partners and repeats. -/
def State.others (s : State) (ms : List Nat) : List Nat := (ms.filter (fun m => m != s.self && m != 0xFFFF)).eraseDups

/-- Modules serving the barrier parent and children of a rank. -/
def State.around (s : State) (r : Nat) : List Nat :=
  (if r = 0 then [] else [s.moduleOf (barrierParent r)]) ++ (barrierKids r s.rankCount).map s.moduleOf

def State.watched (s : State) : List Nat :=
  s.others (s.around s.rank ++ [s.partner] ++ (match s.heldRank with
    | some r => [s.moduleOf r]
    | none => []))

/-- A rank whose loss is held. -/
def State.lost (s : State) (r : Nat) : Bool := s.job.losses.any (fun l => l.rank == r)

/-- Start to watch: every watched module counts as heard now. -/
def State.watchFrom (s : State) : State :=
  { s with job := { s.job with heard := s.watched.foldl (fun h m => sput h m (sget s.tick s.job.heard m)) [] } }

/-- The job runs on this module. -/
def State.jobRuns (s : State) : Bool := s.alive && s.job.active && (s.mode == .running || s.mode == .held)

/-- JOB_HEARTBEAT_TIMER (R352). -/
def execJobHeartbeatTimer (s : State) : Host.Outcome State Fault Refusal :=
  if s.jobRuns && decide (s.job.beatAt + usTicks (s.rd F.ERR_CTRL_job_hb_us) ≤ s.tick) then
    .next (s.watched.foldl (fun t m => t.sendNotice m 0x20 t.rank 0) { s with job := { s.job with beatAt := s.tick } })
  else .next s

/-- JOB_HEARTBEAT: the flit itself shows that its sender lives (R352). -/
def execJobHeartbeat (f : Flit) (s : State) : Host.Outcome State Fault Refusal :=
  .next (s.onFlit f .control (fun s => s))

/-! ### Loss notices (R353) -/

/-- FAIL with cause 7 and the lost rank as its origin, while the step is open (R353, R34): in MOLT_PENDING too, until the record is sent (R315). -/
def State.failLost (s : State) (r : Nat) (hold : Bool) : State :=
  let s := if hold && s.live then { s with job := { s.job with holdAfter := true } } else s
  if s.step == .opened || s.step == .replaying || s.step == .checking || (s.step == .moltPending && !s.barrier.recordSent) then
    if s.barrier.own = 3 then s
    else
      let first := !(s.barrier.kids.any (fun p => p.2 == 3))
      let b := { s.barrier with own := 3, votedAt := s.tick, cause := (if first then 7 else s.barrier.cause),
                                origin := (if first then r else s.barrier.origin) }
      ({ s with barrier := b }).passFail
  else if hold && !s.live then s.enterHeld
  else s

/-- A rank has no intact copy (R332): it is lost while the mirror of it held here is not complete, this module's pull has lost
its source, or a module and its partner are both lost. -/
def State.noCopy (s : State) (r : Nat) : Bool :=
  let m := s.moduleOf r
  let p := s.partnerOf r
  s.rankCount == 1 || (s.heldRank == some r && !s.isSet F.CHK_MIRROR_STATUS_held_complete) || (s.mirror.pulling && m == s.partner) ||
  s.job.losses.any (fun l => l.module == p || s.partnerOf l.rank == m)

/-- ERR_LOSS keeps the first loss recorded (R363). -/
def State.noteLoss (s : State) (r m : Nat) (declared : Bool) : State :=
  if s.isSet F.ERR_LOSS_valid then s
  else (((s.wr F.ERR_LOSS_valid 1).wrBit F.ERR_LOSS_declared declared).wr F.ERR_LOSS_rank r).wr F.ERR_LOSS_module m

/-- The packets a lost module's forwarding queues have open here are aborted (R184). -/
def State.abortInbound (s : State) (m : Nat) : State :=
  (s.queues.map Prod.fst).foldl (fun t q => if !coreQueue q && t.forwardTo q == m then t.routerAbort q else t) s

/-- Rank `r` is lost: the notice is kept, recorded and sent on, and the step fails (R353, R354). -/
def State.loseRank (s : State) (r by_ sender : Nat) (declared : Bool) : State :=
  if s.lost r then s
  else
    let m := s.moduleOf r
    let gone := s.noCopy r
    let s := s.noteLoss r m declared
    let s := { s with job := { s.job with losses := s.job.losses ++ [Loss.mk r m s.tick] } }
    let s := if m == s.partner then s.wr F.CHK_MIRROR_STATUS_own_complete 0 else s
    let s := s.abortInbound m
    let dests := (s.others (s.around s.rank ++ (if declared then s.around r else []))).filter (fun x => x != m && x != sender)
    let s := dests.foldl (fun t x => t.sendNotice x 0x21 r by_) s
    let s := s.failLost r (!s.isSet F.ERR_STATUS_fm_reachable)
    if gone then s.fatalJob .MIRROR_LOST r [] 7 else s

/-- This module declares the module that serves a rank lost (R352). -/
def State.declareLost (s : State) (m : Nat) : State :=
  match s.rankAt m with
  | none => s
  | some r => if s.lost r then s else ((s.noteLoss r m true).raiseRec .MODULE_LOST r Rec.errLoss).loseRank r s.rank 0xFFFF true

/-- JOB_HB_TIMEOUT (R352): nothing has come from a watched module for job_hb_timeout_us. -/
def execJobHbTimeout (module : Nat) (s : State) : Host.Outcome State Fault Refusal :=
  if s.jobRuns && s.watched.contains module &&
      s.past (sget s.tick s.job.heard module + usTicks (s.rd F.ERR_CTRL_job_hb_timeout_us)) then
    .next (s.declareLost module)
  else .next s

/-- LOSS_NOTICE (R353). -/
def execLossNotice (f : Flit) (s : State) : Host.Outcome State Fault Refusal :=
  .next (s.onFlit f .control (fun s =>
    if f.dstAddr ≠ 1 ∨ flitKind f ≠ 0x21 ∨ newer32 s.epoch (field f.payload 8 4) ∨ s.rankCount ≤ field f.payload 16 2 then s
    else s.loseRank (field f.payload 16 2) (field f.payload 18 2) f.srcModule false))

/-- A rule holds the job now (R354): at once, or after the discard of the step that is open. -/
def State.holdNow (s : State) : State :=
  if s.live then { s with job := { s.job with holdAfter := true } } else s.enterHeld

/-- REMAP_WAIT_TIMEOUT (R354). -/
def execRemapWaitTimeout (s : State) : Host.Outcome State Fault Refusal :=
  if s.alive && s.job.losses.any (fun l => s.past (l.since + sTicks (s.rd F.ERR_CTRL_remap_wait_s))) then .next s.holdNow else .next s

/-! ### Retransmission (R262) -/

/-- What an unreachable destination ends, by the flit that did not reach it: a transfer, a remote ADD of a ring or an epilogue,
the mirror stream, a vote of the barrier, a collective or an item. -/
def State.flitFails (s : State) (t : TxFlit) : State :=
  match s.xfers.find? (fun x => t.tag != 0 && x.id == t.tag) with
  | some x => s.failXfer x
  | none =>
    if t.tag = mirrorTag then s.failStep 5 false
    else
      let wings := s.sched.wings.filter (fun p => match p.2.run with
        | some r => t.tag != 0 && r.epiTag == t.tag
        | none => false)
      let s := wings.foldl (fun u p => u.epilogueFails (p.1 / 2) (p.1 % 2 == 1)) (if t.tag = 0 then s else s.failRingTag t.tag)
      match t.flit.type with
      | .collData | .queueItem => s.failStep 0xF false
      | .control =>
        if isBarrier t.flit 0x12 && s.barrier.recordSent then
          let s : State := { s with barrier := { s.barrier with recordSent := false } }
          s.decideDiscard 7 s.rank
        else s
      | _ => s

/-- The destination is recorded and the flit given up. -/
def State.unreachable (s : State) (k : Nat) (t : TxFlit) : State :=
  let d := t.flit.dstModule
  let x := s.txSpace k
  let s := s.setTx k { x with unacked := x.unacked.filter (fun u => u.flit.seq != t.flit.seq) }
  let s := (((s.wr F.FAB_UNREACH_valid 1).wr F.FAB_UNREACH_module d).wr F.FAB_UNREACH_type t.flit.type.code).addSat F.FAB_RETX_STATUS_unreachable 1
  let s := (s.raiseRec .FAB_UNREACHABLE d Rec.fabUnreach).flitFails t
  if s.watched.contains d then s.declareLost d else s

/-- RETRANSMIT_TIMEOUT (R262): flit `seq` to `dst` is not acknowledged: sent again, or, at max_retx, failed. -/
def execRetransmitTimeout (dst : Nat) (ordered : Bool) (seq : Nat) (s : State) : Host.Outcome State Fault Refusal :=
  let k := spaceKey dst ordered
  let x := s.txSpace k
  match x.unacked.find? (fun t => t.flit.seq == seq) with
  | none => .next s
  | some t =>
    if !s.alive || !s.past (t.sentAt + usTicks (s.rd F.FAB_RETX_CTRL_timeout_us)) then .next s
    else if s.rd F.FAB_RETX_CTRL_max_retx ≤ t.sends then .next (s.unreachable k t)
    else
      let un := x.unacked.map (fun u => if u.flit.seq = seq then { u with sentAt := s.tick, sends := u.sends + 1 } else u)
      .next (((s.setTx k { x with unacked := un }).emit t.flit).addSat F.FAB_RETX_STATUS_retransmitted 1)

/-! ### The hub, the fault manager's silence and the windows -/

/-- HUB_WATCHDOG_EXPIRY (R345): the unit is 0 router, 1 collective engine, 2 command engine, 3 front-end engine, 4 bridge engine,
5 event collector, 6 security engine. -/
def execHubWatchdogExpiry (unit : Nat) (s : State) : Host.Outcome State Fault Refusal :=
  .next (if (s.alive || s.mode == .booting) && decide (unit < 7) then s.raise .HUB_FAULT unit else s)

/-- A message of the fault manager has come (R356). -/
def State.hearFm (s : State) : State :=
  ({ s with ev := { s.ev with fmAt := s.tick, fmRaised := false, fmSeen := true } }).wr F.ERR_STATUS_fm_reachable 1

/-- FM_SILENCE_TIMEOUT (R354, R356). -/
def execFmSilenceTimeout (s : State) : Host.Outcome State Fault Refusal :=
  if s.powered && !s.ev.fmRaised && s.past (s.ev.fmAt + sTicks 10) then
    let s := (({ s with ev := { s.ev with fmRaised := true } }).wr F.ERR_STATUS_fm_reachable 0).raise .FM_UNREACHABLE
    .next (if s.job.losses.isEmpty then s else s.holdNow)
  else .next s

/-- COALESCE_WINDOW_CLOSE (R348). -/
def execCoalesceWindowClose (code unit : Nat) (s : State) : Host.Outcome State Fault Refusal :=
  match s.ev.windows.find? (fun w => w.code == code && w.unit == unit && decide (w.since + msTicks 100 ≤ s.tick)) with
  | some w => .next (if s.powered then s.closeWindow w else s)
  | none => .next s

end Sys2Proof.Machine
end

