-- ==== Sys2Proof/Machine/Mgmt.lean ====
section
/-! DEFINITION. Machine/Mgmt.lean: the receiving side of the management protocol (R425 to R430): sessions, acceptance of messages,
acknowledgements, retransmission and the journal; and the STATUS payload (R429). -/

namespace Sys2Proof.Machine

/-! ### The journal (R347, R430) -/

/-- The last 65,536 records; the oldest number held. -/
def State.journalFirst (s : State) : Nat := match s.ev.journal with
  | [] => 0
  | p :: _ => p.1
def State.journalLast (s : State) : Nat := if s.ev.journal.isEmpty then 0 else s.rd F.ERR_EVENT_SEQ_seq

/-- Send records in EVENT messages of at most 64; the first carries the gap flag where it is set. -/
def State.sendEvents (id : Nat) : Nat → State → List (List Nat) → Bool → State
  | 0, s, _, _ => s
  | n + 1, s, rs, gap =>
    if rs.isEmpty then s
    else sendEvents id n (s.mgmtTo id 0x05 (bit gap :: (rs.take 64).flatten)) (rs.drop 64) false

/-- Send the records from a number on, at most `count`, to a session: from the oldest held where that one is gone. -/
def State.sendFrom (s : State) (id first count : Nat) : State :=
  let rs := ((s.ev.journal.filter (fun p => from32 p.1 first)).map Prod.snd).take count
  State.sendEvents id (rs.length / 64 + 1) s rs (newer32 s.journalFirst first && !s.ev.journal.isEmpty)

/-! ### Keys and sessions (R421, R426) -/

/-- Live settings of a flash: the newest record of each key (R420). -/
def newest (rs : List Setting) (k : Nat) : Option Setting :=
  rs.foldl (fun b r => if r.key ≠ k then b else match b with
    | none => some r
    | some x => if newer32 r.seqNo x.seqNo || r.seqNo == x.seqNo then some r else some x) none

/-- A key's value: the valid record with the newest sequence number on either flash decides (R420). -/
def State.setting (s : State) (k : Nat) : Option (List Byte) :=
  match newest (s.boot.flashA.records ++ s.boot.flashB.records) k with
  | some r => if r.gone then none else some r.data
  | none => none

/-- Peer keys: role in byte 0, key ID in bytes 1 to 4, the ML-DSA-65 public key after them (log entry 38). -/
def State.peerKeys (s : State) : List (List Byte) := ((List.range 16).map (· + 1)).filterMap s.setting
def keyRole (b : List Byte) : Nat := field b 0 1
def keyId (b : List Byte) : Nat := field b 1 4

/-- The session idle longest. -/
def oldestSession (l : List Session) : Option Session :=
  l.foldl (fun b x => match b with
    | none => some x
    | some y => if x.heardAt < y.heardAt then some x else some y) none

/-- SESSION_ACCEPT: session, ciphertext, nonce, serial, first journal number, signature (R426). -/
def State.acceptSession (s : State) (m : SessionInit) (role : Nat) : State :=
  let s := if 8 ≤ s.mgmt.sessions.length then (match oldestSession s.mgmt.sessions with
    | some x => s.endSession x.id
    | none => s) else s
  let id := s.mgmt.nextId
  let x : Session := { id := id, role := role, keyId := m.keyId, heardAt := s.tick, sentAt := s.tick, processed := m.lastEvent }
  let l := s.mgmt.sessions ++ [x]
  let s := ({ s with mgmt := { s.mgmt with sessions := l, nextId := id + 1 } }).wr F.STW_STATUS_sessions l.length
  let r := s.draw
  let body := leBytes 4 id ++ Config.kem m.kemKey r.1 ++ leBytes 32 r.1 ++ leBytes 8 (s.rd F.MOD_SERIAL_serial) ++ leBytes 4 s.journalFirst
  let s := r.2.send (.mgmt 0x02 ((body ++ Config.sign (m.signed ++ body)).map BitVec.toNat))
  let s := if role = 0 then s.hearFm else s
  s.sendFrom id ((m.lastEvent + 1) % 2 ^ 32) 65536

/-- SESSION_INIT (R426): accepted where its signature verifies under a peer key of the settings store. -/
def execSessionInit (m : SessionInit) (s : State) : Host.Outcome State Fault Refusal :=
  if !s.powered then .next s
  else match s.peerKeys.find? (fun k => keyId k == m.keyId && decide (keyRole k < 3)) with
    | none => .next s
    | some k => .next (if Config.verifies (k.drop 5) m.signed m.sig then
        (s.addAt F.STW_MGMT_rx (m.port % 2) 1).acceptSession m (keyRole k) else s)

/-! ### Messages in a session (R427) -/

/-- The number is newer than the highest accepted, or among the 1,024 below it and not accepted yet. -/
def Session.accepts (x : Session) (q : Nat) : Bool :=
  decide (0 < q) && (decide (x.high < q) || (decide (x.high ≤ q + 1024) && decide (x.cum < q) && !x.above.contains q))

/-- Advance over the numbers accepted above the first gap, at most `n`. -/
def Session.advance : Nat → Session → Session
  | 0, x => x
  | n + 1, x => if x.above.contains (x.cum + 1) then Session.advance n { x with cum := x.cum + 1, above := x.above.erase (x.cum + 1) } else x

/-- Take a message's number and its acknowledgement of the module's messages. -/
def Session.took (x : Session) (m : Mgmt) (tick : Nat) : Session :=
  let y := Session.advance (x.above.length + 1) { x with above := x.above ++ [m.seq], high := max x.high m.seq, heardAt := tick }
  { y with unacked := y.unacked.filter (fun o => decide (m.ack < o.seqNo)) }

/-- REPLY: the request's number and a status. -/
def State.replyTo (s : State) (x : Session) (m : Mgmt) (status : Nat) : State := s.mgmtTo x.id 0x13 [m.seq, status]

/-- A message reaches the steward: unknown sessions meet NO_SESSION, failed tags and repeated numbers are dropped, a role that may not
ask is answered DENIED (R426 to R428); `h` is what the message does. -/
def State.onMgmt (s : State) (m : Mgmt) (roles : List Nat) (ackOnly : Bool) (h : Session → State → State) : State :=
  if !s.powered then s
  else match s.session? m.session with
    | none => s.send (.mgmt 0x14 [m.session])
    | some x =>
      let p := m.port % 2
      if !m.tagOk then s.addSatAt F.STW_MGMT_tag_fail p 1
      else if !x.accepts m.seq then s
      else if 2 ^ 31 ≤ m.seq + 1 then s.endSession x.id
      else
        let y := x.took m s.tick
        let y := if ackOnly then y else { y with owes := true }
        let s := ((s.setSession y).addAt F.STW_MGMT_rx p 1).mgmtDrain x.id
        let s := if x.role = 0 then s.hearFm else s
        if roles.contains x.role then h y s else s.replyTo y m 7

/-- Every role. -/
def anyRole : List Nat := [0, 1, 2]

/-- MGMT_ACK (R427, R430): the last event processed; events after it that are not on their way are sent again. -/
def execMgmtAck (m : Mgmt) (last : Nat) (s : State) : Host.Outcome State Fault Refusal :=
  .next (s.onMgmt m anyRole true (fun x s =>
    match s.session? x.id with
    | none => s
    | some y =>
      let s := s.setSession { y with processed := last }
      if y.unacked.any (fun o => o.kind == 5) || y.waiting.any (fun w => w.1 == 5) || !newer32 s.journalLast last then s
      else s.sendFrom x.id ((last + 1) % 2 ^ 32) 65536))

/-- MGMT_ACK_TIMER (R427): 50 ms with nothing to send while a message waits for its acknowledgement. -/
def execMgmtAckTimer (session : Nat) (s : State) : Host.Outcome State Fault Refusal :=
  match s.session? session with
  | none => .next s
  | some x =>
    if s.powered && x.owes && decide (x.sentAt + msTicks 50 ≤ s.tick) then
      let m : OutMsg := { seqNo := x.tx + 1, ack := x.cum, kind := 0x03, body := [], sentAt := s.tick }
      .next ((s.setSession { x with tx := x.tx + 1, sentAt := s.tick, owes := false }).mgmtEmit session m)
    else .next s

/-- MGMT_RETRANSMIT (R427): unacknowledged for 200 ms, sent again byte for byte on both ports. -/
def execMgmtRetransmit (session seq : Nat) (s : State) : Host.Outcome State Fault Refusal :=
  match s.session? session with
  | none => .next s
  | some x => match x.unacked.find? (fun o => o.seqNo == seq) with
    | none => .next s
    | some o =>
      if s.powered && s.past (o.sentAt + msTicks 200 - 1) then
        let un := x.unacked.map (fun u => if u.seqNo = seq then { u with sentAt := s.tick } else u)
        .next ((s.setSession { x with unacked := un }).mgmtEmit session o)
      else .next s

/-- SESSION_TIMEOUT (R426): 30 s with no message from its peer. -/
def execSessionTimeout (session : Nat) (s : State) : Host.Outcome State Fault Refusal :=
  match s.session? session with
  | none => .next s
  | some x => .next (if s.powered && s.past (x.heardAt + sTicks 30 - 1) then s.endSession session else s)

/-- JOURNAL_READ (R428, R430): count 1 to 65,536. -/
def execJournalRead (m : Mgmt) (first count : Nat) (s : State) : Host.Outcome State Fault Refusal :=
  .next (s.onMgmt m anyRole false (fun x s =>
    if count = 0 ∨ 65536 < count then s.replyTo x m 6
    else
      let stop := (first + count) % 2 ^ 32
      let n := (s.ev.journal.filter (fun p => from32 p.1 first && newer32 stop p.1)).length
      if n = 0 then s.replyTo x m 0 else s.sendFrom x.id first n))

/-! ### STATUS (R429) -/

/-- The hottest reading, signed, in 0.01 °C (PWR_TEMP of PWR_THERM_STATUS.hottest). -/
def State.hottest (s : State) : Nat := s.rdAt F.PWR_TEMP_max_temp (s.rd F.PWR_THERM_STATUS_hottest)

/-- The 64 bytes of a STATUS message. -/
def State.statusBytes (s : State) : List Byte :=
  let flags := s.rd F.PWR_SUPPLY_main_lost + 2 * bit s.boot.os + 4 * bit (!s.job.losses.isEmpty) + 8 * s.rd F.PWR_THERM_STATUS_throttling +
    16 * s.rd F.STW_SETTINGS_degraded
  leBytes 1 s.mode.code ++ leBytes 1 s.step.code ++ leBytes 1 flags ++ leBytes 1 (s.rd F.MOD_ID_power_class) ++
  leBytes 4 s.jobId ++ leBytes 8 s.instar ++ leBytes 2 s.rank ++ leBytes 2 s.self ++ leBytes 4 s.epoch ++
  leBytes 8 (s.rd F.PWR_ENERGY_STAMP_count) ++ leBytes 8 (s.rd F.PWR_ENERGY_STAMP_INSTAR_count) ++
  leBytes 4 (s.rd F.ERR_EVENT_SEQ_seq) ++ leBytes 4 (s.rd F.ERR_FM_fm_seq) ++ leBytes 2 (s.rd F.PWR_INPUT_avg_w) ++
  leBytes 2 s.hottest ++ leBytes 8 s.tick ++ leBytes 4 0

/-- STATUS_TIMER (R356, R429): every 1 s to every session and to both fault-manager addresses. -/
def execStatusTimer (s : State) : Host.Outcome State Fault Refusal :=
  if s.powered && decide (s.ev.statusAt + sTicks 1 ≤ s.tick) then
    let b := s.statusBytes.map BitVec.toNat
    let s := { s with ev := { s.ev with statusAt := s.tick } }
    .next ((s.mgmtAll anyRole 0x04 b).send (.mgmt 0x04 b))
  else .next s

end Sys2Proof.Machine
end

