-- ==== Sys2Proof/Machine/Ports.lean ====
section
/-! DEFINITION. Machine/Ports.lean: fabric ports and links (R256 to R258, R269, R280, R283 to R295): bring-up, peer checks, the
receiving side of the link layer, retrains, KEEPALIVE, hot links and error trends. -/

namespace Sys2Proof.Machine

/-- The router adds a port, and R258 is evaluated again (R286). -/
def State.checkWiring (s : State) : State :=
  let s := s.showTopo
  if s.isSet F.FAB_TOPO_balanced || s.mode == .booting then s else s.raise .FAB_WIRING_UNBALANCED

/-! ### States (R286) -/

/-- Ports that bring-up can start on: the module is in BOOTING or a later state but FAILED. -/
def State.portsLive (s : State) : Bool := s.alive || s.mode == .booting

/-- PORT_CTRL.min_lanes, which a bridge port keeps under a reset value of its own, and a write of it (R303). -/
def State.minLanes (s : State) (o : Nat) : Nat :=
  if o < 72 then s.rdAt F.PORT_CTRL_min_lanes o else s.rdAt F.PORT_CTRL_br_min_lanes (o - 72)
def State.setMinLanes (s : State) (o v : Nat) : State :=
  if o < 72 then s.wrAt F.PORT_CTRL_min_lanes o v else s.wrAt F.PORT_CTRL_br_min_lanes (o - 72) v

/-- A restore directive waits for its port to be UP or HOLD, or DISABLED (R357): the waiting entry's last part is the port. -/
def State.finishPort (s : State) (o : Nat) : State :=
  let done := s.ev.waiting.filter (fun w => w.1 == 7 && w.2.2 == o)
  let s := { s with ev := { s.ev with waiting := s.ev.waiting.filter (fun w => !(w.1 == 7 && w.2.2 == o)) } }
  done.foldl (fun t w => t.answer 7 w.2.1 0) s

/-- A full bring-up has ended: PORT_CTRL.retrain reads 0 again. -/
def State.bringupDone (s : State) (o : Nat) : State := (s.wrAt F.PORT_CTRL_retrain o 0).finishPort o

/-- Bytes of a wiring plan or role map item of the configuration in force (R413). -/
def State.configItem (s : State) (k : Nat) : Option (List Byte) := s.boot.config.bind (fun c => sget? c.items k)

def State.planDigest (s : State) : Nat := match s.configItem 2 with
  | some b => Config.shake256 b
  | none => 0

/-- The planned peer of a fabric port: four bytes a port, intra-group ports first, the module address in the first two (log entry
36). -/
def State.planned (s : State) (o : Nat) : Option Nat :=
  (s.configItem 2).map (fun b => field b (4 * (if s.portClass o = 0 then s.portIndex o else 31 + s.portIndex o)) 2)

/-- HELLO (R288). -/
def State.helloBytes (s : State) (o : Nat) : List Byte :=
  leBytes 1 1 ++ leBytes 1 4 ++ leBytes 1 2 ++ leBytes 1 (s.rdAt F.PORT_STATUS_lanes_up o) ++
  leBytes 1 (s.portClass o * 64 + s.portIndex o) ++ leBytes 1 o ++ leBytes 1 s.mode.code ++ leBytes 1 (s.rdAt F.PORT_STATUS_hold_cause o) ++
  leBytes 8 (s.rd F.MOD_SERIAL_serial) ++ leBytes 2 s.self ++ leBytes 2 s.groups ++ leBytes 4 0 ++ leBytes 32 s.planDigest ++ leBytes 8 0

/-- HELLO goes out. What a bridge port sends is Mynov 3.2's, which the manual does not give (R300, log entry 49). -/
def State.sendHello (s : State) (o : Nat) : State :=
  let b := s.helloBytes o
  if 72 ≤ o then s.setPort o { s.port o with helloAt := s.tick }
  else (s.setPort o { s.port o with hello := b, helloAt := s.tick, acked := false }).sendLink o b

/-- The link leaves routing: what it carried is dropped, and ordered flows on it send again from their first unacknowledged flit
(R265, R280). -/
def State.retireLink (s : State) (o : Nat) : State :=
  let lost := (s.fab.flows.filter (fun p => p.2 == o)).map Prod.fst
  let s := ((s.setPort o { s.port o with retry := [], vcs := [], before := none }).noteHot o).showTopo
  let s := { s with fab := { s.fab with flows := skeep (fun d => !lost.contains d) s.fab.flows } }
  lost.foldl (fun t d =>
    (t.txSpace (spaceKey d true)).unacked.foldl (fun u x => (u.emit x.flit).addSat F.FAB_RETX_STATUS_retransmitted 1) t) s

/-- Each end repeats the HELLO stage on its lowest-numbered link held with cause 3 towards a peer (R290). -/
def State.rehello (s : State) (peer : Nat) : State :=
  match s.fabricPorts.find? (fun o => s.portState o == 5 && s.rdAt F.PORT_STATUS_hold_cause o == 3 && s.peerAddr o == peer) with
  | none => s
  | some o =>
    -- a HELLO that the peer's own re-hello has sent already is kept
    let s := (s.setPortState o 3).wrAt F.PORT_STATUS_hold_cause o 0
    (s.setPort o { s.port o with since := s.tick }).sendHello o

/-! ### Front-end ports that go down (R299, R373) -/

/-- The tables of a front-end port. -/
def State.fe (s : State) (f : Nat) : FrontSt := sget {} s.links.fe f

/-- Keep a port's tables, and show them (R303). -/
def State.setFe (s : State) (f o : Nat) (x : FrontSt) : State :=
  let s := { s with links := { s.links with fe := sput s.links.fe f x } }
  ((s.wrAt F.PORT_FE_STATUS_qp_open o x.pairs.length).wrAt F.PORT_FE_STATUS_nvme_queues o
    (x.pairs.filter (fun q => q.queue != 0)).length).wrAt F.PORT_FE_STATUS_macsec_secure o (bit x.key.isSome)

/-- Commands of the writer's piece in progress on a front-end port. -/
def Writer.openOn (w : Writer) (f : Nat) : List Nat :=
  (w.sentOn.filter (fun p => p.2 == f && !sget false w.done p.1)).map Prod.fst

/-- The transfers in progress on the port end with errors: the writer's go to the other port where it is up. -/
def State.endTransfers (s : State) (f : Nat) : State :=
  match s.chrys.writer with
  | none => s
  | some w => (w.openOn f).foldl (fun t k => match t.chrys.writer with
    | some w => t.writeFailed w k
    | none => t) s

/-- A front-end port has gone down: its queue pairs, addresses and key go with it; with both ports down the chrysalis writer stops, which
reports its transfers to the runtime. -/
def State.frontLeaves (s : State) (o : Nat) : State :=
  let f := s.portIndex o
  let s := s.setFe f o {}
  if s.frontUp 0 || s.frontUp 1 then s.endTransfers f else s.stopWriter 2

/-- The port leaves service for a state: DISABLED, DOWN, or TRAINING. -/
def State.portLeave (s : State) (o st : Nat) : State :=
  let was := s.portState o
  let peer := s.peerAddr o
  let s := ((s.setPortState o st).wrAt F.PORT_STATUS_lanes_up o 0).wrAt F.PORT_STATUS_hold_cause o 0
  let s := s.setPort o { s.port o with since := s.tick }
  if s.isFabric o && (was == 4 || was == 6 || was == 7) then (s.retireLink o).rehello peer
  else if s.portClass o == 2 && was == 4 then s.frontLeaves o
  else s

/-- DOWN (R286). -/
def State.portDown (s : State) (o : Nat) : State := (s.portLeave o 1).wrAt F.PORT_CTRL_retrain o 0

/-- Bring-up starts (R286): the link counts begin at 0 (R292). -/
def State.startBringup (s : State) (o : Nat) : State :=
  let s := if s.portState o = 0 ∨ s.portState o = 1 then s.setPortState o 2 else s.portLeave o 2
  let p := s.port o
  s.setPort o { since := s.tick, raised := p.raised, retrains := p.retrains, laneFailed := p.laneFailed, berRaised := p.berRaised }

/-! ### Peer checks (R289, R290) -/

/-- Where a link stands among those to one peer: the port number at the end with the lower module address. -/
def State.linkOrder (s : State) (o peer : Nat) : Nat := if s.self < peer then o else s.rdAt F.PORT_PEER_peer_port o

/-- Links in service of a class to a peer, without port `o`. -/
def State.rivals (s : State) (o peer : Nat) : List Nat :=
  (s.fabricPorts.filter (fun k => k != o && (s.inService k || s.portState k == 6) && s.portClass k == s.portClass o && s.peerAddr k == peer))

/-- The hold cause that the checks of R289 give, in their order; 0 where the port goes UP. -/
def State.holdCause (s : State) (o : Nat) (b : List Byte) : Nat :=
  let peer := field b 16 2
  let serial := field b 8 8
  if serial = s.rd F.MOD_SERIAL_serial then 4
  else if field b 1 1 ≠ 4 then 5
  else if peer = s.self || s.fabricPorts.any (fun k => k != o && s.inService k && s.peerAddr k == peer && s.rdAt F.PORT_PEER_SERIAL_serial k != serial) then 6
  else if s.groups ≤ peer / 32 then 7
  else if field b 4 1 / 64 ≠ s.portClass o then 1
  else if s.portClass o = 0 ∧ peer / 32 ≠ s.rd F.MOD_ADDR_group then 2
  else if 5800 < s.rdAt F.PORT_PEER_rtt_ns o then 8
  else if s.linksAllowed (s.portClass o) peer ≤ ((s.rivals o peer).filter (fun k => decide (s.linkOrder k peer < s.linkOrder o peer))).length then 3
  else field b 7 1

/-- HOLD, with PORT_HOLD once per cause; the peer is told by HELLO. -/
def State.holdPort (s : State) (o cause : Nat) : State :=
  let s := if s.inService o || s.portState o == 6 then s.portLeave o 5 else s.setPortState o 5
  let s := s.setPort o { s.port o with peer := [] }
  let s := s.wrAt F.PORT_STATUS_hold_cause o cause
  let p := s.port o
  let s := if p.raised.contains cause then s else
    (s.setPort o { p with raised := p.raised ++ [cause] }).raise .PORT_HOLD o
  let s := if cause = 5 then s.raise .PORT_VERSION o else s
  (s.wrAt F.PORT_STATUS_lanes_up o p.locked |>.sendHello o).bringupDone o

/-- The peer table learns a peer (R289). -/
def State.learnPeer (s : State) (o : Nat) (b : List Byte) : State :=
  ((((s.wrAt F.PORT_PEER_peer_addr o (field b 16 2)).wrAt F.PORT_PEER_peer_port o (field b 5 1)).wrAt F.PORT_PEER_peer_class o
    (field b 4 1 / 64)).wrAt F.PORT_PEER_peer_index o (field b 4 1 % 64)).wrAt F.PORT_PEER_SERIAL_serial o (field b 8 8)

/-- The event of a link that comes UP: the first of R289's table that applies. -/
def State.wiringEvent (s : State) (o : Nat) (b : List Byte) : State :=
  let peer := field b 16 2
  let i := s.portIndex o
  let off := if s.portClass o = 0 then
      peer != s.rd F.MOD_ADDR_group * 32 + (s.rd F.MOD_ADDR_slot + i + 1) % 32 || field b 4 1 % 64 != 30 - i
    else match s.planned o with
      | some m => m / 32 != peer / 32
      | none => false
  if off then s.raise .PORT_MISWIRE o
  else if field b 24 32 ≠ s.planDigest ∨ field b 18 2 ≠ s.groups then s.raise .PORT_PLAN_MISMATCH o
  else s

/-- The port goes UP, and links it displaces go to HOLD with cause 3 (R289 to R291). -/
def State.portUp (s : State) (o : Nat) (b : List Byte) : State :=
  let peer := field b 16 2
  let minor := min 2 (field b 2 1)
  if minor = 0 ∧ popcount4 (s.rdAt F.PORT_STATUS_lanes_up o) = 2 then s.portDown o
  else
    let s := ((s.setPortState o 4).wrAt F.PORT_STATUS_ver_major o 4).wrAt F.PORT_STATUS_ver_minor o minor
    let s := (s.setPort o { s.port o with raised := [], heardAt := s.tick, dataAt := s.tick }).wrAt F.PORT_STATUS_hold_cause o 0
    let s := if minor < 2 then s.raise .PORT_VERSION o else s
    let s := s.wiringEvent o b
    let extra := (s.rivals o peer).filter (fun k => decide (s.linksAllowed (s.portClass o) peer ≤
      ((o :: s.rivals o peer).filter (fun j => decide (s.linkOrder j peer < s.linkOrder k peer))).length))
    let s := extra.foldl (fun t k => t.holdPort k 3) s
    (s.checkWiring).bringupDone o

/-- Both HELLOs have been exchanged: the checks decide. -/
def State.settlePort (s : State) (o : Nat) : State :=
  let p := s.port o
  if s.portState o ≠ 3 ∨ p.peer.isEmpty ∨ !p.acked then s
  else
    let s := s.learnPeer o p.peer
    let c := s.holdCause o p.peer
    if c = 0 then s.portUp o p.peer else s.holdPort o c

/-- A bridge port's peer offers a protocol: Mynov 3.2 or HOLD with cause 9 (R300). -/
def State.bridgeHello (s : State) (o : Nat) (b : List Byte) : State :=
  let s := s.wrAt F.PORT_PEER_SERIAL_serial o (field b 8 8)
  if field b 1 1 = 3 ∧ field b 2 1 = 2 then
    (((s.setPortState o 4).wrAt F.PORT_STATUS_ver_major o 3).wrAt F.PORT_STATUS_ver_minor o 2).bringupDone o
  else s.holdPort o 9

/-- The retrain ends, once FEC is aligned again on at least min_lanes lanes and the peer's HELLO has come: the same peer keeps the link
and its counts, the retry buffer is resent; another makes it a new link, and the old one retires (R290, R293). -/
def State.retrained (s : State) (o : Nat) : State :=
  let p := s.port o
  let b := p.peer
  let lanes := s.rdAt F.PORT_STATUS_lanes_up o
  if !p.aligned || b.isEmpty || decide (popcount4 lanes < s.minLanes o) then s
  else if p.before = some (field b 8 8, field b 5 1) then
    if field b 2 1 = 0 ∧ popcount4 lanes = 2 then s
    else
      let s := s.setPort o { p with before := none, aligned := false, locked := lanes, heardAt := s.tick }
      let s := if popcount4 lanes ≠ popcount4 p.locked then s.raise .PORT_DEGRADED o else s
      if s.rdAt F.PORT_STATUS_hold_cause o ≠ 0 then s.setPortState o 5
      else
        let s := (s.setPortState o 4).showTopo
        let s := p.retry.foldl (fun t x => t.send (.flit x.2)) s
        s.drainPort o
  else
    let old := s.peerAddr o
    let s := s.retireLink o
    let s := s.setPort o { s.port o with tx := 0, rx := 0, aligned := false, since := s.tick }
    (((s.setPortState o 3).wrAt F.PORT_STATUS_hold_cause o 0).sendHello o).rehello old

/-! ### Commands of bring-up -/

/-- Note that something has come over the link (R280). -/
def State.hearPort (s : State) (o : Nat) : State := s.setPort o { s.port o with heardAt := s.tick }

/-- PORT_BRINGUP (R286). -/
def execPortBringup (port : Nat) (s : State) : Host.Outcome State Fault Refusal :=
  .next (if s.portsLive && decide (port < 76) && s.isSetAt F.PORT_CTRL_enable port && decide (s.portState port < 2) then s.startBringup port else s)

/-- BRINGUP_RETRY_TIMER (R286): a DOWN port starts again every 1 s. -/
def execBringupRetryTimer (port : Nat) (s : State) : Host.Outcome State Fault Refusal :=
  .next (if s.portsLive && decide (port < 76) && s.portState port == 1 && decide ((s.port port).since + sTicks 1 ≤ s.tick) then
    s.startBringup port else s)

/-- BRINGUP_TIMEOUT (R286): neither UP nor HOLD 100 ms after the start. -/
def execBringupTimeout (port : Nat) (s : State) : Host.Outcome State Fault Refusal :=
  .next (if s.portsLive && decide (port < 76) && (s.portState port == 2 || s.portState port == 3) &&
      s.past ((s.port port).since + msTicks 100 - 1) then s.portDown port else s)

/-- Received powers of the lanes (PORT_OPTICS). -/
def State.showPower (s : State) (o : Nat) (p : List Nat) : State :=
  (((s.wrAt F.PORT_OPTICS_rx_power_0 o (p.getD 0 0x8000)).wrAt F.PORT_OPTICS_rx_power_1 o (p.getD 1 0x8000)).wrAt
    F.PORT_OPTICS_rx_power_2 o (p.getD 2 0x8000)).wrAt F.PORT_OPTICS_rx_power_3 o (p.getD 3 0x8000)

/-- Wavelengths that an optical engine has from either light source (R283). -/
def State.litLanes (s : State) (e : Nat) : Nat := Nat.lor (sget 15 s.links.light (2 * e)) (sget 15 s.links.light (2 * e + 1))

/-- The lanes a bridge port runs on: all 8, or the 4 lowest-numbered ones where min_lanes allows it (R300, log entry 49). -/
def bridgeLanes (lanes min : Nat) : Nat :=
  if lanes % 256 = 255 then 255
  else if min ≤ 4 ∧ 4 ≤ popcount8 (lanes % 256) then
    (((List.range 8).filter (bitAt lanes)).take 4).foldl (fun a k => a + 2 ^ k) 0
  else 0

/-- The lanes a port may run on, of those locked: none where they are too few. A front-end port runs at 400 Gbit/s only (R296). -/
def State.usableLanes (s : State) (o lanes : Nat) : Nat :=
  let m := s.minLanes o
  if 72 ≤ o then bridgeLanes lanes m
  else
    let l := Nat.land (lanes % 16) (s.litLanes (o / 8))
    if popcount4 l < (if s.portClass o = 2 then 4 else m) then 0 else l

/-- FEC_ALIGNED (R286, R293): with enough lanes a fabric or bridge port in TRAINING enters HELLO, a front-end port is UP; a retraining
port realigns on the lanes kept. -/
def execFecAligned (port lanes : Nat) (power : List Nat) (s : State) : Host.Outcome State Fault Refusal :=
  let st := s.portState port
  let lanes := s.usableLanes port (if st = 6 then Nat.land lanes (s.rdAt F.PORT_STATUS_lanes_up port) else lanes)
  if !s.portsLive || decide (76 ≤ port) || (st != 2 && st != 6) || lanes == 0 then .next s
  else
    let s := if port < 72 then s.showPower port power else s
    let s := (s.wrAt F.PORT_STATUS_lanes_up port lanes).hearPort port
    if st = 6 then .next (((s.setPort port { s.port port with aligned := true }).sendHello port).retrained port)
    else if s.portClass port = 2 then .next ((s.setPortState port 4).bringupDone port)
    else .next (((s.setPort port { s.port port with locked := lanes }).setPortState port 3).sendHello port)

/-- HELLO_RESEND (R286): every 10 µs until HELLO_ACK. -/
def execHelloResend (port : Nat) (s : State) : Host.Outcome State Fault Refusal :=
  .next (if s.portsLive && decide (port < 76) && s.portState port == 3 && !(s.port port).acked &&
      decide ((s.port port).helloAt + usTicks 10 ≤ s.tick) then s.sendHello port else s)

/-- LINK subtypes that a port takes in a state (R286): HELLO, heartbeats and RETRAIN on any lit port, the others only where it carries
flits or LINK flits of an UP link. -/
def linkTakes (st kind : Nat) : Bool := decide (3 ≤ st) && (kind == 1 || kind == 2 || kind == 3 || kind == 6 || st == 4 || st == 7)

/-- A LINK flit of a subtype reaches a fabric port (log entry 75); one of a reserved subtype is dropped and counted (R287). -/
def State.onLink (s : State) (o : Nat) (kind : Nat) (b : List Byte) (h : State → State) : State :=
  if !(s.portsLive && s.isFabric o && decide (3 ≤ s.portState o) && b.length == 64) then s
  else if field b 0 1 = 0 ∨ 9 < field b 0 1 then
    let s := s.hearPort o
    { s with links := { s.links with linkDropped := sput s.links.linkDropped o (sget 0 s.links.linkDropped o + 1) } }
  else if field b 0 1 == kind && linkTakes (s.portState o) kind then h (s.hearPort o) else s

/-- A HELLO reaches a port in HOLD (R289, R290): it is kept for the re-hello; a peer that does not know of the hold is told its cause, but
for cause 3, whose re-hello the peer may have begun before this end. -/
def State.helloInHold (s : State) (o : Nat) (b : List Byte) : State :=
  if field b 7 1 ≠ 0 then s
  else
    let s := s.setPort o { s.port o with peer := b }
    if s.rdAt F.PORT_STATUS_hold_cause o = 3 then s else s.sendHello o

/-- HELLO (R288, R289): answered by HELLO_ACK; it settles a port in HELLO, ends a retrain, and takes an UP port to HOLD where a check
fails. -/
def execHello (port : Nat) (body : List Byte) (s : State) : Host.Outcome State Fault Refusal :=
  if 72 ≤ port then
    .next (if s.portsLive && decide (port < 76) && s.portState port == 3 then s.bridgeHello port body else s)
  else .next (s.onLink port 1 body (fun s =>
    let s := s.sendLink port (leBytes 1 2 ++ body.drop 1)
    let st := s.portState port
    if st = 3 then (s.setPort port { s.port port with peer := body }).settlePort port
    else if st = 6 then (s.setPort port { s.port port with peer := body }).retrained port
    else if st = 5 then s.helloInHold port body
    else if s.holdCause port body ≠ 0 then s.holdPort port (s.holdCause port body)
    else s))

/-- HELLO_ACK (R286, R288): the HELLO it answers comes back unchanged, and the round trip is measured. -/
def execHelloAck (port : Nat) (body : List Byte) (s : State) : Host.Outcome State Fault Refusal :=
  .next (s.onLink port 2 body (fun s =>
    let p := s.port port
    if p.acked || p.hello.drop 1 != body.drop 1 then s
    else
      let s := (s.setPort port { p with acked := true }).wrAt F.PORT_PEER_rtt_ns port (min 0xFFFF (10 * (s.tick - p.helloAt)))
      s.settlePort port))

/-- PORT_ENABLE (R286): 0 makes the port DISABLED, 1 lets it come up. -/
def State.enablePort (s : State) (o : Nat) (on : Bool) : State :=
  let s := s.wrAt F.PORT_CTRL_enable o (bit on)
  if !on then ((s.portLeave o 0).wrAt F.PORT_CTRL_retrain o 0).finishPort o
  else if s.portsLive && s.portState o == 0 then s.startBringup o
  else s

/-- PORT_ENABLE: a write of PORT_CTRL.enable. -/
def execPortEnable (port : Nat) (enable : Bool) (s : State) : Host.Outcome State Fault Refusal :=
  .next (if s.portsLive && decide (port < 76) then s.enablePort port enable else s)

/-- A full bring-up, restoring failed lanes and re-checking holds. -/
def State.retrainPort (s : State) (o : Nat) : State :=
  if s.isSetAt F.PORT_CTRL_enable o then (s.startBringup o).wrAt F.PORT_CTRL_retrain o 1 else s

/-- PORT_RETRAIN: a write of 1 to PORT_CTRL.retrain (R286). -/
def execPortRetrain (port : Nat) (s : State) : Host.Outcome State Fault Refusal :=
  .next (if s.portsLive && decide (port < 76) then s.retrainPort port else s)

/-- LOSS_OF_LIGHT (R286). -/
def execLossOfLight (port : Nat) (s : State) : Host.Outcome State Fault Refusal :=
  .next (if s.portsLive && decide (port < 72) && decide (2 ≤ s.portState port) then (s.portDown port).showPower port [] else s)

/-! ### Silence and heartbeats (R280) -/

/-- Exchanging LINK flits: UP, HOLD or KEEPALIVE. -/
def State.linkLit (s : State) (o : Nat) : Bool := s.portsLive && s.isFabric o && (s.inService o || s.portState o == 5)

/-- A heartbeat: MOD_TICK, and per-lane error figures where the link runs at minor version 2 (R287, R291, log entry 87). -/
def State.heartbeatBytes (s : State) (o : Nat) : List Byte :=
  linkBytes 3 8 (leBytes 8 s.tick ++
    (if s.rdAt F.PORT_STATUS_ver_minor o = 2 then (List.range 4).flatMap (fun k => leBytes 8 (Config.laneErrors s.tick o k)) else []))

/-- HEARTBEAT_TIMER. -/
def execHeartbeatTimer (port : Nat) (s : State) : Host.Outcome State Fault Refusal :=
  .next (if s.linkLit port && decide ((s.port port).sentAt + usTicks (s.rd F.FAB_HB_CTRL_interval_us) ≤ s.tick) then
    s.sendLink port (s.heartbeatBytes port) else s)

/-- HEARTBEAT: only its arrival counts. -/
def execHeartbeat (port : Nat) (body : List Byte) (s : State) : Host.Outcome State Fault Refusal := .next (s.onLink port 3 body id)

/-- LINK_SILENCE: a flit in the tick of the expiry keeps the link alive (R194). -/
def execLinkSilence (port : Nat) (s : State) : Host.Outcome State Fault Refusal :=
  .next (if s.linkLit port && s.past ((s.port port).heardAt + usTicks (s.rd F.FAB_HB_CTRL_timeout_us)) then s.portDown port else s)

/-! ### The link layer (R292) and retrains (R293) -/

/-- UP, HOLD, KEEPALIVE or already retraining. -/
def State.mayRetrain (s : State) (o : Nat) : Bool := s.linkLit o || (s.portsLive && s.isFabric o && s.portState o == 6)

/-- The lanes of the link: in KEEPALIVE it sends on lane 0 only, and the locked ones are those it has (R294). -/
def State.linkLanes (s : State) (o : Nat) : Nat := if s.portState o = 7 then (s.port o).locked else s.rdAt F.PORT_STATUS_lanes_up o

/-- Acknowledge flits below a count and send what waited. -/
def State.linkAck (s : State) (o c : Nat) : State :=
  let p := s.port o
  (s.setPort o { p with retry := p.retry.filter (fun x => !newer16 c x.1), nakIn := (0, 0) }).drainPort o

/-- LINK_ACK. -/
def execLinkAck (port : Nat) (body : List Byte) (s : State) : Host.Outcome State Fault Refusal :=
  .next (s.onLink port 4 body (fun s => s.linkAck port (field body 2 2)))

/-- RETRY_REQ: resend from the count asked for; the eighth in a row for it starts a retrain at full width. -/
def execRetryReq (port : Nat) (body : List Byte) (s : State) : Host.Outcome State Fault Refusal :=
  .next (s.onLink port 5 body (fun s =>
    let c := field body 2 2
    let p := s.port port
    let r := nakRun p.nakIn c
    let s := s.setPort port { p with nakIn := r, sentAt := s.tick }
    let s := (p.retry.filter (fun x => !newer16 c x.1)).foldl (fun t x => t.send (.flit x.2)) s
    if 8 ≤ r.2 && s.mayRetrain port then s.startRetrain port (s.linkLanes port) true else s))

/-- FLIT_CRC_FAIL: the flit is discarded and asked for again; `fec` says that its FEC codeword could not be corrected, which a front-end or
bridge port counts too (R303). -/
def execFlitCrcFail (port : Nat) (fec : Bool) (s : State) : Host.Outcome State Fault Refusal :=
  if s.portsLive && decide (port < 76) && s.portState port == 4 then
    .next (if s.isFabric port then s.crcFails port fec else if fec then s.addAt F.PORT_FEC_UE_count port 1 else s)
  else .next s

/-- RETRAIN: both ends realign on the lanes kept. -/
def execRetrain (port : Nat) (body : List Byte) (s : State) : Host.Outcome State Fault Refusal :=
  .next (s.onLink port 6 body (fun s =>
    if s.mayRetrain port then s.startRetrain port (Nat.land (field body 2 1) (s.linkLanes port)) false else s))

/-- Lanes of a port fail (R283, R293). -/
def State.failLanes (s : State) (o lanes : Nat) : State :=
  let up := s.linkLanes o
  let bad := Nat.land up lanes
  if bad = 0 then s
  else
    let s := s.addSatAt F.PORT_LINK_ERR_lane_drops o (popcount8 bad)
    let s := s.setPort o { s.port o with laneFailed := true }
    let left := s.usableLanes o (up - bad)
    if s.mayRetrain o then s.startRetrain o (up - bad) true
    else if left = 0 then s.portDown o
    else if s.isFabric o then
      -- in HELLO: the lanes left are told
      ((s.setPort o { s.port o with locked := left }).wrAt F.PORT_STATUS_lanes_up o left).sendHello o
    else (s.wrAt F.PORT_STATUS_lanes_up o left).raise .PORT_DEGRADED o

/-- LANE_FAIL: `lanes` is a mask. -/
def execLaneFail (port lanes : Nat) (s : State) : Host.Outcome State Fault Refusal :=
  .next (if s.portsLive && decide (port < 76) then s.failLanes port lanes else s)

/-- FEC_ALIGNMENT_LOSS (R293). -/
def execFecAlignmentLoss (port : Nat) (s : State) : Host.Outcome State Fault Refusal :=
  .next (if s.linkLit port then s.startRetrain port (s.linkLanes port) true else s)

/-- RETRAIN_TIMEOUT (R293): not UP at 10 ms. -/
def execRetrainTimeout (port : Nat) (s : State) : Host.Outcome State Fault Refusal :=
  .next (if s.portsLive && s.isFabric port && s.portState port == 6 && s.past ((s.port port).since + msTicks 10 - 1) then s.portDown port else s)

/-- LIGHT_SOURCE_FAIL (R283): the engine changes over; a wavelength lost from both sources fails its lane on every port of the
engine. `wavelengths` is a mask of the wavelengths lost. -/
def execLightSourceFail (engine source wavelengths : Nat) (s : State) : Host.Outcome State Fault Refusal :=
  if s.portsLive && decide (engine < 9) && decide (source < 2) && decide (wavelengths % 16 ≠ 0) then
    let k := 2 * engine + source
    let l := Nat.land (sget 15 s.links.light k) (15 - wavelengths % 16)
    let s := { s with links := { s.links with light := sset 15 s.links.light k l } }
    let s := (s.wr F.PORT_LIGHT_source_ok (putBit (s.rd F.PORT_LIGHT_source_ok) k false)).raise .PORT_LIGHT_SOURCE engine
    .next ((List.range 8).foldl (fun t p => t.failLanes (8 * engine + p) (15 - s.litLanes engine)) s)
  else .next s

/-! ### KEEPALIVE (R294) -/

/-- KEEPALIVE_IDLE_TIMER: 1 ms without a non-LINK flit on a port of a DORMANT module. -/
def execKeepaliveIdleTimer (port : Nat) (s : State) : Host.Outcome State Fault Refusal :=
  .next (if s.mode == .dormant && s.isFabric port && s.portState port == 4 && s.past ((s.port port).dataAt + msTicks 1 - 1) then
    ((s.sendLink port (linkBytes 8 1 [])).setPortState port 7).wrAt F.PORT_STATUS_lanes_up port 1 else s)

/-- KEEPALIVE: the peer runs on lane 0 only, and so does this end. -/
def execKeepalive (port : Nat) (body : List Byte) (s : State) : Host.Outcome State Fault Refusal :=
  .next (s.onLink port 8 body (fun s =>
    if s.portState port = 4 then (s.setPortState port 7).wrAt F.PORT_STATUS_lanes_up port 1 else s))

/-- WAKE: the link leaves KEEPALIVE. -/
def execWake (port : Nat) (body : List Byte) (s : State) : Host.Outcome State Fault Refusal :=
  .next (s.onLink port 9 body (fun s =>
    if s.portState port = 7 then (s.leaveKeepalive port).drainPort port else s))

/-! ### Hot links (R269) -/

/-- The module's hot global ports as a mask. -/
def State.hotGlobals (s : State) : Nat := s.rd F.FAB_HOT_GLOBAL_hot

/-- HOT_SET goes to each slot of the group. -/
def State.announceHot (s : State) : State :=
  ((List.range 72).filter (fun o => s.inService o && s.portClass o == 0)).foldl
    (fun t o => t.sendLink o (linkBytes 7 8 (leBytes 5 t.hotGlobals))) s

/-- An output turns hot or stops being hot. -/
def State.setHot (s : State) (o : Nat) (h : HotSt) (hot : Bool) : State :=
  let any := s.fab.hot.any (fun p => p.2.hot)
  let s := { s with fab := { s.fab with hot := sset {} s.fab.hot o { h with hot := hot, hotSince := if hot then s.tick else 0, fullSince := none, lowSince := none } } }
  let still := s.fab.hot.any (fun p => p.2.hot)
  let s := if !any && still then { s with fab := { s.fab with hotAny := s.tick } }
    else if any && !still then s.add F.FAB_HOT_TIME_count ((s.tick - s.fab.hotAny) / usTicks 1) else s
  if s.portClass o = 1 then (s.wr F.FAB_HOT_GLOBAL_hot (putBit (s.rd F.FAB_HOT_GLOBAL_hot) (s.portIndex o) hot)).announceHot
  else s.wr F.FAB_HOT_INTRA_hot (putBit (s.rd F.FAB_HOT_INTRA_hot) (s.portIndex o) hot)

/-- HOT_LINK_TIMER: the output's queue has held hot_depth flits for hot_us, or stayed below half of it. `depth` is the part of the queue
that waits for the wire, whose pace the model leaves out. -/
def execHotLinkTimer (output depth : Nat) (s : State) : Host.Outcome State Fault Refusal :=
  if s.alive && s.isFabric output then
    let s := ({ s with fab := { s.fab with hot := sset {} s.fab.hot output { s.hotOf output with wire := depth } } }).noteHot output
    let h := s.hotOf output
    let us := usTicks (s.rd F.FAB_HOT_CTRL_hot_us)
    let up := !h.hot && (match h.fullSince with
      | some t => decide (t + us ≤ s.tick)
      | none => false)
    let dn := h.hot && (match h.lowSince with
      | some t => decide (t + us ≤ s.tick)
      | none => false)
    if up || dn then .next ((s.setHot output h up).noteHot output) else .next s
  else .next s

/-- HOTSPOT_TIMER: hot without a break for hotspot_ms; FAB_HOTSPOT is raised once until software clears the record. -/
def execHotspotTimer (output : Nat) (s : State) : Host.Outcome State Fault Refusal :=
  let h := s.hotOf output
  if s.alive && s.isFabric output && h.hot && decide (h.hotSince + msTicks (s.rd F.FAB_HOT_CTRL_hotspot_ms) ≤ s.tick) &&
      !s.isSet F.FAB_HOTSPOT_valid then
    let s := (((s.wr F.FAB_HOTSPOT_valid 1).wr F.FAB_HOTSPOT_role (s.portClass output)).wr F.FAB_HOTSPOT_index (s.portIndex output)).wr
      F.FAB_HOTSPOT_peer (s.peerAddr output)
    .next (s.raiseRec .FAB_HOTSPOT output Rec.fabHotspot)
  else .next s

/-- HOT_SET: the hot global links of the peer's slot. -/
def execHotSet (port : Nat) (body : List Byte) (s : State) : Host.Outcome State Fault Refusal :=
  .next (s.onLink port 7 body (fun s =>
    if s.portClass port = 0 then
      { s with fab := { s.fab with peerHot := sput s.fab.peerHot (s.peerAddr port % 32) (field body 8 5 % 2 ^ 39) } }
    else s))

/-! ### Error trends (R295) -/

/-- One fabric port's hour. -/
def State.berPort (s : State) (o corrected : Nat) : State :=
  let p := s.port o
  let bad := decide (s.rd F.PORT_BER_THRESH_ce_per_hour * 1024 < corrected) ||
    decide (s.rd F.PORT_BER_THRESH_retrains_per_hour < p.retrains) || p.laneFailed
  let s := s.setPort o { p with retrains := 0, laneFailed := false, berRaised := p.berRaised || bad }
  if bad && !p.berRaised then (s.raise .PORT_BER_TREND o).warn else s

/-- PORT_BER_HOURLY: at a whole hour of MOD_TICK, with the corrected symbols of each of the 76 ports in that hour. -/
def execPortBerHourly (corrected : List Nat) (s : State) : Host.Outcome State Fault Refusal :=
  if s.alive && decide (s.links.berHour < s.tick / hourTicks) then
    let s := { s with links := { s.links with berHour := s.tick / hourTicks } }
    let s := (List.range 76).foldl (fun t o => t.addAt F.PORT_FEC_CE_count o (corrected.getD o 0)) s
    .next (s.fabricPorts.foldl (fun t o => t.berPort o (corrected.getD o 0)) s)
  else .next s

end Sys2Proof.Machine
end

