-- ==== Sys2Proof/Machine/Direct.lean ====
section
/-! DEFINITION. Machine/Direct.lean: the fault manager's directives (R355 to R357), remaps (R26, R315, R329, R354), and pupae (R358). -/

namespace Sys2Proof.Machine

/-! ### Acceptance (R355, R357) -/

/-- A mapping epoch the directive may not carry: for REMAP any but the module's own + 1, else one older than its own. -/
def State.wrongEpoch (s : State) (code : Nat) (d : Directive) : Bool :=
  if !s.job.active then false
  else if code = 1 then d.epoch != (s.epoch + 1) % 2 ^ 32
  else newer32 s.epoch d.epoch

/-- A job ID other than 0 or the module's own; a REMAP that gives a READY module its rank names a job it does not have yet. -/
def State.wrongJob (s : State) (code : Nat) (d : Directive) : Bool :=
  d.job != 0 && d.job != s.jobId && !(code == 1 && s.mode == .ready && !s.job.active)

/-- The states a directive is accepted in (R357). -/
def State.directiveState (s : State) (code : Nat) (d : Directive) : Bool :=
  let runs := s.mode == .running || s.mode == .held
  match code with
  | 1 => runs || (s.mode == .ready && !s.job.active && s.ev.takeover.isNone)
  | 2 | 4 => s.mode == .running
  | 3 => (s.mode == .held || s.mode == .running) && s.step == .discarded
  | 5 => s.mode == .held
  | 6 | 9 => runs
  | 7 => s.mode != .off && s.mode != .standby && s.mode != .failed
  | 8 => s.mode == .ready || s.mode == .running || s.mode == .held || s.mode == .dormant
  | 10 => if d.w2 % 2 = 0 then s.mode == .dormant && !s.ev.eclosing else s.mode == .ready && !s.job.active && s.ev.takeover.isNone
  | _ => false

/-- A suspect core has neither a stand-in nor a healthy spare (R14). -/
def State.coreLost (s : State) : Bool :=
  allCores.any (fun n => s.suspect n && (sget? s.sched.standin n).isNone && (s.healthy (quadOf n)).isEmpty)

/-- Barred by R14, R342 or R351: after a FATAL_JOB event what would open a step; with the replay count at its end, or a core lost,
REPLAY and RESUME. -/
def State.directiveBarred (s : State) (code : Nat) : Bool :=
  (s.job.fatal && (code == 1 || code == 2 || code == 3 || code == 5)) ||
  ((code == 3 || code == 5) && (s.job.exhausted || s.coreLost))

/-- Operands of each directive: 0 good, 2 TOO_LATE, 6 BAD_ARG. -/
def State.directiveArg (s : State) (code : Nat) (d : Directive) : Nat :=
  let n := d.w2 % 2 ^ 64
  match code with
  | 1 =>
    let r := fld d.w2 15 0
    let m := fld d.w2 31 16
    if 39968 ≤ m ∨ (s.job.active ∧ s.rankCount ≤ r) ∨ (s.rankAt m).isSome ∨ (s.mode == .ready && m != s.self) then 6 else 0
  | 2 => if n ≤ s.instar || s.barrier.recordSent || (s.mirror.record.any (fun x => x.instar == n)) then 2
         else if n = s.nextInstar ∧ s.stepOpen then 0 else 6
  | 3 => if n = s.nextInstar then 0 else 6
  | 7 => if 76 ≤ d.w2 % 128 then 6 else 0
  | _ => 0

/-- The result a directive gets before its action (R355, R357). The first one ever applied, which leaves its code in ERR_FM, may have
any fm_seq (log entry 72). -/
def State.directiveResult (s : State) (code : Nat) (d : Directive) : Nat :=
  if s.rd F.ERR_FM_code != 0 && !newer32 d.fmSeq (s.rd F.ERR_FM_fm_seq) then 1
  else if s.wrongJob code d then 4
  else if s.wrongEpoch code d then 5
  else if !s.directiveState code d || s.directiveBarred code then 3
  else s.directiveArg code d

/-- A directive that is not newer: DUPLICATE, with the result first given where it is among the last 64 (R428). -/
def State.duplicateAnswer (s : State) (code : Nat) (d : Directive) : State :=
  let first := (s.mgmt.results.find? (fun r => r.1 == d.fmSeq)).map (fun r => r.2.2)
  (s.wr F.ERR_FM_result 1).mgmtAll [0] 0x07 (match first with
    | some r => [d.fmSeq, code, 1, r]
    | none => [d.fmSeq, code, 1])

/-- Carry out an accepted directive: at once, or its result waits (R357); the waiting entry's last part is the port of RETIRE_PORT. -/
def State.applied (s : State) (code : Nat) (d : Directive) (waits : Bool) (act : State → State) : State :=
  let s := ((s.wr F.ERR_FM_fm_seq d.fmSeq).wr F.ERR_FM_code code).wr F.ERR_FM_instance d.inst
  if waits then act { s with ev := { s.ev with waiting := s.ev.waiting ++ [(code, d.fmSeq, d.w2 % 128)] } }
  else (act s).answer code d.fmSeq 0

/-- A directive has come. -/
def State.onDirective (s : State) (code : Nat) (d : Directive) (waits : Bool) (act : State → State) : State :=
  match s.directiveResult code d with
  | 0 => s.applied code d waits act
  | 1 => s.duplicateAnswer code d
  | r => (s.answer code d.fmSeq r).raiseRec .DIRECTIVE_REJECTED 0xFFFF Rec.errFm

/-! ### REMAP -/

/-- The mapping table after rank `r` moves to module `m` in an epoch: the old module is replaced in every partner field too. -/
def remapTable (t : Sparse MapEntry) (r old m epoch : Nat) : Sparse MapEntry :=
  smap (fun k (e : MapEntry) =>
    let e := if e.partner = old then { e with partner := m, epochLow := epoch % 2 ^ 16 } else e
    if k = r then { e with module := m, epochLow := epoch % 2 ^ 16 } else e) t

/-- The sequence spaces begin again in the new epoch, in which the flits sent before are dropped (R19, R261). -/
def State.renewSpaces (s : State) : State := (s.resetSpaces.promoteRx).askAgain

/-- What a rise of the epoch does to the step (R26, R315): before MOLT_PENDING it is discarded; in MOLT_PENDING the module waits for
the decision of the new epoch. The root takes that decision: it asks an unchanged partner for its record again, else it discards; with
no step pending, the last step has molted, and it tells its children so; the module that takes rank `r` over has that state by its pull (R330)
and is told for its own children's sake alone. -/
def State.epochRise (s : State) (r : Nat) (partnerNew : Bool) : State :=
  if s.step == .moltPending then
    let s := s.renewSpaces
    if !s.isRoot then { s with barrier := { s.barrier with awaitNew := true } }
    else if s.barrier.recordSent && !partnerNew then s.sendMoltRecord
    else s.decideDiscard 7 r
  else
    let s := if s.live then s.discardStep 7 r false else s.renewSpaces
    if s.isRoot then s.sayDecision (s.kids.filter (fun k => k != r || !(barrierKids k s.rankCount).isEmpty)) s.instar 1 0 0 else s

/-- A REMAP on a module of the job (R26, R329, R354); with the replay count at 15 the job is then held (R351) (log entry 70). -/
def State.remapMember (s : State) (d : Directive) : State :=
  let r := fld d.w2 15 0
  let m := fld d.w2 31 16
  let old := s.moduleOf r
  let p := s.partner
  let j := { s.job with map := remapTable s.job.map r old m d.epoch, losses := s.job.losses.filter (fun l => l.rank != r) }
  let s := ({ s with job := j }).wr F.MOD_MAP_EPOCH_epoch d.epoch
  if old = s.self then ((s.discardStep 7 r false).stopWriter 5).enterDraining
  else
    let last : Bool := decide (15 ≤ State.replay s)
    let s := (s.chrysEpoch).epochRise r (p == old)
    let s := if p = old then s.startBuild else s
    let s := s.watchFrom
    if last then s.holdNow else s

/-- A REMAP on a READY module gives it a rank; its runtime then loads the job (R359). -/
def State.remapSpare (s : State) (d : Directive) : State :=
  let t : Takeover := { jobId := d.job, rank := fld d.w2 15 0, epoch := d.epoch, replay := fld d.w3 3 0, discards := fld d.w3 11 4 }
  { s with ev := { s.ev with takeover := some t, wokenAt := none } }

/-- REMAP (R26, R357, R359). -/
def execRemap (m : Mgmt) (d : Directive) (s : State) : Host.Outcome State Fault Refusal :=
  .next (s.onMgmt m [0] false (fun _ s => s.onDirective 1 d (s.mode == .ready) (fun s =>
    if s.mode == .ready then s.remapSpare d else s.remapMember d)))

/-! ### The other directives -/

/-- DISCARD_STEP (R316). -/
def execDiscardStep (m : Mgmt) (d : Directive) (s : State) : Host.Outcome State Fault Refusal :=
  .next (s.onMgmt m [0] false (fun _ s => s.onDirective 2 d false State.directedFail))

/-- REPLAY (R357). -/
def execReplay (m : Mgmt) (d : Directive) (s : State) : Host.Outcome State Fault Refusal :=
  .next (s.onMgmt m [0] false (fun _ s => s.onDirective 3 d true (fun s => { s with mode := .running })))

/-- HOLD (R28). -/
def execHold (m : Mgmt) (d : Directive) (s : State) : Host.Outcome State Fault Refusal :=
  .next (s.onMgmt m [0] false (fun _ s => s.onDirective 4 d true (fun s => s.drainAt .hold)))

/-- RESUME (R28): the next step opens from the committed instar. -/
def execResume (m : Mgmt) (d : Directive) (s : State) : Host.Outcome State Fault Refusal :=
  .next (s.onMgmt m [0] false (fun _ s => s.onDirective 5 d false (fun s => { s with mode := .running, job := { s.job with losses := [] } })))

/-- CHRYSALIS (R364, R367). -/
def execChrysalis (m : Mgmt) (d : Directive) (s : State) : Host.Outcome State Fault Refusal :=
  .next (s.onMgmt m [0] false (fun _ s => s.onDirective 6 d true State.directedChrys))

/-- A port retired, or restored by a bring-up (log entry 72). -/
def State.retirePort (s : State) (o : Nat) (restore : Bool) : State :=
  if !restore then s.enablePort o false
  else if s.portState o = 4 ∨ s.portState o = 5 ∨ s.portState o = 7 then (s.wrAt F.PORT_CTRL_enable o 1).finishPort o
  else
    let s := s.wrAt F.PORT_CTRL_enable o 1
    if s.portState o < 2 then s.startBringup o else s

/-- RETIRE_PORT. -/
def execRetirePort (m : Mgmt) (d : Directive) (s : State) : Host.Outcome State Fault Refusal :=
  .next (s.onMgmt m [0] false (fun _ s => s.onDirective 7 d true (fun s => s.retirePort (d.w2 % 128) (bitAt d.w2 7))))

/-- TEST_NOW (R337): in DORMANT it is kept for the next eclosion. -/
def execTestNow (m : Mgmt) (d : Directive) (s : State) : Host.Outcome State Fault Refusal :=
  .next (s.onMgmt m [0] false (fun _ s => s.onDirective 8 d false (fun s =>
    if s.mode == .dormant then { s with test := { s.test with pendingNow := true } } else s.testNow)))

/-- DRAIN (R28, R21). -/
def execDrain (m : Mgmt) (d : Directive) (s : State) : Host.Outcome State Fault Refusal :=
  .next (s.onMgmt m [0] false (fun _ s => s.onDirective 9 d true (fun s => s.drainAt .drain)))

/-! ### Pupae (R358) -/

/-- Return to DORMANT: HBM in self-refresh, the control complex suspended. -/
def State.goDormant (s : State) : State :=
  let s := { s with mode := .dormant, boot := { s.boot with os := false }, ev := { s.ev with wokenAt := none } }
  (s.wr F.MEM_STATUS_self_refresh 1).finishDirectives 10

/-- Eclosion begins: HBM leaves self-refresh, and cores whose last test is older than the test period are tested. -/
def State.eclose (s : State) : State :=
  let due := (List.range 272).filter (fun p => !s.test.retired.contains p && decide (s.rdAt F.CHK_CORE_TEST_tick p + s.testPeriod < s.tick))
  due.foldl State.beginTest { s with ev := { s.ev with eclosing := true } }

/-- WAKE_SPARE. -/
def execWakeSpare (m : Mgmt) (d : Directive) (s : State) : Host.Outcome State Fault Refusal :=
  .next (s.onMgmt m [0] false (fun _ s => s.onDirective 10 d true (fun s => if d.w2 % 2 = 0 then s.eclose else s.goDormant)))

/-- ECLOSION_COMPLETE: READY once the tests have ended, or FAILED where the eclosion fails. -/
def execEclosionComplete (ok : Bool) (s : State) : Host.Outcome State Fault Refusal :=
  if !s.ev.eclosing || s.mode != .dormant then .next s
  else if !ok then .next (({ s with ev := { s.ev with eclosing := false } }).enterFailed 0x902)
  else if (List.range 272).any (fun p => s.isSetAt F.CHK_CORE_TEST_testing p) then .next s
  else
    let now := s.test.pendingNow
    let s := { s with mode := .ready, boot := { s.boot with os := true }, ev := { s.ev with eclosing := false, wokenAt := some s.tick },
                      test := { s.test with pendingNow := false } }
    let s := ((s.wr F.MEM_STATUS_self_refresh 0).raise .ECLOSION).finishDirectives 10
    .next (if now then s.testNow else s)

/-- PUPA_RETURN_TIMEOUT: 600 s without a REMAP and without a job. -/
def execPupaReturnTimeout (s : State) : Host.Outcome State Fault Refusal :=
  match s.ev.wokenAt with
  | none => .next s
  | some t => .next (if s.mode == .ready && !s.job.active && s.ev.takeover.isNone && s.past (t + sTicks 600 - 1) then s.goDormant else s)

end Sys2Proof.Machine
end

