-- ==== Sys2Proof/Machine/Boot.lean ====
section
/-! DEFINITION. Machine/Boot.lean: OTP (R415, R416), flashes and images (R408 to R411), the configuration (R413, R414), measurement
(R423) and the boot chain with its fallbacks and network recovery (R405, R410 to R412, R418). Byte layouts that the manual does not
give are those of log entry 36. -/

namespace Sys2Proof.Machine

/-! ### OTP (R415, R416) -/

/-- One byte into CRC-16/CCITT, polynomial 0x1021. -/
def crcByte (c : Nat) (b : Nat) : Nat :=
  (List.range 8).foldl (fun c _ => if 0x8000 ≤ c then Nat.xor (c * 2 % 0x10000) 0x1021 else c * 2 % 0x10000) (Nat.xor c (b * 256))
def crc16 (bs : List Byte) : Nat := bs.foldl (fun c b => crcByte c b.toNat) 0xFFFF

/-- A field of the array: offset, slot size, slots. -/
structure OtpField where
  base : Nat
  size : Nat
  slots : Nat
deriving DecidableEq, Repr

def otpIdentity : OtpField := ⟨0, 256, 1⟩
def otpRevoke : OtpField := ⟨0x100, 4, 16⟩
def otpClass : OtpField := ⟨0x140, 4, 4⟩
def otpPolicy : OtpField := ⟨0x150, 8, 4⟩
def otpRepair : OtpField := ⟨0x190, 40, 4⟩

def otpBytes (m : Sparse Byte) (a n : Nat) : List Byte := (List.range n).map (fun k => sget 0 m (a + k))
def otpSlot (m : Sparse Byte) (f : OtpField) (k : Nat) : List Byte := otpBytes m (f.base + k * f.size) f.size
def otpUsed (m : Sparse Byte) (f : OtpField) (k : Nat) : Bool := (otpSlot m f k).any (fun b => b != 0)
/-- Used, and its check over data and slot number matches. -/
def otpValid (m : Sparse Byte) (f : OtpField) (k : Nat) : Bool :=
  let bs := otpSlot m f k
  otpUsed m f k && crc16 (bs.take (f.size - 2) ++ leBytes 1 k) == field bs (f.size - 2) 2
/-- The data of the valid slot with the highest number. -/
def otpValue (m : Sparse Byte) (f : OtpField) : Option (List Byte) :=
  (((List.range f.slots).filter (otpValid m f)).getLast?).map (fun k => (otpSlot m f k).take (f.size - 2))
/-- The next unused slot; none where the field is frozen. -/
def otpNext (m : Sparse Byte) (f : OtpField) : Option Nat := (List.range f.slots).find? (fun k => !otpUsed m f k)

def otpPowerClass (m : Sparse Byte) : Nat := match otpValue m otpClass with
  | some b => if field b 0 2 = 30 then 30 else 24
  | none => 24
/-- Boot policy bits [3:0]. -/
def otpPolicyBits (m : Sparse Byte) : Nat := match otpValue m otpPolicy with
  | some b => field b 0 1 % 16
  | none => 7
/-- Physical cores that the repair map retires. -/
def otpRetired (m : Sparse Byte) : List Nat := match otpValue m otpRepair with
  | some b => (List.range 272).filter (fun p => bitAt (field b 0 34) p)
  | none => []
/-- Revoked firmware keys, one bit each. -/
def otpRevoked (m : Sparse Byte) : Nat :=
  (List.range 16).foldl (fun a k => a + bit (otpValid m otpRevoke k && field (otpSlot m otpRevoke k) 0 2 == 0xA5A5) * 2 ^ k) 0
/-- The anti-rollback counter: bits set. -/
def otpRollback (m : Sparse Byte) : Nat :=
  let x := leNat (otpBytes m 0x170 32)
  ((List.range 256).filter (bitAt x)).length

/-- Boot policy as read at the last stage 1. -/
def State.policy (s : State) : Nat := otpPolicyBits s.boot.otpRead

/-! ### Flashes and images (R408, R409, R411) -/

def State.flash (s : State) (f : Nat) : Flash := if f = 0 then s.boot.flashA else s.boot.flashB
def State.setFlash (s : State) (f : Nat) (x : Flash) : State :=
  if f = 0 then { s with boot := { s.boot with flashA := x } } else { s with boot := { s.boot with flashB := x } }

/-- Base and size of the region of an image kind. -/
def imageBase (kind : Nat) : Nat := match kind with
  | 1 => 0x1000
  | 2 => 0x100000
  | 3 => 0x800000
  | _ => 0xC000000
def imageSize (kind : Nat) : Nat := match kind with
  | 1 => 0xFF000
  | 2 => 0x700000
  | 3 => 0xB800000
  | _ => 0x1F00000

/-- A little-endian number of an image's header, and its bytes. -/
def Flash.hdr (x : Flash) (kind a n : Nat) : Nat := leNat (x.image.readN (imageBase kind + a) n)
def Flash.body (x : Flash) (kind : Nat) : List Byte := x.image.readN (imageBase kind + 4096) (x.hdr kind 16 8)
/-- Directory: release in bytes 0 to 3, key index in 4 to 5, public key from byte 8 (log entry 36). -/
def Flash.release (x : Flash) : Nat := leNat (x.image.readN 0 4)
def Flash.keyIndex (x : Flash) : Nat := leNat (x.image.readN 4 2)
def Flash.pubKey (x : Flash) : List Byte := x.image.readN 8 1952

def headerOk (x : Flash) (kind : Nat) (magic : Nat) : Bool :=
  x.hdr kind 0 4 == magic && x.hdr kind 4 1 == kind && decide (x.hdr kind 16 8 + 4096 ≤ imageSize kind)

/-- What an image fails of R411: 1 key digest, 2 key revoked, 3 header, 4 signature, 5 digest, 6 security version, 7 writes without
a commit (R432); 0 where it is accepted. -/
def State.imageBad (s : State) (f kind : Nat) : Nat :=
  let x := s.flash f
  if x.dirty then 7
  else if !headerOk x kind 0x5951494D || x.hdr kind 8 4 != x.release || x.hdr kind 6 2 != x.keyIndex || decide (15 < x.keyIndex) then 3
  else if bitAt (otpRevoked s.boot.otpRead) x.keyIndex then 2
  else if Config.shake256 x.pubKey ≠ Config.romKey x.keyIndex then 1
  else if !Config.verifies x.pubKey (x.image.readN (imageBase kind) 256) (x.image.readN (imageBase kind + 256) 3309) then 4
  else if Config.shake256 (x.body kind) ≠ x.hdr kind 24 32 then 5
  else if x.hdr kind 5 1 < otpRollback s.boot.otp then 6
  else 0

/-- A flash's set verifies under R411. -/
def State.setOk (s : State) (f : Nat) : Bool := s.imageBad f 1 == 0 && s.imageBad f 2 == 0 && s.imageBad f 3 == 0
/-- The lowest security version of a set; 0xFF where it does not verify. -/
def State.setVersion (s : State) (f : Nat) : Nat :=
  if s.setOk f then min ((s.flash f).hdr 1 5 1) (min ((s.flash f).hdr 2 5 1) ((s.flash f).hdr 3 5 1)) else 0xFF

/-! ### Configuration (R413, R414) -/

/-- Items of a body: two-byte type and length, then the value padded to a multiple of 8; none where it is not well formed. -/
def parseItems : Nat → List Byte → Sparse (List Byte) → Nat → Option (Sparse (List Byte) × Nat)
  | 0, _, _, _ => none
  | n + 1, bs, acc, unk =>
    if bs.isEmpty then some (acc, unk)
    else
      let ty := field bs 0 2
      let len := field bs 2 2
      let pad := (len + 7) / 8 * 8
      if bs.length < 4 + pad ∨ ((bs.drop (4 + len)).take (pad - len)).any (fun b => b != 0) then none
      else if 1 ≤ ty ∧ ty ≤ 8 then parseItems n (bs.drop (4 + pad)) (sput acc ty ((bs.drop 4).take len)) unk
      else parseItems n (bs.drop (4 + pad)) acc (unk + 1)

/-- The effective power class (R406), and its limit in watts (R392). -/
def classWatts (c : Nat) : Nat := if c = 30 then 3000 else 2400
def State.classLimit (s : State) : Nat := classWatts (s.rd F.MOD_ID_power_class)

/-- Group number, group count, power limit and cap of a configuration's items (log entry 36). -/
def cfgGroup (m : Sparse (List Byte)) : Nat := field (sget [] m 1) 0 2
def cfgGroups (m : Sparse (List Byte)) : Nat := field (sget [] m 1) 2 2
def cfgLimit (m : Sparse (List Byte)) : Nat := field (sget [] m 8) 0 2
def cfgCap (m : Sparse (List Byte)) : Nat := field (sget [] m 8) 2 2
def wattsOk (lim w : Nat) : Bool := decide (1600 ≤ w) && decide (w ≤ lim)

/-- The configuration is signed by the owner key its header names. -/
def State.cfgSigned (s : State) (x : Flash) : Bool :=
  let k := x.hdr 4 6 2
  match (if 1 ≤ k ∧ k ≤ 8 then s.setting (0x1F + k) else none) with
  | some key => Config.verifies key (x.image.readN (imageBase 4) 256) (x.image.readN (imageBase 4 + 256) 3309)
  | none => false

/-- Read and check a flash's configuration (R414): the failed check, or the configuration. -/
def State.readConfig (s : State) (f : Nat) : Except Nat ConfigSt :=
  let x := s.flash f
  if !headerOk x 4 0x59514346 || x.hdr 4 5 1 != 0 then .error 3
  else if Config.shake256 (x.body 4) ≠ x.hdr 4 24 32 then .error 5
  else match parseItems (x.hdr 4 16 8 / 4 + 2) (x.body 4) [] 0 with
    | none => .error 8
    | some (m, unk) =>
      if (sget? m 1).isNone || (sget? m 4).isNone || (sget? m 8).isNone then .error 9
      else if cfgGroups m < 1 ∨ 1249 < cfgGroups m ∨ cfgGroups m ≤ cfgGroup m then .error 10
      else if !wattsOk s.classLimit (cfgLimit m) || !wattsOk s.classLimit (cfgCap m) then .error 11
      else if bitAt s.policy 3 && !s.cfgSigned x then .error 4
      else .ok { source := f + 1, generation := x.hdr 4 8 4, signed := s.cfgSigned x, items := m, unknown := unk }

/-- Thresholds of item 6, all ones where it is absent: MEM_CE_THRESH, ce_per_hour, retrains_per_hour, ERR_RETRY_THRESH. -/
def cfgThresholds (m : Sparse (List Byte)) : Nat × Nat × Nat × Nat := match sget? m 6 with
  | some b => (field b 0 4, field b 4 4, field b 8 2, field b 12 4)
  | none => (0xFFFFFFFF, 0xFFFFFFFF, 0xFFFF, 0xFFFFFFFF)

/-- A cap within its bounds (R392). -/
def State.clampCap (s : State) (w : Nat) : Nat := max 1600 (min w (s.rd F.PWR_CAP_limit_w))

/-- The registers that a configuration sets. -/
def State.applyConfig (s : State) : State :=
  match s.boot.config with
  | none => s
  | some c =>
    let m := c.items
    let t := cfgThresholds m
    let s := (s.wr F.MOD_ADDR_group (cfgGroup m)).wr F.FAB_TOPO_group_count (cfgGroups m)
    let s := s.wr F.PWR_CAP_limit_w (min s.classLimit (cfgLimit m))
    let s := s.wr F.PWR_CAP_cap_w (s.clampCap (cfgCap m))
    let s := (((s.wr F.MEM_CE_THRESH_per_hour t.1).wr F.PORT_BER_THRESH_ce_per_hour t.2.1).wr F.PORT_BER_THRESH_retrains_per_hour
      t.2.2.1).wr F.ERR_RETRY_THRESH_per_hour t.2.2.2
    let s := ((s.wr F.STW_STATUS_config_source c.source).wr F.STW_STATUS_config_generation c.generation).wr F.STW_STATUS_unknown_items
      (min 255 c.unknown)
    s.wrBit F.SEC_BOOT_config_signed c.signed

/-! ### Main conversion off (R387, R402, R412) -/

/-- Fields outside the always-on island that the manual counts since auxiliary power-up, or that the steward keeps (R356, R405),
with how many elements each has. -/
def lastingFields : List (Field × Nat) :=
  [(F.MOD_ID_power_class, 1), (F.MOD_ID_max_clock, 1), (F.MOD_SERIAL_serial, 1), (F.MOD_ADDR_slot, 1), (F.PWR_SUPPLY_main_mv, 1),
   (F.PWR_SUPPLY_aux_mv, 1), (F.PWR_SUPPLY_main_lost, 1), (F.PWR_SUPPLY_ovp, 1), (F.PWR_SUPPLY_main_good, 1),
   (F.PWR_DROOP_COUNT_droops, 1), (F.PWR_DROOP_COUNT_held_steps, 1), (F.PWR_ENERGY_TOTAL_count, 1), (F.PWR_THERM_STATUS_tripped, 1),
   (F.PWR_THERM_STATUS_throttle_ms, 1), (F.ERR_EVENT_SEQ_seq, 1), (F.ERR_SEV_COUNT_count, 6), (F.ERR_FM_fm_seq, 1), (F.ERR_FM_code, 1),
   (F.ERR_FM_result, 1), (F.ERR_FM_instance, 1)] ++
  [(F.ARR_CHK_STATUS_retries_total, 272), (F.ARR_BUSY_count, 272), (F.ARR_WB_STALL_count, 272), (F.ARR_CONFLICT_count, 272),
   (F.ARR_REQUANT_count, 272), (F.ROW_BUSY_count, 272), (F.ROW_EXP_count, 272), (F.ROW_SKIP_count, 272), (F.ROW_STALL_count, 272),
   (F.ROW_PREPASS_count, 272), (F.VEC_ISSUE_count, 272), (F.VEC_OC_CONFLICT_count, 272), (F.VEC_IDLE_SLOT_count, 272),
   (F.SCH_RERUNS_reruns, 272)] ++
  [(F.MEM_POISON_COUNT_refetches, 1), (F.MEM_POISON_COUNT_consumed, 1), (F.MEM_SCRUB_STATUS_passes, 1), (F.MEM_CE_COUNT_count, 12),
   (F.MEM_UE_COUNT_count, 12), (F.MEM_RD_GRAN_count, 1), (F.MEM_WR_GRAN_count, 1), (F.QUE_COUNT_popped, 8192),
   (F.SCH_COCOON_EVENTS_not_stored, 1), (F.UPD_ENGINE_reruns, 4), (F.UPD_ENGINE_faults, 4), (F.UPD_PARAMS_count, 1),
   (F.UPD_FENCE_STALL_count, 1), (F.FAB_RETX_STATUS_retransmitted, 1), (F.FAB_RETX_STATUS_unreachable, 1), (F.FAB_TX_FLITS_count, 1),
   (F.FAB_RX_FLITS_count, 1), (F.FAB_NONMIN_FLITS_count, 1), (F.FAB_TRANSIT_FLITS_count, 1), (F.FAB_COLL_OPS_count, 1),
   (F.FAB_HOT_TIME_count, 1), (F.PORT_FEC_CE_count, 76), (F.PORT_FEC_UE_count, 76), (F.CHK_MOLT_TIME_worst, 1),
   (F.CHK_MOLT_COUNT_molts, 1), (F.CHK_MOLT_COUNT_discards, 1), (F.CHK_INPUT_WAIT_ticks, 1), (F.CHK_CANARY_STATUS_passes, 1)]

/-- The key stands in the SEC or STW block, or for a lasting field. -/
def lasting (key : Nat) : Bool :=
  (decide (0x2000A000000 * 64 ≤ key % 2 ^ 64) && decide (key % 2 ^ 64 < 0x2000C000000 * 64)) ||
  lastingFields.any (fun p => key % 2 ^ 64 == p.1.slot && decide (key / 2 ^ 64 < p.2))

/-- Memory whose supply has gone: every byte is undefined (R387). -/
def lostImage (gen : Nat) : Image := ({} : Image).discardOutside gen []

/-- Everything outside the always-on island is lost and stands as at reset (R387); the configuration in force is applied again (log entry 40). -/
def State.freshHub (s : State) : State :=
  let e : EventSt := { windows := s.ev.windows, journal := s.ev.journal, fmAt := s.ev.fmAt, fmRaised := s.ev.fmRaised, fmSeen := s.ev.fmSeen,
                       statusAt := s.ev.statusAt }
  let p := s.pwr
  let p : PwrSt := { resetLow := p.resetLow, absent := p.absent, mainOn := p.mainOn, wakeLow := p.wakeLow, bootWanted := p.bootWanted,
                     converting := p.converting, rails := p.rails, awake := p.awake, fromRom := p.fromRom, energy := p.energy,
                     package := p.package, throttleAt := p.throttleAt, thermLow := p.thermLow }
  let lost := lostImage s.drawn
  let t : State := { pending := s.pending, regs := skeep lasting s.regs, outbox := s.outbox, tick := s.tick, drawn := s.drawn + 1,
                     mode := s.mode, ev := e, mem := { hbm := lost, tile := lost, oc := lost },
                     links := { light := s.links.light, feDropped := s.links.feDropped, feTaken := s.links.feTaken }, pwr := p,
                     boot := { s.boot with os := false }, mgmt := s.mgmt }
  (t.wr F.PWR_CTRL_clock_ceiling (t.rd F.MOD_ID_max_clock)).applyConfig

/-- Main conversion goes off: from any state above STANDBY the module loses its contents and enters STANDBY. -/
def State.mainOff (s : State) : State :=
  let s := { s with pwr := { s.pwr with converting := false, rails := false } }
  if s.mode == .off || s.mode == .standby then s else { s.freshHub with mode := .standby }

/-- Pupa flag of item 7. -/
def State.isPupa (s : State) : Bool := match s.configItem 7 with
  | some b => bitAt (field b 0 1) 0
  | none => false

/-! ### Roles of the optical ports (R284, R285) -/

/-- Class and index of port `o` under the default map. -/
def defaultRole (o : Nat) : Nat × Nat :=
  let e := o / 8
  let k := o % 8
  if k < 3 then (0, 9 * k + e)
  else if k = 3 then (if e < 4 then (0, 27 + e) else (1, e - 4))
  else if k < 7 then (1, 5 + 9 * (k - 4) + e)
  else if o = 7 then (2, 0)
  else if o = 71 then (2, 1)
  else (1, 31 + e)

/-- A role map of 72 bytes, one a port, class in [7:6] and index in [5:0] (log entry 36). -/
def mapRole (b : List Byte) (o : Nat) : Nat × Nat := (field b o 1 / 64, field b o 1 % 64)

/-- The checks of R285. -/
def roleMapOk (b : List Byte) : Bool :=
  let rs := (List.range 72).map (mapRole b)
  b.length == 72 && (List.range 31).all (fun i => rs.count (0, i) == 1) && (List.range 39).all (fun p => rs.count (1, p) == 1) &&
  rs.count (2, 0) == 1 && rs.count (2, 1) == 1 &&
  (match (List.range 72).find? (fun o => mapRole b o == (2, 0)), (List.range 72).find? (fun o => mapRole b o == (2, 1)) with
    | some x, some y => x / 8 != y / 8
    | _, _ => false)

/-- The role map in force, the bridge ports, and front-end settings of item 5. -/
def State.setRoles (s : State) : State :=
  let put (role : Nat → Nat × Nat) (t : State) : State := (List.range 72).foldl (fun t o =>
    (t.wrAt F.PORT_STATUS_role_class o (role o).1).wrAt F.PORT_STATUS_role_index o (role o).2) t
  let s := match s.configItem 3 with
    | none => (put defaultRole s).wr F.PORT_MAP_STATUS_config_map 0
    | some b => if roleMapOk b then (put (mapRole b) s).wr F.PORT_MAP_STATUS_config_map 1
      else (((put defaultRole s).wr F.PORT_MAP_STATUS_config_map 0).wr F.PORT_MAP_STATUS_invalid 1).raise .PORT_MAP_INVALID
  let s := (List.range 4).foldl (fun t k => (t.wrAt F.PORT_STATUS_role_class (72 + k) 3).wrAt F.PORT_STATUS_role_index (72 + k) k) s
  let fe := (s.configItem 5).getD []
  (List.range 72).foldl (fun t o => if t.portClass o ≠ 2 then t else
    let b := field fe (t.portIndex o) 1 % 4
    ((t.wrAt F.PORT_FE_CFG_macsec_enable o (b % 2)).wrAt F.PORT_FE_CFG_macsec_required o (b / 2 % 2)).wrAt F.PORT_FE_STATUS_abi_version o
      (Config.abi 0)) s

/-! ### Measurement (R423) -/

/-- The chain value as a number. -/
def State.chain (s : State) : Nat := (List.range 4).foldl (fun a k => a + s.rdAt F.SEC_MEAS_CHAIN_bytes k * 2 ^ (64 * k)) 0

/-- The bytes of log entry `e`. -/
def State.logEntry (s : State) (e : Nat) : List Byte := (List.range 8).flatMap (fun k => leBytes 8 (s.rdAt F.SEC_MEAS_LOG_record (8 * e + k)))

/-- Append an entry: kind, release or generation, security version, digest. A full log takes none (log entry 56). -/
def State.measure (s : State) (kind release ver digest : Nat) : State :=
  let n := s.rd F.SEC_MEAS_COUNT_entries
  if 64 ≤ n then s
  else
    let b := leBytes 2 kind ++ leBytes 2 n ++ leBytes 4 release ++ leBytes 8 ver ++ leBytes 32 digest ++ leBytes 16 0
    let c := Config.shake256 (leBytes 32 s.chain ++ b)
    let s := (List.range 8).foldl (fun t k => t.wrAt F.SEC_MEAS_LOG_record (8 * n + k) (field b (8 * k) 8)) s
    let s := (List.range 4).foldl (fun t k => t.wrAt F.SEC_MEAS_CHAIN_bytes k (c / 2 ^ (64 * k))) s
    s.wr F.SEC_MEAS_COUNT_entries (n + 1)

def State.emptyLog (s : State) : State :=
  let s := (List.range 512).foldl (fun t k => t.wrAt F.SEC_MEAS_LOG_record k 0) s
  ((List.range 4).foldl (fun t k => t.wrAt F.SEC_MEAS_CHAIN_bytes k 0) s).wr F.SEC_MEAS_COUNT_entries 0

/-- Measure an image of a flash. -/
def State.measureImage (s : State) (f kind logKind : Nat) : State :=
  let x := s.flash f
  s.measure logKind (x.hdr kind 8 4) (x.hdr kind 5 1) (x.hdr kind 24 32)

/-- What the policy entry covers: straps, boot policy, power class, and the digest of peer and owner keys. -/
def State.policyDigest (s : State) : Nat :=
  let keys := s.peerKeys ++ ((List.range 8).map (· + 0x20)).filterMap s.setting
  Config.shake256 (leBytes 2 (s.rd F.STW_STRAPS_mgmt_pref * 512 + s.rd F.STW_STRAPS_dormant_start * 256 + s.rd F.STW_STRAPS_boot * 64 +
    s.rd F.STW_STRAPS_pwrclass * 16) ++ leBytes 1 s.policy ++ leBytes 1 (s.rd F.MOD_ID_power_class) ++ leBytes 32 (Config.shake256 keys.flatten))

/-- The digest of the last steward entry, for a restart that measures the same image. -/
def State.loggedSteward (s : State) : Option Nat :=
  (((List.range (s.rd F.SEC_MEAS_COUNT_entries)).map s.logEntry).filter (fun b => field b 0 1 == 1)).getLast?.map (fun b => field b 16 32)

/-! ### Stages 1 to 3 (R410, R412) -/

/-- Latch the straps (R406, R407): SLOT in [4:0], PWRCLASS in [6:5], BOOT in [8:7], DORMANT_START in [9], MGMT_PREF in [10]. -/
def State.latchStraps (s : State) (v : Nat) : State :=
  let s := ((((s.wr F.MOD_ADDR_slot v).wr F.STW_STRAPS_pwrclass (fld v 6 5)).wr F.STW_STRAPS_boot (fld v 8 7)).wr F.STW_STRAPS_dormant_start
    (fld v 9 9)).wr F.STW_STRAPS_mgmt_pref (fld v 10 10)
  s.wr F.STW_STRAPS_tick s.tick

/-- The effective class and highest clock (R4, R406). -/
def State.setClass (s : State) : State :=
  let c := if s.rd F.STW_STRAPS_pwrclass = 3 then otpPowerClass s.boot.otpRead else 24
  (s.wr F.MOD_ID_power_class c).wr F.MOD_ID_max_clock (if c = 30 then 48 else 40)

/-- The digest of the identity public key (R422). -/
def State.setIdentity (s : State) : State :=
  let d := Config.shake256 (Config.idKey (otpBytes s.boot.otpRead 46 32))
  (List.range 4).foldl (fun t k => t.wrAt F.SEC_ID_DIGEST_bytes k (d / 2 ^ (64 * k)))
    (s.wr F.MOD_SERIAL_serial (leNat (otpBytes s.boot.otpRead 0 8)))

/-- BOOT mode in effect: a mode that the policy forbids is flash A (R407). -/
def bootMode (strap policy : Nat) : Nat := if (strap = 1 ∧ !bitAt policy 1) ∨ (strap = 0 ∧ !bitAt policy 0) then 3 else strap

/-- BOOT_FALLBACK names the flash, the stage and the failed check (R412). -/
def State.fallback (s : State) (f stage check : Nat) : State :=
  (s.addSat F.SEC_BOOT_fallbacks 1).raise .BOOT_FALLBACK 0xFFFF [f, stage, check]

/-- Stage 1: OTP is read and the identity derived; without an identity the module fails (R416). -/
def State.stage1 (s : State) : State :=
  let s := { s with boot := { s.boot with otpRead := s.boot.otp, failed := [], recovery := none } }
  let p := s.policy
  let strap := s.rd F.STW_STRAPS_boot
  let mode := bootMode strap p
  let s := s.setClass
  let s := (((s.wr F.SEC_BOOT_policy p).wr F.SEC_BOOT_jtag (p / 4)).wr F.SEC_BOOT_mode mode).wr F.SEC_BOOT_stage 1
  let s := (s.wr F.SEC_REVOKED_keys (otpRevoked s.boot.otpRead)).wr F.SEC_ROLLBACK_counter (min 255 (otpRollback s.boot.otpRead))
  let s := ((s.wr F.SEC_ROLLBACK_floor_a (s.setVersion 0)).wr F.SEC_ROLLBACK_floor_b (s.setVersion 1)).wr F.STW_STATUS_abi (Config.abi 1)
  let s := s.send (.console [1])
  let s := if mode ≠ strap then s.fallback 0 1 0 else s
  if (otpValue s.boot.otpRead otpIdentity).isNone then s.raise .FW_AUTH_FAIL else s.setIdentity

/-- What of the settings store STW_SETTINGS shows (R419, R420). -/
def settingBytes (r : Setting) : Nat := 12 + (r.data.length + 3) / 4 * 4 + 4
def Flash.fill (x : Flash) : Nat := 64 + (x.records.map settingBytes).sum
def Flash.percent (x : Flash) : Nat := x.fill * 100 / 0x1000000
def State.showSettings (s : State) : State :=
  let keys := ((s.boot.flashA.records ++ s.boot.flashB.records).map (fun r => r.key)).eraseDups
  let live := (keys.filter (fun k => (s.setting k).isSome)).length
  let one := keys.any (fun k => newest s.boot.flashA.records k != newest s.boot.flashB.records k)
  (((((s.wr F.STW_SETTINGS_region_a s.boot.flashA.region).wr F.STW_SETTINGS_region_b s.boot.flashB.region).wr F.STW_SETTINGS_fill
    s.boot.flashA.percent).wr F.STW_SETTINGS_keys live).wr F.STW_SETTINGS_generation s.boot.flashA.generation).wrBit
    F.STW_SETTINGS_degraded one

/-- A steward restart whose image digest equals the logged one, which appends nothing (R423). -/
def State.sameSteward (s : State) (restart : Bool) (f : Nat) : Bool := restart && s.loggedSteward == some ((s.flash f).hdr 1 24 32)

/-- Stage 2 on a flash: the steward image and the policy are measured, and the settings store is scanned. -/
def State.stage2 (s : State) (f : Nat) (same : Bool) : State :=
  let s := if same then s else (s.measureImage f 1 1).measure 2 0 0 s.policyDigest
  let s := ((s.wr F.SEC_BOOT_stage 2).wr F.SEC_BOOT_flash f).wr F.SEC_BOOT_release (s.flash f).release
  (s.showSettings).send (.console [2, f])

/-- Stage 3: the configuration is accepted. -/
def State.stage3 (s : State) (c : ConfigSt) (same : Bool) : State :=
  let s := ({ s with boot := { s.boot with config := some c, failed := [] } }).applyConfig
  let s := if same then s else s.measureImage (c.source - 1) 4 3
  (s.wr F.SEC_BOOT_stage 3).send (.console [3])

/-- Both flashes have failed (R412): network recovery where the boot policy allows it and the firmware failed, else FW_AUTH_FAIL;
a module whose firmware is sound stays in STANDBY without a configuration (log entry 55). -/
def State.bothFailed (s : State) : State :=
  if s.boot.failed.all (fun p => p.2 != 3) then
    if bitAt s.policy 1 then
      { s with boot := { s.boot with recovery := some ((s.boot.failed.headD (0, 0)).1), recoveryAt := s.tick } }
    else s.raise .FW_AUTH_FAIL
  else { s with boot := { s.boot with config := none, failed := [] } }

/-- Stages 2 and 3 from a flash, falling back to the other (R412); stage 3 runs only while main conversion is off. -/
def State.bootFrom (restart : Bool) : Nat → State → Nat → State
  | 0, s, _ => s
  | n + 1, s, f =>
    let fail (s : State) (stage check : Nat) : State :=
      let s := (s.fallback f stage check).mainOff
      let s := { s with boot := { s.boot with failed := s.boot.failed ++ [(f, stage)] } }
      if s.boot.failed.any (fun p => p.1 == 1 - f) then s.bothFailed else bootFrom restart n s (1 - f)
    let e := s.imageBad f 1
    if e ≠ 0 then fail s 2 e
    else
      let same := s.sameSteward restart f
      let s := s.stage2 f same
      if s.pwr.converting then s
      else match s.readConfig f with
        | .error e => fail s 3 e
        | .ok c => s.stage3 c same

/-- The chain after stage 1, which needs an identity: from the flash that BOOT chooses, or network recovery. -/
def State.bootChain (s : State) (restart : Bool := false) : State :=
  if (otpValue s.boot.otpRead otpIdentity).isNone then s
  else
    let m := s.rd F.SEC_BOOT_mode
    if m = 1 then { s with boot := { s.boot with recovery := some 0, recoveryAt := s.tick } }
    else State.bootFrom restart 2 s (if m = 2 then 1 else 0)

/-! ### Stages 4 to 7 -/

/-- The supplies, the signals and the trip latch allow a boot (R385, R402, R444, R445). -/
def State.mayConvert (s : State) : Bool :=
  s.mode == .standby && s.pwr.bootWanted && !s.pwr.resetLow && !s.pwr.absent && s.pwr.mainOn &&
  !s.isSet F.PWR_THERM_STATUS_tripped

/-- Main conversion starts once it is wanted and allowed and a configuration stands (R412); after a supply was removed during
BOOTING, this boot starts from the boot ROM (R387). -/
def State.tryConvert (s : State) : State :=
  if s.mayConvert then
    let s := if s.pwr.fromRom then ({ s with pwr := { s.pwr with fromRom := false } }).stage1.bootChain else s
    if s.mayConvert && s.boot.config.isSome && s.boot.recovery.isNone then { s with pwr := { s.pwr with converting := true } } else s
  else s

/-- The remap table at boot (R11): a retired core gives place to the lowest-numbered healthy spare of its quadrant. -/
def bootMap (retired : List Nat) : List (Nat × Nat) :=
  (List.range 4).flatMap (fun q =>
    let spares := (List.range 4).map (fun k => 68 * q + 64 + k) |>.filter (fun p => !retired.contains p)
    ((List.range 64).foldl (fun (a : List (Nat × Nat) × List Nat) k =>
      let p := 68 * q + k
      if retired.contains p then match a.2 with
        | x :: xs => (a.1 ++ [(64 * q + k, x)], xs)
        | [] => (a.1 ++ [(64 * q + k, p)], [])
      else (a.1 ++ [(64 * q + k, p)], a.2)) ([], spares)).1)

/-- Stage 4 on good images: HBM is zeroed, every core is tested, the engines and memories come into service, and the fabric ports
start (R157, R286, R334). `failed` are the cores that fail their test. -/
def State.stage4 (s : State) (f : Nat) (failed : List Nat) : State :=
  let out := (otpRetired s.boot.otpRead ++ failed.filter (fun p => decide (p < 272))).eraseDups
  let s := { s with mem := { s.mem with hbm := {}, hbmPoison := [] }, test := { retired := out } }
  let s := (bootMap out).foldl (fun t p => t.wrAt F.MOD_CORE_MAP_phys_core p.1 p.2) s
  let s := (List.range 272).foldl (fun t p => (t.wrAt F.CHK_CORE_TEST_result p (if failed.contains p then 2 else 1)).wrAt
    F.CHK_CORE_TEST_tick p s.tick) s
  let s := ((List.range 4).foldl (fun t q => t.wrAt F.UPD_ENGINE_in_service q 1) s).showEngines
  let s := { s with test := { s.test with rotated := (List.range 4).map (fun q => (q, s.tick)) } }
  let s := (s.wr F.MEM_STATUS_stack_ok 0xFFF).measureImage f 2 4
  let light := (List.range 18).foldl (fun a k => a + bit (sget 15 s.links.light k == 15) * 2 ^ k) 0
  let s := (s.setRoles).wr F.PORT_LIGHT_source_ok light
  (((List.range 76).foldl State.startBringup s).wr F.SEC_BOOT_stage 4).send (.console [4])

/-- An image of stages 4 or 5 fails: main conversion goes off and the chain starts at stage 2 from the other flash (R412). -/
def State.lateFallback (s : State) (f stage check : Nat) : State :=
  let s := (s.fallback f stage check).mainOff
  let s := { s with boot := { s.boot with failed := s.boot.failed ++ [(f, stage)], os := false } }
  if s.boot.failed.any (fun p => p.1 == 1 - f) then s.bothFailed else (State.bootFrom false 1 s (1 - f)).tryConvert

/-- BOOT_START (R410): stage 4, then the OS load of stage 5. -/
def execBootStart (failed : List Nat) (s : State) : Host.Outcome State Fault Refusal :=
  if s.mode != .booting || decide (4 ≤ s.rd F.SEC_BOOT_stage) then .next s
  else
    let f := s.rd F.SEC_BOOT_flash
    if s.imageBad f 2 ≠ 0 then .next (s.lateFallback f 4 (s.imageBad f 2))
    else
      let s := s.stage4 f failed
      if s.imageBad f 3 ≠ 0 then .next (s.lateFallback f 5 (s.imageBad f 3))
      else .next (((s.measureImage f 3 5).wr F.SEC_BOOT_stage 5).send (.console [5]))

/-- Raise the anti-rollback counter to a value, bit by bit (R418). -/
def raiseRollback : Nat → Sparse Byte → Nat → Sparse Byte
  | 0, m, _ => m
  | n + 1, m, target =>
    if target ≤ otpRollback m then m
    else
      let x := leNat (otpBytes m 0x170 32)
      match (List.range 256).find? (fun k => !bitAt x k) with
      | none => m
      | some k =>
        let a := 0x170 + k / 8
        raiseRollback n (sput m a (BitVec.ofNat 8 ((sget 0 m a).toNat + 2 ^ (k % 8)))) target

/-- The lowest security version of the sets that verify, at most that of the running images (R418). -/
def State.rollbackTarget (s : State) : Nat :=
  let x := s.flash (s.rd F.SEC_BOOT_flash)
  let run := min (x.hdr 1 5 1) (min (x.hdr 2 5 1) (x.hdr 3 5 1))
  let sets := (List.range 2).filter s.setOk
  if sets.isEmpty then 0 else sets.foldl (fun a f => min a (s.setVersion f)) run

/-- BOOT_COMPLETE (R410): stage 7. -/
def execBootComplete (s : State) : Host.Outcome State Fault Refusal :=
  if s.mode != .booting || s.rd F.SEC_BOOT_stage != 5 then .next s
  else
    let otp := raiseRollback 256 s.boot.otp s.rollbackTarget
    let s := { s with mode := .ready, boot := { s.boot with os := true, failed := [], otp := otp }, pwr := { s.pwr with bootWanted := false } }
    let s := s.wr F.SEC_ROLLBACK_counter (min 255 (otpRollback otp))
    let s := ((s.wr F.SEC_BOOT_stage 7).checkWiring).send (.console [7])
    .next (if s.rd F.STW_STRAPS_dormant_start = 0 || s.isPupa then s.goDormant else s)

/-! ### Network recovery (R412) -/

/-- RECOVERY_REQ_TIMER: once per second, the serial number and the flash to be written. -/
def execRecoveryReqTimer (s : State) : Host.Outcome State Fault Refusal :=
  match s.boot.recovery with
  | none => .next s
  | some f =>
    if s.powered && decide (s.boot.recoveryAt + sTicks 1 ≤ s.tick) then
      .next (({ s with boot := { s.boot with recoveryAt := s.tick } }).send (.mgmt 0x15 [s.rd F.MOD_SERIAL_serial, f]))
    else .next s

/-- RECOVERY_IMAGE: the set is written, and the chain restarts at stage 2 from it. -/
def execRecoveryImage (chunks : List (Nat × List Byte)) (s : State) : Host.Outcome State Fault Refusal :=
  match s.boot.recovery with
  | none => .next s
  | some f =>
    if !s.powered then .next s
    else
      let x := s.flash f
      let im := chunks.foldl (fun (m : Image) c => if c.1 + c.2.length ≤ 0xC000000 then m.writeN c.1 c.2 else m) x.image
      let s := s.setFlash f { x with image := im, dirty := false }
      let s := { s with boot := { s.boot with recovery := none, failed := [] } }
      .next ((State.bootFrom false 2 s f).tryConvert)

/-! ### Restarts of the controllers (R405) -/

/-- The steward restarts from the boot ROM: stages 1 and 2, and 3 while main conversion is off; its sessions are gone, and both
fault-manager addresses are told. -/
def State.restartSteward (s : State) (emptied : Bool) : State :=
  let s := if emptied then s.emptyLog else s
  let s := s.mgmt.sessions.foldl (fun t x => t.endSession x.id) s
  let done := s.rd F.SEC_BOOT_stage
  let s := (s.stage1.bootChain true).tryConvert
  let s := if s.pwr.rails then s.wr F.SEC_BOOT_stage done else s
  (s.send (.mgmt 0x14 [0])).send (.mgmt 0x14 [1])

/-- STEWARD_WATCHDOG (R405). -/
def execStewardWatchdog (s : State) : Host.Outcome State Fault Refusal := .next (if s.powered then s.restartSteward false else s)

end Sys2Proof.Machine
end

