-- ==== Sys2Proof/Machine/Bridge.lean ====
section
/-! DEFINITION. Machine/Bridge.lean: the bridge engine (R300 to R302). -/

namespace Sys2Proof.Machine

/-! ### The bridge ring (R302) -/

/-- Entries of the ring, and the address of descriptor `n`. -/
def State.bridgeEntries (s : State) : Nat := 2 ^ s.rd F.PORT_BR_RING_log2_entries
def State.bridgeSlot (s : State) (n : Nat) : Nat := s.rd F.PORT_BR_RING_base + n % s.bridgeEntries * 32
def brDir (w : List Nat) : Nat := fld (wd w 0) 63 62
def brPort (w : List Nat) : Nat := 72 + fld (wd w 0) 61 60
def brLocal (w : List Nat) : Nat := fld (wd w 0) 47 0
def brLen (w : List Nat) : Nat := fld (wd w 2) 39 0

/-- A local range in the heap, chrysalis staging or the carve-out. -/
def State.bridgeMay (s : State) (a n : Nat) : Bool :=
  s.inHeap a n || s.inRegion 5 a n || (decide (0xB800000000 ≤ a) && decide (a + n ≤ 0xC000000000))

/-- A descriptor out of the format of R302, or not the one numbered `k`. -/
def brFormat (w : List Nat) (k : Nat) : Bool :=
  (brDir w == 1 || brDir w == 2) && decide (0 < brLen w) && fld (wd w 0) 59 48 == 0 && fld (wd w 2) 63 40 == 0 &&
  fld (wd w 3) 31 18 == 0 && fld (wd w 3) 63 32 == k

/-- What a descriptor fails with before it starts: 1 local address not allowed, 2 port not UP, 4 poisoned source; one out of its format
counts as 1 (log entry 37). -/
def State.bridgeBad (s : State) (w : List Nat) (k : Nat) : Nat :=
  if !brFormat w k || !s.bridgeMay (brLocal w) (brLen w) then 1
  else if s.portState (brPort w) ≠ 4 then 2
  else if brDir w = 1 && s.poisoned (brLocal w) (brLen w) then 4
  else 0

/-- The ring stops with a failure; the failed descriptor is done with (log entry 37). -/
def State.bridgeFails (s : State) (code : Nat) : State := (s.wr F.PORT_BR_STATUS_valid 1).wr F.PORT_BR_STATUS_error code

/-- Start posted transfers in order up to the last descriptor announced (R6), at most eight at a time and `n` in all. -/
def State.bridgePump : Nat → State → State
  | 0, s => s
  | n + 1, s =>
    if !s.isSet F.PORT_BR_CTRL_enable || s.isSet F.PORT_BR_STATUS_valid || decide (8 ≤ s.links.bridge.length) ||
        !newer32 (s.rd F.PORT_BR_DOORBELL_seq) s.links.bridgeTaken then s
    else
      let k := (s.links.bridgeTaken + 1) % 2 ^ 32
      let w := s.loadWords (s.bridgeSlot k) 4
      let s := { s with links := { s.links with bridgeTaken := k } }
      let e := s.bridgeBad w k
      if e ≠ 0 then s.bridgeFails e
      else
        let x : BridgeXfer := { seq := k, words := w }
        bridgePump n { s with links := { s.links with bridge := s.links.bridge ++ [x] } }

/-- A doorbell write. -/
def State.bridgeDoorbell (s : State) (v : Nat) : State := State.bridgePump 8 (s.wr F.PORT_BR_DOORBELL_seq v)

/-- BRIDGE_DOORBELL (R302). -/
def execBridgeDoorbell (value : Nat) (s : State) : Host.Outcome State Fault Refusal :=
  .next (if s.alive then s.bridgeDoorbell value else s)

/-- The data of a transfer moves, and its counter is added to after the data. -/
def State.bridgeMove (s : State) (x : BridgeXfer) (data : List Byte) : State :=
  let w := x.words
  let s := if brDir w = 1 then s.send (.link (brPort w) 0xB1 (wd w 1 :: (s.loadN (brLocal w) (brLen w)).map BitVec.toNat))
    else s.storeN (brLocal w) ((data ++ List.replicate (brLen w - data.length) 0).take (brLen w))
  let s := s.wr F.PORT_BR_STATUS_done x.seq
  if fld (wd w 3) 17 17 = 1 then s.syncAdd (fld (wd w 3) 16 0) 1 else s

/-- BRIDGE_TRANSFER_COMPLETE (R302): the oldest transfer ends; `data` are the bytes that came from the peer. -/
def execBridgeTransferComplete (peerError : Bool) (data : List Byte) (s : State) : Host.Outcome State Fault Refusal :=
  match s.links.bridge with
  | [] => .next s
  | x :: xs =>
    if !s.alive then .next s
    else
      let e := s.bridgeBad x.words x.seq
      let s := { s with links := { s.links with bridge := xs } }
      if e ≠ 0 then .next (s.bridgeFails e)
      else if peerError then .next (s.bridgeFails 3)
      else .next (State.bridgePump 8 (s.bridgeMove x data))

/-- The valid bit is cleared, and the ring goes on. -/
def State.bridgeResume (s : State) : State := State.bridgePump 8 (s.wr F.PORT_BR_STATUS_valid 0)

/-- BRIDGE_RING_RESUME (R302). -/
def execBridgeRingResume (s : State) : Host.Outcome State Fault Refusal := .next (if s.alive then s.bridgeResume else s)

/-! ### The peer (R301) -/

/-- The write lies in PORT_BR_WINDOW, and the window's part in the heap or chrysalis staging. -/
def State.inWindow (s : State) (a n : Nat) : Bool :=
  let b := s.rd F.PORT_BR_WINDOW_base
  decide (b ≤ a) && decide (a + n ≤ b + s.rd F.PORT_BR_WINDOW_size * unit64M) && (s.inHeap a n || s.inRegion 5 a n)

/-- BRIDGE_PEER_WRITE: other writes are refused with a Mynov 3.2 error. -/
def execBridgePeerWrite (port addr : Nat) (data : List Byte) (s : State) : Host.Outcome State Fault Refusal :=
  if s.alive && s.isSet F.PORT_BR_CTRL_enable && decide (port < 4) && s.portState (72 + port) == 4 then
    .next (if s.inWindow addr data.length then s.storeN addr data else s.send (.link (72 + port) 0xBE [addr]))
  else .next s

/-- BRIDGE_PEER_MESSAGE: an item of the named core queue; the peer is stalled while the queue is FULL. -/
def execBridgePeerMessage (port : Nat) (data : List Byte) (s : State) : Host.Outcome State Fault Refusal :=
  let q := s.rd F.PORT_BR_CTRL_queue
  if s.alive && s.isSet F.PORT_BR_CTRL_enable && decide (port < 4) && s.portState (72 + port) == 4 && coreQueue q && s.queueOn q then
    let i : Item := { data := (data ++ List.replicate (64 - data.length) 0).take 64, feed := 4 + port }
    .next ((s.hwPush (.bridge port) q i).getD (s.waitFull (.bridge port) q))
  else .next s

end Sys2Proof.Machine
end

