-- ==== Sys2Proof/Machine/Power.lean ====
section
/-! DEFINITION. Machine/Power.lean: supplies and their removal (R385 to R388), RESET_N, PRSNT_N and WAKE_N (R443 to R448), the power
loop and its limiters (R392 to R395), hints (R396), droop and frequency steps (R397 to R399), energy (R400), thermal control (R401, R402)
and clock gating (R390). -/

namespace Sys2Proof.Machine

/-! ### Supplies (R385 to R387, R445) -/

/-- The straps are latched at a release of RESET_N, and the boot is wanted (R407, R445). -/
def State.released (s : State) (straps : Nat) : State :=
  let s := (s.latchStraps straps).setClass
  ({ s with pwr := { s.pwr with bootWanted := true } }).tryConvert

/-- Main power is lost (R387): above STANDBY the contents are lost and main_lost is set; in BOOTING the next boot starts from the ROM (log entry 54). -/
def State.loseMain (s : State) (mark : Bool) : State :=
  let rom := s.pwr.fromRom || s.mode == .booting
  let above := s.mode != .off && s.mode != .standby
  let s := s.mainOff
  let s := { s with pwr := { s.pwr with fromRom := rom } }
  if above && mark then s.wr F.PWR_SUPPLY_main_lost 1 else s

/-- The main input is on, or off. -/
def State.setMain (s : State) (on : Bool) : State := { s with pwr := { s.pwr with mainOn := on } }

/-- A boot follows when the main input returns, unless RESET_N holds the module (R445). -/
def State.wantBack (s : State) : State :=
  { s with pwr := { s.pwr with bootWanted := !s.pwr.resetLow && !s.pwr.absent } }

/-- What outlives the auxiliary supply: the flashes and the OTP array (R387); the queue and the record of what was sent are the model's. -/
def State.unpowered (s : State) : State :=
  { pending := s.pending, outbox := s.outbox, drawn := s.drawn,
    boot := { flashA := s.boot.flashA, flashB := s.boot.flashB, otp := s.boot.otp } }

/-- AUX_POWER_UP (R385, R407, R410): straps are latched and stages 1 to 3 run; with RESET_N high this is its release (R445). -/
def execAuxPowerUp (straps : Nat) (resetHigh present mainGood : Bool) (s : State) : Host.Outcome State Fault Refusal :=
  if s.powered then .next s
  else
    let s := s.unpowered
    let s : State := { s with mode := .standby, pwr := { resetLow := !resetHigh, absent := !present, mainOn := mainGood, bootWanted := resetHigh && present } }
    let s := (s.wrBit F.PWR_SUPPLY_main_good mainGood).latchStraps straps
    let s := s.stage1
    let s := s.wr F.PWR_CTRL_clock_ceiling (s.rd F.MOD_ID_max_clock)
    .next (s.bootChain).tryConvert

/-- AUX_REMOVED (R387): everything is lost, MOD_TICK included. -/
def execAuxRemoved (s : State) : Host.Outcome State Fault Refusal := .next s.unpowered

/-- MAIN_REMOVED (R386, R387). -/
def execMainRemoved (s : State) : Host.Outcome State Fault Refusal :=
  .next (if s.powered then (((s.loseMain true).wr F.PWR_SUPPLY_main_good 0).setMain false).wantBack else s)

/-- MAIN_OVERVOLTAGE (R386). -/
def execMainOvervoltage (s : State) : Host.Outcome State Fault Refusal :=
  .next (if s.powered then ((((s.loseMain false).wr F.PWR_SUPPLY_main_good 0).wr F.PWR_SUPPLY_ovp 1).setMain false).wantBack else s)

/-- MAIN_GOOD (R385, R445). -/
def execMainGood (s : State) : Host.Outcome State Fault Refusal :=
  .next (if s.powered then ((s.wr F.PWR_SUPPLY_main_good 1).setMain true).tryConvert else s)

/-- What an assertion of RESET_N does: above STANDBY as the removal of the main input (R445). -/
def State.held (s : State) : State :=
  let s := s.loseMain true
  { s with pwr := { s.pwr with bootWanted := false } }

/-- RESET_N_ASSERT (R445). -/
def execResetNAssert (s : State) : Host.Outcome State Fault Refusal :=
  .next (if s.powered && !s.pwr.resetLow then
    let s := s.held
    { s with pwr := { s.pwr with resetLow := true } } else s)

/-- RESET_N_RELEASE (R445): with a PRSNT_N position lost, the release waits for its return. -/
def execResetNRelease (straps : Nat) (s : State) : Host.Outcome State Fault Refusal :=
  if s.powered && s.pwr.resetLow then
    let s := { s with pwr := { s.pwr with resetLow := false } }
    .next (if s.pwr.absent then s else s.released straps)
  else .next s

/-- PRSNT_N_LOSS (R445): acts as an assertion of RESET_N. -/
def execPrsntNLoss (s : State) : Host.Outcome State Fault Refusal :=
  .next (if s.powered && !s.pwr.absent then
    let s := s.held
    { s with pwr := { s.pwr with absent := true } } else s)

/-- PRSNT_N_RETURN (R445): a release where RESET_N is already high. -/
def execPrsntNReturn (straps : Nat) (s : State) : Host.Outcome State Fault Refusal :=
  if s.powered && s.pwr.absent then
    let s := { s with pwr := { s.pwr with absent := false } }
    .next (if s.pwr.resetLow then s else s.released straps)
  else .next s

/-- WAKE_N (R447): the steward is awake, and no module state changes. -/
def execWakeN (s : State) : Host.Outcome State Fault Refusal :=
  .next (if s.powered then { s with pwr := { s.pwr with awake := true, wakeLow := true } } else s)

/-- The array clock at which the quadrants start: a legal clock that the manual leaves open (R389) (log entry 42). -/
def startClock (draw max : Nat) : Nat := 32 + Config.limiter draw % (max - 31)

/-- One byte a quadrant. -/
def packClock (l : List Nat) : Nat := leNat (l.map (BitVec.ofNat 8))
def State.clocks (s : State) : List Nat := (List.range 4).map (fun q => s.rd F.PWR_STATUS_clock / 2 ^ (8 * q) % 256)

/-- Clocks lock, and BOOTING is entered from stage 4 (R388, R389, R431). -/
def State.enterBooting (s : State) : State :=
  let s := s.freshHub
  let m := s.rd F.MOD_ID_max_clock
  let c := startClock s.drawn m
  let s : State := { s with mode := .booting, drawn := s.drawn + 1, pwr := { s.pwr with capTarget := m, thermTarget := m, target := c } }
  (s.wr F.PWR_STATUS_clock (packClock [c, c, c, c])).wr F.SEC_BOOT_stage 3

/-- RAILS_GOOD (R388). -/
def execRailsGood (s : State) : Host.Outcome State Fault Refusal :=
  if s.mode == .standby && s.pwr.converting && !s.pwr.rails then
    .next ({ s with pwr := { s.pwr with rails := true } }).enterBooting
  else .next s

/-! ### Signals (R443, R448): true is high, or released -/

def State.sigPwrgd (s : State) : Bool := s.pwr.rails
def State.sigFaultN (s : State) : Bool := !(s.mode == .failed || s.isSet F.PWR_THERM_STATUS_tripped)
def State.sigThermN (s : State) : Bool := !s.pwr.thermLow
/-- Low while the journal holds an event of severity WARN or higher that is newer than the number acknowledged over I3C (log entry 28). -/
def State.sigAlertN (s : State) : Bool :=
  !s.ev.journal.any (fun p => decide (1 ≤ wd p.2 0 / 2 ^ 17 % 8) && newer32 p.1 s.mgmt.i3cAck)

/-! ### The power loop (R392 to R395) -/

/-- Percent of the cap for domain `d` in a mode (R394). -/
def fraction (mode d : Nat) : Nat :=
  (match mode with
   | 0 => [43, 10, 9, 14, 12, 4, 8]
   | 1 => [50, 11, 9, 11, 8, 3, 8]
   | 2 => [36, 9, 9, 23, 12, 3, 8]
   | _ => [36, 9, 8, 13, 23, 3, 8]).getD d 0

/-- Mean input power of the window, in mW (R393) (log entry 44). -/
def State.windowPower (s : State) : Nat :=
  let w := max 1 (s.rd F.PWR_CTRL_window_s)
  (s.pwr.energy.take (1000 * w)).sum / w

/-- The limit of R393, in mW. -/
def powerLimit (cap win : Nat) : Nat := min (1100 * cap) (max (900 * cap) (2000 * cap - win))

/-- The clock target: the lowest of its limits (R393, R401). -/
def State.retarget (s : State) : State :=
  let m := s.rd F.MOD_ID_max_clock
  let t := min (min s.pwr.capTarget s.pwr.thermTarget) (min (s.rd F.PWR_CTRL_clock_ceiling) m)
  let c := decide (s.rd F.PWR_CTRL_clock_ceiling < min m (min s.pwr.capTarget s.pwr.thermTarget))
  ({ s with pwr := { s.pwr with target := t } }).wrBit F.PWR_STATUS_ceiling c

/-- The compute limiter moves by a free number of steps, at most 4 of the clock; at 0.8 GHz it moves the issue duty, from 16 down to 4. -/
def State.limitCompute (s : State) (beyond : Bool) : State :=
  let n := Config.limiter s.drawn
  let s := { s with drawn := s.drawn + 1 }
  let duty := s.rd F.PWR_STATUS_issue_duty
  let p := s.pwr
  if beyond then
    if 32 < p.capTarget then { s with pwr := { p with capTarget := max 32 (p.capTarget - n % 5) } }
    else s.wr F.PWR_STATUS_issue_duty (max 4 (duty - n % 13))
  else if duty < 16 && !s.isSet F.PWR_THERM_STATUS_throttling then s.wr F.PWR_STATUS_issue_duty (min 16 (duty + n % 13))
  else { s with pwr := { p with capTarget := min (s.rd F.MOD_ID_max_clock) (p.capTarget + n % 5) } }

/-- POWER_LOOP (R393). -/
def execPowerLoop (sample : PowerSample) (s : State) : Host.Outcome State Fault Refusal :=
  if !s.powered then .next s
  else
    let win := s.windowPower
    let lim := powerLimit (s.rd F.PWR_CAP_cap_w) win
    let mode := s.rd F.PWR_CTRL_mode
    let budget (d : Nat) : Nat := lim * fraction mode d / 100
    let draw (d : Nat) : Nat := sample.domains.getD d 0
    let s := ((s.wr F.PWR_INPUT_avg_w (win / 1000)).wr F.PWR_INPUT_main_w (min 0xFFFF sample.mainW)).wr F.PWR_INPUT_aux_w
      (min 0xFFFF sample.auxW)
    let s := (s.wr F.PWR_SUPPLY_main_mv (min 0xFFFF sample.mainMv)).wr F.PWR_SUPPLY_aux_mv (min 0xFFFF sample.auxMv)
    let s := (s.wrBit F.PWR_SUPPLY_main_good (decide (46000 ≤ sample.mainMv) && decide (sample.mainMv ≤ 58000))).wrBit F.PWR_SUPPLY_aux_good
      (decide (11400 ≤ sample.auxMv) && decide (sample.auxMv ≤ 12600))
    let s := (List.range 7).foldl (fun t d => (t.wrAt F.PWR_DOMAIN_budget_w d (budget d / 1000)).wrAt F.PWR_DOMAIN_power_w d
      (min 0xFFFF (draw d))) s
    if !s.pwr.rails then .next s
    else
      let beyond (d : Nat) : Bool := decide (budget d < draw d * 1000)
      let total := decide (lim < (s.pwr.energy.take 100).sum * 10)
      let compute := beyond 0 || beyond 1 || beyond 2
      let s := ((((s.wrBit F.PWR_STATUS_compute compute).wrBit F.PWR_STATUS_hbm (beyond 3)).wrBit F.PWR_STATUS_fabric (beyond 4)).wrBit
        F.PWR_STATUS_hub (beyond 5)).wrBit F.PWR_STATUS_total total
      .next (s.limitCompute (compute || total)).retarget

/-! ### Droop and frequency steps (R397 to R399) -/

/-- The array clocks run (R389). -/
def State.arrayClocked (s : State) : Bool :=
  s.pwr.rails && (s.mode == .booting || s.mode == .ready || s.mode == .running || s.mode == .held || s.mode == .draining)

/-- A core of the quadrant has droop asserted, or the last droop cleared less than 5 µs ago (R399) (log entry 47). -/
def State.droopHolds (s : State) (q : Nat) : Bool :=
  s.pwr.droop.any (fun p => quadOfPhys p == q) || (match sget? s.pwr.droopAt q with
    | some t => decide (s.tick < t + usTicks 5)
    | none => false)

/-- FREQ_HANDOFF (R398, R399): one step of 25 MHz towards the target, at least 20 µs after the last; droop holds it, counted once. -/
def execFreqHandoff (quadrant : Nat) (s : State) : Host.Outcome State Fault Refusal :=
  let q := quadrant
  let cs := s.clocks
  let c := cs.getD q 0
  let n := if c < s.pwr.target then c + 1 else c - 1
  if decide (4 ≤ q) || !s.arrayClocked || c == s.pwr.target || decide (s.tick < sget 0 s.pwr.handoffAt q) ||
      cs.any (fun x => decide (x + 1 < n) || decide (n + 1 < x)) then .next s
  else if s.droopHolds q then
    if s.pwr.held.contains q then .next s
    else .next (({ s with pwr := { s.pwr with held := s.pwr.held ++ [q] } }).addSat F.PWR_DROOP_COUNT_held_steps 1)
  else
    let p : PwrSt := { s.pwr with handoffAt := sput s.pwr.handoffAt q (s.tick + usTicks 20), held := s.pwr.held.erase q }
    .next (({ s with pwr := p }).wr F.PWR_STATUS_clock (packClock (cs.set q n)))

/-- DROOP_ASSERT (R397). -/
def execDroopAssert (phys : Nat) (s : State) : Host.Outcome State Fault Refusal :=
  if s.arrayClocked && decide (phys < 272) && !s.pwr.droop.contains phys then
    .next (({ s with pwr := { s.pwr with droop := s.pwr.droop ++ [phys] } }).addSat F.PWR_DROOP_COUNT_droops 1)
  else .next s

/-- DROOP_RELEASE (R397): the supply returned, and droop cleared, 200 ns before. -/
def execDroopRelease (phys : Nat) (s : State) : Host.Outcome State Fault Refusal :=
  if s.pwr.droop.contains phys then
    .next { s with pwr := { s.pwr with droop := s.pwr.droop.erase phys, droopAt := sput s.pwr.droopAt (quadOfPhys phys) (s.tick - 20) } }
  else .next s

/-! ### Hints (R152, R396) -/

/-- The ticks between which a hint of lead time `l` µs and duration `d` ms, issued at `t`, raises the voltage (log entry 43). -/
def hintFrom (t l : Nat) : Nat := t + usTicks (l - 20)
def hintUntil (t l d : Nat) : Nat := t + usTicks l + msTicks (if d = 0 then 100 else d)

/-- A hint on lanes where the guard holds; a gang's hint counts once. -/
def State.runHint (heavy : Bool) (x : Issue) (s : State) : State :=
  let s := if x.lanes.isEmpty || !s.isSet F.PWR_CTRL_hint_enable then s
    else
      let t := x.tid 0
      let others := s.pwr.hints.filter (fun h => !(h.phys == x.phys && h.t == t))
      let l := if heavy then
          others ++ [⟨x.phys, t, hintFrom s.tick (fld x.word 19 10), hintUntil s.tick (fld x.word 19 10) (fld x.word 9 0)⟩]
        else others
      { s with pwr := { s.pwr with hints := l } }
  s.putThread x x.th.advance

/-- HINT_HEAVY (R147, R396). -/
def execHintHeavy (th : ThreadRef) (s : State) : Host.Outcome State Fault Refusal := .next (s.issue .hintHeavy th (State.runHint true))

/-- HINT_LIGHT (R147, R396). -/
def execHintLight (th : ThreadRef) (s : State) : Host.Outcome State Fault Refusal := .next (s.issue .hintLight th (State.runHint false))

/-- HINT_EXPIRY (R396). -/
def execHintExpiry (phys t : Nat) (s : State) : Host.Outcome State Fault Refusal :=
  .next { s with pwr := { s.pwr with hints := s.pwr.hints.filter (fun h => !(h.phys == phys && h.t == t && decide (h.until_ ≤ s.tick))) } }

/-- A hint is active, in some quadrant or in one. -/
def State.hintIn (s : State) (q : Nat) : Bool :=
  s.pwr.hints.any (fun h => quadOfPhys h.phys == q && decide (h.from_ ≤ s.tick) && decide (s.tick < h.until_))
def State.hintActive (s : State) : Bool := (List.range 4).any s.hintIn

/-! ### Energy (R400) -/

/-- ENERGY_INTEGRATE: the input energy of the past millisecond, in mJ. -/
def execEnergyIntegrate (mj : Nat) (s : State) : Host.Outcome State Fault Refusal :=
  if !s.powered then .next s
  else
    .next ((({ s with pwr := { s.pwr with energy := (mj :: s.pwr.energy).take 30000 } }).add F.PWR_ENERGY_TOTAL_count mj).add
      F.PWR_ENERGY_JOB_count mj)

/-! ### Thermal control (R401, R402) -/

/-- A sensor is ignored: outside −40 to 150 °C, in 0.01 °C. -/
def sensorFailed (t : Int) : Bool := decide (t < -4000) || decide (15000 < t)
/-- The readings of a die that count, with their sensors. -/
def dieGood (d : List Int) : List (Int × Nat) := (d.take 64).zipIdx.filter (fun p => !sensorFailed p.1)
def dieFailed (d : List Int) : Nat := ((d.take 64).filter sensorFailed).length
/-- The highest reading of a list and its place; 0 and 0 of an empty one. -/
def highest (l : List (Int × Nat)) : Int × Nat :=
  match l with
  | [] => (0, 0)
  | p :: ps => ps.foldl (fun b x => if b.1 < x.1 then x else b) p
/-- A die reads: its highest sensor, or throttle_c with more than 8 sensors ignored (log entry 46). -/
def dieReading (throttle : Nat) (d : List Int) : Int × Nat :=
  if 8 < dieFailed d then ((throttle * 100 : Nat), 0) else highest (dieGood d)

/-- A signed reading as the 16 bits of PWR_TEMP, and back. -/
def tempBits (t : Int) : Nat := (t % 65536).toNat
def tempOf (b : Nat) : Int := if 0x8000 ≤ b then (b : Int) - 65536 else b

/-- Record which PWR_TEMP reads highest. -/
def State.findHottest (s : State) : State :=
  let k := (highest ((List.range 17).map (fun k => (tempOf (s.rdAt F.PWR_TEMP_max_temp k), k)))).2
  s.wr F.PWR_THERM_STATUS_hottest k

/-- The trip (R402): compute, HBM and optical rails go off with what they held. -/
def State.trip (s : State) : State :=
  if s.isSet F.PWR_THERM_STATUS_tripped then s
  else
    let s := (s.wr F.PWR_THERM_STATUS_tripped 1).raise .THERM_TRIP
    let lost := lostImage s.drawn
    let m : MemSt := { hbm := lost, tile := lost, oc := lost, scrubAt := s.mem.scrubAt, ceHour := s.mem.ceHour, ceHourNo := s.mem.ceHourNo }
    { s with drawn := s.drawn + 1, mem := m,
             pwr := { s.pwr with converting := false, rails := false, thermLow := true, dies := [], stackTemps := [] } }

/-- The latch clears once every sensor reads below 85 °C (R402); a boot that waited for it goes on. -/
def State.clearTrip (s : State) : State :=
  let cool := if s.pwr.rails then s.pwr.dies.all (fun d => (dieGood d).all (fun p => decide (p.1 < 8500))) &&
      s.pwr.stackTemps.all (fun t => decide (t < 8500)) && decide (s.pwr.package < 8500)
    else decide (s.pwr.package < 8500)
  if s.isSet F.PWR_THERM_STATUS_tripped && cool then
    let s := s.wr F.PWR_THERM_STATUS_tripped 0
    ({ s with pwr := { s.pwr with thermLow := false } }).tryConvert
  else s

/-- `n` steps down: the clock target, then the issue duty. -/
def State.throttleDown (s : State) (n : Nat) : State :=
  let k := min n (s.pwr.thermTarget - 32)
  let s := { s with pwr := { s.pwr with thermTarget := s.pwr.thermTarget - k } }
  if k < n then s.wr F.PWR_STATUS_issue_duty (max 4 (s.rd F.PWR_STATUS_issue_duty - (n - k))) else s

/-- `n` steps up: the issue duty, then the clock target; at its highest the throttle is released. -/
def State.throttleUp (s : State) (n : Nat) : State :=
  let d := s.rd F.PWR_STATUS_issue_duty
  let k := min n (16 - d)
  let m := s.rd F.MOD_ID_max_clock
  let t := min m (s.pwr.thermTarget + (n - k))
  let s := ({ s with pwr := { s.pwr with thermTarget := t } }).wr F.PWR_STATUS_issue_duty (d + k)
  if t = m ∧ d + k = 16 ∧ 0 < n then
    let s := { s with pwr := { s.pwr with coolSince := none } }
    (s.wr F.PWR_THERM_STATUS_throttling 0).wr F.PWR_STATUS_thermal 0
  else s

/-- Milliseconds of throttling since they were last counted (R403). -/
def State.countThrottle (s : State) : State :=
  if s.isSet F.PWR_THERM_STATUS_throttling then
    let n := (s.tick - s.pwr.throttleAt) / msTicks 1
    ({ s with pwr := { s.pwr with throttleAt := s.pwr.throttleAt + n * msTicks 1 } }).addSat F.PWR_THERM_STATUS_throttle_ms n
  else s

/-- Throttling on the readings of a sample: one step per 20 µs while some sensor is at throttle_c, one step up per millisecond once
all have been below release_c for 10 ms (R401). -/
def State.throttle (s : State) (hot cool : Bool) : State :=
  let s := s.countThrottle
  if hot then
    if s.isSet F.PWR_THERM_STATUS_throttling then
      let n := (s.tick - s.pwr.stepAt) / usTicks 20
      let s := { s with pwr := { s.pwr with coolSince := none, stepAt := s.pwr.stepAt + n * usTicks 20 } }
      s.throttleDown n
    else
      let p : PwrSt := { s.pwr with thermTarget := min s.pwr.thermTarget s.pwr.target, stepAt := s.tick, throttleAt := s.tick, coolSince := none }
      let s := (({ s with pwr := p }).wr F.PWR_THERM_STATUS_throttling 1).wr F.PWR_STATUS_thermal 1
      (s.raise .THERM_THROTTLE).warn
  else if !s.isSet F.PWR_THERM_STATUS_throttling then s
  else if !cool then { s with pwr := { s.pwr with coolSince := none } }
  else match s.pwr.coolSince with
    | none => { s with pwr := { s.pwr with coolSince := some s.tick, stepAt := s.tick + msTicks 10 } }
    | some _ =>
      let n := (s.tick - s.pwr.stepAt) / msTicks 1
      let s := { s with pwr := { s.pwr with stepAt := s.pwr.stepAt + n * msTicks 1 } }
      s.throttleUp n

/-- A sensor of a die at 115 °C or more in this sample and the last. -/
def tripped (old new : List (List Int)) : Bool :=
  (List.range 5).any (fun k => (dieGood (new.getD k [])).any (fun p => decide (11500 ≤ p.1) &&
    (dieGood (old.getD k [])).any (fun q => q.2 == p.2 && decide (11500 ≤ q.1))))

/-- THERMAL_SAMPLE (R401, R402): the five dies, and the package sensor of the always-on island. -/
def execThermalSample (dies : List (List Int)) (package : Int) (s : State) : Host.Outcome State Fault Refusal :=
  if !s.powered then .next s
  else if !s.pwr.rails then .next ({ s with pwr := { s.pwr with package := package } }).clearTrip
  else
    let tc := s.rd F.PWR_THERM_CTRL_throttle_c
    let rc := s.rd F.PWR_THERM_CTRL_release_c
    let ds := (List.range 5).map (fun k => dies.getD k [])
    let r := ds.map (dieReading tc)
    let s := ds.zipIdx.foldl (fun t p => ((t.wrAt F.PWR_TEMP_failed p.2 (dieFailed p.1)).wrAt F.PWR_TEMP_max_temp p.2
      (tempBits (dieReading tc p.1).1)).wrAt F.PWR_TEMP_sensor p.2 (dieReading tc p.1).2) s
    let hot := r.any (fun p => decide (((tc * 100 : Nat) : Int) ≤ p.1)) || ds.any (fun d => (dieGood d).any (fun p => decide (((tc * 100 : Nat) : Int) ≤ p.1)))
    let cool := ds.all (fun d => decide (dieFailed d ≤ 8) && (dieGood d).all (fun p => decide (p.1 < ((rc * 100 : Nat) : Int))))
    let trips := tripped s.pwr.dies ds
    let s := ({ s with pwr := { s.pwr with dies := ds, package := package } }).findHottest
    if trips then .next s.trip else .next ((s.throttle hot cool).retarget).clearTrip

/-- STACK_TEMPERATURE_REPORT (R401, R402): a stack at 95 °C has its requests paced, one at 105 °C trips the module. -/
def execStackTemperatureReport (temps : List Int) (s : State) : Host.Outcome State Fault Refusal :=
  if !s.powered || !s.pwr.rails then .next s
  else
    let ts := temps.take 12
    let s := ts.zipIdx.foldl (fun t p => t.wrAt F.PWR_TEMP_max_temp (5 + p.2) (tempBits p.1)) s
    let paced := (ts.zipIdx.filter (fun p => decide (9500 ≤ p.1))).map Prod.snd
    let s := ({ s with pwr := { s.pwr with stackTemps := ts, paced := paced } }).findHottest
    if ts.any (fun t => decide (10500 ≤ t)) then .next s.trip else .next s.clearTrip

/-! ### Clock gating (R390) -/

/-- The array, row engine, vector cluster and DMA of a physical core are idle. -/
def State.coreQuiet (s : State) (p : Nat) : Bool :=
  let a : ArrSt := sget {} s.arr p
  let r : RowSt := sget {} s.row p
  a.fw.isNone && a.hw.isNone && a.heldFw.isNone && a.heldHw.isNone && a.tiles.isEmpty &&
  r.chunks.isEmpty && r.merge.isNone && r.merging.isEmpty && r.finished.isEmpty &&
  (s.vecAt p).threads.all (fun t => t.2.st == .idle) && s.xfers.all (fun x => s.phys x.core != p)

/-- CORE_CLOCK_GATE (R390): a core idle for 256 clocks; it wakes with its next work. -/
def execCoreClockGate (phys : Nat) (s : State) : Host.Outcome State Fault Refusal :=
  if s.arrayClocked && decide (phys < 272) && s.coreQuiet phys && !s.pwr.gated.contains phys then
    .next { s with pwr := { s.pwr with gated := s.pwr.gated ++ [phys] } }
  else .next s

/-- A core is clock-gated now. -/
def State.clockGated (s : State) (p : Nat) : Bool := s.pwr.gated.contains p && s.coreQuiet p

end Sys2Proof.Machine
end

