-- ==== Sys2Proof/Machine/Csr.lean ====
section
/-! DEFINITION. Machine/Csr.lean: reads and writes of the control and status registers (R7 to R9, R15, R459): the fields whose value is
computed, the rules of each register for what a write takes, and REGISTER_WRITE, SEC_RNG_READ and MBOX_SEND. -/

namespace Sys2Proof.Machine

/-! ### Computed fields -/

/-- The logical core that a physical core serves. -/
def State.coreOf (s : State) (p : Nat) : Option Nat := allCores.find? (fun n => s.phys n == p)

/-- The thread that VEC_THREAD_SEL selects, and the lane of it that the selected scalar core is (R156). -/
def State.shownThread (s : State) (p : Nat) : Thread × Lane :=
  let v := s.vecAt p
  let c := s.rdAt F.VEC_THREAD_SEL_scalar_core p
  let t := v.thread (v.home c (s.rdAt F.VEC_THREAD_SEL_slot p))
  (t, t.lane (if t.gang then c % 32 else 0))

def ThState.code : ThState → Nat
  | .idle => 0 | .running => 1 | .waiting => 2 | .paused => 3 | .faulted => 4

/-- Status of the array (R103). -/
def viewsArr : List (Field × (State → Nat → Nat)) :=
  let arr (s : State) (p : Nat) : ArrSt := sget {} s.arr p
  let prep (a : ArrSt) : Bool := (a.fw.any (fun w => w.prepass)) || (a.hw.any (fun w => w.prepass))
  [(F.ARR_STATUS_sets_busy, fun s p => (arr s p).setsUsed.foldl (fun a k => orBits a (2 ^ k)) 0),
   (F.ARR_STATUS_held_hw, fun s p => bit (arr s p).heldHw.isSome), (F.ARR_STATUS_held_fw, fun s p => bit (arr s p).heldFw.isSome),
   (F.ARR_STATUS_retrying, fun s p => bit (arr s p).retry),
   (F.ARR_STATUS_suspect, fun s p => bit ((s.coreOf p).any s.suspect)),
   (F.ARR_STATUS_rejected, fun s p => bit ((arr s p).stopFw || (arr s p).stopHw)),
   (F.ARR_STATUS_hw_active, fun s p => bit ((arr s p).current.any (fun t => t.hw))),
   (F.ARR_STATUS_fw_active, fun s p => bit ((arr s p).current.any (fun t => !t.hw))),
   (F.ARR_STATUS_busy, fun s p => bit (!(arr s p).tiles.isEmpty || (arr s p).retry || prep (arr s p))),
   (F.ROW_STATUS_prepass, fun s p => bit (prep (arr s p)))]

/-- Status of the row engine (R128). -/
def viewsRow : List (Field × (State → Nat → Nat)) :=
  let row (s : State) (p : Nat) : RowSt := sget {} s.row p
  let prep (s : State) (p : Nat) : Bool :=
    let a : ArrSt := sget {} s.arr p
    a.fw.any (fun w => w.prepass) || a.hw.any (fun w => w.prepass)
  [(F.ROW_STATUS_buf_hw, fun s p => (row s p).buffered true), (F.ROW_STATUS_buf_fw, fun s p => (row s p).buffered false),
   (F.ROW_STATUS_holding, fun s p => bit ((s.coreOf p).any s.rowHolding)), (F.ROW_STATUS_rejected, fun s p => bit (row s p).stopped),
   (F.ROW_STATUS_cmd_active, fun s p => bit ((row s p).finished.any (fun d => d.run))),
   (F.ROW_STATUS_tiles_active, fun s p => bit (!(row s p).chunks.isEmpty || (row s p).merge.isSome ||
     !(row s p).merging.isEmpty || (row s p).finished.any (fun d => !d.run))),
   (F.ROW_STATUS_busy, fun s p => bit (!(row s p).idle || prep s p))]

/-- Status of the vector cluster, and the thread shown (R156). -/
def viewsVec : List (Field × (State → Nat → Nat)) :=
  let live (v : VecSt) : List (Nat × Thread) := v.threads.filter (fun t => t.2.st != .idle)
  [(F.VEC_STATUS_threads_running, fun s p => ((live (s.vecAt p)).map (fun t => if t.2.gang then 32 else 1)).sum),
   (F.VEC_STATUS_lg_gang, fun s p => (s.vecAt p).gangMode),
   (F.VEC_STATUS_lg_busy, fun s p => (List.range 4).foldl (fun a g => a + bit ((s.vecAt p).groupBusy g) * 2 ^ g) 0),
   (F.VEC_STATUS_faulted, fun s p => bit ((s.vecAt p).threads.any (fun t => t.2.st == .faulted))),
   (F.VEC_STATUS_rejected, fun s p => bit (s.vecAt p).stopped), (F.VEC_STATUS_launch_waiting, fun s p => bit (s.vecAt p).head.isSome),
   (F.VEC_STATUS_busy, fun s p => bit (!(live (s.vecAt p)).isEmpty || !(s.vecAt p).launches.isEmpty || (s.vecAt p).head.isSome)),
   (F.VEC_THREAD_STATE_state, fun s p => (s.shownThread p).1.st.code), (F.VEC_THREAD_STATE_gang, fun s p => bit (s.shownThread p).1.gang),
   (F.VEC_THREAD_STATE_mask_depth, fun s p => (s.shownThread p).1.stack.length),
   (F.VEC_THREAD_STATE_ftz, fun s p => bit (s.shownThread p).2.ftz),
   (F.VEC_THREAD_STATE_call_depth, fun s p => (s.shownThread p).1.ret.length),
   (F.VEC_THREAD_STATE_flags, fun s p => (s.shownThread p).2.flags.vecBits),
   (F.VEC_THREAD_STATE_pred, fun s p =>
     (List.range 4).foldl (fun a k => a + bit (k == 0 || (s.shownThread p).2.pred k) * 2 ^ k) 0),
   (F.VEC_THREAD_STATE_poison, fun s p => (s.shownThread p).2.wp),
   (F.VEC_THREAD_STATE_lane_mask, fun s p => if (s.shownThread p).1.gang then (s.shownThread p).1.mask else 0),
   (F.VEC_THREAD_PC_pc, fun s p => (s.shownThread p).1.pc)] ++
  ([F.VEC_THREAD_W0_value, F.VEC_THREAD_W1_value, F.VEC_THREAD_W2_value, F.VEC_THREAD_W3_value, F.VEC_THREAD_W4_value,
    F.VEC_THREAD_W5_value, F.VEC_THREAD_W6_value, F.VEC_THREAD_W7_value].zipIdx).map (fun x =>
      (x.1, fun (s : State) (p : Nat) => (s.shownThread p).2.reg x.2))

/-- Status of a core's scheduler (R225). -/
def viewsSch : List (Field × (State → Nat → Nat)) :=
  let w (hw : Bool) (s : State) (p : Nat) : WingSt := match s.coreOf p with
    | some n => s.wing n hw
    | none => {}
  let alloc (hw : Bool) (s : State) (p : Nat) : Bool := s.sched.waiting.any (fun r => some r.core == s.coreOf p && r.hw == hw)
  let mb (x : WingSt) : Nat := match x.run with
    | some r => segMb r.words
    | none => 0
  [(F.SCH_STATUS_fw_mb, fun s p => mb (w false s p)), (F.SCH_STATUS_hw_mb, fun s p => mb (w true s p)),
   (F.SCH_STATUS_hw_active, fun s p => bit (w true s p).run.isSome), (F.SCH_STATUS_fw_active, fun s p => bit (w false s p).run.isSome),
   (F.SCH_STATUS_standin, fun s p => bit ((s.coreOf p).any (fun n => (sget? s.sched.standin n).isSome))),
   (F.SCH_STATUS_hw_wait_alloc, fun s p => bit (alloc true s p)), (F.SCH_STATUS_fw_wait_alloc, fun s p => bit (alloc false s p)),
   (F.SCH_STATUS_hw_wait_counter, fun s p => bit ((w true s p).waitReg && !(w true s p).waitDone)),
   (F.SCH_STATUS_fw_wait_counter, fun s p => bit ((w false s p).waitReg && !(w false s p).waitDone)),
   (F.SCH_STATUS_fw_seg, fun s p => (w false s p).idx), (F.SCH_STATUS_hw_seg, fun s p => (w true s p).idx)]

/-- Module, power, queue, counter, barrier and fault fields (log entry 49). -/
def viewsMod : List (Field × (State → Nat → Nat)) :=
  [(F.MOD_STATE_state, fun s _ => s.mode.code), (F.MOD_STEP_step_state, fun s _ => s.step.code), (F.MOD_TICK_tick, fun s _ => s.tick),
   (F.MOD_SPARES_q0, fun s _ => (s.spares 0).length), (F.MOD_SPARES_q1, fun s _ => (s.spares 1).length),
   (F.MOD_SPARES_q2, fun s _ => (s.spares 2).length), (F.MOD_SPARES_q3, fun s _ => (s.spares 3).length),
   (F.PWR_STATUS_hint, fun s _ => bit s.hintActive),
   (F.PWR_STATUS_clock, fun s _ => if s.arrayClocked then s.rd F.PWR_STATUS_clock else 0),
   (F.PWR_STATUS_hbm, fun s _ => bit (s.isSet F.PWR_STATUS_hbm || !s.pwr.paced.isEmpty)),
   (F.SYN_STATUS_waiters, fun s n => (s.waits.filter (fun w => w.counter == n)).length),
   (F.SYN_WAITS_outstanding, fun s _ => s.waits.length),
   (F.QUE_STATUS_items, fun s q => s.itemCount q), (F.QUE_STATUS_packet_open, fun s q => bit (s.queue q).open_.isSome),
   (F.QUE_STATUS_full, fun s q => bit (s.queueFull q)), (F.QUE_STATUS_empty, fun s q => bit (s.queueEmpty q)),
   (F.QUE_RING_STATUS_cpl_full, fun s r => bit (s.cplFull r)),
   (F.CHK_MOLT_STATUS_children, fun s _ => if s.job.active then s.kids.length else 0),
   (F.CHK_MOLT_STATUS_children_voted, fun s _ => s.barrier.kids.length), (F.CHK_MOLT_STATUS_replay, fun s _ => s.replay),
   (F.CHK_MOLT_STATUS_round, fun s _ => s.barrier.round), (F.CHK_MOLT_STATUS_root, fun s _ => bit (s.job.active && s.isRoot)),
   (F.CHK_MOLT_STATUS_record_held, fun s _ => bit s.mirror.record.isSome),
   (F.CHK_MOLT_STATUS_voted, fun s _ => bit (s.barrier.own != 0)), (F.CHK_MOLT_STATUS_vote, fun s _ => s.barrier.own),
   (F.CHK_MIRROR_STATUS_held_rank, fun s _ => s.heldRank.getD 0),
   (F.CHK_TEST_STATUS_quadrant, fun s _ => (List.range 4).foldl (fun a q =>
     a + (128 * bit (s.test.due.contains q) + min 7 ((quadPhys q).filter (fun p => s.isSetAt F.CHK_CORE_TEST_testing p)).length) * 2 ^ (8 * q)) 0),
   (F.CHK_INPUT_WAIT_ticks, fun s _ => s.rd F.CHK_INPUT_WAIT_ticks + (match s.job.waitSince with
     | some t => s.tick - t
     | none => 0)),
   (F.FAB_HOT_TIME_count, fun s _ => s.rd F.FAB_HOT_TIME_count +
     (if s.fab.hot.any (fun h => h.2.hot) then (s.tick - s.fab.hotAny) / usTicks 1 else 0)),
   (F.ERR_STATUS_loss_pending, fun s _ => bit (!s.job.losses.isEmpty)),
   (F.STW_JOURNAL_first, fun s _ => s.journalFirst), (F.STW_JOURNAL_last, fun s _ => s.journalLast),
   (F.PORT_CTRL_min_lanes, fun s o => s.minLanes o),
   (F.MEM_STATUS_scrub_active, fun s _ => bit (s.isSet F.MEM_CTRL_scrub_enable && decide (0 < s.mem.scrubAt))),
   (F.STW_MGMT_link_up, fun s _ => bit s.powered),
   (F.STW_OTP_SHADOW_bytes, fun s k => leNat ((List.range 8).map (fun j =>
     if 46 ≤ 8 * k + j ∧ 8 * k + j < 78 then 0 else sget 0 s.boot.otpRead (8 * k + j))))]

/-- Counters of clocks in which a unit works or waits, and of memory traffic: free values, by register, core and tick (log entry 19). -/
def viewsClocks : List (Field × (State → Nat → Nat)) :=
  [F.ROW_BUSY_count, F.ROW_STALL_count, F.VEC_IDLE_SLOT_count, F.UPD_FENCE_STALL_count, F.MEM_RD_GRAN_count, F.MEM_WR_GRAN_count].map (fun f =>
    (f, fun (s : State) (p : Nat) => Config.clocks (f.key p) s.tick))

def views : List (Field × (State → Nat → Nat)) := viewsMod ++ viewsArr ++ viewsRow ++ viewsVec ++ viewsSch ++ viewsClocks

/-- What a read of field `f` of element `i` shows. -/
def State.show (s : State) (f : Field) (i : Nat) : Nat := match views.find? (fun v => v.1 == f) with
  | some v => v.2 s i % 2 ^ f.width
  | none => s.rdAt f i

/-! ### Registers by address (R7, R8, R15, R459) -/

/-- The register of a list that an address names, and its element. -/
def regIn (rs : List RegDesc) (a : Nat) : Option (RegDesc × Nat) :=
  (rs.find? (fun r => if r.stride = 0 then a == r.base
    else decide (r.base ≤ a) && (a - r.base) % r.stride == 0 && decide ((a - r.base) / r.stride < r.count))).map (fun r =>
      (r, if r.stride = 0 then 0 else (a - r.base) / r.stride))

/-- A register of a per-core window: that of the physical core serving it; module-wide ones stand in window 0 only. -/
def State.regAt (s : State) (a : Nat) : Option (RegDesc × Nat) := match place a with
  | .csr a => regIn moduleRegs a
  | .coreCsr n off => match coreRegs.find? (fun r => r.base == 0x20100000000 + off && (r.perCore || n == 0)) with
    | some r => some (r, if r.perCore then s.phys n else 0)
    | none => none
  | _ => none

/-- PORT_FE_CFG and PORT_FE_STATUS exist only at front-end ports (R303). -/
def State.absent (s : State) (r : RegDesc) (i : Nat) : Bool :=
  (r.base == F.PORT_FE_CFG_pfc_mask.base || r.base == F.PORT_FE_STATUS_qp_open.base) && s.portClass i != 2

/-- The word a read returns: WO fields and reserved bits are zero (R8, R9). -/
def State.regWord (s : State) (r : RegDesc) (i : Nat) : Nat :=
  if s.absent r i then 0
  else (r.fields.map (fun p => if p.2 = .wo then 0 else s.show p.1 i * 2 ^ p.1.lo)).sum

/-- Read a register: SEC_RNG draws fresh bits, and RC fields clear or restart (R9, R203, R433). A reserved or misaligned address reads
zero. -/
def State.csrRead (s : State) (a : Nat) : Nat × State :=
  if a = F.SEC_RNG_value.base then s.draw
  else match s.regAt a with
    | none => (0, s)
    | some (r, i) =>
      (s.regWord r i, if a = F.SYN_WAITS_peak.base then s.wr F.SYN_WAITS_peak s.waits.length else s)

/-- Reads of consecutive registers. -/
def State.csrReads : Nat → Nat → State → List Nat × State
  | 0, _, s => ([], s)
  | n + 1, a, s =>
    let x := s.csrRead a
    let y := State.csrReads n (a + 8) x.2
    (x.1 :: y.1, y.2)

/-! ### What a write takes -/

/-- The value that a write of `v` to a field takes; none where it is ignored (log entry 45). -/
def State.legal (s : State) (f : Field) (i v : Nat) : Option Nat :=
  let zero (d : Nat) : Option Nat := some (if v = 0 then d else v)
  let within (lo hi : Nat) : Option Nat := if lo ≤ v ∧ v ≤ hi then some v else none
  if f = F.PWR_CTRL_clock_ceiling then some (max 32 (min v (s.rd F.MOD_ID_max_clock)))
  else if f = F.PWR_CTRL_window_s then some (if 1 ≤ v ∧ v ≤ 30 then v else 5)
  else if f = F.PWR_CAP_cap_w then some (s.clampCap v)
  else if f = F.PWR_DROOP_CTRL_trip_mv then within 20 80
  else if f = F.PWR_THERM_CTRL_throttle_c then some (if v < 80 then 80 + Config.limiter s.drawn % 21 else min v 100)
  else if f = F.PWR_THERM_CTRL_release_c then
    let t := s.rd F.PWR_THERM_CTRL_throttle_c
    some (if v < t then v else t - 3)
  else if f = F.MEM_CTRL_scrub_hours then some (if 1 ≤ v ∧ v ≤ 24 then v else 8)
  else if f = F.MEM_IMB_CTRL_factor then within 2 15
  else if f = F.MEM_IMB_CTRL_duration_s then within 1 255
  else if f = F.QUE_RING_CTRL_cpl_log2 ∨ f = F.QUE_RING_CTRL_cmd_log2 ∨ f = F.PORT_BR_RING_log2_entries then within 4 16
  else if f = F.UPD_SCALE_CTRL_growth_interval then zero 2000
  else if f = F.UPD_NAN_POLICY_policy then within 0 2
  else if f = F.SCH_CTRL_fw_share then some (min v 16)
  else if f = F.SCH_COCOON_CTRL_stall_limit_ms then zero 2000
  else if f = F.FAB_CTRL_coll_weight then zero 12
  else if f = F.FAB_HOT_CTRL_hotspot_ms then zero 1000
  else if f = F.FAB_HOT_CTRL_hot_us then zero 10
  else if f = F.FAB_HOT_CTRL_hot_depth then some (max 8 v)
  else if f = F.FAB_RETX_CTRL_timeout_us then zero 200
  else if f = F.FAB_RETX_CTRL_max_retx then zero 8
  else if f = F.PORT_CTRL_min_lanes then (if i < 72 then within 2 4 else if v = 4 ∨ v = 8 then some v else none)
  else if f = F.PORT_FE_CFG_pfc_mask then (if ((List.range 8).filter (bitAt v)).length ≤ 2 then some v else none)
  else if f = F.CHK_MOLT_CTRL_vote_timeout_ms then zero 120000
  else if f = F.CHK_CANARY_CTRL_period then within 1 1024
  else if f = F.CHK_MIRROR_CTRL_rebuild_gbs then some (if v = 0 then 20 else min v 200)
  else if f = F.CHK_TEST_CTRL_period_min then within 60 10080
  else if f = F.CHK_CHRYS_CTRL_done_timeout_s then zero 600
  else if f = F.ERR_CTRL_job_hb_timeout_us then zero 4000
  else if f = F.ERR_CTRL_job_hb_us then zero 1000
  else if f = F.ERR_CTRL_remap_wait_s then zero 60
  else if f = F.ERR_CTRL_auto_replay then zero 3
  else some v

/-- Fields that ignore writes now: marked "no step open", or writable only while the ring, bridge or port rests. -/
def State.locked (s : State) (r : RegDesc) (f : Field) (i : Nat) : Bool :=
  if r.base = F.UPD_CTRL_mode.base ∨ r.base = F.UPD_CLIP_max_norm.base ∨ f = F.UPD_NAN_POLICY_policy ∨ f = F.CHK_REPLICA_axis_mask ∨
      r.base = F.CHK_CANARY_CTRL_period.base ∨ r.base = F.QUE_BACKING_base.base ∨ r.base = F.QUE_FWD_node.base then s.stepOpen
  else if r.base = F.QUE_RING_BASE_base.base ∨ r.base = F.QUE_RING_CPL_BASE_base.base then s.ringOn i
  else if r.base = F.PORT_BR_WINDOW_base.base ∨ r.base = F.PORT_BR_RING_base.base then s.isSet F.PORT_BR_CTRL_enable
  else if r.base = F.PORT_FE_CFG_pfc_mask.base then s.absent r i || decide (2 ≤ s.portState i)
  else if r.base = F.STW_MBOX_OUT_word.base then s.isSet F.STW_MBOX_CTRL_send
  else false

/-- Write one field of a register under its access type (R9). -/
def State.writeField (s : State) (r : RegDesc) (i v : Nat) (p : Field × Acc) : State :=
  let f := p.1
  let x := v / 2 ^ f.lo % 2 ^ f.width
  if s.locked r f i then s
  else match p.2 with
    | .rw => match s.legal f i x with
      | some y => s.wrAt f i y
      | none => s
    | .w1c => if x = 1 then s.wrAt f i 0 else s
    | .w1s => if x = 1 then s.wrAt f i 1 else s
    | _ => s

def State.writeFields (s : State) (r : RegDesc) (i v : Nat) : State := r.fields.foldl (fun t p => t.writeField r i v p) s

/-- QUE_RING_CTRL (R197, R199, R200): sizes while the ring is disabled, then abort, restart and the change of enable. -/
def State.writeRingCtrl (s : State) (r v : Nat) : State :=
  let put (t : State) (f : Field) (x : Nat) : State := match t.legal f r x with
    | some y => t.wrAt f r y
    | none => t
  let s := if s.ringOn r then s else put (put s F.QUE_RING_CTRL_cpl_log2 (fld v 12 8)) F.QUE_RING_CTRL_cmd_log2 (fld v 7 3)
  let s := if bitAt v 2 then s.abortRing r else s
  let s := if bitAt v 1 then s.restartRing r else s
  if bitAt v 0 then s.enableRing r else s.disableRing r

/-- STW_MBOX_CTRL (R434): the steward takes the message at once (log entry 39). -/
def State.mboxSend (s : State) : State :=
  s.send (.reply 2 ((List.range 8).map (fun k => s.rdAt F.STW_MBOX_OUT_word k)))

/-- PORT_CTRL (R286). -/
def State.writePortCtrl (s : State) (o v : Nat) : State :=
  let s := match s.legal F.PORT_CTRL_min_lanes o (fld v 11 8) with
    | some x => s.setMinLanes o x
    | none => s
  let on := bitAt v 0
  let s := if s.isSetAt F.PORT_CTRL_enable o == on then s else s.enablePort o on
  if bitAt v 1 && s.portsLive then s.retrainPort o else s

/-- Clearing ERR_NAN_RECORD0.valid empties the record (R72). -/
def State.clearNan (s : State) : State :=
  s.clear [F.ERR_NAN_RECORD0_valid, F.ERR_NAN_RECORD0_engine, F.ERR_NAN_RECORD0_core, F.ERR_NAN_RECORD0_location,
    F.ERR_NAN_RECORD1_tensor_id, F.ERR_NAN_RECORD1_micro_batch, F.ERR_NAN_RECORD1_branch, F.ERR_NAN_RECORD2_count,
    F.ERR_NAN_RECORD2_command_seq, F.ERR_NAN_RECORD3_instar, F.ERR_NAN_RECORD4_tick]

/-- Registers whose write is an operation of its chapter. -/
def regOps : List (Nat × (State → Nat → Nat → State)) :=
  [(F.SYN_VALUE_value.base, State.syncSet), (F.SYN_ADD_operand.base, State.syncAdd), (F.MEM_TS_RESIDENT_valid.base, State.writeResident),
   (F.QUE_CFG_enable.base, State.writeQueCfg), (F.QUE_RING_CTRL_enable.base, State.writeRingCtrl),
   (F.QUE_RING_DOORBELL_seq.base, State.doorbell), (F.QUE_RING_CPL_ACK_seq.base, fun s i v => s.cplAck i (v % 2 ^ 32)),
   (F.UPD_LOAD_load_table.base, fun s _ v =>
     let s := if bitAt v 0 then s.wr F.UPD_LOAD_load_table 1 else s
     (if bitAt v 1 then s.wr F.UPD_LOAD_load_ucode 1 else s).settleLoads),
   (F.PORT_CTRL_enable.base, State.writePortCtrl), (F.PORT_BR_DOORBELL_seq.base, fun s _ v => s.bridgeDoorbell (v % 2 ^ 32)),
   (F.PORT_BR_STATUS_valid.base, fun s _ v => if bitAt v 31 && s.isSet F.PORT_BR_STATUS_valid then s.bridgeResume else s),
   (F.CHK_KEPT_NEXT_ready.base, fun s _ v => s.writeKeptNext v),
   (F.CHK_KEPT_CUR_repair_done.base, fun s _ v =>
     if bitAt v F.CHK_KEPT_CUR_repair_done.lo then s.repairDone else s)]

/-- Registers whose write is an operation after the plain effect on their fields. -/
def regAfter : List (Nat × (State → Nat → Nat → State)) :=
  [(F.CHK_TEST_CTRL_test_now.base, fun s _ v => if bitAt v 1 && s.mode != .dormant then s.testNow else s),
   (F.ROW_CTRL_flush_ctx.base, fun s p v => if bitAt v 0 then s.flushRow p else s),
   (F.VEC_CTRL_flush_icache.base, fun s p v => if bitAt v 0 then s.flushIcache p else s),
   (F.VEC_THREAD_CTRL_resume.base, fun s p v => if bitAt v 0 then (s.wrAt F.VEC_THREAD_CTRL_resume p 0).resumeThread p else s),
   (F.ERR_NAN_RECORD0_valid.base, fun s _ v => if bitAt v 63 then s.clearNan else s),
   (F.STW_MBOX_CTRL_send.base, fun s _ v => if bitAt v 1 then (s.mboxSend).wr F.STW_MBOX_CTRL_send 0 else s)]

/-- The steward's and the power controller's blocks work whenever auxiliary power is present; the others only with the hub. -/
def islandBlock (a : Nat) : Bool :=
  (decide (0x20001000000 ≤ a) && decide (a < 0x20002000000)) || (decide (0x2000A000000 ≤ a) && decide (a < 0x2000C000000))

/-- Blocks whose registers take writes in the module's state (log entry 50). -/
def State.csrLive (s : State) (a : Nat) : Bool := s.powered && (islandBlock a || s.alive || (s.mode == .booting || s.mode == .failed))

/-- Write a register (R7 to R9); a reserved or misaligned address ignores it. -/
def State.csrWrite (s : State) (a v : Nat) : State :=
  if !s.csrLive a then s
  else match s.regAt a with
    | none => s
    | some (r, i) => match regOps.find? (fun o => o.1 == r.base) with
      | some o => o.2 s i v
      | none =>
        let t := s.writeFields r i v
        match regAfter.find? (fun o => o.1 == r.base) with
        | some o => o.2 t i v
        | none => t

/-! ### Commands -/

/-- REGISTER_WRITE (R7, R9): an access narrower than 64 bits has no effect. -/
def execRegisterWrite (addr : CsrRef) (value : Nat) (s : State) : Host.Outcome State Fault Refusal :=
  .next (if addr.size = 8 then s.csrWrite addr.addr (value % 2 ^ 64) else s)

/-- SEC_RNG_READ (R433). -/
def execSecRngRead (s : State) : Host.Outcome State Fault Refusal :=
  .next (if s.powered then
    let x := s.csrRead F.SEC_RNG_value.base
    x.2.send (.reply 3 [x.1]) else s)

/-- MBOX_SEND (R434): a write of STW_MBOX_CTRL.send, from the control complex. -/
def execMboxSend (s : State) : Host.Outcome State Fault Refusal := .next (if s.powered && s.boot.os then s.mboxSend else s)

end Sys2Proof.Machine
end

