-- ==== Sys2Proof/Machine/FrontEnd.lean ====
section
/-! DEFINITION. Machine/FrontEnd.lean: the front-end ports (R296 to R299): the Ethernet subset, MACsec, queue pairs and NVMe queues, the
peer's RDMA, and a port that goes down. -/

namespace Sys2Proof.Machine

/-! ### A port and its configuration -/

/-- The MAC address of front-end port `f` (R415): the base, its first byte most significant, plus f. -/
def State.feMac (s : State) (f : Nat) : Nat :=
  (List.range 6).foldl (fun a k => 256 * a + (sget 0 s.boot.otpRead (8 + k)).toNat) 0 + f

/-- Item 5 of the configuration (R413, log entry 36): flags of each port (macsec_enable, macsec_required, tagged, static address), its
VLAN tag, and its address. -/
def State.feItem (s : State) : List Byte := (s.configItem 5).getD []
def State.feFlag (s : State) (f k : Nat) : Bool := bitAt (field s.feItem f 1) k
def State.feVlan (s : State) (f : Nat) : Option Nat := if s.feFlag f 2 then some (field s.feItem (2 + 2 * f) 2 % 4096) else none
def State.feAddrs (s : State) (f : Nat) : List Nat := if s.feFlag f 3 then [field s.feItem (8 + 16 * f) 16] else (s.fe f).addrs

/-! ### What a port takes (R296, R298) -/

/-- Frames of the link itself, which carry no tag and no address: MKA and flow control. -/
def feOfLink : FeBody → Bool
  | .mka _ | .pfc _ | .pause => true
  | _ => false

def feIsMka : FeBody → Bool
  | .mka _ => true
  | _ => false

/-- Content outside the subset of R296 and R297. -/
def feOutside : FeBody → Bool
  | .pause | .ipv4 | .unsupported => true
  | _ => false

/-- A queue pair number that the content uses. -/
def fePair : FeBody → Option Nat
  | .disconnect q | .send q _ | .rdmaWrite q _ _ | .rdmaRead q _ _ | .cnp q => some q
  | _ => none

/-- Content that the tables can take (R297): a new queue pair within the limits of 4,096 pairs, 16 controllers and 64 I/O queues of each, or
one of a pair that is open on the port. -/
def State.feTables (s : State) (f : Nat) (b : FeBody) : Bool :=
  let here := (s.fe f).pairs
  let all := (s.fe 0).pairs ++ (s.fe 1).pairs
  match b with
  | .connect q c n => decide (all.length < 4096) && decide (c < 16) && decide (n ≤ 64) &&
      !all.any (fun x => x.qp == q || (x.ctrl == c && x.queue == n))
  | b => match fePair b with
    | some q => here.any (fun x => x.qp == q)
    | none => true

/-- MACsec lets the frame pass (R298): a protected one whose check passes and whose number lies within the replay window, an unprotected
one where none is required; MKA always. -/
def State.feSecure (s : State) (f o : Nat) (x : FeFrame) : Bool :=
  match x.secured with
  | some (pn, ok) => s.isSetAt F.PORT_FE_CFG_macsec_enable o && ok && (match (s.fe f).key with
      | some k => decide ((s.fe f).rxNext ≤ pn + k.window) && decide (pn < (if k.xpn then 2 ^ 64 else 2 ^ 32))
      | none => false)
  | none => !s.isSetAt F.PORT_FE_CFG_macsec_required o || feIsMka x.body

/-- The frame is for this port: its own MAC address or a group address, its VLAN tag, and for queue pairs one of its IPv6 addresses. -/
def State.feForUs (s : State) (f : Nat) (x : FeFrame) : Bool :=
  (x.mac == s.feMac f || bitAt x.mac 40) && (feOfLink x.body || x.vlan == s.feVlan f) &&
  (match fePair x.body with
    | some _ => (s.feAddrs f).contains x.addr
    | none => true)

/-- The port takes the frame. -/
def State.feAccepts (s : State) (f o : Nat) (x : FeFrame) : Bool :=
  decide (x.length ≤ 9216) && s.feForUs f x && s.feSecure f o x && !feOutside x.body && s.feTables f x.body

/-! ### What the engine does with it -/

/-- Send a frame of the engine: under a live key it takes the next packet number. -/
def State.feSend (s : State) (f o kind : Nat) (body : List Nat) : State :=
  let x := s.fe f
  let s := if x.key.isSome then { s with links := { s.links with fe := sput s.links.fe f { x with txNext := x.txNext + 1 } } } else s
  s.send (.link o kind body)

/-- The content of a frame that is taken. RDMA reaches HBM as DMA does (R164); what it may not reach is answered with an error. -/
def State.feTake (s : State) (f o : Nat) (b : FeBody) : State :=
  let x := s.fe f
  match b with
  | .mka k => s.setFe f o { x with key := k, rxNext := (k.map (fun k => k.first)).getD 0, txNext := 1 }
  | .pfc p => s.setFe f o { x with paused := Nat.land p (s.rdAt F.PORT_FE_CFG_pfc_mask o) }
  | .neighbour a => s.setFe f o { x with neighbours := x.neighbours.filter (fun y => y != a) ++ [a] }
  | .autoconf a => s.setFe f o { x with addrs := x.addrs.filter (fun y => y != a) ++ [a] }
  | .connect q c n => s.setFe f o { x with pairs := x.pairs ++ [⟨q, c, n⟩] }
  | .disconnect q => s.setFe f o { x with pairs := x.pairs.filter (fun p => p.qp != q) }
  | .rdmaWrite q a bs => if s.mayWriteHbm .dma a bs.length then s.storeN a bs else s.feSend f o 0x11 [q, a]
  | .rdmaRead q a n =>
    if s.mayReadHbm .dma a n && !s.poisoned a n then s.feSend f o 0x10 (q :: (s.loadN a n).map BitVec.toNat) else s.feSend f o 0x11 [q, a]
  | _ => s

/-- A congestion notification answers a marked frame of a queue pair (R296). -/
def State.feNotify (s : State) (f o : Nat) (x : FeFrame) : State :=
  match fePair x.body with
  | some q => if x.marked && s.isSetAt F.PORT_FE_CFG_ecn_enable o then s.feSend f o 0x81 [q] else s
  | none => s

/-- The receiving channel's next packet number rises past a frame that has passed. -/
def State.feNumber (s : State) (f : Nat) (x : FeFrame) : State :=
  match x.secured with
  | some (pn, _) => { s with links := { s.links with fe := sput s.links.fe f { s.fe f with rxNext := max (s.fe f).rxNext (pn + 1) } } }
  | none => s

/-- Frames dropped, and frames taken. -/
def State.feCount (s : State) (f : Nat) (taken : Bool) : State :=
  let l := s.links
  { s with links := if taken then { l with feTaken := sset 0 l.feTaken f (sget 0 l.feTaken f + 1) }
                    else { l with feDropped := sset 0 l.feDropped f (sget 0 l.feDropped f + 1) } }

/-- FRONT_END_FRAME (R296 to R298): dropped and counted, or handed to the front-end engine. -/
def execFrontEndFrame (front : Nat) (frame : FeFrame) (s : State) : Host.Outcome State Fault Refusal :=
  match s.frontPort front with
  | none => .next s
  | some o =>
    if !s.portsLive || s.portState o != 4 then .next s
    else if !s.feAccepts front o frame then .next (s.feCount front false)
    else .next ((((s.feCount front true).feNumber front frame).feNotify front o frame).feTake front o frame.body)

/-- FRONT_END_PORT_DOWN (R299, R373). -/
def execFrontEndPortDown (front : Nat) (s : State) : Host.Outcome State Fault Refusal :=
  match s.frontPort front with
  | none => .next s
  | some o => .next (if s.portsLive && s.portState o == 4 then s.portDown o else s)

end Sys2Proof.Machine
end

