-- ==== Sys2Proof/Machine/Jobs.lean ====
section
/-! DEFINITION. Machine/Jobs.lean: job start and takeover (R22, R24, R25, R159, R162, R163, R359, R461) and the end of the scrub (R21). -/

namespace Sys2Proof.Machine

/-! ### The mapping table (R24, R25) -/

def entryModule (w : Nat) : Nat := fld w 15 0
def entryPartner (w : Nat) : Nat := fld w 31 16

/-- The job's rank count (R22). -/
def jobRanks (j : JobDesc) : Nat := (j.shapes.map shapeSize).sum

/-- The branches are 1 to 16, every axis at least 1, the ranks at most 65,536, and the table has an entry for each (R22, R24) (log entry 73). -/
def jobShapeOk (j : JobDesc) : Bool :=
  decide (1 ≤ j.shapes.length) && decide (j.shapes.length ≤ 16) && j.shapes.all (fun b => decide (1 ≤ shapeSize b)) &&
  decide (jobRanks j ≤ 65536) && j.map.length == jobRanks j && j.map.all (fun w => fld w 63 48 == 1) && decide (j.rank < jobRanks j)

/-- The checks of R25. -/
def jobMapOk (j : JobDesc) : Bool :=
  let ms := j.map.map entryModule
  let ps := (j.map.map entryPartner).filter (fun p => p != 0xFFFF)
  let groups := (ms.map (· / 32)).eraseDups.length
  ms.Nodup &&
  ms.all (fun m => decide (m < 39968)) && ps.all (fun p => decide (p < 39968)) &&
  (if jobRanks j = 1 then ps.isEmpty
   else j.map.all (fun w => entryPartner w != 0xFFFF && entryPartner w != entryModule w &&
          (groups == 1 || entryPartner w / 32 != entryModule w / 32)) &&
        ms.all (fun m => ps.count m == 1) && ps.all (fun p => ms.contains p))

/-- The region rules of R162 and R163: sizes of regions 0 to 6 in 64 MiB units. -/
def jobMemOk (j : JobDesc) : Bool :=
  let z (k : Nat) : Nat := j.regions.getD k 0
  j.regions.length == 7 && decide (j.regions.sum ≤ 11776) && decide (z 0 ≠ 0) && z 0 == z 1 && decide (z 6 ≤ 9216) &&
  (jobRanks j == 1 || decide (2 * j.heldBank ≤ z 2))

/-! ### Loading -/

/-- Lay out the regions from address 0, the heap taking what remains (R162). -/
def State.layRegions (s : State) (sizes : List Nat) : State :=
  let all := sizes ++ [11776 - sizes.sum]
  (List.range 8).foldl (fun t k => (t.wrAt F.MEM_REGION_base k ((all.take k).sum)).wrAt F.MEM_REGION_size k (all.getD k 0)) s

/-- A fresh memory key (R159); key_id shows only that a draw has happened. -/
def State.drawKey (s : State) (t seed : Nat) : State :=
  ({ s with mem := { s.mem with key := mix (u64 t ^^^ mix (u64 (seed + mixG))) } }).add F.MEM_STATUS_key_id 1

/-- What every job start clears (R461 and the registers' own texts). -/
def State.clearForJob (s : State) : State :=
  let s := s.zeroAll [F.ARR_REJECT_valid, F.ROW_REJECT_valid, F.VEC_REJECT_valid, F.SCH_REJECT_valid]
  let s := s.clear [F.MEM_IMB_STATUS_valid, F.SCH_STEP_loaded, F.UPD_STATUS_table_loaded, F.UPD_REJECT_valid, F.FAB_HOTSPOT_valid,
    F.FAB_UNREACH_valid, F.FAB_COLL_REJECT_valid, F.CHK_CANARY_STATUS_valid, F.ERR_LOSS_valid, F.CHK_TEST_STATUS_overdue,
    F.PWR_ENERGY_JOB_count, F.ERR_STATUS_local_discards, F.MOD_STEP_replay_count, F.MOD_STEP_active_bank, F.UPD_STATUS_reductions,
    F.CHK_KEPT_NEXT_ready, F.CHK_KEPT_CUR_valid, F.CHK_KEPT_CUR_repair, F.CHK_KEPT_CUR_repair_done,
    F.CHK_MIRROR_STATUS_own_complete, F.CHK_MIRROR_STATUS_held_complete, F.CHK_MIRROR_STATUS_building, F.CHK_MIRROR_STATUS_fence,
    F.SCH_RUN_running, F.SCH_RUN_stopping, F.SCH_RUN_steps_left]
  let s := (List.range 1024).foldl (fun t k => t.wrAt F.MEM_TS_RESIDENT_valid k 0) s
  { s with
    barrier := {}, mirror := {}, canary := {}, sched := {}, fab := { hotAny := s.fab.hotAny, hot := s.fab.hot, peerHot := s.fab.peerHot },
    upd := { regenDue := true, image := s.upd.image }, chrys := {}, xfers := [],
    -- with no job the cores were power-gated, and their operand caches are lost (R390)
    mem := { s.mem with ceRaised := [], refetches := [], hot := [], oc := s.mem.oc.discardOutside s.drawn [] }, drawn := s.drawn + 1,
    links := { s.links with ports := smap (fun _ p => { p with berRaised := false }) s.links.ports } }

/-- Load a job that has passed its checks (R22, R24, R37, R162): the step state is —, and the module enters RUNNING. -/
def State.loadJob (s : State) (j : JobDesc) (epoch : Nat) : State :=
  let t : Sparse MapEntry := j.map.zipIdx.map (fun p => (p.2, MapEntry.mk (entryModule p.1) (entryPartner p.1) (fld p.1 47 32)))
  let job : JobSt := { active := true, shapes := j.shapes, seed := j.seed, map := t, heldBank := j.heldBank, mirrorAt := j.mirrorBase * unit64M, firstAttempt := true, starting := s.ev.takeover.isNone,
                       retryHour := s.tick / hourTicks, beatAt := s.tick }
  let s := ({ s.clearForJob with job := job, mode := .running, step := .none }).layRegions j.regions
  let s := (((s.wr F.MOD_JOB_rank j.rank).wr F.MOD_JOB_rank_count_m1 (jobRanks j - 1)).wr F.MOD_JOB_job_id j.jobId).wr F.MOD_MAP_EPOCH_epoch epoch
  let s := ((s.wr F.MOD_INSTAR_instar j.instar).wr F.CHK_CANARY_PASS_instar j.instar).wrBit F.ERR_CTRL_nan_trap j.nanTrap
  let ev := { s.ev with wokenAt := none, takeover := none }
  ({ s with ev := ev }).drawKey j.random j.seed |>.watchFrom

/-- The takeover pull: both bank copies are asked of the partner, 256 bytes a request (R330, log entry 7). -/
def State.startPull (s : State) : State :=
  let s := { s with mirror := { s.mirror with pulling := true } }
  (List.range (s.regionEnd 1 / 256)).foldl (fun t k =>
    t.sendFlit (t.envelope t.partner (t.job.mirrorAt + 256 * k) .readReq 1 false 0 (readReqBytes 3 (256 * k) 256 t.instar))) s

/-- A spare takes over its rank (R359): the epoch, the replay count and the discards come from the REMAP; it pulls its state and
builds the mirror it now holds. -/
def State.takeOver (s : State) (j : JobDesc) (t : Takeover) : State :=
  let s := s.loadJob j t.epoch
  let s := (s.wr F.MOD_STEP_replay_count t.replay).wr F.ERR_STATUS_local_discards t.discards
  (if jobRanks j = 1 then s else s.startPull).finishDirectives 1

/-- Refuse a takeover whose load fails: the REMAP ends BAD_ARG. -/
def State.refuseTakeover (s : State) : State :=
  let done := s.ev.waiting.filter (fun w => w.1 == 1)
  let s := { s with ev := { s.ev with takeover := none, waiting := s.ev.waiting.filter (fun w => w.1 != 1) } }
  done.foldl (fun u w => (u.answer 1 w.2.1 6).raiseRec .DIRECTIVE_REJECTED 0xFFFF Rec.errFm) s

/-- The event of a refused job. -/
def State.refuseJob (s : State) (e : Event) : State :=
  let s := s.raise e
  if s.ev.takeover.isSome then s.refuseTakeover else s

/-- JOB_START (R25, R163): the table and the regions are checked; the module stays in READY where a check fails. -/
def execJobStart (j : JobDesc) (s : State) : Host.Outcome State Fault Refusal :=
  let mine := match s.ev.takeover with
    | some t => t.rank == j.rank && t.jobId == j.jobId
    | none => true
  if s.mode != .ready || !s.boot.os || !mine then .next s
  else if !jobShapeOk j || !jobMapOk j || entryModule (j.map.getD j.rank 0) != s.self then .next (s.refuseJob .JOB_MAP_INVALID)
  else if !jobMemOk j then .next (s.refuseJob .JOB_MEM_INVALID)
  else match s.ev.takeover with
    | some t => .next (s.takeOver j t)
    | none => .next (if jobRanks j = 1 then s.loadJob j 1 else (s.loadJob j 1).startBuild)

/-- The scrub sets HBM outside the carve-out, tile stores, operand caches, queues and counters to zero (R21). -/
def State.scrub (s : State) : State :=
  let carve := [(0xB800000000, 0xC000000000)]
  let m := { s.mem with hbm := s.mem.hbm.scrubOutside carve, hbmPoison := skeep (fun g => decide (0xB800000000 / 64 ≤ g)) s.mem.hbmPoison,
                        tile := {}, tilePoison := [], oc := {}, ocPoison := [], rewritten := [], refetches := [] }
  let q := smap (fun _ (_ : Queue) => ({} : Queue)) s.queues
  let s := { s with mem := m, queues := q, waits := [], stalled := [] }
  let syn (k : Nat) : Bool :=
    decide (k % 2 ^ 64 / 64 < F.SYN_VALUE_value.base) || decide (F.SYN_VALUE_value.base + 32 ≤ k % 2 ^ 64 / 64)
  { s with regs := skeep syn s.regs }

/-- SCRUB_COMPLETE (R21): the job has ended (R461), and the module is READY. -/
def execScrubComplete (s : State) : Host.Outcome State Fault Refusal :=
  if s.mode == .draining && s.chrys.writer.isNone then
    let s := s.scrub.endAttempt
    let s := { s with mode := .ready, job := {}, mirror := {}, barrier := {}, fab := { s.fab with tx := [], rx := [], held := [], later := [] } }
    .next (s.clear [F.MOD_JOB_rank, F.MOD_JOB_rank_count_m1, F.MOD_JOB_job_id, F.ERR_CTRL_nan_trap]).settleSteps
  else .next s

end Sys2Proof.Machine
end

