-- ==== Sys2Proof/Machine/MgmtOps.lean ====
section
/-! DEFINITION. Machine/MgmtOps.lean: requests of the management sessions (R417, R419 to R421, R424, R428, R431, R432), and the serial
interfaces: console, I3C and JTAG (R448 to R451). -/

namespace Sys2Proof.Machine

/-! ### Attestation (R424) -/

/-- Bytes 0 to 255 of a quote. -/
def State.quote (s : State) (nonce : List Byte) : List Byte :=
  leBytes 4 0x59515154 ++ leBytes 2 1 ++ leBytes 2 0 ++ leBytes 8 (s.rd F.MOD_SERIAL_serial) ++ nonce ++ leBytes 32 s.chain ++
  leBytes 2 (s.rd F.SEC_MEAS_COUNT_entries) ++ leBytes 2 (otpRollback s.boot.otp) ++ leBytes 1 s.policy ++
  leBytes 1 (s.rd F.MOD_ID_power_class) ++ leBytes 1 s.mode.code ++ leBytes 1 0 ++ leBytes 4 s.jobId ++ leBytes 8 s.instar ++
  leBytes 8 s.tick ++ leBytes 148 0

/-- ATTEST_REQ: the signed quote and the log entries. -/
def execAttestReq (m : Mgmt) (nonce : List Byte) (s : State) : Host.Outcome State Fault Refusal :=
  .next (s.onMgmt m anyRole false (fun x s =>
    if nonce.length ≠ 32 then s.replyTo x m 6
    else
      let q := s.quote nonce
      let log := (List.range (s.rd F.SEC_MEAS_COUNT_entries)).flatMap s.logEntry
      s.mgmtTo x.id 0x0A ((q ++ Config.sign q ++ log).map BitVec.toNat)))

/-! ### READ and CSR_WRITE (R428) -/

/-- An address of CSR space (R15); a misaligned access there reads zero and writes nothing (R7). -/
def csrAddr (a : Nat) : Bool := match place a with
  | .csr _ | .coreCsr _ _ => true
  | _ => false

/-- MGMT_READ: 1 to 64 CSRs, or up to 8,192 bytes of the certificate chain of the running flash (R408, R422). -/
def execMgmtRead (m : Mgmt) (chain : Bool) (addr count : Nat) (s : State) : Host.Outcome State Fault Refusal :=
  .next (s.onMgmt m anyRole false (fun x s =>
    if chain then
      if 8192 < count ∨ 0x100000 < addr + count then s.replyTo x m 6
      else s.mgmtTo x.id 0x0C (((s.flash (s.rd F.SEC_BOOT_flash)).image.readN (0xDF00000 + addr) count).map BitVec.toNat)
    else if count = 0 ∨ 64 < count ∨ !csrAddr addr then s.replyTo x m 6
    else
      let r := State.csrReads count addr s
      r.2.mgmtTo x.id 0x0C r.1))

/-- CSR_WRITE, from an operator. -/
def execCsrWrite (m : Mgmt) (addr value : Nat) (s : State) : Host.Outcome State Fault Refusal :=
  .next (s.onMgmt m [1] false (fun x s =>
    if csrAddr addr then (s.csrWrite addr (value % 2 ^ 64)).replyTo x m 0 else s.replyTo x m 6))

/-! ### RESET (R431) -/

/-- Kinds 0 and 2 are accepted in STANDBY, READY, DORMANT and FAILED, with the trip latch clear and RESET_N not asserted (R402, R445). -/
def State.resetOk (s : State) : Bool :=
  (s.mode == .standby || s.mode == .ready || s.mode == .dormant || s.mode == .failed) && !s.isSet F.PWR_THERM_STATUS_tripped &&
  !s.pwr.resetLow && !s.pwr.absent

/-- Main conversion off, then a boot as soon as the supplies allow it. -/
def State.cycle (s : State) : State :=
  let s := s.mainOff
  ({ s with pwr := { s.pwr with bootWanted := true } }).tryConvert

/-- Kind 0: BOOTING from stage 4. -/
def State.moduleReset (s : State) : State :=
  if s.pwr.rails && s.boot.config.isSome then
    let s := { s with pwr := { s.pwr with bootWanted := true } }
    s.enterBooting
  else s.cycle

/-- A RESET message from the fault manager or an operator. -/
def State.onReset (s : State) (m : Mgmt) (ok : State → Bool) (act : State → State) : State :=
  s.onMgmt m [0, 1] false (fun x s => if ok s then act (s.replyTo x m 0) else s.replyTo x m 3)

/-- MODULE_RESET, kind 0. -/
def execModuleReset (m : Mgmt) (s : State) : Host.Outcome State Fault Refusal :=
  .next (s.onReset m State.resetOk State.moduleReset)

/-- STEWARD_RESTART, kind 1: the measurement log is emptied. -/
def execStewardRestart (m : Mgmt) (s : State) : Host.Outcome State Fault Refusal :=
  .next (s.onReset m (fun _ => true) (fun s => s.restartSteward true))

/-- POWER_CYCLE, kind 2. -/
def execPowerCycle (m : Mgmt) (s : State) : Host.Outcome State Fault Refusal :=
  .next (s.onReset m State.resetOk State.cycle)

/-- The control complex restarts from the flash set of the boot (R405); a suspended one starts at the eclosion. -/
def State.restartComplex (s : State) : State :=
  if s.pwr.rails && s.mode != .dormant then ({ s with boot := { s.boot with os := true } }).send (.console [5]) else s

/-- CONTROL_COMPLEX_RESTART, kind 3: accepted in any state after BOOTING. -/
def execControlComplexRestart (m : Mgmt) (s : State) : Host.Outcome State Fault Refusal :=
  .next (s.onReset m (fun s => decide (3 ≤ s.mode.code)) State.restartComplex)

/-! ### Flashes (R432) -/

/-- A write to the flash of the running boot, or to the settings regions, that the steward denies (log entry 53). -/
def State.flashDenied (s : State) (f a n : Nat) : Bool :=
  decide (0xE000000 < a + n) || (f == s.rd F.SEC_BOOT_flash && !s.setOk (1 - f))

/-- FLASH_WRITE, from an operator. -/
def execFlashWrite (m : Mgmt) (flash offset : Nat) (data : List Byte) (s : State) : Host.Outcome State Fault Refusal :=
  .next (s.onMgmt m [1] false (fun x s =>
    if 2 ≤ flash ∨ 4096 < data.length ∨ 0x10000000 < offset + data.length then s.replyTo x m 6
    else if s.flashDenied flash offset data.length then s.replyTo x m 7
    else
      let y := s.flash flash
      let cfg := y.cfgWritten || (decide (offset < 0xDF00000) && decide (0xC000000 < offset + data.length))
      (s.setFlash flash { y with image := y.image.writeN offset data, dirty := true, cfgWritten := cfg }).replyTo x m 0))

/-- FLASH_COMMIT: the set is verified under R411, and the configuration, if written, under R414. -/
def execFlashCommit (m : Mgmt) (flash : Nat) (s : State) : Host.Outcome State Fault Refusal :=
  .next (s.onMgmt m [1] false (fun x s =>
    if 2 ≤ flash then s.replyTo x m 6
    else
      let y := s.flash flash
      let s := s.setFlash flash { y with dirty := false, cfgWritten := false }
      let cfg := !y.cfgWritten || (match s.readConfig flash with
        | .ok _ => true
        | .error _ => false)
      s.replyTo x m (if s.setOk flash && cfg then 0 else 8)))

/-! ### Settings store (R419 to R421) -/

/-- One past the newest sequence number of any record (R6). -/
def nextSeq (rs : List Setting) : Nat :=
  match rs with
  | [] => 1
  | r :: rest => (rest.foldl (fun a x => if newer32 x.seqNo a then x.seqNo else a) r.seqNo + 1) % 2 ^ 32

/-- Compact a flash whose active region is 75 % full: the newest record of every live key goes to the other region. -/
def State.compact (s : State) (x : Flash) : Flash :=
  if x.percent < 75 then x
  else
    let keys := (x.records.map (fun r => r.key)).eraseDups.filter (fun k => (s.setting k).isSome)
    { x with region := 1 - x.region, generation := (x.generation + 1) % 2 ^ 32, records := keys.filterMap (newest x.records) }

/-- Write a record to flash A, then to flash B; a flash that fails the write keeps what it had (log entry 51). -/
def State.writeSetting (s : State) (key : Nat) (delete : Bool) (data : List Byte) (failA failB : Bool) : State :=
  let r : Setting := { key := key, seqNo := nextSeq (s.boot.flashA.records ++ s.boot.flashB.records), gone := delete,
                       data := if delete then [] else data }
  let put (x : Flash) (fail : Bool) : Flash := if fail then x else { x with records := x.records ++ [r] }
  let s := { s with boot := { s.boot with flashA := put s.boot.flashA failA, flashB := put s.boot.flashB failB } }
  let a := s.compact s.boot.flashA
  let b := s.compact s.boot.flashB
  ({ s with boot := { s.boot with flashA := a, flashB := b } }).showSettings

/-- SETTINGS_WRITE, from an operator; with both flashes failing nothing is written. -/
def execSettingsWrite (m : Mgmt) (key : Nat) (delete : Bool) (data : List Byte) (failA failB : Bool) (s : State) :
    Host.Outcome State Fault Refusal :=
  .next (s.onMgmt m [1] false (fun x s =>
    if 0x10000 ≤ key ∨ 4080 < data.length then s.replyTo x m 6
    else if failA && failB then s.replyTo x m 8
    else (s.writeSetting key delete data failA failB).replyTo x m 0))

/-- The store holds an operator peer key. -/
def State.hasOperator (s : State) : Bool := s.peerKeys.any (fun k => keyRole k == 1)

/-- CONSOLE_OPERATOR_KEY (R421, R450): key ID and public key; it takes the lowest free peer-key number, in STANDBY only. -/
def execConsoleOperatorKey (key : List Byte) (s : State) : Host.Outcome State Fault Refusal :=
  if s.mode != .standby || s.hasOperator || decide (4080 < key.length + 1) then .next s
  else match ((List.range 16).map (· + 1)).find? (fun k => (s.setting k).isNone) with
    | none => .next s
    | some k => .next (s.writeSetting k false (leBytes 1 1 ++ key) false false)

/-! ### OTP_BURN (R417) -/

/-- Fields that a burn may name: 0 identity, 1 key revocation, 2 power class, 3 boot policy, 4 core repair map. -/
def otpField (k : Nat) : Option OtpField := match k with
  | 0 => some otpIdentity
  | 1 => some otpRevoke
  | 2 => some otpClass
  | 3 => some otpPolicy
  | 4 => some otpRepair
  | _ => none

/-- The burns that the steward refuses. -/
def otpDenied (m : Sparse Byte) (k : Nat) (data : List Byte) : Bool :=
  match k with
  | 2 => otpPowerClass m == 24 && field data 0 2 == 30
  | 3 =>
    let old := otpPolicyBits m
    let new := field data 0 1 % 16
    [0, 1, 2].any (fun b => bitAt new b && !bitAt old b) || (bitAt old 3 && !bitAt new 3)
  | 4 => (otpRetired m).any (fun p => !bitAt (field data 0 34) p)
  | _ => false

/-- OTP_BURN, from an operator in STANDBY: `readBack` are the bytes that the slot reads as after the burn (log entry 52). -/
def execOtpBurn (m : Mgmt) (field : Nat) (data readBack : List Byte) (s : State) : Host.Outcome State Fault Refusal :=
  .next (s.onMgmt m [1] false (fun x s =>
    if s.mode != .standby then s.replyTo x m 3
    else match otpField field with
      | none => s.replyTo x m 6
      | some f =>
        if data.length + 2 ≠ f.size then s.replyTo x m 6
        else match otpNext s.boot.otp f with
          | none => s.replyTo x m 7
          | some k =>
            if otpDenied s.boot.otp field data then s.replyTo x m 7
            else
              let want := data ++ leBytes 2 (crc16 (data ++ leBytes 1 k))
              let got := (readBack ++ List.replicate f.size 0).take f.size
              let otp := got.zipIdx.foldl (fun a p => sset 0 a (f.base + k * f.size + p.2) p.1) s.boot.otp
              ({ s with boot := { s.boot with otp := otp } }).replyTo x m (if got = want then 0 else 8)))

/-! ### I3C (R448, R449) -/

/-- I3C_STATUS_READ: the STATUS payload as it stands. -/
def execI3cStatusRead (s : State) : Host.Outcome State Fault Refusal :=
  .next (if s.powered then s.send (.reply 4 (s.statusBytes.map BitVec.toNat)) else s)

/-- I3C_ACK_WRITE: an older number is ignored. -/
def execI3cAckWrite (value : Nat) (s : State) : Host.Outcome State Fault Refusal :=
  .next (if s.powered && !newer32 s.mgmt.i3cAck (value % 2 ^ 32) then { s with mgmt := { s.mgmt with i3cAck := value % 2 ^ 32 } } else s)

/-- I3C_ADDRESS_ASSIGN: ENTDAA or SETDASA. -/
def execI3cAddressAssign (addr : Nat) (s : State) : Host.Outcome State Fault Refusal :=
  .next (if s.powered then { s with mgmt := { s.mgmt with i3cAddr := addr % 128 } } else s)

/-- The addresses the target answers to: the dynamic one where it has one, else the static one 0x40 + SLOT. -/
def State.i3cAddress (s : State) : Nat := if s.mgmt.i3cAddr = 0 then 0x40 + s.rd F.MOD_ADDR_slot else s.mgmt.i3cAddr

/-! ### JTAG (R451) -/

/-- Load an instruction; the test access port has auxiliary power. -/
def State.jtag (s : State) (i : JtagIr) : State := if s.powered then { s with mgmt := { s.mgmt with jtag := i } } else s

/-- JTAG_BYPASS. -/
def execJtagBypass (s : State) : Host.Outcome State Fault Refusal := .next (s.jtag .bypass)

/-- The sideband levels of column 35 that the boundary scan captures: RESET_N, WAKE_N, PWRGD, FAULT_N, ALERT_N, THERM_N. -/
def State.sideband (s : State) : List Nat :=
  [bit (!s.pwr.resetLow), bit (!s.pwr.wakeLow), bit s.sigPwrgd, bit s.sigFaultN, bit s.sigAlertN, bit s.sigThermN]

/-- JTAG_SAMPLE_PRELOAD: the boundary scan is captured. -/
def execJtagSamplePreload (s : State) : Host.Outcome State Fault Refusal :=
  .next (if s.powered then (s.jtag .sample).send (.reply 5 s.sideband) else s)

/-- JTAG_EXTEST: in STANDBY with RESET_N asserted, and as BYPASS in any other state. -/
def execJtagExtest (s : State) : Host.Outcome State Fault Refusal :=
  .next (s.jtag (if s.mode == .standby && (s.pwr.resetLow || s.pwr.absent) then .extest else .bypass))

/-- The IDCODE register. -/
def idcode : Nat := 0x1 * 2 ^ 28 + 0x9400 * 2 ^ 12 + Config.jedec % 2 ^ 11 * 2 + 1

/-- JTAG_IDCODE. -/
def execJtagIdcode (s : State) : Host.Outcome State Fault Refusal :=
  .next (if s.powered then (s.jtag .idcode).send (.reply 5 [idcode]) else s)

/-- DEBUG_INSTRUCTION: as BYPASS where the OTP boot policy does not allow JTAG; where it does, the manual does not say what a debug
instruction does. -/
def execDebugInstruction (s : State) : Host.Outcome State Fault Refusal :=
  if s.powered && bitAt s.policy 2 then .refused .debugUnit else .next (s.jtag .bypass)

end Sys2Proof.Machine
end

