-- ==== Sys2Proof/Machine/UcOps.lean ====
section
/-! DEFINITION. Machine/UcOps.lean: the commands that run one microcode operation on the parameter an engine holds (R239, R240). The
stripe in hand is held in its engine, and leaves whole, as STRIPE_UPDATE writes it, with the END of its last parameter (R227, R242;
log entry 61). -/

namespace Sys2Proof.Machine

/-- The stripe of the shard that a parameter lies in. -/
def State.ucStripe (s : State) (u : UcSt) : Nat := s.firstStripe u.entry + u.index / 2048

/-- The entry of the parameter in hand. -/
def State.ucEntry (s : State) (u : UcSt) : List Nat := s.upd.table.getD u.entry []

/-- The parameter lies in a stripe that its engine may run now, off the chrysalis fence (R234 to R236). -/
def State.ucRuns (s : State) (u : UcSt) : Bool :=
  let e := s.ucEntry u
  decide (u.entry < s.upd.table.length) && !ueFrozen e && decide (u.index < ueCount e) && s.stripeRuns (s.ucStripe u) &&
    !s.fencedAt s.incoming (ueOff e + u.index / 2048 * stripeSize e) (stripeSize e)

/-- The last parameter of its stripe. -/
def State.ucLast (s : State) (u : UcSt) : Bool := u.index % 2048 == 2047 || u.index + 1 == ueCount (s.ucEntry u)

/-- The first parameter of a stripe. -/
def State.stripeHead (s : State) (g : Nat) : UcSt :=
  match s.stripeAt g with
  | some (ei, _, k) => { entry := ei, index := 2048 * k }
  | none => {}

/-- The parameter the next operation acts on: the one in hand, the one after it in its stripe once its program has ended, or the
first of a stripe that may be run now. -/
def State.ucHere (s : State) : UcSt :=
  let u := s.upd.uc
  if s.ucRuns u then
    if u.ended then { entry := u.entry, index := u.index + 1, past := u.past ++ [u.stores] } else u
  else match (if s.arrival then s.reported else List.range s.shardStripes).find? s.stripeRuns with
    | some g => s.stripeHead g
    | none => u

/-- The END of a stripe's last parameter: what its parameters stored is converted and written as one stripe (R240, R242). -/
def State.ucEndStripe (s : State) (u : UcSt) : State :=
  let g := s.ucStripe u
  s.leaveStripe (s.engineOf g) g u.entry (s.ucEntry u) (u.index / 2048) (u.past ++ [u.stores]) {} false

/-- An operation that a program of the entry's layout may hold (R239, R240, R245). -/
def State.ucForm (s : State) (u : UcSt) (op rd ra rb rc sel : Nat) : Bool :=
  let l := ueLayout (s.ucEntry u)
  decide (rd < 16) && decide (ra < 16) && decide (rb < 16) && decide (rc < 16) &&
    (op != 1 || ucHasSource l sel) && (op != 2 || decide (sel < 8)) &&
    (op != 3 || (ucHasDest l sel && (sget? u.stores sel).isNone))

/-- Run one operation of an engine's program; nothing happens when no parameter may be run or the form is one that no program can
hold. A poisoned granule of the committed stripe makes it wait for the partner's copy (R172), and a gradient read that is not finite
makes the attempt non-finite (R249). -/
def State.ucStep (s : State) (op rd ra rb rc sel : Nat) : State :=
  let u := s.ucHere
  let e := s.ucEntry u
  if s.ucRuns u && s.ucForm u op rd ra rb rc sel then
    match s.firstPoison (s.stripeAddr s.bank e (u.index / 2048)) (stripeSize e) with
    | some g => s.consumePoison g
    | none =>
      let r := s.ucOp op rd ra rb rc sel u
      let t := ({ s with upd := { s.upd with uc := r.1 } }).updFlags r.2
      let t := if op = 1 ∧ sel = 0 ∧ !(s.gradVal e u.index).isFinite then t.wr F.UPD_STATUS_nonfinite 1 else t
      if op = 0 && s.ucLast u then t.ucEndStripe u else t
  else s

/-- END. -/
def execUcEnd (s : State) : Host.Outcome State Fault Refusal := .next (s.ucStep 0 0 0 0 0 0)
/-- LD: rd ← source. -/
def execUcLd (rd sel : Nat) (s : State) : Host.Outcome State Fault Refusal := .next (s.ucStep 1 rd 0 0 0 sel)
/-- LDK: rd ← constant. -/
def execUcLdk (rd sel : Nat) (s : State) : Host.Outcome State Fault Refusal := .next (s.ucStep 2 rd 0 0 0 sel)
/-- ST: destination ← ra of the stripe in hand (R240), converted once when the stripe leaves (R242). -/
def execUcSt (ra sel : Nat) (s : State) : Host.Outcome State Fault Refusal := .next (s.ucStep 3 0 ra 0 0 sel)
def execUcAdd (rd ra rb : Nat) (s : State) : Host.Outcome State Fault Refusal := .next (s.ucStep 4 rd ra rb 0 0)
def execUcSub (rd ra rb : Nat) (s : State) : Host.Outcome State Fault Refusal := .next (s.ucStep 5 rd ra rb 0 0)
/-- FMA: one rounding. -/
def execUcFma (rd ra rb rc : Nat) (s : State) : Host.Outcome State Fault Refusal := .next (s.ucStep 6 rd ra rb rc 0)
def execUcMul (rd ra rb : Nat) (s : State) : Host.Outcome State Fault Refusal := .next (s.ucStep 7 rd ra rb 0 0)
def execUcDiv (rd ra rb : Nat) (s : State) : Host.Outcome State Fault Refusal := .next (s.ucStep 8 rd ra rb 0 0)
def execUcSqrt (rd ra : Nat) (s : State) : Host.Outcome State Fault Refusal := .next (s.ucStep 9 rd ra 0 0 0)
def execUcMax (rd ra rb : Nat) (s : State) : Host.Outcome State Fault Refusal := .next (s.ucStep 10 rd ra rb 0 0)
def execUcMin (rd ra rb : Nat) (s : State) : Host.Outcome State Fault Refusal := .next (s.ucStep 11 rd ra rb 0 0)
def execUcAbs (rd ra : Nat) (s : State) : Host.Outcome State Fault Refusal := .next (s.ucStep 12 rd ra 0 0 0)
def execUcNeg (rd ra : Nat) (s : State) : Host.Outcome State Fault Refusal := .next (s.ucStep 13 rd ra 0 0 0)
def execUcSign (rd ra : Nat) (s : State) : Host.Outcome State Fault Refusal := .next (s.ucStep 14 rd ra 0 0 0)

end Sys2Proof.Machine
end

