-- ==== Sys2Proof/Machine/VecFp.lean ====
section
/-! DEFINITION. Machine/VecFp.lean: the FP32, BF16x2 and conversion instructions of the vector cluster (R147 to R150). -/

namespace Sys2Proof.Machine

/-- FADD on each lane as `laneOp` computes it (R148, R150). -/
def execFadd (th : ThreadRef) (s : State) : Host.Outcome State Fault Refusal := .next (s.vecAlu .fadd th)

/-- FSUB on each lane as `laneOp` computes it (R148, R150). -/
def execFsub (th : ThreadRef) (s : State) : Host.Outcome State Fault Refusal := .next (s.vecAlu .fsub th)

/-- FMUL on each lane as `laneOp` computes it (R148, R150). -/
def execFmul (th : ThreadRef) (s : State) : Host.Outcome State Fault Refusal := .next (s.vecAlu .fmul th)

/-- FFMA on each lane as `laneOp` computes it (R148, R150). -/
def execFfma (th : ThreadRef) (s : State) : Host.Outcome State Fault Refusal := .next (s.vecAlu .ffma th)

/-- FFMS on each lane as `laneOp` computes it (R148, R150). -/
def execFfms (th : ThreadRef) (s : State) : Host.Outcome State Fault Refusal := .next (s.vecAlu .ffms th)

/-- FNMA on each lane as `laneOp` computes it (R148, R150). -/
def execFnma (th : ThreadRef) (s : State) : Host.Outcome State Fault Refusal := .next (s.vecAlu .fnma th)

/-- FMIN on each lane as `laneOp` computes it (R148, R150). -/
def execFmin (th : ThreadRef) (s : State) : Host.Outcome State Fault Refusal := .next (s.vecAlu .fmin th)

/-- FMAX on each lane as `laneOp` computes it (R148, R150). -/
def execFmax (th : ThreadRef) (s : State) : Host.Outcome State Fault Refusal := .next (s.vecAlu .fmax th)

/-- FABS on each lane as `laneOp` computes it (R148, R150). -/
def execFabs (th : ThreadRef) (s : State) : Host.Outcome State Fault Refusal := .next (s.vecAlu .fabs th)

/-- FNEG on each lane as `laneOp` computes it (R148, R150). -/
def execFneg (th : ThreadRef) (s : State) : Host.Outcome State Fault Refusal := .next (s.vecAlu .fneg th)

/-- FSQRT on each lane as `laneOp` computes it (R148, R150). -/
def execFsqrt (th : ThreadRef) (s : State) : Host.Outcome State Fault Refusal := .next (s.vecAlu .fsqrt th)

/-- FRCPE on each lane as `laneOp` computes it (R148, R150). -/
def execFrcpe (th : ThreadRef) (s : State) : Host.Outcome State Fault Refusal := .next (s.vecAlu .frcpe th)

/-- FRSQE on each lane as `laneOp` computes it (R148, R150). -/
def execFrsqe (th : ThreadRef) (s : State) : Host.Outcome State Fault Refusal := .next (s.vecAlu .frsqe th)

/-- FEXP2 on each lane as `laneOp` computes it (R148, R150). -/
def execFexp2 (th : ThreadRef) (s : State) : Host.Outcome State Fault Refusal := .next (s.vecAlu .fexp2 th)

/-- FSCALE on each lane as `laneOp` computes it (R148, R150). -/
def execFscale (th : ThreadRef) (s : State) : Host.Outcome State Fault Refusal := .next (s.vecAlu .fscale th)

/-- FEXPO on each lane as `laneOp` computes it (R148, R150). -/
def execFexpo (th : ThreadRef) (s : State) : Host.Outcome State Fault Refusal := .next (s.vecAlu .fexpo th)

/-- FP_EQ on each lane as `laneOp` computes it (R148, R150). -/
def execFpEq (th : ThreadRef) (s : State) : Host.Outcome State Fault Refusal := .next (s.vecAlu .fpEq th)

/-- FP_LT on each lane as `laneOp` computes it (R148, R150). -/
def execFpLt (th : ThreadRef) (s : State) : Host.Outcome State Fault Refusal := .next (s.vecAlu .fpLt th)

/-- FP_LE on each lane as `laneOp` computes it (R148, R150). -/
def execFpLe (th : ThreadRef) (s : State) : Host.Outcome State Fault Refusal := .next (s.vecAlu .fpLe th)

/-- FP_UN on each lane as `laneOp` computes it (R148, R150). -/
def execFpUn (th : ThreadRef) (s : State) : Host.Outcome State Fault Refusal := .next (s.vecAlu .fpUn th)

/-- HADD2 on each lane as `laneOp` computes it (R148, R150). -/
def execHadd2 (th : ThreadRef) (s : State) : Host.Outcome State Fault Refusal := .next (s.vecAlu .hadd2 th)

/-- HMUL2 on each lane as `laneOp` computes it (R148, R150). -/
def execHmul2 (th : ThreadRef) (s : State) : Host.Outcome State Fault Refusal := .next (s.vecAlu .hmul2 th)

/-- HFMA2 on each lane as `laneOp` computes it (R148, R150). -/
def execHfma2 (th : ThreadRef) (s : State) : Host.Outcome State Fault Refusal := .next (s.vecAlu .hfma2 th)

/-- HMIN2 on each lane as `laneOp` computes it (R148, R150). -/
def execHmin2 (th : ThreadRef) (s : State) : Host.Outcome State Fault Refusal := .next (s.vecAlu .hmin2 th)

/-- HMAX2 on each lane as `laneOp` computes it (R148, R150). -/
def execHmax2 (th : ThreadRef) (s : State) : Host.Outcome State Fault Refusal := .next (s.vecAlu .hmax2 th)

/-- HDOT2 on each lane as `laneOp` computes it (R148, R150). -/
def execHdot2 (th : ThreadRef) (s : State) : Host.Outcome State Fault Refusal := .next (s.vecAlu .hdot2 th)

/-- CVT one element between a narrow format and FP32 or INT32 (R149). -/
def execCvt (th : ThreadRef) (s : State) : Host.Outcome State Fault Refusal := .next (s.vecAlu .cvt th)

/-- FADD_M with an operand-cache operand (R147). -/
def execFaddM (th : ThreadRef) (s : State) : Host.Outcome State Fault Refusal := .next (s.vecMem .faddM th)

/-- FMUL_M with an operand-cache operand (R147). -/
def execFmulM (th : ThreadRef) (s : State) : Host.Outcome State Fault Refusal := .next (s.vecMem .fmulM th)

/-- FFMA_M with an operand-cache operand (R147). -/
def execFfmaM (th : ThreadRef) (s : State) : Host.Outcome State Fault Refusal := .next (s.vecMem .ffmaM th)

/-- HFMA2_M with an operand-cache operand (R147). -/
def execHfma2M (th : ThreadRef) (s : State) : Host.Outcome State Fault Refusal := .next (s.vecMem .hfma2M th)

/-- HDOT2_M with an operand-cache operand (R147). -/
def execHdot2M (th : ThreadRef) (s : State) : Host.Outcome State Fault Refusal := .next (s.vecMem .hdot2M th)

end Sys2Proof.Machine
end

