-- ==== Sys2Proof/Machine/VecInt.lean ====
section
/-! DEFINITION. Machine/VecInt.lean: the integer, predicate, immediate and system instructions of the vector cluster (R147, R148); what
each computes on a lane is `laneOp`. -/

namespace Sys2Proof.Machine

/-- ADD rd ← rs1 + rs2 (R148). -/
def execAdd (th : ThreadRef) (s : State) : Host.Outcome State Fault Refusal := .next (s.vecAlu .add th)

/-- SUB rd ← rs1 − rs2. -/
def execSub (th : ThreadRef) (s : State) : Host.Outcome State Fault Refusal := .next (s.vecAlu .sub th)

/-- MUL low 32 bits of the product. -/
def execMul (th : ThreadRef) (s : State) : Host.Outcome State Fault Refusal := .next (s.vecAlu .mul th)

/-- MULHI high half of the signed product. -/
def execMulhi (th : ThreadRef) (s : State) : Host.Outcome State Fault Refusal := .next (s.vecAlu .mulhi th)

/-- MULHU high half of the unsigned product. -/
def execMulhu (th : ThreadRef) (s : State) : Host.Outcome State Fault Refusal := .next (s.vecAlu .mulhu th)

/-- AND bitwise and. -/
def execAnd (th : ThreadRef) (s : State) : Host.Outcome State Fault Refusal := .next (s.vecAlu .and th)

/-- OR bitwise or. -/
def execOr (th : ThreadRef) (s : State) : Host.Outcome State Fault Refusal := .next (s.vecAlu .or th)

/-- XOR bitwise exclusive or. -/
def execXor (th : ThreadRef) (s : State) : Host.Outcome State Fault Refusal := .next (s.vecAlu .xor th)

/-- SHL shift left by rs2[4:0]. -/
def execShl (th : ThreadRef) (s : State) : Host.Outcome State Fault Refusal := .next (s.vecAlu .shl th)

/-- SHR logical shift right by rs2[4:0]. -/
def execShr (th : ThreadRef) (s : State) : Host.Outcome State Fault Refusal := .next (s.vecAlu .shr th)

/-- SRA arithmetic shift right by rs2[4:0]. -/
def execSra (th : ThreadRef) (s : State) : Host.Outcome State Fault Refusal := .next (s.vecAlu .sra th)

/-- MIN signed minimum. -/
def execMin (th : ThreadRef) (s : State) : Host.Outcome State Fault Refusal := .next (s.vecAlu .min th)

/-- MAX signed maximum. -/
def execMax (th : ThreadRef) (s : State) : Host.Outcome State Fault Refusal := .next (s.vecAlu .max th)

/-- MINU unsigned minimum. -/
def execMinu (th : ThreadRef) (s : State) : Host.Outcome State Fault Refusal := .next (s.vecAlu .minu th)

/-- MAXU unsigned maximum. -/
def execMaxu (th : ThreadRef) (s : State) : Host.Outcome State Fault Refusal := .next (s.vecAlu .maxu th)

/-- ADDS signed saturating sum, SAT. -/
def execAdds (th : ThreadRef) (s : State) : Host.Outcome State Fault Refusal := .next (s.vecAlu .adds th)

/-- SUBS signed saturating difference, SAT. -/
def execSubs (th : ThreadRef) (s : State) : Host.Outcome State Fault Refusal := .next (s.vecAlu .subs th)

/-- MAD low 32 bits of rs1 × rs2 + rs3. -/
def execMad (th : ThreadRef) (s : State) : Host.Outcome State Fault Refusal := .next (s.vecAlu .mad th)

/-- SEL rs1 or rs2 by a predicate. -/
def execSel (th : ThreadRef) (s : State) : Host.Outcome State Fault Refusal := .next (s.vecAlu .sel th)

/-- MOV rd ← rs1. -/
def execMov (th : ThreadRef) (s : State) : Host.Outcome State Fault Refusal := .next (s.vecAlu .mov th)

/-- INT_EQ pd ← rs1 = rs2. -/
def execIntEq (th : ThreadRef) (s : State) : Host.Outcome State Fault Refusal := .next (s.vecAlu .intEq th)

/-- INT_NE pd ← rs1 ≠ rs2. -/
def execIntNe (th : ThreadRef) (s : State) : Host.Outcome State Fault Refusal := .next (s.vecAlu .intNe th)

/-- INT_LT signed less than. -/
def execIntLt (th : ThreadRef) (s : State) : Host.Outcome State Fault Refusal := .next (s.vecAlu .intLt th)

/-- INT_LE signed less or equal. -/
def execIntLe (th : ThreadRef) (s : State) : Host.Outcome State Fault Refusal := .next (s.vecAlu .intLe th)

/-- INT_LTU unsigned less than. -/
def execIntLtu (th : ThreadRef) (s : State) : Host.Outcome State Fault Refusal := .next (s.vecAlu .intLtu th)

/-- INT_LEU unsigned less or equal. -/
def execIntLeu (th : ThreadRef) (s : State) : Host.Outcome State Fault Refusal := .next (s.vecAlu .intLeu th)

/-- PAND predicate and. -/
def execPand (th : ThreadRef) (s : State) : Host.Outcome State Fault Refusal := .next (s.vecAlu .pand th)

/-- POR predicate or. -/
def execPor (th : ThreadRef) (s : State) : Host.Outcome State Fault Refusal := .next (s.vecAlu .por th)

/-- PXOR predicate exclusive or. -/
def execPxor (th : ThreadRef) (s : State) : Host.Outcome State Fault Refusal := .next (s.vecAlu .pxor th)

/-- PNOT predicate not. -/
def execPnot (th : ThreadRef) (s : State) : Host.Outcome State Fault Refusal := .next (s.vecAlu .pnot th)

/-- PMOV predicate move. -/
def execPmov (th : ThreadRef) (s : State) : Host.Outcome State Fault Refusal := .next (s.vecAlu .pmov th)

/-- MOVI rd ← sign-extended immediate (R147). -/
def execMovi (th : ThreadRef) (s : State) : Host.Outcome State Fault Refusal := .next (s.vecAlu .movi th)

/-- MOVHI rd[31:16] ← immediate (R147). -/
def execMovhi (th : ThreadRef) (s : State) : Host.Outcome State Fault Refusal := .next (s.vecAlu .movhi th)

/-- ADDI rd ← rs1 + sign-extended immediate (R147). -/
def execAddi (th : ThreadRef) (s : State) : Host.Outcome State Fault Refusal := .next (s.vecAlu .addi th)

/-- TICK rd ← MOD_TICK[31:0] (R148). -/
def execTick (th : ThreadRef) (s : State) : Host.Outcome State Fault Refusal := .next (s.vecAlu .tick th)

/-- TICKH rd ← MOD_TICK[63:32]. -/
def execTickh (th : ThreadRef) (s : State) : Host.Outcome State Fault Refusal := .next (s.vecAlu .tickh th)

/-- TID rd ← scalar core × 32 + slot. -/
def execTid (th : ThreadRef) (s : State) : Host.Outcome State Fault Refusal := .next (s.vecAlu .tid th)

/-- FLAGS rd ← the thread flags. -/
def execFlags (th : ThreadRef) (s : State) : Host.Outcome State Fault Refusal := .next (s.vecAlu .flags th)

/-- CLRF the thread flags clear. -/
def execClrf (th : ThreadRef) (s : State) : Host.Outcome State Fault Refusal := .next (s.vecAlu .clrf th)

/-- FTZ FTZ bit ← mod[0]. -/
def execFtz (th : ThreadRef) (s : State) : Host.Outcome State Fault Refusal := .next (s.vecAlu .ftz th)

/-- SRT SR tensor ← rs1[23:0]. -/
def execSrt (th : ThreadRef) (s : State) : Host.Outcome State Fault Refusal := .next (s.vecAlu .srt th)

/-- SRI SR index ← {rs2[7:0], rs1}. -/
def execSri (th : ThreadRef) (s : State) : Host.Outcome State Fault Refusal := .next (s.vecAlu .sri th)

/-- IADD_M rd ← rs1 + operand-cache word, modulo 2^32 (R147). -/
def execIaddM (th : ThreadRef) (s : State) : Host.Outcome State Fault Refusal := .next (s.vecMem .iaddM th)

end Sys2Proof.Machine
end

