-- ==== Sys2Proof/Machine/Dispatch.lean ====
section
/-! DEFINITION. Machine/Dispatch.lean: the meaning of each command, one arm per constructor. -/

namespace Sys2Proof.Machine

def exec (i : Instr) (s : State) : Host.Outcome State Fault Refusal :=
  match i with
  | .auxPowerUp straps resetHigh present mainGood => Sys2Proof.Machine.execAuxPowerUp straps resetHigh present mainGood s
  | .auxRemoved => Sys2Proof.Machine.execAuxRemoved s
  | .mainRemoved => Sys2Proof.Machine.execMainRemoved s
  | .mainOvervoltage => Sys2Proof.Machine.execMainOvervoltage s
  | .mainGood => Sys2Proof.Machine.execMainGood s
  | .resetNAssert => Sys2Proof.Machine.execResetNAssert s
  | .resetNRelease straps => Sys2Proof.Machine.execResetNRelease straps s
  | .prsntNLoss => Sys2Proof.Machine.execPrsntNLoss s
  | .wakeN => Sys2Proof.Machine.execWakeN s
  | .railsGood => Sys2Proof.Machine.execRailsGood s
  | .bootStart failed => Sys2Proof.Machine.execBootStart failed s
  | .bootComplete => Sys2Proof.Machine.execBootComplete s
  | .recoveryReqTimer => Sys2Proof.Machine.execRecoveryReqTimer s
  | .recoveryImage chunks => Sys2Proof.Machine.execRecoveryImage chunks s
  | .stewardWatchdog => Sys2Proof.Machine.execStewardWatchdog s
  | .jobStart j => Sys2Proof.Machine.execJobStart j s
  | .scrubComplete => Sys2Proof.Machine.execScrubComplete s
  | .stepOpen => Sys2Proof.Machine.execStepOpen s
  | .stepReplay => Sys2Proof.Machine.execStepReplay s
  | .mbAdmit => Sys2Proof.Machine.execMbAdmit s
  | .segmentStart core hw => Sys2Proof.Machine.execSegmentStart core hw s
  | .epilogueEntry core hw => Sys2Proof.Machine.execEpilogueEntry core hw s
  | .segmentComplete core hw => Sys2Proof.Machine.execSegmentComplete core hw s
  | .cocoonAllocRequest core hw => Sys2Proof.Machine.execCocoonAllocRequest core hw s
  | .cocoonAllocGrant => Sys2Proof.Machine.execCocoonAllocGrant s
  | .cocoonStallTimeout core hw => Sys2Proof.Machine.execCocoonStallTimeout core hw s
  | .mbDeadlineExpiry mb backward => Sys2Proof.Machine.execMbDeadlineExpiry mb backward s
  | .mbHardLimitExpiry mb backward => Sys2Proof.Machine.execMbHardLimitExpiry mb backward s
  | .standinTakeover core => Sys2Proof.Machine.execStandinTakeover core s
  | .arbiterGrant core => Sys2Proof.Machine.execArbiterGrant core s
  | .checkMismatch core checkers => Sys2Proof.Machine.execCheckMismatch core checkers s
  | .retryRestart core => Sys2Proof.Machine.execRetryRestart core s
  | .injectMismatch core => Sys2Proof.Machine.execInjectMismatch core s
  | .tileComplete core hw => Sys2Proof.Machine.execTileComplete core hw s
  | .requantPrepassDone core hw => Sys2Proof.Machine.execRequantPrepassDone core hw s
  | .rowTileAccept core hw => Sys2Proof.Machine.execRowTileAccept core hw s
  | .softmaxExpPass core ctx => Sys2Proof.Machine.execSoftmaxExpPass core ctx s
  | .attnMergeTile core => Sys2Proof.Machine.execAttnMergeTile core s
  | .rowCmdStart core => Sys2Proof.Machine.execRowCmdStart core s
  | .rowCmdRun core => Sys2Proof.Machine.execRowCmdRun core s
  | .rowContextComplete core => Sys2Proof.Machine.execRowContextComplete core s
  | .rowFlushCtx core => Sys2Proof.Machine.execRowFlushCtx core s
  | .vecLaunch core => Sys2Proof.Machine.execVecLaunch core s
  | .vecLaunchComplete core => Sys2Proof.Machine.execVecLaunchComplete core s
  | .flushIcache core => Sys2Proof.Machine.execFlushIcache core s
  | .threadResume core => Sys2Proof.Machine.execThreadResume core s
  | .add th => Sys2Proof.Machine.execAdd th s
  | .sub th => Sys2Proof.Machine.execSub th s
  | .mul th => Sys2Proof.Machine.execMul th s
  | .mulhi th => Sys2Proof.Machine.execMulhi th s
  | .mulhu th => Sys2Proof.Machine.execMulhu th s
  | .and th => Sys2Proof.Machine.execAnd th s
  | .or th => Sys2Proof.Machine.execOr th s
  | .xor th => Sys2Proof.Machine.execXor th s
  | .shl th => Sys2Proof.Machine.execShl th s
  | .shr th => Sys2Proof.Machine.execShr th s
  | .sra th => Sys2Proof.Machine.execSra th s
  | .min th => Sys2Proof.Machine.execMin th s
  | .max th => Sys2Proof.Machine.execMax th s
  | .minu th => Sys2Proof.Machine.execMinu th s
  | .maxu th => Sys2Proof.Machine.execMaxu th s
  | .adds th => Sys2Proof.Machine.execAdds th s
  | .subs th => Sys2Proof.Machine.execSubs th s
  | .mad th => Sys2Proof.Machine.execMad th s
  | .sel th => Sys2Proof.Machine.execSel th s
  | .mov th => Sys2Proof.Machine.execMov th s
  | .intEq th => Sys2Proof.Machine.execIntEq th s
  | .intNe th => Sys2Proof.Machine.execIntNe th s
  | .intLt th => Sys2Proof.Machine.execIntLt th s
  | .intLe th => Sys2Proof.Machine.execIntLe th s
  | .intLtu th => Sys2Proof.Machine.execIntLtu th s
  | .intLeu th => Sys2Proof.Machine.execIntLeu th s
  | .fadd th => Sys2Proof.Machine.execFadd th s
  | .fsub th => Sys2Proof.Machine.execFsub th s
  | .fmul th => Sys2Proof.Machine.execFmul th s
  | .ffma th => Sys2Proof.Machine.execFfma th s
  | .ffms th => Sys2Proof.Machine.execFfms th s
  | .fnma th => Sys2Proof.Machine.execFnma th s
  | .fmin th => Sys2Proof.Machine.execFmin th s
  | .fmax th => Sys2Proof.Machine.execFmax th s
  | .fabs th => Sys2Proof.Machine.execFabs th s
  | .fneg th => Sys2Proof.Machine.execFneg th s
  | .fsqrt th => Sys2Proof.Machine.execFsqrt th s
  | .frcpe th => Sys2Proof.Machine.execFrcpe th s
  | .frsqe th => Sys2Proof.Machine.execFrsqe th s
  | .fexp2 th => Sys2Proof.Machine.execFexp2 th s
  | .fscale th => Sys2Proof.Machine.execFscale th s
  | .fexpo th => Sys2Proof.Machine.execFexpo th s
  | .fpEq th => Sys2Proof.Machine.execFpEq th s
  | .fpLt th => Sys2Proof.Machine.execFpLt th s
  | .fpLe th => Sys2Proof.Machine.execFpLe th s
  | .fpUn th => Sys2Proof.Machine.execFpUn th s
  | .hadd2 th => Sys2Proof.Machine.execHadd2 th s
  | .hmul2 th => Sys2Proof.Machine.execHmul2 th s
  | .hfma2 th => Sys2Proof.Machine.execHfma2 th s
  | .hmin2 th => Sys2Proof.Machine.execHmin2 th s
  | .hmax2 th => Sys2Proof.Machine.execHmax2 th s
  | .hdot2 th => Sys2Proof.Machine.execHdot2 th s
  | .cvt th => Sys2Proof.Machine.execCvt th s
  | .pand th => Sys2Proof.Machine.execPand th s
  | .por th => Sys2Proof.Machine.execPor th s
  | .pxor th => Sys2Proof.Machine.execPxor th s
  | .pnot th => Sys2Proof.Machine.execPnot th s
  | .pmov th => Sys2Proof.Machine.execPmov th s
  | .movi th => Sys2Proof.Machine.execMovi th s
  | .movhi th => Sys2Proof.Machine.execMovhi th s
  | .addi th => Sys2Proof.Machine.execAddi th s
  | .ld th => Sys2Proof.Machine.execLd th s
  | .st th => Sys2Proof.Machine.execSt th s
  | .faddM th => Sys2Proof.Machine.execFaddM th s
  | .fmulM th => Sys2Proof.Machine.execFmulM th s
  | .ffmaM th => Sys2Proof.Machine.execFfmaM th s
  | .hfma2M th => Sys2Proof.Machine.execHfma2M th s
  | .hdot2M th => Sys2Proof.Machine.execHdot2M th s
  | .iaddM th => Sys2Proof.Machine.execIaddM th s
  | .dmaIssue th => Sys2Proof.Machine.execDmaIssue th s
  | .dmaTransferComplete xfer fail => Sys2Proof.Machine.execDmaTransferComplete xfer fail s
  | .sqPush th => Sys2Proof.Machine.execSqPush th s
  | .sqPop th => Sys2Proof.Machine.execSqPop th s
  | .sqStat th => Sys2Proof.Machine.execSqStat th s
  | .syncAdd th => Sys2Proof.Machine.execSyncAdd th s
  | .syncAddr th => Sys2Proof.Machine.execSyncAddr th s
  | .syncSet th => Sys2Proof.Machine.execSyncSet th s
  | .syncReadlo th => Sys2Proof.Machine.execSyncReadlo th s
  | .syncReadhi th => Sys2Proof.Machine.execSyncReadhi th s
  | .syncWait th => Sys2Proof.Machine.execSyncWait th s
  | .br th => Sys2Proof.Machine.execBr th s
  | .call th => Sys2Proof.Machine.execCall th s
  | .nop th => Sys2Proof.Machine.execNop th s
  | .exit th => Sys2Proof.Machine.execExit th s
  | .ret th => Sys2Proof.Machine.execRet th s
  | .fenceOc th => Sys2Proof.Machine.execFenceOc th s
  | .fenceDma th => Sys2Proof.Machine.execFenceDma th s
  | .gangMaskp th => Sys2Proof.Machine.execGangMaskp th s
  | .gangPush th => Sys2Proof.Machine.execGangPush th s
  | .gangPop th => Sys2Proof.Machine.execGangPop th s
  | .laneid th => Sys2Proof.Machine.execLaneid th s
  | .bcast th => Sys2Proof.Machine.execBcast th s
  | .gangVote th => Sys2Proof.Machine.execGangVote th s
  | .maskrd th => Sys2Proof.Machine.execMaskrd th s
  | .lred th => Sys2Proof.Machine.execLred th s
  | .hintHeavy th => Sys2Proof.Machine.execHintHeavy th s
  | .hintLight th => Sys2Proof.Machine.execHintLight th s
  | .trap th => Sys2Proof.Machine.execTrap th s
  | .tick th => Sys2Proof.Machine.execTick th s
  | .tickh th => Sys2Proof.Machine.execTickh th s
  | .tid th => Sys2Proof.Machine.execTid th s
  | .flags th => Sys2Proof.Machine.execFlags th s
  | .clrf th => Sys2Proof.Machine.execClrf th s
  | .ftz th => Sys2Proof.Machine.execFtz th s
  | .srt th => Sys2Proof.Machine.execSrt th s
  | .sri th => Sys2Proof.Machine.execSri th s
  | .illegal th => Sys2Proof.Machine.execIllegal th s
  | .patrolScrub check => Sys2Proof.Machine.execPatrolScrub check s
  | .sramScrub core ocache corrected uncorrectable offset => Sys2Proof.Machine.execSramScrub core ocache corrected uncorrectable offset s
  | .memCeHourly => Sys2Proof.Machine.execMemCeHourly s
  | .imbalanceWindow depths => Sys2Proof.Machine.execImbalanceWindow depths s
  | .refetchReply granule instar data poison => Sys2Proof.Machine.execRefetchReply granule instar data poison s
  | .resendRequest granule instar src => Sys2Proof.Machine.execResendRequest granule instar src s
  | .tsResidentWrite index value => Sys2Proof.Machine.execTsResidentWrite index value s
  | .queueEnable queue value => Sys2Proof.Machine.execQueueEnable queue value s
  | .queueWaitTimeout queue thread => Sys2Proof.Machine.execQueueWaitTimeout queue thread s
  | .routerForwardItem queue => Sys2Proof.Machine.execRouterForwardItem queue s
  | .creditReturn queue count => Sys2Proof.Machine.execCreditReturn queue count s
  | .waitTimeout who => Sys2Proof.Machine.execWaitTimeout who s
  | .synValueWrite counter value => Sys2Proof.Machine.execSynValueWrite counter value s
  | .synAddWrite counter value => Sys2Proof.Machine.execSynAddWrite counter value s
  | .synWaitsRead => Sys2Proof.Machine.execSynWaitsRead s
  | .ringDoorbell ring value => Sys2Proof.Machine.execRingDoorbell ring value s
  | .commandComplete ring => Sys2Proof.Machine.execCommandComplete ring s
  | .ringEnable ring => Sys2Proof.Machine.execRingEnable ring s
  | .ringDisable ring => Sys2Proof.Machine.execRingDisable ring s
  | .ringAbort ring => Sys2Proof.Machine.execRingAbort ring s
  | .ringRestart ring => Sys2Proof.Machine.execRingRestart ring s
  | .ringCplAck ring value => Sys2Proof.Machine.execRingCplAck ring value s
  | .cmdNop ring seq => Sys2Proof.Machine.execCmdNop ring seq s
  | .queuePush ring seq => Sys2Proof.Machine.execQueuePush ring seq s
  | .cmdSyncAdd ring seq => Sys2Proof.Machine.execCmdSyncAdd ring seq s
  | .cmdSyncSet ring seq => Sys2Proof.Machine.execCmdSyncSet ring seq s
  | .cmdSyncRead ring seq => Sys2Proof.Machine.execCmdSyncRead ring seq s
  | .cmdSyncWait ring seq => Sys2Proof.Machine.execCmdSyncWait ring seq s
  | .cmdDma ring seq => Sys2Proof.Machine.execCmdDma ring seq s
  | .stepLoad ring seq => Sys2Proof.Machine.execStepLoad ring seq s
  | .stepRun ring seq => Sys2Proof.Machine.execStepRun ring seq s
  | .stepStop ring seq => Sys2Proof.Machine.execStepStop ring seq s
  | .stepWait ring seq => Sys2Proof.Machine.execStepWait ring seq s
  | .jobEnd ring seq => Sys2Proof.Machine.execJobEnd ring seq s
  | .jobCancel ring seq => Sys2Proof.Machine.execJobCancel ring seq s
  | .stripeUpdate engine stripe mismatch => Sys2Proof.Machine.execStripeUpdate engine stripe mismatch s
  | .factorPass entry mismatch => Sys2Proof.Machine.execFactorPass entry mismatch s
  | .headerWrite mismatch => Sys2Proof.Machine.execHeaderWrite mismatch s
  | .copyPass work => Sys2Proof.Machine.execCopyPass work s
  | .regenerationPass => Sys2Proof.Machine.execRegenerationPass s
  | .loadTable => Sys2Proof.Machine.execLoadTable s
  | .loadUcode => Sys2Proof.Machine.execLoadUcode s
  | .ucEnd => Sys2Proof.Machine.execUcEnd s
  | .ucLd rd sel => Sys2Proof.Machine.execUcLd rd sel s
  | .ucLdk rd sel => Sys2Proof.Machine.execUcLdk rd sel s
  | .ucSt ra sel => Sys2Proof.Machine.execUcSt ra sel s
  | .ucAdd rd ra rb => Sys2Proof.Machine.execUcAdd rd ra rb s
  | .ucSub rd ra rb => Sys2Proof.Machine.execUcSub rd ra rb s
  | .ucFma rd ra rb rc => Sys2Proof.Machine.execUcFma rd ra rb rc s
  | .ucMul rd ra rb => Sys2Proof.Machine.execUcMul rd ra rb s
  | .ucDiv rd ra rb => Sys2Proof.Machine.execUcDiv rd ra rb s
  | .ucSqrt rd ra => Sys2Proof.Machine.execUcSqrt rd ra s
  | .ucMax rd ra rb => Sys2Proof.Machine.execUcMax rd ra rb s
  | .ucMin rd ra rb => Sys2Proof.Machine.execUcMin rd ra rb s
  | .ucAbs rd ra => Sys2Proof.Machine.execUcAbs rd ra s
  | .ucNeg rd ra => Sys2Proof.Machine.execUcNeg rd ra s
  | .ucSign rd ra => Sys2Proof.Machine.execUcSign rd ra s
  | .write f => Sys2Proof.Machine.execWrite f s
  | .readReq f => Sys2Proof.Machine.execReadReq f s
  | .readData f => Sys2Proof.Machine.execReadData f s
  | .queueItem f => Sys2Proof.Machine.execQueueItem f s
  | .syncAddFlit f => Sys2Proof.Machine.execSyncAddFlit f s
  | .collData f => Sys2Proof.Machine.execCollData f s
  | .ack f => Sys2Proof.Machine.execAck f s
  | .ackTimer src ordered => Sys2Proof.Machine.execAckTimer src ordered s
  | .retransmitTimeout dst ordered seq => Sys2Proof.Machine.execRetransmitTimeout dst ordered seq s
  | .hotLinkTimer output depth => Sys2Proof.Machine.execHotLinkTimer output depth s
  | .hotspotTimer output => Sys2Proof.Machine.execHotspotTimer output s
  | .heartbeatTimer port => Sys2Proof.Machine.execHeartbeatTimer port s
  | .linkSilence port => Sys2Proof.Machine.execLinkSilence port s
  | .allReduce => Sys2Proof.Machine.execAllReduce s
  | .reduceScatter => Sys2Proof.Machine.execReduceScatter s
  | .allGather => Sys2Proof.Machine.execAllGather s
  | .allToAll => Sys2Proof.Machine.execAllToAll s
  | .broadcast => Sys2Proof.Machine.execBroadcast s
  | .collComplete collSeq => Sys2Proof.Machine.execCollComplete collSeq s
  | .portBringup port => Sys2Proof.Machine.execPortBringup port s
  | .bringupRetryTimer port => Sys2Proof.Machine.execBringupRetryTimer port s
  | .bringupTimeout port => Sys2Proof.Machine.execBringupTimeout port s
  | .hello port body => Sys2Proof.Machine.execHello port body s
  | .helloAck port body => Sys2Proof.Machine.execHelloAck port body s
  | .heartbeat port body => Sys2Proof.Machine.execHeartbeat port body s
  | .linkAck port body => Sys2Proof.Machine.execLinkAck port body s
  | .retryReq port body => Sys2Proof.Machine.execRetryReq port body s
  | .retrain port body => Sys2Proof.Machine.execRetrain port body s
  | .hotSet port body => Sys2Proof.Machine.execHotSet port body s
  | .keepalive port body => Sys2Proof.Machine.execKeepalive port body s
  | .wake port body => Sys2Proof.Machine.execWake port body s
  | .keepaliveIdleTimer port => Sys2Proof.Machine.execKeepaliveIdleTimer port s
  | .laneFail port lanes => Sys2Proof.Machine.execLaneFail port lanes s
  | .retrainTimeout port => Sys2Proof.Machine.execRetrainTimeout port s
  | .lightSourceFail engine source wavelengths => Sys2Proof.Machine.execLightSourceFail engine source wavelengths s
  | .portBerHourly corrected => Sys2Proof.Machine.execPortBerHourly corrected s
  | .portRetrain port => Sys2Proof.Machine.execPortRetrain port s
  | .portEnable port enable => Sys2Proof.Machine.execPortEnable port enable s
  | .bridgeDoorbell value => Sys2Proof.Machine.execBridgeDoorbell value s
  | .bridgeTransferComplete peerError data => Sys2Proof.Machine.execBridgeTransferComplete peerError data s
  | .bridgeRingResume => Sys2Proof.Machine.execBridgeRingResume s
  | .bridgePeerWrite port addr data => Sys2Proof.Machine.execBridgePeerWrite port addr data s
  | .bridgePeerMessage port data => Sys2Proof.Machine.execBridgePeerMessage port data s
  | .keptNextReady value => Sys2Proof.Machine.execKeptNextReady value s
  | .keptRepairDone => Sys2Proof.Machine.execKeptRepairDone s
  | .moduleVote => Sys2Proof.Machine.execModuleVote s
  | .vote f => Sys2Proof.Machine.execVote f s
  | .decision f => Sys2Proof.Machine.execDecision f s
  | .record f => Sys2Proof.Machine.execRecord f s
  | .recordAck f => Sys2Proof.Machine.execRecordAck f s
  | .digest f => Sys2Proof.Machine.execDigest f s
  | .mirrorDone f => Sys2Proof.Machine.execMirrorDone f s
  | .voteTimeout => Sys2Proof.Machine.execVoteTimeout s
  | .canaryStart entry unit => Sys2Proof.Machine.execCanaryStart entry unit s
  | .canaryComplete entry unit ok => Sys2Proof.Machine.execCanaryComplete entry unit ok s
  | .mirrorBuildEnd held => Sys2Proof.Machine.execMirrorBuildEnd held s
  | .statePullDone instar record heldComplete => Sys2Proof.Machine.execStatePullDone instar record heldComplete s
  | .rotationDue quadrant => Sys2Proof.Machine.execRotationDue quadrant s
  | .coreTestComplete phys passed => Sys2Proof.Machine.execCoreTestComplete phys passed s
  | .spareTestDue phys => Sys2Proof.Machine.execSpareTestDue phys s
  | .testDeferTimer => Sys2Proof.Machine.execTestDeferTimer s
  | .testOverdueTimer => Sys2Proof.Machine.execTestOverdueTimer s
  | .chkTestNow => Sys2Proof.Machine.execChkTestNow s
  | .jobHeartbeatTimer => Sys2Proof.Machine.execJobHeartbeatTimer s
  | .jobHeartbeat f => Sys2Proof.Machine.execJobHeartbeat f s
  | .jobHbTimeout module => Sys2Proof.Machine.execJobHbTimeout module s
  | .lossNotice f => Sys2Proof.Machine.execLossNotice f s
  | .remapWaitTimeout => Sys2Proof.Machine.execRemapWaitTimeout s
  | .statusTimer => Sys2Proof.Machine.execStatusTimer s
  | .fmSilenceTimeout => Sys2Proof.Machine.execFmSilenceTimeout s
  | .remap m d => Sys2Proof.Machine.execRemap m d s
  | .discardStep m d => Sys2Proof.Machine.execDiscardStep m d s
  | .replay m d => Sys2Proof.Machine.execReplay m d s
  | .hold m d => Sys2Proof.Machine.execHold m d s
  | .resume m d => Sys2Proof.Machine.execResume m d s
  | .chrysalis m d => Sys2Proof.Machine.execChrysalis m d s
  | .retirePort m d => Sys2Proof.Machine.execRetirePort m d s
  | .testNow m d => Sys2Proof.Machine.execTestNow m d s
  | .drain m d => Sys2Proof.Machine.execDrain m d s
  | .wakeSpare m d => Sys2Proof.Machine.execWakeSpare m d s
  | .eclosionComplete ok => Sys2Proof.Machine.execEclosionComplete ok s
  | .pupaReturnTimeout => Sys2Proof.Machine.execPupaReturnTimeout s
  | .coreRetryHourly => Sys2Proof.Machine.execCoreRetryHourly s
  | .hubWatchdogExpiry unit => Sys2Proof.Machine.execHubWatchdogExpiry unit s
  | .coalesceWindowClose code unit => Sys2Proof.Machine.execCoalesceWindowClose code unit s
  | .cut f => Sys2Proof.Machine.execCut f s
  | .done f => Sys2Proof.Machine.execDone f s
  | .request f => Sys2Proof.Machine.execRequest f s
  | .stagingCopyDone => Sys2Proof.Machine.execStagingCopyDone s
  | .writeCommandComplete index ok => Sys2Proof.Machine.execWriteCommandComplete index ok s
  | .chrysalisDoneTimeout => Sys2Proof.Machine.execChrysalisDoneTimeout s
  | .powerLoop sample => Sys2Proof.Machine.execPowerLoop sample s
  | .freqHandoff quadrant => Sys2Proof.Machine.execFreqHandoff quadrant s
  | .droopAssert phys => Sys2Proof.Machine.execDroopAssert phys s
  | .droopRelease phys => Sys2Proof.Machine.execDroopRelease phys s
  | .hintExpiry phys t => Sys2Proof.Machine.execHintExpiry phys t s
  | .energyIntegrate mj => Sys2Proof.Machine.execEnergyIntegrate mj s
  | .thermalSample dies package => Sys2Proof.Machine.execThermalSample dies package s
  | .coreClockGate phys => Sys2Proof.Machine.execCoreClockGate phys s
  | .sessionInit m => Sys2Proof.Machine.execSessionInit m s
  | .mgmtAck m last => Sys2Proof.Machine.execMgmtAck m last s
  | .mgmtAckTimer session => Sys2Proof.Machine.execMgmtAckTimer session s
  | .mgmtRetransmit session seq => Sys2Proof.Machine.execMgmtRetransmit session seq s
  | .sessionTimeout session => Sys2Proof.Machine.execSessionTimeout session s
  | .journalRead m first count => Sys2Proof.Machine.execJournalRead m first count s
  | .attestReq m nonce => Sys2Proof.Machine.execAttestReq m nonce s
  | .mgmtRead m chain addr count => Sys2Proof.Machine.execMgmtRead m chain addr count s
  | .csrWrite m addr value => Sys2Proof.Machine.execCsrWrite m addr value s
  | .moduleReset m => Sys2Proof.Machine.execModuleReset m s
  | .stewardRestart m => Sys2Proof.Machine.execStewardRestart m s
  | .powerCycle m => Sys2Proof.Machine.execPowerCycle m s
  | .controlComplexRestart m => Sys2Proof.Machine.execControlComplexRestart m s
  | .flashWrite m flash offset data => Sys2Proof.Machine.execFlashWrite m flash offset data s
  | .flashCommit m flash => Sys2Proof.Machine.execFlashCommit m flash s
  | .settingsWrite m key delete data failA failB => Sys2Proof.Machine.execSettingsWrite m key delete data failA failB s
  | .otpBurn m field data readBack => Sys2Proof.Machine.execOtpBurn m field data readBack s
  | .consoleOperatorKey key => Sys2Proof.Machine.execConsoleOperatorKey key s
  | .mboxSend => Sys2Proof.Machine.execMboxSend s
  | .secRngRead => Sys2Proof.Machine.execSecRngRead s
  | .i3cStatusRead => Sys2Proof.Machine.execI3cStatusRead s
  | .i3cAckWrite value => Sys2Proof.Machine.execI3cAckWrite value s
  | .i3cAddressAssign addr => Sys2Proof.Machine.execI3cAddressAssign addr s
  | .jtagBypass => Sys2Proof.Machine.execJtagBypass s
  | .jtagSamplePreload => Sys2Proof.Machine.execJtagSamplePreload s
  | .jtagExtest => Sys2Proof.Machine.execJtagExtest s
  | .jtagIdcode => Sys2Proof.Machine.execJtagIdcode s
  | .registerWrite addr value => Sys2Proof.Machine.execRegisterWrite addr value s
  | .prsntNReturn straps => Sys2Proof.Machine.execPrsntNReturn straps s
  | .carveOutPoisonRead read => Sys2Proof.Machine.execCarveOutPoisonRead read s
  | .flitCrcFail port fec => Sys2Proof.Machine.execFlitCrcFail port fec s
  | .fecAlignmentLoss port => Sys2Proof.Machine.execFecAlignmentLoss port s
  | .lossOfLight port => Sys2Proof.Machine.execLossOfLight port s
  | .fecAligned port lanes power => Sys2Proof.Machine.execFecAligned port lanes power s
  | .helloResend port => Sys2Proof.Machine.execHelloResend port s
  | .frontEndPortDown front => Sys2Proof.Machine.execFrontEndPortDown front s
  | .frontEndFrame front frame => Sys2Proof.Machine.execFrontEndFrame front frame s
  | .stackTemperatureReport temps => Sys2Proof.Machine.execStackTemperatureReport temps s
  | .debugInstruction => Sys2Proof.Machine.execDebugInstruction s

end Sys2Proof.Machine
end

