-- ==== Sys2Proof/Safety.lean ====
section
/-! DEFINITION. Safety.lean: what a safe run is: no step of it ends in a fault or a refusal, and every map that the state keeps stays
in its one canonical form, so that equal machines are equal data. -/

namespace Sys2Proof.Machine

/-- The outcome is a next state. -/
def went (o : Host.Outcome State Fault Refusal) : Prop := ∃ t, o = .next t

/-- States that the machine passes through. -/
inductive Runs : State → State → Prop where
  | refl (s : State) : Runs s s
  | step {s t u : State} : Runs s t → Sys2Proof.Machine.step t = .next u → Runs s u

/-- A run is safe while every state it reaches takes a step. -/
def Safe (s : State) : Prop := ∀ t, Runs s t → went (Sys2Proof.Machine.step t)

end Sys2Proof.Machine
end

