-- ==== Sys2Proof/Certificates/Slice0/Obligations.lean ====
section
/-! DEFINITION. Certificates/Slice0/Obligations.lean: what is claimed of the model, from the rules of the manual. -/

namespace Sys2Proof.Machine

/-! ### Shared words of the statements -/

/-- Every byte of memory reads as before. -/
def sameMemory (s t : State) : Prop := ∀ a, t.peek a = s.peek a

/-- Every register field reads as before, but those kept at the places listed. -/
def sameRegsBut (keys : List Nat) (s t : State) : Prop := ∀ f i, f.key i ∉ keys → t.rdAt f i = s.rdAt f i

/-- A flit with property `p` is on its way to module `m`: unacknowledged, or waiting for its sequence space. -/
def onItsWay (t : State) (m : Nat) (ordered : Bool) (p : Flit → Prop) : Prop :=
  ∃ e ∈ (t.txSpace (spaceKey m ordered)).unacked ++ (t.txSpace (spaceKey m ordered)).waiting, p e.flit

/-- The thread that `th` names is RUNNING, its next word encodes `o`, and no active lane's guard is poisoned; `x`
collects what issues: the core, the thread, the word and the lanes on which the word takes effect (R134). -/
structure Issues (s : State) (o : VOp) (th : ThreadRef) (x : Issue) : Prop where
  ready : s.ready th o.retries = some (x.phys, x.key, x.th)
  core : x.core = th.core
  running : x.th.st = .running
  word : s.fetch x.phys x.th.pc = .word x.word
  op : VOp.ofWord x.word = o
  guards : x.th.guardPoison x.word = []
  lanes : x.lanes = x.th.effect x.word

/-- The thread that issued, in a later state. -/
def threadOf (t : State) (x : Issue) : Thread := (t.vecAt x.phys).thread x.key

/-- Register fields of one vector cluster that issuing an instruction may change: its issue and conflict counts and its flags. -/
def vecKeys (p : Nat) : List Nat :=
  [F.VEC_ISSUE_count.key p, F.VEC_OC_CONFLICT_count.key p, F.VEC_FLAGS_nv.key p, F.VEC_FLAGS_of.key p, F.VEC_FLAGS_uf.key p,
   F.VEC_FLAGS_nx.key p, F.VEC_FLAGS_sat.key p]

/-- Nothing outside the issuing thread and its cluster's counters changes. -/
def onlyThread (s t : State) (x : Issue) : Prop :=
  sameMemory s t ∧ sameRegsBut (vecKeys x.phys) s t ∧ (∀ k, k ≠ x.key → (t.vecAt x.phys).thread k = (s.vecAt x.phys).thread k) ∧
  (∀ q, q ≠ x.phys → t.vecAt q = s.vecAt q) ∧ t.queues = s.queues ∧ t.waits = s.waits ∧ t.step = s.step ∧ t.mode = s.mode

/-- The thread moves past its instruction and stays RUNNING, and lanes on which the word takes no effect keep everything (R134). -/
def advanced (t : State) (x : Issue) : Prop :=
  (threadOf t x).pc = (x.th.pc + 4) % 2 ^ 48 ∧ (threadOf t x).st = .running ∧ (∀ i, i ∉ x.lanes → (threadOf t x).lane i = x.th.lane i)

/-- Every register of a lane but `rd`, its predicates and its thread state stay. -/
def onlyReg (l m : Lane) (rd : Nat) : Prop :=
  (∀ k, k < 8 → k ≠ rd → m.reg k = l.reg k) ∧ m.p = l.p ∧ m.pp = l.pp ∧ m.ftz = l.ftz ∧ m.srt = l.srt ∧ m.sri = l.sri

/-- The instructions that act lane by lane on registers, with their encodings. -/
def laneForms : List ((ThreadRef → Instr) × VOp) :=
  [(.add, .add), (.sub, .sub), (.mul, .mul), (.mulhi, .mulhi), (.mulhu, .mulhu), (.and, .and), (.or, .or), (.xor, .xor),
   (.shl, .shl), (.shr, .shr), (.sra, .sra), (.min, .min), (.max, .max), (.minu, .minu), (.maxu, .maxu), (.adds, .adds),
   (.subs, .subs), (.mad, .mad), (.sel, .sel), (.mov, .mov), (.intEq, .intEq), (.intNe, .intNe), (.intLt, .intLt),
   (.intLe, .intLe), (.intLtu, .intLtu), (.intLeu, .intLeu), (.pand, .pand), (.por, .por), (.pxor, .pxor), (.pnot, .pnot),
   (.pmov, .pmov), (.movi, .movi), (.movhi, .movhi), (.addi, .addi), (.tick, .tick), (.tickh, .tickh), (.tid, .tid),
   (.flags, .flags), (.clrf, .clrf), (.ftz, .ftz), (.srt, .srt), (.sri, .sri), (.fadd, .fadd), (.fsub, .fsub), (.fmul, .fmul),
   (.ffma, .ffma), (.ffms, .ffms), (.fnma, .fnma), (.fmin, .fmin), (.fmax, .fmax), (.fabs, .fabs), (.fneg, .fneg),
   (.fsqrt, .fsqrt), (.frcpe, .frcpe), (.frsqe, .frsqe), (.fexp2, .fexp2), (.fscale, .fscale), (.fexpo, .fexpo), (.fpEq, .fpEq),
   (.fpLt, .fpLt), (.fpLe, .fpLe), (.fpUn, .fpUn), (.hadd2, .hadd2), (.hmul2, .hmul2), (.hfma2, .hfma2), (.hmin2, .hmin2),
   (.hmax2, .hmax2), (.hdot2, .hdot2), (.cvt, .cvt), (.ld, .ld), (.faddM, .faddM), (.fmulM, .fmulM), (.ffmaM, .ffmaM),
   (.hfma2M, .hfma2M), (.hdot2M, .hdot2M), (.iaddM, .iaddM)]

/-- What the two-operand integer instructions write, on 32-bit words (R148). -/
def intForms : List ((ThreadRef → Instr) × VOp × (BitVec 32 → BitVec 32 → BitVec 32)) :=
  [(.add, .add, fun a b => a + b), (.sub, .sub, fun a b => a - b), (.mul, .mul, fun a b => a * b),
   (.mulhi, .mulhi, fun a b => (a.signExtend 64 * b.signExtend 64).extractLsb' 32 32),
   (.mulhu, .mulhu, fun a b => (a.zeroExtend 64 * b.zeroExtend 64).extractLsb' 32 32),
   (.and, .and, fun a b => a &&& b), (.or, .or, fun a b => a ||| b), (.xor, .xor, fun a b => a ^^^ b),
   (.shl, .shl, fun a b => a <<< (b.toNat % 32)), (.shr, .shr, fun a b => a >>> (b.toNat % 32)),
   (.sra, .sra, fun a b => a.sshiftRight (b.toNat % 32)),
   (.min, .min, fun a b => if a.slt b then a else b), (.max, .max, fun a b => if a.slt b then b else a),
   (.minu, .minu, fun a b => if a.ult b then a else b), (.maxu, .maxu, fun a b => if a.ult b then b else a),
   (.adds, .adds, fun a b => BitVec.ofInt 32 (max (-2147483648) (min 2147483647 (a.toInt + b.toInt)))),
   (.subs, .subs, fun a b => BitVec.ofInt 32 (max (-2147483648) (min 2147483647 (a.toInt - b.toInt))))]

/-- The integer compares (R148). -/
def cmpForms : List ((ThreadRef → Instr) × VOp × (BitVec 32 → BitVec 32 → Bool)) :=
  [(.intEq, .intEq, fun a b => a == b), (.intNe, .intNe, fun a b => a != b), (.intLt, .intLt, fun a b => a.slt b),
   (.intLe, .intLe, fun a b => a.sle b), (.intLtu, .intLtu, fun a b => a.ult b), (.intLeu, .intLeu, fun a b => a.ule b)]

/-- A register of a lane as a word. -/
def wordOf (l : Lane) (k : Nat) : BitVec 32 := BitVec.ofNat 32 (l.reg k)

end Sys2Proof.Machine

open Sys2Proof Sys2Proof.Machine

/-- A step takes the command at the front of the queue and is its effect on the state with the rest of the queue. -/
def Obligations.StepRunsFrontCommand : Prop :=
  ∀ (c : Instr) (s : State), step { s with pending := c :: s.pending } = exec c s

/-- On an empty queue, with no decision due, no flit held, no segment running and no counter operation waiting, the counter of R37 goes on
by one, modulo 2^64, while auxiliary power is present, and nothing else changes; that a step on an empty queue is one tick is the model's
choice (log entry 2). -/
def Obligations.IdleStepPassesOneTick : Prop :=
  ∀ s : State, s.pending = [] → s.barrier.due = 0 → s.fab.held = [] → (∀ w ∈ s.sched.wings, w.2.run = none) → s.ops = [] → step s = .next (if s.mode = .off then s else { s with tick := (s.tick + 1) % 2 ^ 64 })

/-- For every register-form, immediate-form and M-form instruction that acts lane by lane: it completes; each lane on which it takes
effect holds what the instruction computes on it, every other lane, thread, core and byte of memory stays, and the thread moves on.
While the NaN trap is off no register changes but the cluster's own counts and flags. -/
def Obligations.LaneInstructionsComplete : Prop :=
  ∀ p ∈ laneForms, ∀ (s : State) (th : ThreadRef) (x : Issue), Issues s p.2 th x → (p.2.isMem = true → x.idxPoison = []) →
    ∃ t, exec (p.1 th) s = .next t ∧ advanced t x ∧
      (∀ i ∈ x.lanes, (threadOf t x).lane i = (laneOp p.2 x.word (s.laneEnv x p.2 i) (x.th.lane i)).1) ∧
      (s.rd F.ERR_CTRL_nan_trap = 0 → onlyThread s t x)



/-- The two-operand integer instructions write the function of R148 of the two source words; ADDS and SUBS set SAT exactly when the
exact sum or difference lies outside the signed 32-bit range; a poisoned operand poisons the result; nothing else of the lane changes.
The integer compares write their predicate, with the poison of their operands; a write of p0 is ignored; the registers stay. -/
def Obligations.IntegerInstructions : Prop :=
  (
  ∀ p ∈ intForms, ∀ (s : State) (th : ThreadRef) (x : Issue), Issues s p.2.1 th x →
    ∃ t, exec (p.1 th) s = .next t ∧ advanced t x ∧ onlyThread s t x ∧
      ∀ i ∈ x.lanes, let l := x.th.lane i
        let m := (threadOf t x).lane i
        wordOf m (fRd x.word) = p.2.2 (wordOf l (fRs1 x.word)) (wordOf l (fRs2 x.word)) ∧
        m.regPoison (fRd x.word) = (l.regPoison (fRs1 x.word) || l.regPoison (fRs2 x.word)) ∧ onlyReg l m (fRd x.word) ∧
        m.flags = (let sum := (wordOf l (fRs1 x.word)).toInt + (if p.2.1 = .subs then -1 else 1) * (wordOf l (fRs2 x.word)).toInt
          if (p.2.1 = .adds ∨ p.2.1 = .subs) ∧ (sum < -2147483648 ∨ 2147483647 < sum) then l.flags.join .SAT else l.flags)
  ) ∧ (
  ∀ p ∈ cmpForms, ∀ (s : State) (th : ThreadRef) (x : Issue), Issues s p.2.1 th x →
    ∃ t, exec (p.1 th) s = .next t ∧ advanced t x ∧ onlyThread s t x ∧
      ∀ i ∈ x.lanes, let l := x.th.lane i
        let m := (threadOf t x).lane i
        let d := x.mod % 4
        (∀ k, k < 8 → m.reg k = l.reg k) ∧ m.flags = l.flags ∧ m.pred 0 = true ∧ (∀ k, k < 4 → k ≠ d → m.pred k = l.pred k) ∧
        (d ≠ 0 → m.pred d = p.2.2 (wordOf l (fRs1 x.word)) (wordOf l (fRs2 x.word)) ∧
          m.predPoison d = (l.regPoison (fRs1 x.word) || l.regPoison (fRs2 x.word)))
  )

/-- Moves, immediates and system instructions, each with the value R147 or R148 gives it. -/
def Obligations.MovesAndSystemInstructions : Prop :=
  ∀ (o : VOp) (c : ThreadRef → Instr) (s : State) (th : ThreadRef) (x : Issue), (c, o) ∈ laneForms → Issues s o th x →
    ∀ i ∈ x.lanes, ∃ t, exec (c th) s = .next t ∧ (let l := x.th.lane i
      let m := (threadOf t x).lane i
      let rd := fRd x.word
      (o = .mov → m.reg rd = l.reg (fRs1 x.word)) ∧
      (o = .sel → m.reg rd = if l.pred (x.mod % 4) then l.reg (fRs1 x.word) else l.reg (fRs2 x.word)) ∧
      (o = .mad → m.reg rd = (l.reg (fRs1 x.word) * l.reg (fRs2 x.word) + l.reg (fRs3 x.word)) % 2 ^ 32) ∧
      (o = .movi → wordOf m rd = BitVec.signExtend 32 (BitVec.ofNat 16 (fImm x.word))) ∧
      (o = .movhi → m.reg rd = l.reg rd % 65536 + 65536 * fImm x.word) ∧
      (o = .addi → wordOf m rd = wordOf l (fRs1 x.word) + BitVec.signExtend 32 (BitVec.ofNat 16 (fImm x.word))) ∧
      (o = .tick → m.reg rd = s.tick % 2 ^ 32) ∧ (o = .tickh → m.reg rd = s.tick / 2 ^ 32 % 2 ^ 32) ∧
      (o = .tid → m.reg rd = ((x.key / 32 + i) * 32 + x.key % 32) % 2 ^ 32) ∧
      (o = .clrf → m.flags = .none ∧ m.w = l.w) ∧ (o = .ftz → m.ftz = bitAt x.mod 0 ∧ m.w = l.w) ∧
      (o = .srt → m.srt = l.reg (fRs1 x.word) % 2 ^ 24 ∧ m.w = l.w) ∧
      (o = .sri → m.sri = (l.reg (fRs2 x.word) % 256) * 2 ^ 32 + l.reg (fRs1 x.word) ∧ m.w = l.w) ∧
      (o = .pand → x.mod % 4 ≠ 0 → m.pred (x.mod % 4) = (l.pred (fRs1 x.word % 4) && l.pred (fRs2 x.word % 4))) ∧
      (o = .por → x.mod % 4 ≠ 0 → m.pred (x.mod % 4) = (l.pred (fRs1 x.word % 4) || l.pred (fRs2 x.word % 4))) ∧
      (o = .pxor → x.mod % 4 ≠ 0 → m.pred (x.mod % 4) = xor (l.pred (fRs1 x.word % 4)) (l.pred (fRs2 x.word % 4))) ∧
      (o = .pnot → x.mod % 4 ≠ 0 → m.pred (x.mod % 4) = !l.pred (fRs1 x.word % 4)) ∧
      (o = .pmov → x.mod % 4 ≠ 0 → m.pred (x.mod % 4) = l.pred (fRs1 x.word % 4)))

/-- ST stores each lane's register to the word it addresses; where several lanes address one word the highest one's value stays; every
byte outside the words stored to reads as before (each logical core being served by a physical core of its own); a store of a poisoned value marks its granule, and no store of a clean one clears a mark. -/
def Obligations.StoreWritesAddressedWords : Prop :=
  ∀ (s : State) (th : ThreadRef) (x : Issue), Issues s .st th x → x.idxPoison = [] →
      (∀ n, n < 256 → s.phys n = s.phys x.core → n = x.core) →
    ∃ t, exec (.st th) s = .next t ∧ advanced t x ∧
      (∀ i ∈ x.lanes, (∀ j ∈ x.lanes, i < j → mAddr x.word (x.th.lane j) ≠ mAddr x.word (x.th.lane i)) →
        leNat (t.loadN (ocAddr x.core (mAddr x.word (x.th.lane i))) 4) = (x.th.lane i).reg (fRd x.word)) ∧
      (∀ a, (∀ i ∈ x.lanes, a < ocAddr x.core (mAddr x.word (x.th.lane i)) ∨ ocAddr x.core (mAddr x.word (x.th.lane i)) + 4 ≤ a) →
        t.peek a = s.peek a) ∧
      (∀ a, s.poisonAt a = true → t.poisonAt a = true) ∧
      (∀ i ∈ x.lanes, (x.th.lane i).regPoison (fRd x.word) = true → t.poisonAt (ocAddr x.core (mAddr x.word (x.th.lane i))) = true)

/-- A branch or call goes to its target when R135 takes it, else to the next word; a call pushes the address after it (four deep), RET
goes to the one pushed last; NOP and FENCE_OC only move on. No register, lane or byte of memory changes. -/
def Obligations.BranchesCallsAndReturns : Prop :=
  ∀ (s : State) (th : ThreadRef) (x : Issue),
    let target := ((x.th.pc : Int) + 4 * (BitVec.ofNat 23 (fld x.word 22 0)).toInt) % 2 ^ 48
    let take := x.lanes ≠ [] ∧ (bitAt x.word 23 = true → x.lanes.length = x.th.active.length)
    let next := (x.th.pc + 4) % 2 ^ 48
    (Issues s .br th x → ∃ t, exec (.br th) s = .next t ∧ onlyThread s t x ∧ (threadOf t x).lanes = x.th.lanes ∧
      (threadOf t x).ret = x.th.ret ∧ (take → ((threadOf t x).pc : Int) = target) ∧ (¬ take → (threadOf t x).pc = next)) ∧
    (Issues s .call th x → (take → x.th.ret.length < 4) → ∃ t, exec (.call th) s = .next t ∧ onlyThread s t x ∧
      (threadOf t x).lanes = x.th.lanes ∧
      (take → ((threadOf t x).pc : Int) = target ∧ (threadOf t x).ret = next :: x.th.ret) ∧
      (¬ take → (threadOf t x).pc = next ∧ (threadOf t x).ret = x.th.ret)) ∧
    (Issues s .ret th x → x.lanes ≠ [] → ∀ r rs, x.th.ret = r :: rs → ∃ t, exec (.ret th) s = .next t ∧ onlyThread s t x ∧
      threadOf t x = { x.th with pc := r, ret := rs }) ∧
    (Issues s .nop th x → ∃ t, exec (.nop th) s = .next t ∧ onlyThread s t x ∧ threadOf t x = { x.th with pc := next }) ∧
    (Issues s .fenceOc th x → ∃ t, exec (.fenceOc th) s = .next t ∧ onlyThread s t x ∧ threadOf t x = { x.th with pc := next })



/-- In gang mode: PUSH saves the mask to a depth of 8, POP restores the one saved last, MASKP clears the active lanes whose predicate is
false (or true with negate). EXIT retires the lanes on which its guard holds from the mask and every stacked mask, and the thread ends
when all its lanes have retired; a free thread ends at its first EXIT.
What the cross-lane instructions of a gang write: lane number, mask, a register of the lane named, the vote of the lanes, and the
tree reduction of R137 with a masked lane contributing the operation's identity. -/
def Obligations.GangInstructions : Prop :=
  (
  ∀ (s : State) (th : ThreadRef) (x : Issue), x.lanes ≠ [] →
    (Issues s .gangPush th x → x.th.gang = true → x.th.stack.length < 8 →
      ∃ t, exec (.gangPush th) s = .next t ∧ onlyThread s t x ∧
        threadOf t x = { x.th with stack := x.th.mask :: x.th.stack, pc := (x.th.pc + 4) % 2 ^ 48 }) ∧
    (Issues s .gangPop th x → x.th.gang = true → ∀ m ms, x.th.stack = m :: ms →
      ∃ t, exec (.gangPop th) s = .next t ∧ onlyThread s t x ∧
        threadOf t x = { x.th with mask := m, stack := ms, pc := (x.th.pc + 4) % 2 ^ 48 }) ∧
    (Issues s .gangMaskp th x → x.th.gang = true → (∀ i ∈ x.lanes, (x.th.lane i).predPoison (x.mod % 4) = false) →
      ∃ t, exec (.gangMaskp th) s = .next t ∧ onlyThread s t x ∧ (threadOf t x).pc = (x.th.pc + 4) % 2 ^ 48 ∧
        ∀ i, bitAt (threadOf t x).mask i =
          (bitAt x.th.mask i && !(x.lanes.contains i && (x.th.lane i).pred (x.mod % 4) == bitAt x.mod 2))) ∧
    (Issues s .exit th x → ∃ t, exec (.exit th) s = .next t ∧ sameMemory s t ∧
      (∀ i, i < 32 → bitAt (threadOf t x).mask i = (bitAt x.th.mask i && !x.lanes.contains i)) ∧
      (∀ i, i < 32 → bitAt (threadOf t x).retired i = (bitAt x.th.retired i || x.lanes.contains i)) ∧
      (x.th.gang = false → x.th.retired = 0 → x.lanes = [0] → (threadOf t x).st = .idle) ∧
      (x.th.gang = true → x.th.retired < 2 ^ 32 → x.th.lanes.length = 32 →
        ((threadOf t x).st = .idle ↔ ∀ i, i < 32 → bitAt x.th.retired i = true ∨ i ∈ x.lanes)))
  ) ∧ (
  ∀ (s : State) (th : ThreadRef) (x : Issue), x.lanes ≠ [] → x.th.gang = true →
    (Issues s .laneid th x → ∃ t, exec (.laneid th) s = .next t ∧ advanced t x ∧ onlyThread s t x ∧
      ∀ i ∈ x.lanes, ((threadOf t x).lane i).reg (fRd x.word) = i % 2 ^ 32) ∧
    (Issues s .maskrd th x → ∃ t, exec (.maskrd th) s = .next t ∧ advanced t x ∧ onlyThread s t x ∧
      ∀ i ∈ x.lanes, ((threadOf t x).lane i).reg (fRd x.word) = x.th.mask % 2 ^ 32) ∧
    (Issues s .bcast th x → ∃ t, exec (.bcast th) s = .next t ∧ advanced t x ∧ onlyThread s t x ∧
      ∀ i ∈ x.lanes, ((threadOf t x).lane i).reg (fRd x.word) =
        (x.th.lane ((x.th.lane i).reg (fRs2 x.word) % 32)).reg (fRs1 x.word)) ∧
    (Issues s .gangVote th x → ∃ t, exec (.gangVote th) s = .next t ∧ advanced t x ∧ onlyThread s t x ∧
      (x.mod % 4 ≠ 0 → ∀ i ∈ x.lanes, ((threadOf t x).lane i).pred (x.mod % 4) =
        if bitAt x.mod 2 then x.lanes.all (fun j => (x.th.lane j).pred (fRs1 x.word % 4))
        else x.lanes.any (fun j => (x.th.lane j).pred (fRs1 x.word % 4)))) ∧
    (Issues s .lred th x → ∃ t, exec (.lred th) s = .next t ∧ (threadOf t x).pc = (x.th.pc + 4) % 2 ^ 48 ∧ sameMemory s t ∧
      (∀ i, (if bitAt x.mod 0 then i ∈ x.lanes else i = 0 ∧ 0 ∈ x.lanes) →
        ((threadOf t x).lane i).reg (fRd x.word) = (lredTree (fFn x.word) (x.th.lane (x.lanes.headD 0)).ftz ((List.range 32).map
          (fun j => if x.lanes.contains j then (x.th.lane j).reg (fRs1 x.word) else lredIdentity (fFn x.word)))).1 % 2 ^ 32) ∧
      (∀ i, bitAt x.mod 0 = false → i ≠ 0 → ∀ k, ((threadOf t x).lane i).reg k = (x.th.lane i).reg k))
  )

namespace Sys2Proof.Machine

/-- The lanes of a gang stand for its 32 scalar cores, and a free thread has one lane: how the cluster keeps its threads. -/
def laneShape (s : State) (th : ThreadRef) (x : Issue) : Prop :=
  x.th.lanes.length = if (s.vecAt x.phys).inGang th.scalar then 32 else 1

/-- What the lanes that name counter `c` add to it. -/
def addedTo (x : Issue) (c : Nat) : Nat :=
  ((x.lanes.filter (fun i => (x.th.lane i).reg (fRs1 x.word) == c)).map (fun i => (x.th.lane i).reg (fRs2 x.word))).sum

/-- What a vector exception leaves (R155): the thread FAULTED and all of it as it was, or the step discarded and every thread IDLE;
and VEC_FAULT holding this fault where it is the first of the attempt, else what it held. -/
def faultedWith (s t : State) (x : Issue) (cause lanes code : Nat) : Prop :=
  (t.step = s.step → threadOf t x = { x.th with st := .faulted, left := 0 }) ∧
  (t.step ≠ s.step → (t.step = .discarded ∨ t.step = .none) ∧ ∀ k, ((t.vecAt x.phys).thread k).st = .idle) ∧
  (∀ k, k ≠ x.key → t.step = s.step → (t.vecAt x.phys).thread k = (s.vecAt x.phys).thread k) ∧
  t.rdAt F.VEC_FAULT_valid x.phys = 1 ∧
  (s.rdAt F.VEC_FAULT_valid x.phys = 0 → t.rdAt F.VEC_FAULT_cause x.phys = cause % 2 ^ 8 ∧
    t.rdAt F.VEC_FAULT_scalar_core x.phys = x.key / 32 % 2 ^ 7 ∧ t.rdAt F.VEC_FAULT_slot x.phys = x.key % 32 ∧
    t.rdAt F.VEC_FAULT_gang x.phys = bit x.th.gang ∧ t.rdAt F.VEC_FAULT_lanes x.phys = lanes % 2 ^ 32 ∧
    t.rdAt F.VEC_FAULT_PC_pc x.phys = x.th.pc % 2 ^ 48 ∧ t.rdAt F.VEC_FAULT_PC_trap_code x.phys = code % 2 ^ 16) ∧
  (s.rdAt F.VEC_FAULT_valid x.phys = 1 → t.rdAt F.VEC_FAULT_cause x.phys = s.rdAt F.VEC_FAULT_cause x.phys ∧
    t.rdAt F.VEC_FAULT_lanes x.phys = s.rdAt F.VEC_FAULT_lanes x.phys ∧
    t.rdAt F.VEC_FAULT_PC_pc x.phys = s.rdAt F.VEC_FAULT_PC_pc x.phys)

/-- No transfer and no queued item of an issuer goes into this module before its next counter operation (R192). -/
def nothingBefore (s : State) (o : XferOwner) : Prop := s.xfersInto o s.self = [] ∧ s.itemsInto o s.self = []

end Sys2Proof.Machine



/-- SYNC ADD adds each lane's operand to the counter it names, modulo 2^64; SYNC SET leaves the lowest lane's 64-bit operand; the reads
give the two halves; ADDR adds to counters of this module where the node named is this module; with no earlier transfer, item or operation
of the issuer to wait for (R192). With an earlier transfer into this module the ADD of one lane waits, and its counter stays. The thread moves on.
With places for its waits, a SYNC WAIT whose targets are all met goes on at once with pd = 1, and one whose targets are not met and whose
timeouts are 0 tests once and goes on with pd = 0; a lane whose target is not met otherwise leaves its thread WAITING and one wait registered, in
the next place, with its deadline. -/
def Obligations.VectorSyncInstructions : Prop :=
  (
  ∀ (s : State) (th : ThreadRef) (x : Issue),
    (∀ i ∈ x.lanes, (x.th.lane i).reg (fRs1 x.word) < 131072 ∧ (x.th.lane i).regPoison (fRs1 x.word) = false ∧
      (x.th.lane i).regPoison (fRs2 x.word) = false ∧ (x.th.lane i).regPoison (fRs3 x.word) = false) → s.ops = [] →
    (Issues s .syncAdd th x → (∀ i ∈ x.lanes, nothingBefore s (x.owner i)) → ∃ t, exec (.syncAdd th) s = .next t ∧ sameMemory s t ∧ (threadOf t x).pc = (x.th.pc + 4) % 2 ^ 48 ∧
      ∀ c, t.counter c = (s.counter c + addedTo x c) % 2 ^ 64) ∧
    (∀ i, Issues s .syncAdd th x → x.lanes = [i] → s.xfersInto (x.owner i) s.self ≠ [] → ∃ t, exec (.syncAdd th) s = .next t ∧ advanced t x ∧
      sameMemory s t ∧ (∀ c, t.counter c = s.counter c) ∧
      ∃ o, t.ops = [o] ∧ o.node = s.self ∧ o.counter = (x.th.lane i).reg (fRs1 x.word) ∧ o.value = (x.th.lane i).reg (fRs2 x.word)) ∧
    (Issues s .syncAddr th x → (∀ i ∈ x.lanes, nothingBefore s (x.owner i)) → (∀ i ∈ x.lanes, s.nodeOk (if bitAt x.mod 2 then 2 else 1) ((x.th.lane i).reg (fRs3 x.word)) = true ∧
        s.nodeModule (if bitAt x.mod 2 then 2 else 1) ((x.th.lane i).reg (fRs3 x.word)) = s.self) →
      ∃ t, exec (.syncAddr th) s = .next t ∧ sameMemory s t ∧ ∀ c, t.counter c = (s.counter c + addedTo x c) % 2 ^ 64) ∧
    (Issues s .syncSet th x → ∃ t, exec (.syncSet th) s = .next t ∧ sameMemory s t ∧ (threadOf t x).pc = (x.th.pc + 4) % 2 ^ 48 ∧
      ∀ c, t.counter c = match x.lanes.find? (fun i => (x.th.lane i).reg (fRs1 x.word) == c) with
        | some i => (x.th.lane i).reg (fRs3 x.word) * 2 ^ 32 + (x.th.lane i).reg (fRs2 x.word)
        | none => s.counter c) ∧
    (Issues s .syncReadlo th x → ∃ t, exec (.syncReadlo th) s = .next t ∧ advanced t x ∧ onlyThread s t x ∧
      ∀ i ∈ x.lanes, ((threadOf t x).lane i).reg (fRd x.word) = s.counter ((x.th.lane i).reg (fRs1 x.word)) % 2 ^ 32) ∧
    (Issues s .syncReadhi th x → ∃ t, exec (.syncReadhi th) s = .next t ∧ advanced t x ∧ onlyThread s t x ∧
      ∀ i ∈ x.lanes, ((threadOf t x).lane i).reg (fRd x.word) = s.counter ((x.th.lane i).reg (fRs1 x.word)) / 2 ^ 32)
  ) ∧ (
  ∀ (s : State) (th : ThreadRef) (x : Issue), Issues s .syncWait th x → laneShape s th x → x.lanes ≠ [] →
    (∀ i ∈ x.lanes, (x.th.lane i).reg (fRs1 x.word) < 131072 ∧ (x.th.lane i).regPoison (fRs1 x.word) = false ∧
      (x.th.lane i).regPoison (fRs2 x.word) = false ∧ (x.th.lane i).regPoison (fRs3 x.word) = false ∧
      (x.th.lane i).regPoison (fRd x.word) = false) → s.opFree x = true → s.generalWaits + x.lanes.length ≤ generalPlaces →
    let need (i : Nat) : Nat := (x.th.lane i).reg (fRs3 x.word) * 2 ^ 32 + (x.th.lane i).reg (fRs2 x.word)
    let have_ (i : Nat) : Nat := s.counter ((x.th.lane i).reg (fRs1 x.word))
    ((∀ i ∈ x.lanes, need i ≤ have_ i) → ∃ t, exec (.syncWait th) s = .next t ∧ t.waits = s.waits ∧ sameMemory s t ∧
      (threadOf t x).st = .running ∧ (threadOf t x).pc = (x.th.pc + 4) % 2 ^ 48 ∧
      ∀ i ∈ x.lanes, ((threadOf t x).lane i).pred (x.mod % 4) = true) ∧
    ((∀ i ∈ x.lanes, have_ i < need i ∧ (x.th.lane i).reg (fRd x.word) = 0) → ∃ t, exec (.syncWait th) s = .next t ∧ t.waits = s.waits ∧
      sameMemory s t ∧ (threadOf t x).st = .running ∧ (threadOf t x).pc = (x.th.pc + 4) % 2 ^ 48 ∧
      (x.mod % 4 ≠ 0 → ∀ i ∈ x.lanes, ((threadOf t x).lane i).pred (x.mod % 4) = false)) ∧
    ((∀ i ∈ x.lanes, have_ i < need i ∧ (x.th.lane i).reg (fRd x.word) ≠ 0) →
      ∃ t, exec (.syncWait th) s = .next t ∧ (threadOf t x).st = .waiting ∧ (threadOf t x).pc = x.th.pc ∧ sameMemory s t ∧
        t.waits = s.waits ++ x.lanes.map (fun i => Wait.mk ((x.th.lane i).reg (fRs1 x.word)) (need i)
          (s.deadlineOf ((x.th.lane i).reg (fRd x.word))) (.thread x.phys (x.tid i))))
  )

/-- SQ PUSH of one lane: the 16 words become one item at the queue's end with pd = 1, or are discarded with OVERRUN and pd = 0 while FULL
(waiting instead with the wait bit). SQ POP of one lane: the front item's words go to the operand cache with its marks and pd = 1; while
EMPTY pd = 0 and UNDERRUN (or it waits). SQ STAT gives the queue's conditions to every lane. -/
def Obligations.VectorQueueInstructions : Prop :=
  ∀ (s : State) (th : ThreadRef) (x : Issue) (i : Nat), x.core < 256 →
    let q := (x.th.lane i).reg (fRs1 x.word)
    let a := (x.th.lane i).reg (fRs2 x.word)
    (x.th.lane i).regPoison (fRs1 x.word) = false → (x.th.lane i).regPoison (fRs2 x.word) = false →
    (Issues s .sqPush th x → x.lanes = [i] → s.mayPush (.thread x.core 0) q = true → a % 16 = 0 → a < 2 ^ 17 →
      ∃ t, exec (.sqPush th) s = .next t ∧
        (s.fullFor (.thread x.core (x.tid i)) q = false → advanced t x ∧ (t.queue q).items.length = (s.queue q).items.length + 1 ∧
          ((t.queue q).items.getLastD { data := [] }).data = s.loadN (ocAddr x.core a) 64 ∧
          ((threadOf t x).lane i).pred (x.mod % 4) = true) ∧
        (s.fullFor (.thread x.core (x.tid i)) q = true → (t.queue q).items = (s.queue q).items ∧
          (bitAt x.mod 5 = true → (threadOf t x).st = .waiting ∧ (threadOf t x).pc = x.th.pc) ∧
          (bitAt x.mod 5 = false → advanced t x ∧ t.rdAt F.QUE_STATUS_overrun q = 1 ∧
            (x.mod % 4 ≠ 0 → ((threadOf t x).lane i).pred (x.mod % 4) = false)))) ∧
    (Issues s .sqPop th x → x.lanes = [i] → s.mayPop x.core q = true → a % 16 = 0 → a < 2 ^ 17 →
      ∃ t, exec (.sqPop th) s = .next t ∧
        (∀ it is, s.visible q = true → (s.queue q).items = it :: is → it.data.length = 64 →
          advanced t x ∧ ((s.queue q).backlog = [] → (s.queue q).abortDue = false → (t.queue q).items = is) ∧ t.loadN (ocAddr x.core a) 64 = it.data ∧
          ((threadOf t x).lane i).pred (x.mod % 4) = true ∧
          ((threadOf t x).lane i).reg (fRd x.word) % 8 = bit it.start + 2 * bit it.fin + 4 * bit it.abort) ∧
        (s.visible q = false → (t.queue q).items = (s.queue q).items ∧
          (bitAt x.mod 5 = true → (threadOf t x).st = .waiting ∧ (threadOf t x).pc = x.th.pc) ∧
          (bitAt x.mod 5 = false → advanced t x ∧ t.rdAt F.QUE_STATUS_underrun q = 1 ∧
            (x.mod % 4 ≠ 0 → ((threadOf t x).lane i).pred (x.mod % 4) = false)))) ∧
    (Issues s .sqStat th x → (∀ j ∈ x.lanes, (x.th.lane j).regPoison (fRs1 x.word) = false ∧
        (s.mayPush (.thread x.core 0) ((x.th.lane j).reg (fRs1 x.word)) = true ∨ s.mayPop x.core ((x.th.lane j).reg (fRs1 x.word)) = true)) →
      ∃ t, exec (.sqStat th) s = .next t ∧ advanced t x ∧ onlyThread s t x ∧
        ∀ j ∈ x.lanes, let r := (x.th.lane j).reg (fRs1 x.word)
          ((threadOf t x).lane j).reg (fRd x.word) = (bit (!s.visible r) + 2 * bit (s.queueFull r) + 4 * s.rdAt F.QUE_STATUS_underrun r +
            8 * s.rdAt F.QUE_STATUS_overrun r + ((s.queue r).items.length + (s.queue r).held.length) * 256) % 2 ^ 32)



/-- R152: a hint changes no result and counts once; TRAP below 0x8000 pauses the thread after the instruction and raises VEC_TRAP; a write
of resume lets it go on at the next instruction; a code of 0x8000 or above is the exception TRAP_FATAL; a PAUSED thread keeps its slot. -/
def Obligations.HintsAndTraps : Prop :=
  (∀ (s : State) (th : ThreadRef) (x : Issue) (heavy : Bool), Issues s (if heavy then .hintHeavy else .hintLight) th x →
    ∃ t, exec (if heavy then .hintHeavy th else .hintLight th) s = .next t ∧ onlyThread s t x ∧
      threadOf t x = { x.th with pc := (x.th.pc + 4) % 2 ^ 48 } ∧
      (t.pwr.hints.filter (fun h => h.phys == x.phys && h.t == x.tid 0)).length ≤
        max 1 (s.pwr.hints.filter (fun h => h.phys == x.phys && h.t == x.tid 0)).length ∧
      (s.isSet F.PWR_CTRL_hint_enable = true → x.lanes ≠ [] →
        t.pwr.hints.filter (fun h => h.phys == x.phys && h.t == x.tid 0) =
          if heavy then [⟨x.phys, x.tid 0, hintFrom s.tick (fld x.word 19 10), hintUntil s.tick (fld x.word 19 10) (fld x.word 9 0)⟩] else [])) ∧
  (∀ (s : State) (th : ThreadRef) (x : Issue), Issues s .trap th x → x.lanes ≠ [] →
    ∃ t, exec (.trap th) s = .next t ∧
      (fImm x.word < 0x8000 → threadOf t x = { x.th with pc := (x.th.pc + 4) % 2 ^ 48, st := .paused } ∧
        ∃ (u : State) (d : List Nat), t = u.raise .VEC_TRAP x.core d) ∧
      (0x8000 ≤ fImm x.word → faultedWith s t x 7 (maskOf x.lanes) (fImm x.word))) ∧
  (∀ (s : State) (core : Nat), s.alive = true → core < 256 →
    let p := s.phys core
    let k := (s.vecAt p).home (s.rdAt F.VEC_THREAD_SEL_scalar_core p) (s.rdAt F.VEC_THREAD_SEL_slot p)
    ((s.vecAt p).thread k).st = .paused →
    ∃ t, exec (.threadResume core) s = .next t ∧ (t.vecAt p).thread k = { (s.vecAt p).thread k with st := .running }) ∧
  (∀ (v : VecSt) (ws : List Nat) (k : Nat) (u : Thread), (k, u) ∈ v.threads → u.st = .paused → k / 1024 ∈ launchGroups ws →
    k % 32 ∈ launchSlots ws → v.canStart ws = false)

/-- R155 for the exceptions of R154 that an instruction raises on an active lane: a reserved encoding (ILLEGAL), a gang instruction in free
mode, PUSH at depth 8 and POP at depth 0, a fifth CALL and RET on an empty stack. -/
def Obligations.VectorExceptions : Prop :=
  ∀ (s : State) (th : ThreadRef) (x : Issue), x.lanes ≠ [] →
    (Issues s .illegal th x → ∃ t, exec (.illegal th) s = .next t ∧ faultedWith s t x 1 (maskOf x.lanes) 0) ∧
    (Issues s .gangPush th x → x.th.gang = false → ∃ t, exec (.gangPush th) s = .next t ∧ faultedWith s t x 2 1 0) ∧
    (Issues s .lred th x → x.th.gang = false → ∃ t, exec (.lred th) s = .next t ∧ faultedWith s t x 2 1 0) ∧
    (Issues s .gangPush th x → x.th.gang = true → 8 ≤ x.th.stack.length →
      ∃ t, exec (.gangPush th) s = .next t ∧ faultedWith s t x 3 (maskOf x.lanes) 0) ∧
    (Issues s .gangPop th x → x.th.gang = true → x.th.stack = [] →
      ∃ t, exec (.gangPop th) s = .next t ∧ faultedWith s t x 3 (maskOf x.lanes) 0) ∧
    (Issues s .call th x → x.taken = true → 4 ≤ x.th.ret.length →
      ∃ t, exec (.call th) s = .next t ∧ faultedWith s t x 4 (maskOf x.lanes) 0) ∧
    (Issues s .ret th x → x.th.ret = [] → ∃ t, exec (.ret th) s = .next t ∧ faultedWith s t x 4 (maskOf x.lanes) 0)

/-- VEC_LAUNCH pops the launch entry at the front of the launch queue and, when its slots are idle, starts its threads with the registers of
R139; VEC_LAUNCH_COMPLETE ends a launch whose threads have all ended, counts it and raises its counter, and the last of an attempt whose lists
have completed takes the step to CHECKING; FLUSH_ICACHE empties the cache
while no thread runs, and is kept for later while one does. -/
def Obligations.LaunchesAndInstructionCache : Prop :=
  (∀ (s : State) (core : Nat) (ws : List Nat) (feed : Nat), s.alive = true → core < 256 → s.stepOpen = true → s.coreServed core = true →
    let p := s.phys core
    (s.vecAt p).stopped = false → (s.vecAt p).head = some (feed :: ws) → launchReason ws = 0 → (s.vecAt p).canStart ws = true →
    ∃ t, exec (.vecLaunch core) s = .next t ∧ sameMemory s t ∧ (∀ f i, t.rdAt f i = s.rdAt f i) ∧ (t.vecAt p).head = none ∧
      (t.vecAt p).nextLaunch = (s.vecAt p).nextLaunch + 1 ∧
      ∀ g sl l, g ∈ launchGroups ws → sl ∈ launchSlots ws → l < 32 → launchGang ws = false →
        ((t.vecAt p).thread ((32 * g + l) * 32 + sl)).st = .running ∧ ((t.vecAt p).thread ((32 * g + l) * 32 + sl)).pc = fld (wd ws 1) 47 0 ∧
        (((t.vecAt p).thread ((32 * g + l) * 32 + sl)).lane 0).reg 4 = (32 * g + l) * 32 + sl) ∧
  (∀ (s : State) (core q : Nat) (it : Item) (is : List Item), s.alive = true → core < 256 → s.stepOpen = true → s.coreServed core = true →
    let p := s.phys core
    (s.vecAt p).stopped = false → (s.vecAt p).head = none → s.rdAt F.VEC_CTRL_launch_queue p = q → s.mayPop core q = true →
    s.visible q = true → (s.queue q).items = it :: is → it.poison = false →
    s.poisonAt (s.rdAt F.QUE_BACKING_base q + (s.queue q).head % s.depth q * 64) = false → launchReason (bytesWords it.data) = 0 →
    (s.vecAt p).canStart (bytesWords it.data) = true →
    ∃ t, exec (.vecLaunch core) s = .next t ∧
      ((s.queue q).backlog = [] → (s.queue q).abortDue = false → (s.queue q).open_ = none → is <+: (t.queue q).items) ∧
      ∃ l ∈ (t.vecAt p).launches, l.id = (s.vecAt p).nextLaunch ∧ l.words = bytesWords it.data) ∧
  (∀ (s : State) (core : Nat) (l : Launch), (s.vecAt (s.phys core)).launches.find? (fun l => l.left == 0) = some l → s.listsDone = false →
    ∃ t, exec (.vecLaunchComplete core) s = .next t ∧ sameMemory s t ∧
      (∀ m ∈ (t.vecAt (s.phys core)).launches, m.id ≠ l.id) ∧
      (∀ c, t.counter c = (s.counter c + if bitAt (wd l.words 4) 6 = true ∧ fld (wd l.words 4) 23 7 = c then 1 else 0) % 2 ^ 64)) ∧
  (∀ (s : State) (core : Nat) (v : VecSt) (l : Launch), s.vec = [(s.phys core, v)] → v.launches = [l] → l.left = 0 → s.working = true →
    s.listsDone = true → s.upd.normDone = true → ∃ t, exec (.vecLaunchComplete core) s = .next t ∧ t.step = .checking) ∧
  (∀ (s : State) (core : Nat), s.alive = true → core < 256 →
    let p := s.phys core
    ∃ t, exec (.flushIcache core) s = .next t ∧ sameMemory s t ∧ sameRegsBut [F.VEC_CTRL_flush_icache.key p] s t ∧
      ((∀ u ∈ (s.vecAt p).threads, u.2.st = .idle) → (t.vecAt p).icache = [] ∧ t.rdAt F.VEC_CTRL_flush_icache p = 0) ∧
      ((∃ u ∈ (s.vecAt p).threads, u.2.st ≠ .idle) → (t.vecAt p).icache = (s.vecAt p).icache ∧ t.rdAt F.VEC_CTRL_flush_icache p = 1))

/-- A write of SYN_VALUE is a SET and one of SYN_ADD is an ADD modulo 2^64 with the sticky wrap bit; a read of SYN_WAITS answers and
restarts the peak; a wait whose deadline has passed leaves its place and its ring command ends with status TIMEOUT. Memory stays. -/
def Obligations.CounterCommands : Prop :=
  (∀ (s : State) (n v : Nat), s.alive = true → n < 131072 → ∃ t, exec (.synValueWrite n v) s = .next t ∧ sameMemory s t ∧
    ∀ c, t.counter c = if c = n then v % 2 ^ 64 else s.counter c) ∧
  (∀ (s : State) (n v : Nat), s.alive = true → n < 131072 → ∃ t, exec (.synAddWrite n v) s = .next t ∧ sameMemory s t ∧
    (∀ c, t.counter c = if c = n then (s.counter n + v) % 2 ^ 64 else s.counter c) ∧
    (t.rdAt F.SYN_STATUS_wrap n = if 2 ^ 64 ≤ s.counter n + v % 2 ^ 64 then 1 else s.rdAt F.SYN_STATUS_wrap n)) ∧
  (∀ (s : State), s.alive = true → ∃ t, exec .synWaitsRead s = .next t ∧ t.outbox = s.outbox ++ [.reply 1 [s.synWaits]] ∧
    t.rd F.SYN_WAITS_peak = s.waits.length % 2 ^ 15 ∧ sameRegsBut [F.SYN_WAITS_peak.key 0] s t ∧ sameMemory s t) ∧
  (∀ (s : State) (w : Wait) (d : Nat), s.waits.find? (fun y => y.who == w.who) = some w → w.deadline = some d → d < s.tick →
    s.stalled = [] → ∃ t, exec (.waitTimeout w.who) s = .next t ∧ sameMemory s t ∧ t.waits = s.waits.erase w ∧
      (∀ c, t.counter c = s.counter c) ∧
      (∀ r c, w.who = .ring r → c ∈ (s.ring r).cmds → c.started = true → c.result = none → cmdOp c.words = 5 →
        { c with result := some (1, s.counter w.counter) } ∈ (t.ring r).cmds))

/-- A valid enable turns the queue on with its settings and an invalid one records its reason; the router takes the front item of a
forwarding queue for one credit; returned credits add up to the remote depth; a wait of QUE_TIMEOUT sets the stall condition. -/
def Obligations.QueueCommands : Prop :=
  (∀ (s : State) (q v : Nat), s.alive = true → s.stepOpen = false → q < 8192 → ∃ t, exec (.queueEnable q v) s = .next t ∧ sameMemory s t ∧
    t.rdAt F.QUE_CFG_log2_depth q = fld v 60 56 ∧ t.rdAt F.QUE_CFG_backing q = fld v 62 61 ∧
    t.rdAt F.QUE_CFG_consumer_core q = fld v 52 45 ∧
    ((t.queueError q = 0 ∧ t.rdAt F.QUE_CFG_enable q = 1) ∨
      (t.queueError q ≠ 0 ∧ t.rdAt F.QUE_CFG_enable q = 0 ∧ t.rdAt F.QUE_STATUS_cfg_error q = t.queueError q))) ∧
  (∀ (s : State) (q : Nat) (it : Item) (is : List Item), s.alive = true → s.queueOn q = true → coreQueue q = true →
    s.isSetAt F.QUE_CFG_forward q = true → s.visible q = true → 0 < s.rdAt F.QUE_STATUS_credits q → (s.queue q).items = it :: is →
    (s.queue q).backlog = [] → (s.queue q).abortDue = false → s.ops = [] → ∃ t, exec (.routerForwardItem q) s = .next t ∧ sameMemory s t ∧ (t.queue q).items = is ∧
      t.rdAt F.QUE_STATUS_credits q = s.rdAt F.QUE_STATUS_credits q - 1 ∧
      onItsWay t (s.forwardTo q) true (fun f => f.type = .queueItem ∧ f.payload = it.data)) ∧
  (∀ (s : State) (q n : Nat), s.alive = true → s.queueOn q = true → coreQueue q = true → s.isSetAt F.QUE_CFG_forward q = true →
    s.rdAt F.QUE_FWD_remote_log2_depth q < 17 → ∃ t, exec (.creditReturn q n) s = .next t ∧
      t.rdAt F.QUE_STATUS_credits q = min (s.rdAt F.QUE_STATUS_credits q + n) (2 ^ s.rdAt F.QUE_FWD_remote_log2_depth q) % 2 ^ F.QUE_STATUS_credits.width ∧
      sameRegsBut [F.QUE_STATUS_credits.key q] s t ∧ sameMemory s t ∧ t.queues = s.queues) ∧
  (∀ (s : State) (q : Nat), s.queueOn q = true → s.rdAt F.QUE_TIMEOUT_ticks q ≠ 0xFFFFFFFF →
    ((s.hwConsumes q = true ∧ s.queueEmpty q = true ∧ (s.queue q).since + s.rdAt F.QUE_TIMEOUT_ticks q < s.tick) ∨
      ∃ w ∈ (s.queue q).waiting, w.2 + s.rdAt F.QUE_TIMEOUT_ticks q < s.tick) →
    ∃ t, exec (.queueWaitTimeout q none) s = .next t ∧ t.rdAt F.QUE_STATUS_stall q = 1 ∧ (t.queue q).stallRaised = true ∧
      (t.queue q).items = (s.queue q).items ∧ sameMemory s t)

/-- DMA ISSUE with room and valid descriptors queues one transfer for each lane, in lane order, under consecutive numbers and with the
descriptor of the lane; FENCE_DMA moves on when no lane that issues it has a transfer in progress, and waits for those that have.
A local linear transfer that no thread has touched writes every byte of its one row from the source as it stands, raises its done counter by one when
asked, leaves the list, and gives a ring command OK with the bytes moved; with an error a ring's command ends with status 5. -/
def Obligations.VectorDmaAndTransfers : Prop :=
  (
  ∀ (s : State) (th : ThreadRef) (x : Issue),
    (Issues s .dmaIssue th x → s.coreXfers x.core + x.lanes.length ≤ coreXferLimit →
      (∀ i ∈ x.lanes, let a := (x.th.lane i).reg (fRs1 x.word)
        let d := s.loadWords (ocAddr x.core a) 8
        (x.th.lane i).regPoison (fRs1 x.word) = false ∧ a % 16 = 0 ∧ a < 2 ^ 17 ∧ s.poisonAt (ocAddr x.core a) = false ∧
        s.xferBad false d = false ∧ s.threadXfers x.phys (x.tid i) < 16) →
      ∃ t, exec (.dmaIssue th) s = .next t ∧ advanced t x ∧ sameMemory s t ∧ t.nextXfer = s.nextXfer + x.lanes.length ∧
        t.xfers.length = s.xfers.length + x.lanes.length ∧
        ∀ k i, x.lanes[k]? = some i → ∃ y ∈ t.xfers, y.id = s.nextXfer + k ∧ y.owner = .thread x.phys (x.tid i) ∧
          y.words = s.loadWords (ocAddr x.core ((x.th.lane i).reg (fRs1 x.word))) 8) ∧
    (Issues s .fenceDma th x → ∃ t, exec (.fenceDma th) s = .next t ∧ onlyThread s t x ∧
      ((∀ i ∈ x.lanes, s.threadXfers x.phys (x.tid i) = 0) → advanced t x) ∧
      ((∃ i ∈ x.lanes, 0 < s.threadXfers x.phys (x.tid i)) → (threadOf t x).st = .waiting ∧ (threadOf t x).pc = x.th.pc))
  ) ∧ (
  (∀ (s : State) (x : Xfer) (r q : Nat), s.xfers.find? (fun y => y.id == x.id) = some x → s.alive = true → x.failed = false →
    (x.asked = true ∨ s.xferBehind x = false) → s.ops = [] → x.raced = [] → x.owner = .ring r q → s.xferBlocked x = none → s.srcRemote x.words = false → s.dstRemote x.words = false →
    s.tagPending x.id = false → dLayout x.words = 0 → dRows x.words = 1 →
    dDst x.words + dRowBytes x.words ≤ 0xC000000000 →
    ∃ t, exec (.dmaTransferComplete x.id false) s = .next t ∧ (∀ y ∈ t.xfers, y.id ≠ x.id) ∧
      (∀ k, k < dRowBytes x.words → t.peek (dDst x.words + k) = s.peek (dSrc x.words + k)) ∧
      (∀ a, (a < dDst x.words ∨ dDst x.words + dRowBytes x.words ≤ a) → t.peek a = s.peek a) ∧
      (∀ c, t.counter c = (s.counter c + if fld (wd x.words 4) 48 48 = 1 ∧ fld (wd x.words 4) 47 31 = c then 1 else 0) % 2 ^ 64) ∧
      (∀ c ∈ (s.ring r).cmds, c.seq = q → cmdOp c.words = 6 → c.result = none →
        ∃ d ∈ (t.ring r).cmds, d.seq = q ∧ d.result = some (0, dRowBytes x.words))) ∧
  (∀ (s : State) (x : Xfer) (r q : Nat), s.xfers.find? (fun y => y.id == x.id) = some x → s.alive = true → x.owner = .ring r q → s.ops = [] →
    ∃ t, exec (.dmaTransferComplete x.id true) s = .next t ∧ (∀ y ∈ t.xfers, y.id ≠ x.id) ∧ sameMemory s t ∧
      (∀ f i, t.rdAt f i = s.rdAt f i) ∧
      (∀ c ∈ (s.ring r).cmds, c.seq = q → c.result = none → ∃ d ∈ (t.ring r).cmds, d.seq = q ∧ ∃ n, d.result = some (5, n)))
  )

namespace Sys2Proof.Machine

/-- Command `seq` of ring `r` has started and has its completion status and value. -/
def completes (t : State) (r seq status value : Nat) : Prop :=
  ∃ c ∈ (t.ring r).cmds, c.seq = seq ∧ c.started = true ∧ c.result = some (status, value)

/-- Command `seq` of ring `r` has started and has no result yet. -/
def inProgress (t : State) (r seq : Nat) : Prop := ∃ c ∈ (t.ring r).cmds, c.seq = seq ∧ c.started = true ∧ c.result = none

/-- Command `seq` of ring `r`, of opcode `op` and with words `ws`, starts now (R199). -/
def starts (s : State) (r seq op : Nat) (ws : List Nat) : Prop :=
  ∃ c, s.startable r seq op = some c ∧ c.started = false ∧ c.words = ws

end Sys2Proof.Machine



/-- Enabling a ring whose bases are valid starts it at the doorbell and acknowledge values with nothing in progress, and one whose bases are
not valid stays off with cfg_error; disabling waits for commands in progress; abort ends every unfinished command ABANDONED; restart clears
stopped; an acknowledge is stored.
A doorbell one past the last command taken takes the entry at its slot, an unknown opcode completing at once with BAD_OPCODE; one too
far ahead is refused with RING_DOORBELL_ERR and not stored. COMMAND_COMPLETE writes the completion entry of the oldest command at the next
slot, and the command leaves the ring. -/
def Obligations.CommandRings : Prop :=
  (
  ∀ (s : State) (r : Nat), s.alive = true → r < 2 →
    (s.isSetAt F.QUE_RING_CTRL_enable r = false → s.ringBasesOk r = true → ∃ t, exec (.ringEnable r) s = .next t ∧ sameMemory s t ∧
      t.rdAt F.QUE_RING_CTRL_enable r = 1 ∧ t.rdAt F.QUE_RING_STATUS_cfg_error r = 0 ∧ (t.ring r).cmds = [] ∧
      t.rdAt F.QUE_RING_STATE_taken r = s.rdAt F.QUE_RING_DOORBELL_seq r ∧ t.rdAt F.QUE_RING_STATUS_done r = s.rdAt F.QUE_RING_DOORBELL_seq r ∧
      t.rdAt F.QUE_RING_STATE_cpl_sent r = s.rdAt F.QUE_RING_CPL_ACK_seq r ∧ t.rdAt F.QUE_RING_STATUS_stopped r = 0) ∧
    (s.isSetAt F.QUE_RING_CTRL_enable r = false → s.ringBasesOk r = false → ∃ t, exec (.ringEnable r) s = .next t ∧
      t.rdAt F.QUE_RING_CTRL_enable r = 0 ∧ t.rdAt F.QUE_RING_STATUS_cfg_error r = 1) ∧
    (s.isSetAt F.QUE_RING_CTRL_enable r = true → ∃ t, exec (.ringDisable r) s = .next t ∧ sameMemory s t ∧
      ((s.ring r).cmds = [] → t.rdAt F.QUE_RING_CTRL_enable r = 0) ∧
      ((s.ring r).cmds ≠ [] → t.rdAt F.QUE_RING_CTRL_enable r = 1 ∧ (t.ring r).disabling = true ∧ (t.ring r).cmds = (s.ring r).cmds)) ∧
    ((s.ring r).cmds ≠ [] → ∃ t, exec (.ringAbort r) s = .next t ∧ sameMemory s t ∧ t.rdAt F.QUE_RING_CTRL_abort r = 1 ∧
      (t.ring r).cmds.length = (s.ring r).cmds.length ∧ (∀ w ∈ t.waits, w.who ≠ .ring r) ∧
      (∀ c ∈ (t.ring r).cmds, c.result ≠ none) ∧
      (∀ c ∈ (s.ring r).cmds, c.result = none → ∃ d ∈ (t.ring r).cmds, d.seq = c.seq ∧ ∃ n, d.result = some (6, n)) ∧
      (∀ c ∈ (s.ring r).cmds, c.result ≠ none → c ∈ (t.ring r).cmds)) ∧
    (s.isSetAt F.QUE_RING_STATUS_stopped r = true → newer32 (s.rdAt F.QUE_RING_DOORBELL_seq r) (s.rdAt F.QUE_RING_STATE_taken r) = false →
      ∃ t, exec (.ringRestart r) s = .next t ∧ t.rdAt F.QUE_RING_STATUS_stopped r = 0 ∧ sameRegsBut [F.QUE_RING_STATUS_stopped.key r] s t) ∧
    (∀ v, ∃ t, exec (.ringCplAck r v) s = .next t ∧ t.rdAt F.QUE_RING_CPL_ACK_seq r = v % 2 ^ 32 ∧ sameMemory s t)
  ) ∧ (
  (∀ (s : State) (r : Nat), s.alive = true → r < 2 → s.ringOn r = true →
    let q := (s.rdAt F.QUE_RING_STATE_taken r + 1) % 2 ^ 32
    let a := s.rdAt F.QUE_RING_BASE_base r + q % s.cmdSlots r * 64
    let ws := s.loadWords a 8
    (s.ring r).disabling = false → s.isSetAt F.QUE_RING_STATUS_stopped r = false → s.isSetAt F.QUE_RING_CTRL_abort r = false →
    s.cplFull r = false → (s.ring r).cmds.length < 64 → (q + 2 ^ 32 - s.rdAt F.QUE_RING_STATUS_done r) % 2 ^ 32 ≤ s.cmdSlots r →
    s.poisonAt a = false → fld (wd ws 0) 63 32 = q →
    ∃ t, exec (.ringDoorbell r q) s = .next t ∧ sameMemory s t ∧ t.rdAt F.QUE_RING_DOORBELL_seq r = q ∧ t.rdAt F.QUE_RING_STATE_taken r = q ∧
      (t.ring r).cmds = (s.ring r).cmds ++
        [if cmdKnown (cmdOp ws) then { seq := q, words := ws } else { seq := q, words := ws, started := true, result := some (2, 0) }]) ∧
  (∀ (s : State) (r v : Nat), s.alive = true → r < 2 → s.ringOn r = true → v < 2 ^ 32 → newer32 v (s.rdAt F.QUE_RING_STATE_taken r) = true →
    s.cmdSlots r < (v + 2 ^ 32 - s.rdAt F.QUE_RING_STATUS_done r) % 2 ^ 32 →
    exec (.ringDoorbell r v) s = .next (s.raise .RING_DOORBELL_ERR r)) ∧
  (∀ (s : State) (r : Nat) (c : RingCmd) (cs : List RingCmd) (st v : Nat), s.alive = true → s.cplFull r = false →
    (s.ring r).cmds = c :: cs → c.result = some (st, v) → (s.ring r).disabling = false →
    let n := (s.rdAt F.QUE_RING_STATE_cpl_sent r + 1) % 2 ^ 32
    let a := s.rdAt F.QUE_RING_CPL_BASE_base r + n % s.cplSlots r * 32
    inCarve a 32 = true → c.seq < 2 ^ 32 → st < 256 → s.tick < 2 ^ 64 →
    ∃ t, exec (.commandComplete r) s = .next t ∧ cs <+: (t.ring r).cmds ∧ t.rdAt F.QUE_RING_STATE_cpl_sent r = n ∧
      t.rdAt F.QUE_RING_STATUS_done r = c.seq ∧
      t.loadWords a 4 = [n * 2 ^ 32 + c.seq, st * 2 ^ 56 + cmdOp c.words * 2 ^ 48, v % 2 ^ 64, s.tick] ∧
      ∀ b, (b < a ∨ a + 32 ≤ b) → t.peek b = s.peek b)
  )



/-- NOP completes; SYNC_ADD and SYNC_SET of a local counter change it and complete with OK; a remote ADD sends its flit; SYNC_READ completes
with the counter's value; SYNC_WAIT completes at once where its target is met or its timeout is 0, else registers a wait. An ADD with an earlier
transfer of its ring into its module waits, and a SET, READ or WAIT_GE behind a waiting operation of its ring on its counter does not start
(R192). Memory stays.
QUEUE_PUSH pushes items in order until the queue is FULL: with all accepted it completes with their number, else it stays in progress;
with operands out of range it completes with BAD_ARG. DMA with a valid descriptor queues its transfer, and with a bad one
completes with BAD_ARG. -/
def Obligations.RingCommands : Prop :=
  (
  ∀ (s : State) (r seq : Nat) (ws : List Nat),
    (starts s r seq 0 ws → ∃ t, exec (.cmdNop r seq) s = .next t ∧ completes t r seq 0 0 ∧ sameMemory s t ∧ (∀ f i, t.rdAt f i = s.rdAt f i)) ∧
    (starts s r seq 2 ws → (addTarget ws).2.1 = 0 → s.ops = [] → nothingBefore s (.ring r seq) → ∃ t, exec (.cmdSyncAdd r seq) s = .next t ∧ completes t r seq 0 0 ∧ sameMemory s t ∧
      ∀ c, t.counter c = if c = (addTarget ws).1 then (s.counter c + wd ws 2) % 2 ^ 64 else s.counter c) ∧
    (starts s r seq 2 ws → (addTarget ws).2.1 = 0 → s.ops = [] → s.xfersInto (.ring r seq) s.self ≠ [] → ∃ t,
      exec (.cmdSyncAdd r seq) s = .next t ∧ inProgress t r seq ∧ sameMemory s t ∧ (∀ c, t.counter c = s.counter c) ∧
      ∃ o, t.ops = [o] ∧ o.owner = .ring r seq ∧ o.counter = (addTarget ws).1 ∧ o.value = wd ws 2) ∧
    (starts s r seq 2 ws → s.ops = [] → s.xfersInto (.ring r seq) (addTarget ws).2.2 = [] → s.itemsInto (.ring r seq) (addTarget ws).2.2 = [] →
      (addTarget ws).2.1 = 1 → (addTarget ws).2.2 < 39968 → (addTarget ws).2.2 ≠ s.self →
      ∃ t, exec (.cmdSyncAdd r seq) s = .next t ∧ inProgress t r seq ∧ sameMemory s t ∧ (∀ c, t.counter c = s.counter c) ∧
        onItsWay t (addTarget ws).2.2 true (fun f => f.type = .syncAdd ∧ f.dstAddr = (addTarget ws).1 ∧ f.payload.take 8 = leBytes 8 (wd ws 2))) ∧
    (starts s r seq 3 ws → s.opPending (.ring r seq) (fld (wd ws 1) 16 0) = false → ∃ t, exec (.cmdSyncSet r seq) s = .next t ∧ completes t r seq 0 0 ∧ sameMemory s t ∧
      ∀ c, t.counter c = if c = fld (wd ws 1) 16 0 then wd ws 2 % 2 ^ 64 else s.counter c) ∧
    (starts s r seq 4 ws → s.opPending (.ring r seq) (fld (wd ws 1) 16 0) = false → ∃ t, exec (.cmdSyncRead r seq) s = .next t ∧ completes t r seq 0 (s.counter (fld (wd ws 1) 16 0)) ∧
      sameMemory s t ∧ (∀ f i, t.rdAt f i = s.rdAt f i)) ∧
    (starts s r seq 5 ws → s.opPending (.ring r seq) (fld (wd ws 1) 16 0) = false → wd ws 2 ≤ s.counter (fld (wd ws 1) 16 0) → ∃ t, exec (.cmdSyncWait r seq) s = .next t ∧
      completes t r seq 0 (s.counter (fld (wd ws 1) 16 0)) ∧ t.waits = s.waits ∧ sameMemory s t) ∧
    (starts s r seq 5 ws → s.opPending (.ring r seq) (fld (wd ws 1) 16 0) = false → s.counter (fld (wd ws 1) 16 0) < wd ws 2 →
      fld (wd ws 3) 31 0 = 0 → ∃ t, exec (.cmdSyncWait r seq) s = .next t ∧ completes t r seq 1 (s.counter (fld (wd ws 1) 16 0)) ∧
        t.waits = s.waits ∧ sameMemory s t) ∧
    (∀ k, starts s r seq k ws → (k = 3 ∨ k = 4 ∨ k = 5) → s.opPending (.ring r seq) (fld (wd ws 1) 16 0) = true →
      exec (if k = 3 then .cmdSyncSet r seq else if k = 4 then .cmdSyncRead r seq else .cmdSyncWait r seq) s = .next s) ∧
    (starts s r seq 5 ws → s.opPending (.ring r seq) (fld (wd ws 1) 16 0) = false → s.counter (fld (wd ws 1) 16 0) < wd ws 2 →
      fld (wd ws 3) 31 0 ≠ 0 → ∃ t, exec (.cmdSyncWait r seq) s = .next t ∧ inProgress t r seq ∧
      t.waits = s.waits ++ [Wait.mk (fld (wd ws 1) 16 0) (wd ws 2) (s.deadlineOf (fld (wd ws 3) 31 0)) (.ring r)] ∧ sameMemory s t)
  ) ∧ (
  ∀ (s : State) (r seq : Nat),
    (∀ c, s.startable r seq 1 = some c → let q := fld (wd c.words 1) 12 0
      let n := fld (wd c.words 1) 29 19
      let a := fld (wd c.words 2) 47 0
      (1 ≤ n → n ≤ 1024 → c.moved ≤ n → s.mayPush (.ring r) q = true → (s.mayReadHbm .dma a (64 * n) || inTiles a (64 * n) || inCaches a (64 * n)) = true →
        ∃ t k, exec (.queuePush r seq) s = .next t ∧ (t.queue q).items.length = (s.queue q).items.length + k ∧
          (c.moved + k = n → completes t r seq 0 n) ∧
          (c.moved + k ≠ n → c.moved + k < n ∧ t.fullFor (.ring r) q = true ∧ inProgress t r seq)) ∧
      (n = 0 ∨ 1024 < n ∨ s.mayPush (.ring r) q = false → ∃ t, exec (.queuePush r seq) s = .next t ∧ completes t r seq 3 c.moved ∧
        t.queues = s.queues ∧ sameMemory s t)) ∧
    (∀ ws, starts s r seq 6 ws → let a := fld (wd ws 2) 47 0
      let d := s.loadWords a 8
      (inCarve a 64 = false → ∃ t, exec (.cmdDma r seq) s = .next t ∧ completes t r seq 3 0 ∧ t.xfers = s.xfers ∧ sameMemory s t) ∧
      (inCarve a 64 = true → s.poisoned a 64 = false → s.xferBad true d = true →
        ∃ t, exec (.cmdDma r seq) s = .next t ∧ completes t r seq 3 0 ∧ t.xfers = s.xfers ∧ sameMemory s t) ∧
      (inCarve a 64 = true → s.poisoned a 64 = false → s.xferBad true d = false →
        ∃ t, exec (.cmdDma r seq) s = .next t ∧ inProgress t r seq ∧ sameMemory s t ∧ t.nextXfer = s.nextXfer + 1 ∧
          ∃ y ∈ t.xfers, y.id = s.nextXfer ∧ y.owner = .ring r seq ∧ y.words = d))
  )



/-- STEP_LOAD of a program that passes its checks loads it and completes with OK, and one that fails completes with BAD_ARG and its reason;
STEP_RUN of a loaded program sets the run and completes when its first step opens; STEP_STOP with no step open ends the run at once, and otherwise, or with
a step held for its replay, after that step; STEP_WAIT completes once the instar is reached.
JOB_END with no step open or the open step discarded, and JOB_CANCEL always, take the module to DRAINING, where they complete once no
chrysalis is being written; JOB_END with a step open leaves it open and drains at its boundary. JOB_CANCEL discards the open step; a discarded
step stays DISCARDED (R34). -/
def Obligations.StepAndJobCommands : Prop :=
  (
  ∀ (s : State) (r seq : Nat) (ws : List Nat),
    (starts s r seq 0x20 ws → s.stepOpen = false → (s.mode = .running ∨ s.mode = .held) → ∃ t, exec (.stepLoad r seq) s = .next t ∧
      sameMemory s t ∧
      (s.programBad (fld (wd ws 1) 47 0) = none → completes t r seq 0 0 ∧ t.rd F.SCH_STEP_loaded = 1 ∧
        t.rd F.SCH_STEP_header = fld (wd ws 1) 47 0 ∧ t.rd F.SCH_ADMIT_window = fld (s.load64 (fld (wd ws 1) 47 0)) 45 34) ∧
      (∀ b, s.programBad (fld (wd ws 1) 47 0) = some b → completes t r seq 3 b.code ∧ t.rd F.SCH_STEP_loaded = s.rd F.SCH_STEP_loaded ∧
        t.rd F.SCH_REJECT_valid = 1 ∧ t.rd F.SCH_REJECT_reason = b.code % 2 ^ 8 ∧ t.rd F.SCH_REJECT_core = b.core % 2 ^ 8)) ∧
    (starts s r seq 0x20 ws → s.stepOpen = true → ∃ t, exec (.stepLoad r seq) s = .next t ∧ completes t r seq 3 0 ∧
      t.rd F.SCH_STEP_loaded = s.rd F.SCH_STEP_loaded) ∧
    (starts s r seq 0x21 ws → s.isSet F.SCH_STEP_loaded = true → s.mode = .running → s.tableBad s.upd.place s.upd.table = none →
      s.replicas.length ≤ 256 → ∃ t, exec (.stepRun r seq) s = .next t ∧ inProgress t r seq ∧ t.rd F.SCH_RUN_running = 1 ∧
        t.rd F.SCH_RUN_stopping = 0 ∧ t.rd F.SCH_RUN_steps_left = fld (wd ws 1) 31 0 ∧ t.rd F.CHK_REPLICA_members = s.replicas.length % 2 ^ F.CHK_REPLICA_members.width ∧
        sameMemory s t) ∧
    (starts s r seq 0x21 ws → (s.isSet F.SCH_STEP_loaded = false ∨ s.mode ≠ .running) → ∃ t, exec (.stepRun r seq) s = .next t ∧
      completes t r seq 3 0 ∧ (∀ f i, t.rdAt f i = s.rdAt f i)) ∧
    (starts s r seq 0x22 ws → s.stepOpen = false → ¬(s.step = .discarded ∧ s.mode = .held) → ∃ t, exec (.stepStop r seq) s = .next t ∧
      completes t r seq 0 s.instar ∧ t.rd F.SCH_RUN_running = 0 ∧ sameMemory s t) ∧
    (starts s r seq 0x22 ws → (s.stepOpen = true ∨ (s.step = .discarded ∧ s.mode = .held)) → s.isSet F.SCH_RUN_running = true → ∃ t, exec (.stepStop r seq) s = .next t ∧
      inProgress t r seq ∧ t.rd F.SCH_RUN_stopping = 1 ∧ t.rd F.SCH_RUN_running = 1 ∧ sameMemory s t) ∧
    (starts s r seq 0x23 ws → ∃ t, exec (.stepWait r seq) s = .next t ∧ sameMemory s t ∧ (∀ f i, t.rdAt f i = s.rdAt f i) ∧
      (wd ws 2 ≤ s.instar → completes t r seq 0 s.instar) ∧
      (s.instar < wd ws 2 → s.mode ≠ .running → completes t r seq 6 s.instar) ∧
      (s.instar < wd ws 2 → s.mode = .running → inProgress t r seq))
  ) ∧ (
  ∀ (s : State) (r seq : Nat) (ws : List Nat), (s.mode = .running ∨ s.mode = .held) →
    (starts s r seq 0x24 ws → s.live = false → ∃ t, exec (.jobEnd r seq) s = .next t ∧ t.mode = .draining ∧
      t.step = (if s.step = .discarded then .discarded else .none) ∧
      (s.chrys.writer = none → completes t r seq 0 s.instar)) ∧
    (starts s r seq 0x24 ws → s.live = true → ∃ t, exec (.jobEnd r seq) s = .next t ∧ t.mode = s.mode ∧ t.step = s.step ∧
      t.job.boundary = some .jobEnd ∧ inProgress t r seq ∧ sameMemory s t) ∧
    (starts s r seq 0x25 ws → ∃ t, exec (.jobCancel r seq) s = .next t ∧ t.mode = .draining ∧
      t.step = (if s.step = .discarded ∨ s.live = true then .discarded else .none) ∧ completes t r seq 0 s.instar)
  )

/-- STEP_OPEN with the kept-input table ready and valid opens the step (REPLAYING where the instar has been discarded before) and takes the table as
the input map; not ready, the step waits in state —; an invalid table holds the job. STEP_REPLAY opens the next attempt. Writes of CHK_KEPT_NEXT are
stored and a finished repair ends. Where no flit waits for the attempt and no granule of the bank's header is poisoned; an attempt none of
whose lists has a segment goes on to CHECKING at once. -/
def Obligations.StepsOpenAndReplay : Prop :=
  (∀ s : State, s.mayOpen = true → s.fab.held = [] → s.firstPoison (s.bankBase s.bank) 256 = none →
    (s.isSet F.CHK_KEPT_NEXT_ready = true → s.keptOk = true → ∃ u : State, exec .stepOpen s = .next (u.toChecking.openDone.finishDirectives 3) ∧
      u.step = (if s.replay = 0 then .opened else .replaying) ∧ u.mode = .running ∧ u.rd F.CHK_KEPT_NEXT_ready = 0 ∧
      u.rd F.CHK_KEPT_CUR_valid = 1 ∧ u.rd F.CHK_KEPT_CUR_count = s.rd F.CHK_KEPT_NEXT_count % 2 ^ F.CHK_KEPT_CUR_count.width ∧
      u.job.inputs = (List.range (s.rd F.CHK_KEPT_NEXT_count)).map (s.keptEntry (s.rd F.CHK_KEPT_NEXT_address)) ∧
      u.rd F.SCH_ADMIT_next = 0 ∧ u.rd F.SCH_ADMIT_in_flight = 0 ∧ u.job.openedAt = s.tick) ∧
    (s.isSet F.CHK_KEPT_NEXT_ready = false → ∃ t, exec .stepOpen s = .next t ∧ t.step = .none ∧ t.job.waitSince ≠ none ∧ sameMemory s t ∧
      (∀ f i, t.rdAt f i = s.rdAt f i)) ∧
    (s.isSet F.CHK_KEPT_NEXT_ready = true → s.keptOk = false → ∃ t, exec .stepOpen s = .next t ∧ t.mode = .held ∧ t.step = .none)) ∧
  (∀ s : State, s.alive = true → s.mode = .running → s.step = .discarded → s.job.losses = [] → s.job.boundary = none →
    s.isSet F.CHK_KEPT_CUR_repair = false → s.upd.regenDue = false → s.mirror.pulling = false → s.fab.held = [] →
    s.firstPoison (s.bankBase s.bank) 256 = none → ∃ u : State, exec .stepReplay s = .next (u.toChecking.finishDirectives 3) ∧
      u.step = .replaying ∧ u.mode = .running ∧ u.job.inputs = s.job.inputs ∧ u.replay = s.replay ∧ u.rd F.SCH_ADMIT_next = 0) ∧
  (∀ u : State, u.listsDone = false → u.toChecking = u) ∧
  (∀ (s : State) (v : Nat), s.alive = true → ∃ t, exec (.keptNextReady v) s = .next t ∧ sameMemory s t ∧
    t.rd F.CHK_KEPT_NEXT_ready = fld v 63 63 ∧ t.rd F.CHK_KEPT_NEXT_count = fld v 60 48 ∧ t.rd F.CHK_KEPT_NEXT_address = fld v 47 0) ∧
  (∀ s : State, s.alive = true → s.isSet F.CHK_KEPT_CUR_repair = true → ∃ t, exec .keptRepairDone s = .next t ∧ t.job.repairs = [] ∧
    t.rd F.CHK_KEPT_CUR_repair = 0 ∧ t.rd F.CHK_KEPT_CUR_repair_done = 1 ∧ sameMemory s t)

namespace Sys2Proof.Machine

/-- The module votes FAIL for the open attempt with a cause (R311): a node below the root keeps its vote, cause and origin and stays in its
step state; the root discards at once, and is held where the rule asks for it. -/
def votesFail (s t : State) (cause : Nat) (hold : Bool) : Prop :=
  (s.step = .opened ∨ s.step = .replaying ∨ s.step = .checking) → s.barrier.own ≠ 3 → (∀ p ∈ s.barrier.kids, p.2 ≠ 3) →
    (s.isRoot = false → t.barrier.own = 3 ∧ t.barrier.cause = cause ∧ t.barrier.origin = s.rank ∧ t.step = s.step) ∧
    (s.isRoot = true → s.barrier.recordSent = false → s.mode = .running → s.job.boundary = none →
      t.step = .discarded ∧ t.rd F.CHK_MOLT_LAST_cause = cause % 2 ^ 8 ∧ (hold = true → t.mode = .held))

/-- The segment reject register names a failure found while the step runs (R224). -/
def rejectedAtRun (t : State) (code core : Nat) (hw : Bool) : Prop :=
  t.rd F.SCH_REJECT_valid = 1 ∧ t.rd F.SCH_REJECT_at_run = 1 ∧ t.rd F.SCH_REJECT_reason = code % 2 ^ 8 ∧ t.rd F.SCH_REJECT_core = core % 2 ^ 8 ∧
  t.rd F.SCH_REJECT_wing = bit hw

/-- The allocation request that a segment of wing `hw` of core `n` makes (R214). -/
def requestOf (s : State) (n : Nat) (hw : Bool) (ws : List Nat) (units : Nat) : CocoonReq :=
  { core := n, hw := hw, mb := segMb ws, entry := segEntry ws, units := units,
    keep := bitAt (s.entryWord (segMb ws) (segEntry ws) 0) 39 && !(segKind ws != 1), backward := segKind ws != 1, since := s.tick }

end Sys2Proof.Machine

/-- MB_ADMIT, when R212 allows it, admits the next micro-batch: its number and the number in flight rise, it reserves keep_est and its forward
pass starts now. A pass past its deadline becomes overdue, and past its hard limit stalled; the first late pass is kept in SCH_LATE. -/
def Obligations.AdmissionAndDeadlines : Prop :=
  (∀ s : State, s.mayAdmit = true → let m := s.rd F.SCH_ADMIT_next
    ∃ u, exec .mbAdmit s = .next u ∧ sameMemory s u ∧ u.rd F.SCH_ADMIT_next = (m + 1) % 2 ^ 13 ∧
      (∃ p, u.pass? m false = some p ∧ p.start = s.tick ∧ p.ended = s.noneLeft m false ∧ p.overdue = false ∧ p.stalled = false) ∧
      u.resvOf m = (if s.noneLeft m false then 0 else s.keepEst m) ∧ (∀ k, k ≠ m → u.resvOf k = s.resvOf k) ∧
      (s.noneLeft m false = false → u.rd F.SCH_ADMIT_in_flight = (s.rd F.SCH_ADMIT_in_flight + 1) % 2 ^ 13) ∧
      (∀ c, u.counter c = s.counter c) ∧ u.step = s.step) ∧
  (∀ (s : State) (m : Nat) (b : Bool) (p : Pass), s.alive = true → s.pass? m b = some p → p.ended = false →
    (p.overdue = false → s.past (s.mbDeadline p.start (s.expect m b)) = true → ∃ t, exec (.mbDeadlineExpiry m b) s = .next t ∧ sameMemory s t ∧
      t.pass? m b = some { p with overdue := true } ∧ t.rd F.SCH_LATE_valid = 1 ∧
      (s.isSet F.SCH_LATE_valid = false → t.rd F.SCH_LATE_hard = 0 ∧ t.rd F.SCH_LATE_phase = bit b ∧
        t.rd F.SCH_LATE_micro_batch = m % 2 ^ 12 ∧ t.rd F.SCH_LATE_expected_ms = s.expect m b / 100000 % 2 ^ 32) ∧
      (s.isSet F.SCH_LATE_valid = true → t.rd F.SCH_LATE_micro_batch = s.rd F.SCH_LATE_micro_batch)) ∧
    (p.stalled = false → s.past (s.mbHard p.start (s.expect m b)) = true → ∃ t, exec (.mbHardLimitExpiry m b) s = .next t ∧ sameMemory s t ∧
      t.pass? m b = some { p with stalled := true } ∧ t.rd F.SCH_LATE_valid = 1 ∧
      (s.isSet F.SCH_LATE_valid = false → t.rd F.SCH_LATE_hard = 1 ∧ t.rd F.SCH_LATE_micro_batch = m % 2 ^ 12)))

/-- A head segment whose conditions hold starts with its descriptor and its lists as they were read, its private counters at zero, and one that
fails its checks is rejected, the first of an attempt only; epilogue entries act in order once the work is done (an ADD with nothing of its
issuer before it at once, R192); a finished segment completes, and its wing moves to the next, the step going on to CHECKING after the last. -/
def Obligations.SegmentsStartAndComplete : Prop :=
  (∀ (s u : State) (n : Nat) (hw : Bool) (w : SegWork), s.headSeg n hw = some w → let ws := w.words
    (w.code = 0 → s.readyForAlloc n hw ws = (u, true) → u.needsAlloc ws = false →
      ∃ t r, exec (.segmentStart n hw) s = .next t ∧ (t.wing n hw).run = some r ∧ r.words = ws ∧ r.skip = s.skips ws ∧
        r.tiles = w.tiles ∧ r.launches = w.launches ∧ r.rows = w.rows ∧ r.epilogue = w.epilogue ∧ (t.wing n hw).idx = (s.wing n hw).idx ∧
        (s.skips ws = false → ∀ k, k < (segPriv ws).2 → t.counter ((segPriv ws).1 + k) = 0)) ∧
    (w.code ≠ 0 → s.sched.segFailed = false → ∃ t, exec (.segmentStart n hw) s = .next t ∧ rejectedAtRun t w.code n hw ∧
      votesFail s t 1 true) ∧
    (w.code ≠ 0 → s.sched.segFailed = true → exec (.segmentStart n hw) s = .next s)) ∧
  (∀ (s : State) (n : Nat) (hw : Bool) (r : RunSeg), (s.wing n hw).run = some r → s.alive = true → s.coreWorks n = true →
    r.workDone = true → r.epi < (segEpi r.words).1 → r.epiBusy = false →
    let ws := r.epilogue.getD r.epi []
    (cmdOp ws = 2 → (addTarget ws).2.1 = 0 → s.ops = [] → nothingBefore s (.epilogue n hw) → ∃ t q, exec (.epilogueEntry n hw) s = .next t ∧ sameMemory s t ∧
      (∀ c, t.counter c = if c = (addTarget ws).1 then (s.counter c + wd ws 2) % 2 ^ 64 else s.counter c) ∧
      (t.wing n hw).run = some q ∧ q.words = r.words ∧ q.epi = r.epi + 1 ∧ q.epiStarted = true) ∧
    (r.skip = true → cmdOp ws ≠ 2 → ∃ t, exec (.epilogueEntry n hw) s = .next t ∧ sameMemory s t ∧
      (t.wing n hw).run = some { r with epi := r.epi + 1, epiStarted := true } ∧ (∀ c, t.counter c = s.counter c)) ∧
    (r.skip = false → cmdOp ws = 6 → s.inHeap (fld (wd ws 2) 47 0) 64 = true → let d := s.loadWords (fld (wd ws 2) 47 0) 8
      s.xferBad false d = false →
      ∃ t, exec (.epilogueEntry n hw) s = .next t ∧ sameMemory s t ∧
        (t.wing n hw).run = some { r with epiBusy := true, epiStarted := true } ∧
        ∃ y ∈ t.xfers, y.owner = .epilogue n hw ∧ y.words = d) ∧
    (r.skip = false → cmdOp ws ≠ 1 → cmdOp ws ≠ 2 → cmdOp ws ≠ 6 → ∃ t, exec (.epilogueEntry n hw) s = .next t ∧
      rejectedAtRun t 0x0C n hw ∧ votesFail s t 1 false)) ∧
  (∀ (s : State) (n : Nat) (hw : Bool) (r : RunSeg), (s.wing n hw).run = some r → s.alive = true → s.working = true → r.canary = none →
    r.workDone = true → (segEpi r.words).1 ≤ r.epi →
    ∃ t : State, exec (.segmentComplete n hw) s = .next t.toChecking ∧ (t.wing n hw).run = none ∧ (t.wing n hw).idx = (s.wing n hw).idx + 1 ∧
      t.rdAt (if hw then F.SCH_SEGS_hw_done else F.SCH_SEGS_fw_done) (s.phys n) =
        (s.rdAt (if hw then F.SCH_SEGS_hw_done else F.SCH_SEGS_fw_done) (s.phys n) + 1) % 2 ^ 32)

/-- A request that can be granted takes the lowest run that fits and its base word is written; a RECOMPUTE request that cannot is not stored;
a KEEP request that cannot, or one behind another, waits; a request with a bad size is rejected. A waiting request that can be served leaves
the queue, entries evicted for one that cannot stay evicted, and one that has waited too long fails the step. A stand-in takes a suspect core's
place with its configuration; without a spare the step fails and the job is held (R14). -/
def Obligations.CocoonRequestsAndStandins : Prop :=
  (∀ (s u : State) (n : Nat) (hw : Bool) (w : SegWork), s.headSeg n hw = some w → w.code = 0 → let ws := w.words
    s.readyForAlloc n hw ws = (u, true) → u.needsAlloc ws = true →
    (u.sched.waiting.any (fun q => q.mb == segMb ws && q.entry == segEntry ws)) = false →
    (u.entrySize (segMb ws) (segEntry ws) = none → u.sched.segFailed = false → ∃ t, exec (.cocoonAllocRequest n hw) s = .next t ∧ rejectedAtRun t 0x0B n hw) ∧
    (∀ units, u.entrySize (segMb ws) (segEntry ws) = some units → let q := requestOf u n hw ws units
      let behind := if q.backward then bwWaiting u else fwWaiting u
      (∀ first, behind = false → u.lowestRun units = some first →
        units ≤ (if q.keep && !q.backward then u.resvOf q.mb + u.unreserved else u.unreserved) →
        ∃ t c, exec (.cocoonAllocRequest n hw) s = .next t ∧ t.cocoonEntry q.mb q.entry = some c ∧ c.stored = true ∧ c.first = first ∧
          c.units = units ∧ t.rd F.SCH_COCOON_free = (u.rd F.SCH_COCOON_free - units) % 2 ^ 24 ∧
          (u.baseWord q.mb q.entry + 8 ≤ 0xB800000000 →
            t.loadN (u.baseWord q.mb q.entry) 8 = leBytes 8 (u.regionBase 6 + first * unit64K))) ∧
      (behind = false → q.backward = false → q.keep = false →
        (u.lowestRun units = none ∨ u.unreserved < units) →
        ∃ t c, exec (.cocoonAllocRequest n hw) s = .next t ∧ t.cocoonEntry q.mb q.entry = some c ∧ c.stored = false ∧
          t.sched.waiting = u.sched.waiting ∧
          t.rd F.SCH_COCOON_EVENTS_not_stored = min (u.rd F.SCH_COCOON_EVENTS_not_stored + 1) (2 ^ 32 - 1)) ∧
      (behind = true → ∃ t, exec (.cocoonAllocRequest n hw) s = .next t ∧ t.sched.waiting = u.sched.waiting ++ [q] ∧ sameMemory s t ∧
        t.rd F.SCH_COCOON_EVENTS_stalls = min (u.rd F.SCH_COCOON_EVENTS_stalls + 1) (2 ^ 32 - 1)))) ∧
  (∀ (s u : State) (q : CocoonReq), s.serve q = (u, true) →
    (s.sched.waiting.find? (fun q => q.backward) = some q ∨
      (s.sched.waiting.find? (fun q => q.backward) = none ∧ s.sched.waiting.find? (fun q => !q.backward) = some q)) →
    ∃ t, exec .cocoonAllocGrant s = .next t ∧ t.sched.waiting = u.sched.waiting.erase q ∧ t.sched.entries = u.sched.entries ∧
      sameMemory u t) ∧
  (∀ (s u : State) (q : CocoonReq), s.serve q = (u, false) → s.sched.waiting.find? (fun q => q.backward) = none →
    s.sched.waiting.find? (fun q => !q.backward) = some q → exec .cocoonAllocGrant s = .next u) ∧
  (∀ (s : State) (n : Nat) (hw : Bool) (q : CocoonReq), s.alive = true →
    s.sched.waiting.find? (fun q => q.core == n && q.hw == hw) = some q →
    s.past (q.since + msTicks (s.rd F.SCH_COCOON_CTRL_stall_limit_ms)) = true →
    ∃ t, exec (.cocoonStallTimeout n hw) s = .next t ∧ votesFail s t 9 true) ∧
  (∀ (s : State) (n p : Nat) (ps : List Nat), s.alive = true → s.sched.fenced.contains n = true → s.suspect n = true →
    s.abandonedXfers n = false → s.spares (quadOf n) = p :: ps →
    ∃ t, exec (.standinTakeover n) s = .next t ∧ t.phys n = p ∧ n ∉ t.sched.fenced ∧
      (∀ f ∈ coreConfig, f ≠ F.SCH_RERUNS_reruns → t.rdAt f p = s.rdAt f (s.phys n)) ∧
      t.rdAt F.SCH_RERUNS_reruns p = min (s.rdAt F.SCH_RERUNS_reruns (s.phys n) +
        (bit (s.wing n false).abandoned + bit (s.wing n true).abandoned)) (2 ^ F.SCH_RERUNS_reruns.width - 1)) ∧
  (∀ (s : State) (n : Nat), s.alive = true → s.sched.fenced.contains n = true → s.suspect n = true → s.abandonedXfers n = false →
    s.takeSpare (quadOf n) = none → s.working = true → ∃ t, exec (.standinTakeover n) s = .next t ∧ votesFail s t 1 true)

/-- ARBITER_GRANT starts a tile of the wing whose turn it is, REQUANT descriptors having left for their prepasses; a prepass done lets its
descriptor run; a mismatch is recorded and by policy
only noted, retried, or makes the core suspect; a restart computes the tile again; an injected mismatch waits for the next tile start; a
written tile leaves the array and its last tile completes the descriptor. -/
def Obligations.ArrayTiles : Prop :=
  (∀ (s : State) (n : Nat) (hw : Bool) (w : WingDesc), s.arrayRuns n = true → s.isSetAt F.ARR_CTRL_inject_mismatch (s.phys n) = false →
    let u := (s.startPrepass n false).startPrepass n true
    let k := sget 0 s.sched.arb n
    u.wingReady n hw = true → (s.arrAt (s.phys n)).wing hw = some w → w.prepass = false →
    (u.wingReady n (!hw) = true → hw = !(decide (k < s.rdAt F.SCH_CTRL_fw_share (s.phys n)))) →
    ∃ t, exec (.arbiterGrant n) s = .next t ∧ sameMemory u t ∧
      t.rdAt (if hw then F.SCH_TILES_hw_tiles else F.SCH_TILES_fw_tiles) (s.phys n) =
        (s.rdAt (if hw then F.SCH_TILES_hw_tiles else F.SCH_TILES_fw_tiles) (s.phys n) + 1) % 2 ^ 32 ∧
      (u.wingReady n (!hw) = true → sget 0 t.sched.arb n = (k + 1) % 16) ∧
      (t.arrAt (s.phys n)).wing hw = (if w.nextTile + 1 < tdM w.words * tdN w.words then some { w with nextTile := w.nextTile + 1 } else none)) ∧
  (∀ (s : State) (n : Nat) (hw : Bool) (d : List Nat) (ds : List (List Nat)), s.arrayRuns n = true →
    let u := (s.startPrepass n false).startPrepass n true
    u.wingReady n hw = true → u.wingReady n (!hw) = false → (u.arrAt (s.phys n)).wing hw = none → u.wingQueue n hw = d :: ds →
    ∀ c, (u.setWingQueue n hw ds).descCode n d ((u.arrAt (s.phys n)).held hw) = c → c ≠ 0 →
    ∃ t, exec (.arbiterGrant n) s = .next t ∧ t.rdAt F.ARR_REJECT_valid (s.phys n) = 1 ∧ t.rdAt F.ARR_REJECT_reason (s.phys n) = c % 2 ^ 8 ∧
      t.rdAt F.ARR_REJECT_wing (s.phys n) = bit hw ∧ votesFail u t 1 true) ∧
  (∀ (s : State) (n : Nat) (hw : Bool) (w : WingDesc), s.arrayWorks n = true → (s.arrAt (s.phys n)).wing hw = some w → w.prepass = true →
    ∃ t, exec (.requantPrepassDone n hw) s = .next t ∧ (t.arrAt (s.phys n)).wing hw = some { w with prepass := false } ∧
      (∀ a, t.peek a = ((s.requant n w.words false).requant n w.words true).peek a)) ∧
  (∀ (s : State) (n k : Nat) (x : Tile), s.alive = true → s.coreWorks n = true → 0 < k % 16 →
    (s.arrAt (s.phys n)).running = some x →
    ∃ t, exec (.checkMismatch n k) s = .next t ∧ t.rdAt F.ARR_CHK_LAST_valid (s.phys n) = 1 ∧
      t.rdAt F.ARR_CHK_LAST_m_block (s.phys n) = x.m % 2 ^ 12 ∧ t.rdAt F.ARR_CHK_LAST_n_block (s.phys n) = x.n % 2 ^ 12 ∧
      t.rdAt F.ARR_CHK_STATUS_last_row (s.phys n) = fld k 0 0 ∧ t.rdAt F.ARR_CHK_STATUS_last_col (s.phys n) = fld k 1 1 ∧
      t.rdAt F.ARR_CHK_STATUS_last_corner (s.phys n) = fld k 2 2 ∧ t.rdAt F.ARR_CHK_STATUS_last_acc (s.phys n) = fld k 3 3 ∧
      (tdPolicy x.words = 2 → t.arr = s.arr) ∧
      (tdPolicy x.words = 0 → x.retry = false → (t.arrAt (s.phys n)).retry = true) ∧
      (tdPolicy x.words ≠ 2 → ¬(tdPolicy x.words = 0 ∧ x.retry = false) → t.suspect n = true)) ∧
  (∀ (s : State) (n : Nat) (x : Tile), s.alive = true → s.coreWorks n = true → s.isSetAt F.ARR_CTRL_inject_mismatch (s.phys n) = false →
    (s.arrAt (s.phys n)).retry = true → (s.arrAt (s.phys n)).tiles = [x] → x.void = true → x.empty = false →
    ∃ t, exec (.retryRestart n) s = .next t ∧ (t.arrAt (s.phys n)).tiles = [s.compute n { x with void := false, retry := true }] ∧
      sameMemory s t) ∧
  (∀ (s : State) (n : Nat), s.alive = true → n < 256 → ∃ t, exec (.injectMismatch n) s = .next t ∧
    t.rdAt F.ARR_CTRL_inject_mismatch (s.phys n) = 1 ∧ sameRegsBut [F.ARR_CTRL_inject_mismatch.key (s.phys n)] s t ∧ sameMemory s t) ∧
  (∀ (s : State) (n : Nat) (hw : Bool) (x : Tile), s.alive = true → s.coreWorks n = true → (s.arrAt (s.phys n)).oldest hw = some x →
    x.void = false → x.empty = false → x.retry = false → tdDest x.words = 0 →
    ∃ t, exec (.tileComplete n hw) s = .next t ∧ (t.arrAt (s.phys n)).tiles = (s.arrAt (s.phys n)).tiles.erase x ∧
      (∀ a, t.peek a = (s.tileToStore n x).1.peek a))

/-- A tile for the row engine whose context is in order is taken, or is rejected by code; a pass over the last row blocks of a complete chunk ends
it, and one over some of them leaves the rest to a later pass; a merged tile
frees the merge unit; ROW_CMD_START starts a context's records; ROW_CMD_RUN finishes its context; a finished context is published in
ROW_CTX_FLAGS; a flush empties an idle engine's cache. -/
def Obligations.RowEngine : Prop :=
  (∀ (s : State) (n : Nat) (hw : Bool) (x : Tile), s.alive = true → s.coreWorks n = true → (s.arrAt (s.phys n)).oldest hw = some x →
    x.void = false → x.taken = false → tdDest x.words = 1 → (s.rowAt (s.phys n)).stopped = false →
    (s.ctxWords n (tdRowCtx x.words) = none → ∃ t, exec (.rowTileAccept n hw) s = .next t ∧ t.rdAt F.ROW_REJECT_valid (s.phys n) = 1 ∧
      t.rdAt F.ROW_REJECT_reason (s.phys n) = (if tdOutCode x.words ≠ 0 ∨ tdDual x.words = true then 2 else 4) ∧ t.rdAt F.ROW_REJECT_source (s.phys n) = bit hw ∧ votesFail s t 1 true) ∧
    (∀ c u v, s.ctxWords n (tdRowCtx x.words) = some c → s.poisonAt ((s.ctxAddr n (tdRowCtx x.words)).getD 0) = false →
      u = s.cacheCtx n (tdRowCtx x.words) c → u.ctxCode n c = 0 → tdOutCode x.words = 0 → tdDual x.words = false →
      tdM x.words = rcM c → tdN x.words = rcN c → rcTileFed c = true → (u.rowAt (s.phys n)).hasStart c = true →
      u.acceptTile n (tdRowCtx x.words) hw c (tdExtents x.words) (u.rowTile n x) = some v → (v.rowAt (s.phys n)).stopped = false →
      ∃ t, exec (.rowTileAccept n hw) s = .next t ∧ t.rowAt (s.phys n) = v.rowAt (s.phys n) ∧
        (t.arrAt (s.phys n)).tiles = (v.arrAt (s.phys n)).tiles.map (fun y => if y = x then { y with taken := true } else y))) ∧
  (∀ (s : State) (n i : Nat) (k : RowChunk), s.alive = true → s.coreWorks n = true → (s.rowAt (s.phys n)).stopped = false →
    ((s.rowAt (s.phys n)).chunks.find? (fun k => k.ctx == i && k.whole && !k.rest.isEmpty)) = some k → s.passable n k = k.rest →
    rcOp k.words ≠ 4 → k ∉ (s.rowAt (s.phys n)).chunks.erase k →
    ∃ t f, exec (.softmaxExpPass n i) s = .next t ∧ (t.rowAt (s.phys n)).chunks.Perm ((s.rowAt (s.phys n)).chunks.erase k) ∧
      (t.rowAt (s.phys n)).finished = (s.rowAt (s.phys n)).finished ++ [{ ctx := k.ctx, words := k.words, flags := f, feed := 0 }]) ∧
  (∀ (s : State) (n i : Nat) (k : RowChunk), s.alive = true → s.coreWorks n = true → (s.rowAt (s.phys n)).stopped = false →
    ((s.rowAt (s.phys n)).chunks.find? (fun k => k.ctx == i && k.whole && !k.rest.isEmpty)) = some k → s.passable n k ≠ [] →
    k.passed.length + (s.passable n k).length < rcM k.words → ∃ t, exec (.softmaxExpPass n i) s = .next t ∧
      (∃ c ∈ (t.rowAt (s.phys n)).chunks, c.ctx = k.ctx ∧ c.words = k.words ∧ c.tiles = k.tiles ∧ c.passed = k.passed ++ s.passable n k) ∧
      (t.rowAt (s.phys n)).finished = (s.rowAt (s.phys n)).finished) ∧
  (∀ (s : State) (n : Nat) (q : RowMerge), s.alive = true → s.coreWorks n = true → (s.rowAt (s.phys n)).stopped = false →
    (s.rowAt (s.phys n)).merge = some q →
    hdrScored (recordHeader s n q.words q.tile.m) ≠ hdrMerged (recordHeader s n q.words q.tile.m) →
    ∃ t, exec (.attnMergeTile n) s = .next t ∧ (t.rowAt (s.phys n)).merge = none ∧
      (t.rowAt (s.phys n)).chunks = (s.rowAt (s.phys n)).chunks) ∧
  (∀ (s : State) (n : Nat) (it : Item) (is : List Item) (c : List Nat), s.alive = true → s.coreWorks n = true → n < 256 →
    let p := s.phys n
    let q := s.rdAt F.ROW_CTRL_cmd_queue p
    let i := fld (wd (bytesWords it.data) 0) 59 48
    s.mayPop n q = true → s.visible q = true → (s.rowAt p).stopped = false → s.coreServed n = true →
    (s.queue q).items = it :: is → it.poison = false → s.ctxWords n i = some c → s.poisonAt ((s.ctxAddr n i).getD 0) = false →
    (s.rowAt p).idleFor i = true →
    let t0 := (s.popFront q).2.cacheCtx n i c
    t0.ctxCode n c = 0 →
    (fld (wd (bytesWords it.data) 0) 63 60 = 1 → ∃ t, exec (.rowCmdStart n) s = .next t ∧
      (∀ m, m < rcM c → rcRecord c m ∈ (t.rowAt p).started) ∧ (∀ a, t.peek a = (t0.rowStart n c).peek a)) ∧
    (fld (wd (bytesWords it.data) 0) 63 60 = 2 → rcTileFed c = false → (t0.rowAt p).hasStart c = true →
      ∃ t f, exec (.rowCmdRun n) s = .next t ∧ (∀ a, t.peek a = (t0.runOp n c).1.peek a) ∧
        (t.rowAt p).finished = ((t0.runOp n c).1.rowAt p).finished ++ [{ ctx := i, words := c, flags := f, feed := it.feed, run := true }])) ∧
  (∀ (s : State) (n : Nat) (d : RowDone) (ds : List RowDone), s.alive = true → s.coreWorks n = true →
    (s.rowAt (s.phys n)).finished = d :: ds →
    ∃ t, exec (.rowContextComplete n) s = .next t ∧ sameMemory s t ∧ (t.rowAt (s.phys n)).finished = ds ∧
      t.rdAt F.ROW_CTX_FLAGS_ctx_done (s.phys n) = (s.rdAt F.ROW_CTX_FLAGS_ctx_done (s.phys n) + 1) % 2 ^ 32 ∧
      t.rdAt F.ROW_CTX_FLAGS_ctx (s.phys n) = d.ctx % 2 ^ 12 ∧ t.rdAt F.ROW_CTX_FLAGS_flags (s.phys n) = d.flags.bits3 % 2 ^ 3 ∧
      (∀ c, t.counter c = if bitAt (wd d.words 0) 33 = true ∧ c = fld (wd d.words 7) 23 7 then (s.counter c + 1) % 2 ^ 64 else s.counter c)) ∧
  (∀ (s : State) (n : Nat), s.alive = true → n < 256 → ∃ t, exec (.rowFlushCtx n) s = .next t ∧ sameMemory s t ∧
    ((s.rowAt (s.phys n)).idle = true → (t.rowAt (s.phys n)).cache = [] ∧ t.rdAt F.ROW_CTRL_flush_ctx (s.phys n) = 0) ∧
    ((s.rowAt (s.phys n)).idle = false → t.rowAt (s.phys n) = s.rowAt (s.phys n) ∧ t.rdAt F.ROW_CTRL_flush_ctx (s.phys n) = 1))

namespace Sys2Proof.Machine

/-- Microcode operations of two sources and of one, with what they compute (R239). -/
def ucForms2 : List ((Nat → Nat → Nat → Instr) × (Nat → Nat → Nat × Flags)) :=
  [(.ucAdd, fadd), (.ucSub, fsub), (.ucMul, fmul), (.ucDiv, fdiv), (.ucMax, fmax), (.ucMin, fmin)]
def ucForms1 : List ((Nat → Nat → Instr) × (Nat → Nat × Flags)) := [(.ucSqrt, fsqrt), (.ucAbs, fabs), (.ucNeg, fneg), (.ucSign, fsign)]

/-- The update engines' flags gather those of an operation (R239), and nothing else of memory or of another register changes. -/
def ucGathers (s t : State) (f : Flags) (more : List Nat := []) : Prop :=
  t.rd F.UPD_FLAGS_nv = max (s.rd F.UPD_FLAGS_nv) (bit f.nv) ∧ t.rd F.UPD_FLAGS_of = max (s.rd F.UPD_FLAGS_of) (bit f.of) ∧
  t.rd F.UPD_FLAGS_uf = max (s.rd F.UPD_FLAGS_uf) (bit f.uf) ∧ sameMemory s t ∧
  sameRegsBut (more ++ [F.UPD_FLAGS_nv.key 0, F.UPD_FLAGS_of.key 0, F.UPD_FLAGS_uf.key 0]) s t

/-- A table operation runs on the parameter in hand: its stripe may be run now, and no granule of it is poisoned (R234 to R240). -/
def ucMayRun (s : State) (u : UcSt) : Prop :=
  u = s.ucHere ∧ s.ucRuns u = true ∧ s.firstPoison (s.stripeAddr s.bank (s.ucEntry u) (u.index / 2048)) (stripeSize (s.ucEntry u)) = none

end Sys2Proof.Machine

/-- PATROL_SCRUB counts a corrected granule in its stack and poisons one that cannot be corrected, or that is another location's, and the scrub
moves on, a demand read's find leaving it where it is; a pattern of 6 or more symbols near another codeword counts as corrected. SRAM_SCRUB counts
or poisons; MEM_CE_HOURLY takes the new counts and notes the stacks past the threshold; IMBALANCE_WINDOW counts, once a window, the hot windows of
each pseudo-channel and shows one that has been hot for long enough. -/
def Obligations.ScrubAndMonitors : Prop :=
  (∀ (s : State) (c : CodeCheck) (a : Nat), s.alive = true → s.mode ≠ .dormant → s.isSet F.MEM_CTRL_scrub_enable = true →
    s.mem.scrubAt < hbmGranules → (∀ b, c.demand = some b → b < 0xC000000000 ∧ a = b / 64 * 64) → (c.demand = none → a = scrubAddr s.mem.scrubAt) →
    ∃ t, exec (.patrolScrub c) s = .next t ∧
      t.mem.scrubAt = (if c.demand.isSome then s.mem.scrubAt else if s.mem.scrubAt + 1 < hbmGranules then s.mem.scrubAt + 1 else 0) ∧
      (c.moved = false → c.symbols = 0 → sameMemory s t ∧ ∀ k, t.rdAt F.MEM_CE_COUNT_count k = s.rdAt F.MEM_CE_COUNT_count k) ∧
      (c.moved = false → 1 ≤ c.symbols → c.symbols ≤ 3 → sameMemory s t ∧ t.poisonAt a = s.poisonAt a) ∧
      (c.moved = false → (1 ≤ c.symbols ∧ c.symbols ≤ 3) ∨ (6 ≤ c.symbols ∧ c.other = true) →
        t.rdAt F.MEM_CE_COUNT_count (s.stackOf a) = (s.rdAt F.MEM_CE_COUNT_count (s.stackOf a) + 1) % 2 ^ F.MEM_CE_COUNT_count.width ∧
        ∀ b, (b < a ∨ a + 64 ≤ b) → t.peek b = s.peek b) ∧
      (c.moved = true ∨ (4 ≤ c.symbols ∧ ¬(6 ≤ c.symbols ∧ c.other = true)) → t.poisonAt a = true ∧
        (s.poisonAt a = false → t.rdAt F.MEM_UE_COUNT_count (s.stackOf a) =
          (s.rdAt F.MEM_UE_COUNT_count (s.stackOf a) + 1) % 2 ^ F.MEM_UE_COUNT_count.width))) ∧
  (∀ (s : State) (n off : Nat) (oc c u : Bool), s.alive = true → n < 272 → ∃ t, exec (.sramScrub n oc c u off) s = .next t ∧ sameMemory s t ∧
    (c = true → oc = true → t.rd F.MEM_SRAM_CE_operand_cache =
      min (s.rd F.MEM_SRAM_CE_operand_cache + 1) (2 ^ F.MEM_SRAM_CE_operand_cache.width - 1)) ∧
    (c = true → oc = false → t.rd F.MEM_SRAM_CE_tile_store = min (s.rd F.MEM_SRAM_CE_tile_store + 1) (2 ^ F.MEM_SRAM_CE_tile_store.width - 1)) ∧
    (u = true → oc = true → sget false t.mem.ocPoison ((n * 0x80000 + off % 0x80000) / 64) = true) ∧
    (u = true → oc = false → sget false t.mem.tilePoison (tileUnit n (off % 0x400000)) = true) ∧
    (u = false → t.mem.ocPoison = s.mem.ocPoison ∧ t.mem.tilePoison = s.mem.tilePoison)) ∧
  (∀ s : State, s.alive = true → s.mem.ceHourNo < s.tick / hourTicks → ∃ t, exec .memCeHourly s = .next t ∧
    t.mem.ceHourNo = s.tick / hourTicks ∧ (∀ k, k < 12 → sget 0 t.mem.ceHour k = s.rdAt F.MEM_CE_COUNT_count k) ∧
    (∀ k, k < 12 → s.job.active = true →
      s.rd F.MEM_CE_THRESH_per_hour < s.rdAt F.MEM_CE_COUNT_count k - sget 0 s.mem.ceHour k → k ∈ t.mem.ceRaised)) ∧
  (∀ (s : State) (ds : List Nat), s.alive = true → s.job.active = true → s.isSet F.MEM_IMB_CTRL_enable = true → ds.length = 768 →
    (s.tick / msTicks 100 ≤ s.mem.imbWindow → exec (.imbalanceWindow ds) s = .next s) ∧ (s.mem.imbWindow < s.tick / msTicks 100 →
    ∃ t, exec (.imbalanceWindow ds) s = .next t ∧ sameMemory s t ∧ t.mem.imbWindow = s.tick / msTicks 100 ∧
      (∀ p, p < 768 → sget 0 t.mem.hot p =
        (if channelHot (s.rd F.MEM_IMB_CTRL_factor) (imbMean ds) (ds.getD p 0) = true then sget 0 s.mem.hot p + 1 else 0)) ∧
      (∀ p, p < 768 → 0 < sget 0 t.mem.hot p → 10 * s.rd F.MEM_IMB_CTRL_duration_s ≤ sget 0 t.mem.hot p →
        t.rd F.MEM_IMB_STATUS_valid = 1)))

/-- A clean refetch reply rewrites the poisoned granule and nothing else, and one that is not awaited any more leaves memory alone; a partner's
request is answered with the granule where the instar it names is the one held; a poisoned read of the carve-out is recorded, and one that the
control complex cannot contain fails the module; a resident range is written only with no step open and
whole. -/
def Obligations.RefetchesAndResidents : Prop :=
  (∀ (s : State) (g : Nat) (bs : List Byte) (r : Refetch), s.alive = true → s.regionOf g = s.bank → s.chrys.writer = none → g % 64 = 0 →
    g + 64 ≤ 0xB800000000 → bs.length = 64 →
    s.mem.refetches.find? (fun r => r.granule == g && r.resend == false && r.instar == s.instar) = some r →
    ∃ t, exec (.refetchReply g s.instar bs false) s = .next t ∧ t.mem.refetches = s.mem.refetches.erase r ∧
      (s.poisonAt g = true → s.inRegion s.bank g 64 = true → t.loadN g 64 = bs ∧ t.poisonAt g = false ∧
        (∀ a, (a < g ∨ g + 64 ≤ a) → t.peek a = s.peek a) ∧
        t.rd F.MEM_POISON_COUNT_refetches = min (s.rd F.MEM_POISON_COUNT_refetches + 1) (2 ^ F.MEM_POISON_COUNT_refetches.width - 1)) ∧
      (s.poisonAt g = false → sameMemory s t)) ∧
  (∀ (s : State) (a k : Nat), s.heldInstar a false ≠ k → exec (.resendRequest a k s.partner) s = .next s) ∧
  (∀ (s : State) (a : Nat), s.alive = true → s.job.active = true → s.regionOf a < 2 → (s.regionOf a ≠ s.bank ∨ s.poisonAt a = false) →
    ∃ t, exec (.resendRequest a (s.heldInstar a false) s.partner) s = .next t ∧ sameMemory s t ∧
      onItsWay t s.partner false (fun f => f.type = .readData ∧ f.dstAddr = 2 ^ 47 + 2 ^ 45 + a ∧ f.payload = s.loadN a 64)) ∧
  (∀ (s : State) (a b : Nat) (held : Bool), place a = .carve b → s.powered = true → s.poisonAt a = true →
    ∃ t, exec (.carveOutPoisonRead ⟨a, held⟩) s = .next t ∧ t.mode = (if held then s.mode else .failed) ∧ sameMemory s t ∧ t.rd F.MEM_POISON_LAST_valid = 1 ∧
      (s.isSet F.MEM_POISON_LAST_valid = false → t.rd F.MEM_POISON_LAST_point = 8 ∧ t.rd F.MEM_POISON_LAST_address = a / 64 * 64) ∧
      t.rd F.MEM_POISON_COUNT_consumed = min (s.rd F.MEM_POISON_COUNT_consumed + 1) (2 ^ F.MEM_POISON_COUNT_consumed.width - 1)) ∧
  (∀ (s : State) (i v : Nat), s.alive = true →
    (s.stepOpen = true ∨ 1024 ≤ i → exec (.tsResidentWrite i v) s = .next s) ∧
    (bitAt v 0 = true → (3968 < fld v 63 52 + fld v 51 40 ∨ 4096 < fld v 39 28 + fld v 27 15) → exec (.tsResidentWrite i v) s = .next s) ∧
    (s.stepOpen = false → i < 1024 → (bitAt v 0 = true → fld v 63 52 + fld v 51 40 ≤ 3968 ∧ fld v 39 28 + fld v 27 15 ≤ 4096) →
      ∃ t, exec (.tsResidentWrite i v) s = .next t ∧ sameMemory s t ∧ t.rdAt F.MEM_TS_RESIDENT_slot_first i = fld v 63 52 ∧
        t.rdAt F.MEM_TS_RESIDENT_slot_count i = fld v 51 40 ∧ t.rdAt F.MEM_TS_RESIDENT_entry_first i = fld v 39 28 ∧
        t.rdAt F.MEM_TS_RESIDENT_entry_count i = fld v 27 15 ∧ t.rdAt F.MEM_TS_RESIDENT_valid i = fld v 0 0))

/-- A stripe or a factor pass that may run is written once and counted; a first disagreement of a pair reruns it, a second takes the engine
out of service; the header's bytes go to the incoming bank; a copy pass brings over a stripe or factor vectors, and compares its pair too;
regeneration, once a table is in force and the job's first STEP_RUN has come, clears what was due, unless its pairs leave the module without two
engines; tables and images load with no step open, or are rejected. -/
def Obligations.UpdateEnginePasses : Prop :=
  (∀ (s : State) (q g ei : Nat) (e : List Nat) (k : Nat), s.stripeAt g = some (ei, e, k) → s.updating = true → s.upd.copying = false →
    s.engineUp q = true → s.engineOf g = q → s.stripeDone g = false → s.gradReady ei k = true → s.nextOf q g = true →
    s.firstPoison (s.stripeAddr s.bank e k) (stripeSize e) = none → s.fencedAt s.incoming (ueOff e + k * stripeSize e) (stripeSize e) = false →
    (∃ t, exec (.stripeUpdate q g false) s = .next t ∧ t.stripeDone g = true ∧ (∀ x, x ≠ g → t.stripeDone x = s.stripeDone x) ∧
      t.rd F.UPD_STATUS_stripes_done = (s.rd F.UPD_STATUS_stripes_done + 1) % 2 ^ F.UPD_STATUS_stripes_done.width ∧
      t.rd F.UPD_PARAMS_count = (s.rd F.UPD_PARAMS_count + min 2048 (ueCount e - 2048 * k)) % 2 ^ F.UPD_PARAMS_count.width) ∧
    (sget false s.upd.rerun (stripeKey ei k) = false → ∃ t, exec (.stripeUpdate q g true) s = .next t ∧ sameMemory s t ∧
      t.stripeDone g = false ∧ sget false t.upd.rerun (stripeKey ei k) = true ∧
      t.rdAt F.UPD_ENGINE_reruns q = min (s.rdAt F.UPD_ENGINE_reruns q + 1) (2 ^ F.UPD_ENGINE_reruns.width - 1)) ∧
    (sget false s.upd.rerun (stripeKey ei k) = true → ∃ t, exec (.stripeUpdate q g true) s = .next t ∧
      t.isSetAt F.UPD_ENGINE_in_service q = false ∧
      t.rdAt F.UPD_ENGINE_faults q = min (s.rdAt F.UPD_ENGINE_faults q + 1) (2 ^ F.UPD_ENGINE_faults.width - 1))) ∧
  (∀ (s : State) (ei : Nat), let e := s.upd.table.getD ei []
    s.updating = true → s.upd.copying = false → ei < s.upd.table.length → ueFactored e = true → s.factorDone ei = false → s.arrival = false →
    s.upd.normDone = true → s.upd.normOr = false → s.engineUp (s.engineOf (s.firstStripe ei)) = true →
    s.firstPoison (s.rowAddr s.bank e 0) (factorBytes e) = none →
    s.fencedAt s.incoming (ueOff e + rowFactorOff e) (factorBytes e) = false →
    ∃ t, exec (.factorPass ei false) s = .next t ∧ t.factorDone ei = true ∧ (∀ x, t.stripeDone x = s.stripeDone x) ∧ t.rd F.UPD_STATUS_phase = 4) ∧
  (∀ s : State, s.updating = true → s.headerDue = true → s.firstPoison (s.bankBase s.bank) 256 = none → s.headerFenced s.incoming = false →
    s.bankBase s.incoming + 256 ≤ 0xB800000000 →
    ∃ t, exec (.headerWrite false) s = .next t ∧ t.loadN (s.bankBase s.incoming) 256 = s.headerBytes) ∧
  (∀ (s : State) (g : Nat), s.updating = true → s.upd.copying = true →
    (∀ ei e k, s.stripeAt g = some (ei, e, k) → s.stripeDone g = false →
      s.fencedAt s.incoming (ueOff e + k * stripeSize e) (stripeSize e) = false →
      s.firstPoison (s.stripeAddr s.bank e k) (stripeSize e) = none →
      (∃ t, exec (.copyPass ⟨g, true⟩) s = .next t ∧ (sget false s.upd.rerun (stripeKey ei k) = false → sameMemory s t ∧
        t.stripeDone g = false ∧ sget false t.upd.rerun (stripeKey ei k) = true)) ∧
      ∃ t, exec (.copyPass ⟨g, false⟩) s = .next t ∧ t.stripeDone g = true ∧
        t.rd F.UPD_STATUS_stripes_done = (s.rd F.UPD_STATUS_stripes_done + 1) % 2 ^ F.UPD_STATUS_stripes_done.width) ∧
    (s.stripeAt g = none → let ei := g - s.shardStripes
      let e := s.upd.table.getD ei []
      ei < s.upd.table.length → ueFactored e = true → s.factorDone ei = false →
      s.fencedAt s.incoming (ueOff e + rowFactorOff e) (factorBytes e) = false → s.firstPoison (s.rowAddr s.bank e 0) (factorBytes e) = none →
      s.rowAddr s.incoming e 0 + factorBytes e ≤ 0xB800000000 →
      ∃ t, exec (.copyPass ⟨g, false⟩) s = .next t ∧ t.factorDone ei = true ∧
        ∀ k, k < factorBytes e → t.peek (s.rowAddr s.incoming e 0 + k) = s.peek (s.rowAddr s.bank e 0 + k))) ∧
  (∀ s : State, (s.regenMay = false → exec .regenerationPass s = .next s) ∧ (s.regenMay = true →
    (∀ p ∈ s.allWork, s.firstPoison (s.stripeAddr s.bank p.1.2 p.2) 8192 = none) →
    ∃ t, exec .regenerationPass s = .next t ∧ t.upd.table = s.upd.table ∧ t.step = s.step ∧ (t.alive = true → t.upd.regenDue = false))) ∧
  (∀ s : State, s.alive = true → (s.stepOpen = true → ∃ t, exec .loadTable s = .next t ∧ t.rd F.UPD_LOAD_load_table = 1 ∧ t.upd = s.upd) ∧
    (s.stepOpen = false → s.isSet F.UPD_LOAD_load_ucode = false → let u := (s.wr F.UPD_LOAD_load_table 1).wr F.UPD_LOAD_load_table 0
      let n := s.rd F.UPD_TABLE_count
      let a := s.rd F.UPD_TABLE_address
      let es := (List.range n).map (fun k => s.loadWords (a + 64 * k) 8)
      ∃ t, exec .loadTable s = .next t ∧ sameMemory s t ∧ t.rd F.UPD_LOAD_load_table = 0 ∧
        (u.tableBad (n, a) es = none → t.upd.table = es ∧ t.upd.place = (n, a) ∧ t.rd F.UPD_STATUS_table_loaded = 1) ∧
        (∀ c, u.tableBad (n, a) es = some c → t.upd = s.upd ∧ t.rd F.UPD_REJECT_valid = 1 ∧ t.rd F.UPD_REJECT_source = 0 ∧
          t.rd F.UPD_REJECT_reason = c.1 % 2 ^ F.UPD_REJECT_reason.width))) ∧
  (∀ s : State, s.alive = true → s.stepOpen = false → s.isSet F.UPD_LOAD_load_table = false →
    let a := s.rd F.UPD_UCODE_address
    ∃ t, exec .loadUcode s = .next t ∧ sameMemory s t ∧
      (s.inHeap a 320 = true → imgBad (s.loadWords a 40) = none → t.upd.image = s.loadWords a 40 ∧ t.rd F.UPD_STATUS_ucode_loaded = 1) ∧
      (s.inHeap a 320 = false ∨ imgBad (s.loadWords a 40) ≠ none → t.upd = s.upd ∧ t.rd F.UPD_REJECT_valid = 1 ∧ t.rd F.UPD_REJECT_source = 1 ∧
        t.rd F.UPD_REJECT_reason = 0x0B))

/-- Each microcode operation writes its result to rd (END ends the program, ST gives the destination its value in the stripe in hand), keeps every
other register of the program, gathers the flags of its arithmetic and changes no memory; a gradient read that is not finite makes the attempt
non-finite. The END of a stripe's last parameter writes the stripe with what its parameters stored. -/
def Obligations.MicrocodeOperations : Prop :=
  ∀ (s : State) (u : UcSt), ucMayRun s u → ∀ rd ra rb rc : Nat, rd < 16 → ra < 16 → rb < 16 → rc < 16 →
    (∀ f ∈ ucForms2, ∃ t, exec (f.1 rd ra rb) s = .next t ∧ t.upd = { s.upd with uc := u.setReg rd (f.2 (u.reg ra) (u.reg rb)).1 } ∧
      ucGathers s t (f.2 (u.reg ra) (u.reg rb)).2) ∧
    (∀ f ∈ ucForms1, ∃ t, exec (f.1 rd ra) s = .next t ∧ t.upd = { s.upd with uc := u.setReg rd (f.2 (u.reg ra)).1 } ∧
      ucGathers s t (f.2 (u.reg ra)).2) ∧
    (∃ t, exec (.ucFma rd ra rb rc) s = .next t ∧ t.upd = { s.upd with uc := u.setReg rd (ffma (u.reg ra) (u.reg rb) (u.reg rc)).1 } ∧
      ucGathers s t (ffma (u.reg ra) (u.reg rb) (u.reg rc)).2) ∧
    (s.ucLast u = false → ∃ t, exec .ucEnd s = .next t ∧ t.upd = { s.upd with uc := { u with ended := true } } ∧ ucGathers s t {}) ∧
    (s.ucLast u = true → let e := s.ucEntry u
      let k := u.index / 2048
      let o := s.stripeOut e k (u.past ++ [u.stores])
      ∃ t, exec .ucEnd s = .next t ∧ t.stripeDone (s.ucStripe u) = true ∧
        t.rd F.UPD_STATUS_stripes_done = (s.rd F.UPD_STATUS_stripes_done + 1) % 2 ^ F.UPD_STATUS_stripes_done.width ∧
        (∀ a, t.peek a = ((s.storeMarked (s.stripeAddr s.incoming e k) o.bytes).writeWork e s.incoming (2048 * k) o.work o.bad).peek a)) ∧
    (∀ sel, let e := s.upd.table.getD u.entry []
      (ucHasSource (ueLayout e) sel = true →
        ∃ t, exec (.ucLd rd sel) s = .next t ∧ t.upd = { s.upd with uc := u.setReg rd (s.ucSource e u.index sel).1 } ∧
          ucGathers s t (s.ucSource e u.index sel).2 (if sel = 0 then [F.UPD_STATUS_nonfinite.key 0] else []) ∧
          (sel = 0 → (s.gradVal e u.index).isFinite = false → t.rd F.UPD_STATUS_nonfinite = 1) ∧
          (sel = 0 → (s.gradVal e u.index).isFinite = true → t.rd F.UPD_STATUS_nonfinite = s.rd F.UPD_STATUS_nonfinite)) ∧
      (sel < 8 → ∃ t, exec (.ucLdk rd sel) s = .next t ∧ t.upd = { s.upd with uc := u.setReg rd (s.ucConst (ueSlot e) sel) } ∧
        ucGathers s t {}) ∧
      (ucHasDest (ueLayout e) sel = true → sget? u.stores sel = none → ∃ t, exec (.ucSt ra sel) s = .next t ∧
        t.upd = { s.upd with uc := { u with stores := sput u.stores sel (u.reg ra) } } ∧ ucGathers s t {}))

namespace Sys2Proof.Machine

/-- The flit `f` comes over a fabric port that is UP, its CRC is right under the link count (R292), and reception takes it, leaving the state `u` (R261, R262). -/
def takes (s : State) (f : Flit) (ty : FlitType) (u : State) : Prop :=
  s.arrives f ty = true ∧ f.crc = flitCrc (s.port f.port).rx f ∧ (s.linkTake f.port).receive f = .take u

/-- A well-placed flit of the open job for this module. -/
def ofJob (s : State) (f : Flit) : Prop :=
  s.alive = true ∧ f.dstModule = s.self ∧ s.inJob f = true ∧ newer32 s.epoch (extend16 32 s.epoch f.epoch) = false

/-- A flit of the module's own epoch and attempt. -/
def ofAttempt (s : State) (f : Flit) : Prop :=
  ofJob s f ∧ newer32 (extend16 32 s.epoch f.epoch) s.epoch = false ∧ s.flitAttempt f = s.attempt

end Sys2Proof.Machine

/-- A flit for another module is passed on; one of another job, of an older epoch or of an earlier attempt is dropped and counted; of the current
attempt a repeated number is dropped and counted, an ordered flit out of order is not accepted, and the next number in order is accepted: taken,
or held while it must wait for the step to open. A flit of a later attempt is numbered in a space of its own, and held. -/
def Obligations.ReceptionOfFlits : Prop :=
  ∀ (s : State) (f : Flit),
    (s.alive = false → s.receive f = .drop s) ∧
    (s.alive = true → f.dstModule ≠ s.self → ∃ t, s.receive f = .drop t ∧ sameMemory s t ∧
      t.rd F.FAB_TRANSIT_FLITS_count = (s.rd F.FAB_TRANSIT_FLITS_count + 1) % 2 ^ 64) ∧
    (s.alive = true → f.dstModule = s.self → s.inJob f = false → ∃ t, s.receive f = .drop t ∧ sameMemory s t ∧
      t.rd F.FAB_DROP_foreign_job = min (s.rd F.FAB_DROP_foreign_job + 1) (2 ^ F.FAB_DROP_foreign_job.width - 1)) ∧
    (s.alive = true → f.dstModule = s.self → s.inJob f = true → newer32 s.epoch (extend16 32 s.epoch f.epoch) = true →
      ∃ t, s.receive f = .drop t ∧ sameMemory s t ∧
        t.rd F.FAB_DROP_old_epoch = min (s.rd F.FAB_DROP_old_epoch + 1) (2 ^ F.FAB_DROP_old_epoch.width - 1)) ∧
    (ofJob s f → (s.flitAttempt f).before s.attempt = true → ∃ t, s.receive f = .drop t ∧ sameMemory s t ∧
      t.rd F.FAB_DROP_old_attempt = min (s.rd F.FAB_DROP_old_attempt + 1) (2 ^ F.FAB_DROP_old_attempt.width - 1)) ∧
    (ofAttempt s f → (s.rxSpace (spaceKey f.srcModule f.ordered)).has f.seq = true →
      ∃ t, s.receive f = .drop t ∧ sameMemory s t ∧
        t.rd F.FAB_DROP_duplicate = min (s.rd F.FAB_DROP_duplicate + 1) (2 ^ F.FAB_DROP_duplicate.width - 1)) ∧
    (ofAttempt s f → f.ordered = true → (s.rxSpace (spaceKey f.srcModule true)).has f.seq = false →
      f.seq ≠ (s.rxSpace (spaceKey f.srcModule true)).next → ∃ t, s.receive f = .drop t ∧ sameMemory s t ∧
        t.rxSpace (spaceKey f.srcModule true) = s.rxSpace (spaceKey f.srcModule true)) ∧
    (ofAttempt s f → f.ordered = true → (s.rxSpace (spaceKey f.srcModule true)).has f.seq = false →
      f.seq = (s.rxSpace (spaceKey f.srcModule true)).next → ∃ t, sameMemory s t ∧
        s.receive f = (if s.live || !waitsOpen f then .take t else .hold t) ∧
        (t.rxSpace (spaceKey f.srcModule true)).next = (f.seq + 1) % 2 ^ 16) ∧
    (ofAttempt s f → f.ordered = false → (s.rxSpace (spaceKey f.srcModule false)).has f.seq = false → ∃ t, sameMemory s t ∧
        s.receive f = (if s.live || !waitsOpen f then .take t else .hold t) ∧
        (t.rxSpace (spaceKey f.srcModule false)).has f.seq = true) ∧
    (ofJob s f → (s.flitAttempt f).before s.attempt = false → s.attempt.before (s.flitAttempt f) = true → f.ordered = true →
      let e := extend16 32 s.epoch f.epoch
      let k := spaceKey f.srcModule true
      let x := s.laterRx k e (s.flitAttempt f)
      s.ended k e (s.flitAttempt f) = false → x.has f.seq = false → f.seq = x.next → ∃ t, sameMemory s t ∧ s.receive f = (if attemptFree f then .take t else .hold t) ∧
        t.rxSpace k = s.rxSpace k ∧ (sget {} t.fab.later k).next = (f.seq + 1) % 2 ^ 16)

/-- A taken WRITE stores its bytes where the region rules allow it and is refused with an error completion where they do not; a taken READ_REQ
is answered, by an error completion where it is refused; READ_DATA reaches its transfer, and an error completion fails it; a taken QUEUE_ITEM
enters its queue, or waits at the router while the queue is FULL, and one that must wait stands behind the attempt boundary; a SYNC_ADD adds to
its counter. -/
def Obligations.FlitsAct : Prop :=
  (∀ (s u : State) (f : Flit), takes s f .write u → u.toMirror f = false → (s.linkTake f.port).mirrorWait f = none →
    let n := wroteBytes f
    (u.mayWriteHbm .dma (writeAddr f) n = true → f.poison = 0 → ∃ t, exec (.write f) s = .next t ∧
      t.loadN (writeAddr f) n = f.payload.take n ∧
      (∀ a, (a < writeAddr f ∨ writeAddr f + n ≤ a) → t.peek a = u.peek a)) ∧
    (u.mayWriteHbm .dma (writeAddr f) n = false → inTiles (writeAddr f) n = false → ∃ t, exec (.write f) s = .next t ∧
      sameMemory u t ∧ onItsWay t f.srcModule false (fun g => g.type = .readData ∧ g.dstAddr = 2 ^ 46 + f.seq ∧ g.payload = granulePad []))) ∧
  (∀ (s u : State) (f : Flit), takes s f .readReq u → flitReadKind f = 0 → (s.linkTake f.port).readWait f = none →
    (u.mayReadHbm .dma f.dstAddr (reqCount f) = true ∨ inTiles f.dstAddr (reqCount f) = true → ∃ t, exec (.readReq f) s = .next t ∧ sameMemory u t ∧
      onItsWay t f.srcModule false (fun g => g.type = .readData ∧ g.dstAddr = reqContext f ∧
        g.payload = granulePad (u.loadN f.dstAddr (reqCount f)))) ∧
    (u.mayReadHbm .dma f.dstAddr (reqCount f) = false → inTiles f.dstAddr (reqCount f) = false → ∃ t, exec (.readReq f) s = .next t ∧
      sameMemory u t ∧ onItsWay t f.srcModule false (fun g => g.type = .readData ∧
        g.dstAddr = 2 ^ 46 + (2 ^ 16 + reqContext f / 2 ^ 36) ∧ g.payload = granulePad []))) ∧
  (∀ (s u : State) (f : Flit), takes s f .readData u → f.dstAddr < 2 ^ 46 → ∃ t, exec (.readData f) s = .next t ∧ sameMemory u t ∧
    t.xfers.length = u.xfers.length ∧
    ∀ x ∈ u.xfers, u.readsUnder (f.dstAddr / 2 ^ 36) x = true →
      let place := f.dstAddr % 2 ^ 36
      let run := max 1 ((srcRuns x.words).headD (0, 1)).2
      ∃ y ∈ t.xfers, y.id = x.id ∧ y.failed = x.failed ∧
        ∀ k, k < f.payload.length → k < run - place % run → sget? y.got (place + k) = f.payload[k]?) ∧
  (∀ (s u : State) (f : Flit) (k : Nat), takes s f .readData u → k < 2 ^ 46 → f.dstAddr = 2 ^ 46 + k →
    ∃ t, exec (.readData f) s = .next t ∧ sameMemory u t ∧
      (∀ c x, k = 2 ^ 16 + c → x ∈ u.xfers → u.readsUnder c x = true → { x with failed := true } ∈ t.xfers) ∧
      (∀ w x, k < 2 ^ 16 → (u.txSpace (spaceKey f.srcModule false)).unacked.find? (fun t => t.flit.seq == k) = some w → x ∈ u.xfers →
        x.id = w.tag → { x with failed := true } ∈ t.xfers)) ∧
  (∀ (s u : State) (f : Flit), takes s f .queueItem u →
    (u.itemBound f = false → ∃ t, exec (.queueItem f) s = .next t ∧ sameMemory u t ∧ t.queues = u.queues ∧
      t.rdAt F.QUE_COUNT_foreign (itemQueue f) =
        min (u.rdAt F.QUE_COUNT_foreign (itemQueue f) + 1) (2 ^ F.QUE_COUNT_foreign.width - 1)) ∧
    (u.itemBound f = true → (u.queue (itemQueue f)).backlog = [] → ∃ t, exec (.queueItem f) s = .next t ∧
      (u.fullFor .router (itemQueue f) = false → (t.queue (itemQueue f)).items.length = (u.queue (itemQueue f)).items.length + 1 ∧
        (t.queue (itemQueue f)).backlog = []) ∧
      (u.fullFor .router (itemQueue f) = true → (t.queue (itemQueue f)).items = (u.queue (itemQueue f)).items ∧
        (t.queue (itemQueue f)).backlog = [itemOf f] ∧
        t.rdAt F.QUE_COUNT_discarded (itemQueue f) = u.rdAt F.QUE_COUNT_discarded (itemQueue f)))) ∧
  (∀ (s u : State) (f : Flit), s.arrives f .queueItem = true → f.crc = flitCrc (s.port f.port).rx f → (s.linkTake f.port).receive f = .hold u →
    u.itemBound f = true → ∃ t, exec (.queueItem f) s = .next t ∧ sameMemory u t ∧
      (t.queue (itemQueue f)).items = (u.queue (itemQueue f)).items ∧
      (t.queue (itemQueue f)).held = (u.queue (itemQueue f)).held ++ [{ itemOf f with att := some (u.flitAttempt f) }]) ∧
  (∀ (s u : State) (f : Flit), takes s f .syncAdd u → counterOk f.dstAddr = true → ∃ t, exec (.syncAddFlit f) s = .next t ∧ sameMemory u t ∧
    ∀ c, t.counter c = if c = f.dstAddr then (u.counter c + field f.payload 0 8) % 2 ^ 64 else u.counter c)

/-- An ACK releases what it covers; the acknowledgement timer sends an owed ACK; an unacknowledged flit past its time is sent again, or given up
and recorded at max_retx; a heartbeat goes out when one is due; a silent link goes DOWN; an output turns hot by its queue; a hotspot is
recorded once. -/
def Obligations.AcksAndTimers : Prop :=
  (∀ (s : State) (f : Flit), s.arrives f .ack = true → f.crc = flitCrc (s.port f.port).rx f → s.alive = true → f.dstModule = s.self → s.inJob f = true →
    newer32 s.epoch (extend16 32 s.epoch f.epoch) = false → s.flitAttempt f = s.attempt →
    let k := spaceKey f.srcModule (f.dstAddr % 2 == 1)
    ∃ t, exec (.ack f) s = .next t ∧ sameMemory s t ∧
      (∀ x ∈ (s.txSpace k).unacked, ackCovers (field f.payload 0 2) (field f.payload 8 8) x.flit.seq = false →
        x ∈ (t.txSpace k).unacked) ∧
      ((s.txSpace k).waiting = [] → (t.txSpace k).unacked =
        (s.txSpace k).unacked.filter (fun x => !ackCovers (field f.payload 0 2) (field f.payload 8 8) x.flit.seq))) ∧
  (∀ (s : State) (m : Nat) (o : Bool), s.alive = true → 0 < (s.rxSpace (spaceKey m o)).owed →
    s.past ((s.rxSpace (spaceKey m o)).owedSince + usTicks 2) = true → ∃ t, exec (.ackTimer m o) s = .next t ∧ sameMemory s t ∧
      (t.rxSpace (spaceKey m o)).owed = 0 ∧ (t.rxSpace (spaceKey m o)).next = (s.rxSpace (spaceKey m o)).next) ∧
  (∀ (s : State) (m q : Nat) (o : Bool) (x : TxFlit), s.alive = true →
    (s.txSpace (spaceKey m o)).unacked.find? (fun t => t.flit.seq == q) = some x →
    s.past (x.sentAt + usTicks (s.rd F.FAB_RETX_CTRL_timeout_us)) = true →
    (x.sends < s.rd F.FAB_RETX_CTRL_max_retx → ∃ t, exec (.retransmitTimeout m o q) s = .next t ∧ sameMemory s t ∧
      (∃ y ∈ (t.txSpace (spaceKey m o)).unacked, y.flit = x.flit ∧ y.sends = x.sends + 1 ∧ y.sentAt = s.tick) ∧
      t.rd F.FAB_RETX_STATUS_retransmitted =
        min (s.rd F.FAB_RETX_STATUS_retransmitted + 1) (2 ^ F.FAB_RETX_STATUS_retransmitted.width - 1)) ∧
    (s.rd F.FAB_RETX_CTRL_max_retx ≤ x.sends → ∃ t, exec (.retransmitTimeout m o q) s = .next t ∧ t.rd F.FAB_UNREACH_valid = 1 ∧
      t.rd F.FAB_UNREACH_module = x.flit.dstModule % 2 ^ F.FAB_UNREACH_module.width)) ∧
  (∀ (s : State) (o : Nat), s.linkLit o = true →
    ((s.port o).sentAt + usTicks (s.rd F.FAB_HB_CTRL_interval_us) ≤ s.tick → ∃ t, exec (.heartbeatTimer o) s = .next t ∧
      (t.port o).sentAt = s.tick ∧ t.outbox = s.outbox ++ [.link o 3 ((s.heartbeatBytes o).map BitVec.toNat)] ∧ field (s.heartbeatBytes o) 8 8 = s.tick % 2 ^ 64 ∧
      (∀ f i, t.rdAt f i = s.rdAt f i) ∧ sameMemory s t) ∧
    (s.past ((s.port o).heardAt + usTicks (s.rd F.FAB_HB_CTRL_timeout_us)) = true → ∃ t, exec (.linkSilence o) s = .next t ∧
      t.portState o = 1 ∧ sameMemory s t)) ∧
  (∀ (s : State) (o d : Nat), s.alive = true → s.isFabric o = true → (s.hotOf o).hot = false →
    let lim := s.rd F.FAB_HOT_CTRL_hot_depth
    let n := d + (s.port o).depth 0 + (s.port o).depth 1
    ∃ t, exec (.hotLinkTimer o d) s = .next t ∧ sameMemory s t ∧ (t.hotOf o).wire = d ∧
      (n < lim → (t.hotOf o).hot = false ∧ (t.hotOf o).fullSince = none) ∧
      (∀ x, lim ≤ n → (s.hotOf o).fullSince = some x → ((t.hotOf o).hot = true ↔ x + usTicks (s.rd F.FAB_HOT_CTRL_hot_us) ≤ s.tick))) ∧
  (∀ (s : State) (o : Nat), s.alive = true → s.isFabric o = true → (s.hotOf o).hot = true → s.isSet F.FAB_HOTSPOT_valid = false →
    (s.hotOf o).hotSince + msTicks (s.rd F.FAB_HOT_CTRL_hotspot_ms) ≤ s.tick → ∃ t, exec (.hotspotTimer o) s = .next t ∧ sameMemory s t ∧
      t.rd F.FAB_HOTSPOT_valid = 1 ∧ t.rd F.FAB_HOTSPOT_peer = s.peerAddr o % 2 ^ F.FAB_HOTSPOT_peer.width)

/-- The collective at the head of its queue is taken by the command of its operation: a good descriptor starts under its name, a bad one is
recorded, fails the step and never starts; data for a collective not yet started waits; a member's digest is compared at member 0, also where it
names another axis_mask, and a difference is recorded; a member whose result is written completes. -/
def Obligations.Collectives : Prop :=
  (∀ (s : State) (i : Instr) (op : Nat), (i, op) ∈ [(Instr.allReduce, 1), (.reduceScatter, 2), (.allGather, 3), (.allToAll, 4), (.broadcast, 5)] →
    let q := s.rd F.FAB_COLL_CTRL_queue
    let w := bytesWords ((s.queue q).items.headD { data := [] }).data
    s.alive = true → s.live = true → s.isSet F.FAB_COLL_CTRL_enable = true → s.queueOn q = true → coreQueue q = true →
    s.isSetAt F.QUE_CFG_forward q = false → s.visible q = true → s.inFlight < 16 → cOp w = op → (s.popFront q).1.poison = false →
    s.fab.early = [] → (s.queue q).backlog = [] → (s.queue q).abortDue = false →
    ((s.popFront q).2.collCode w = 0 → s.collBlocked w = none ∨ (cOp w = 5 ∧ cRoot w ≠ s.memberIndex w) → ∃ t, exec i s = .next t ∧
      (∃ c ∈ t.fab.colls, c.id = cId w ∧ c.words = w) ∧ (t.queue q).items.length + 1 = (s.queue q).items.length) ∧
    (∀ e, (s.popFront q).2.collCode w = e → e ≠ 0 → ∃ t, exec i s = .next t ∧ t.rd F.FAB_COLL_REJECT_valid = 1 ∧
      t.rd F.FAB_COLL_REJECT_reason = e % 2 ^ F.FAB_COLL_REJECT_reason.width ∧ t.rd F.FAB_COLL_REJECT_mismatch = 0)) ∧
  (∀ (s u : State) (f : Flit), takes s f .collData u → u.fab.colls.find? (fun c => c.id == collFlitId f) = none →
    u.fab.colls.find? (fun c => u.digestMeets c f) = none →
    ∃ t, exec (.collData f) s = .next t ∧ sameMemory u t ∧ t.fab.early = u.fab.early ++ [f] ∧ t.fab.colls = u.fab.colls) ∧
  (∀ (s u : State) (f : Flit) (c : Coll), takes s f .collData u → u.fab.colls.find? (fun c => c.id == collFlitId f) = some c →
    field f.payload 0 1 = 3 → (field f.payload 32 32 = cDigest c.words → ∃ t, exec (.collData f) s = .next t ∧ sameMemory u t ∧
        t.fab.colls.length = u.fab.colls.length ∧
        { c with checked := c.checked ++ [(u.memberOf c f.srcModule).getD 0] } ∈ t.fab.colls) ∧
      (field f.payload 32 32 ≠ cDigest c.words → ∃ t, exec (.collData f) s = .next t ∧ t.rd F.FAB_COLL_REJECT_valid = 1 ∧
        t.rd F.FAB_COLL_REJECT_mismatch = 1)) ∧
  (∀ (s u : State) (f : Flit) (c : Coll), takes s f .collData u → u.fab.colls.find? (fun c => c.id == collFlitId f) = none →
    u.fab.colls.find? (fun c => u.digestMeets c f) = some c → field f.payload 32 32 ≠ cDigest c.words →
    ∃ t, exec (.collData f) s = .next t ∧ t.rd F.FAB_COLL_REJECT_valid = 1 ∧ t.rd F.FAB_COLL_REJECT_mismatch = 1) ∧
  (∀ (s : State) (n : Nat) (c : Coll), s.alive = true → s.live = true → s.fab.colls.find? (fun c => cSeq c.words == n && !c.done && !c.isNorm &&
      c.placed == dstCount c.words (s.communicator c.words).length (s.memberIndex c.words)) = some c → cReport c.words = false →
    ∃ t, exec (.collComplete n) s = .next t ∧ sameMemory s t ∧ (∃ d ∈ t.fab.colls, d.id = c.id ∧ d.done = true) ∧
      t.rd F.FAB_COLL_STATUS_last_done = n % 2 ^ F.FAB_COLL_STATUS_last_done.width ∧
      (∀ k, t.counter k = if fld (wd c.words 0) 36 36 = 1 ∧ k = fld (wd c.words 6) 39 23 then (s.counter k + 1) % 2 ^ 64 else s.counter k))

namespace Sys2Proof.Machine

/-- A LINK flit of a subtype reaches fabric port `o`, which exchanges them (R286, R287). -/
def linkReaches (s : State) (o kind : Nat) (b : List Byte) : Prop :=
  s.portsLive = true ∧ s.isFabric o = true ∧ 3 ≤ s.portState o ∧ b.length = 64 ∧ field b 0 1 = kind ∧ 1 ≤ kind ∧ kind ≤ 9 ∧
    linkTakes (s.portState o) kind = true

end Sys2Proof.Machine

/-- Bring-up takes an enabled port to TRAINING, FEC alignment to HELLO (a front-end port to UP), a HELLO is answered and remembered, a peer with
this module's own serial number is held with cause 4, a check that fails on an UP port holds it, a HELLO in HOLD is kept for the re-hello, one
from the same peer after a realignment ends a retrain, the HELLO_ACK gives the round trip, and a timeout, a disable or a loss of light takes
the port to DOWN or DISABLED. -/
def Obligations.PortBringup : Prop :=
  ∀ (s : State) (o : Nat), s.portsLive = true → o < 76 →
    (s.isSetAt F.PORT_CTRL_enable o = true → s.portState o < 2 → ∃ t, exec (.portBringup o) s = .next t ∧ t.portState o = 2 ∧
      (t.port o).since = s.tick ∧ sameMemory s t) ∧
    (s.portState o = 1 → (s.port o).since + sTicks 1 ≤ s.tick → ∃ t, exec (.bringupRetryTimer o) s = .next t ∧ t.portState o = 2) ∧
    ((s.portState o = 2 ∨ s.portState o = 3) → s.past ((s.port o).since + msTicks 100 - 1) = true →
      ∃ t, exec (.bringupTimeout o) s = .next t ∧ t.portState o = 1) ∧
    (∀ l p, s.portState o = 2 → s.usableLanes o l ≠ 0 →
      (s.portClass o ≠ 2 → ∃ t, exec (.fecAligned o l p) s = .next t ∧ t.portState o = 3 ∧ (o < 72 → (t.port o).acked = false) ∧
        t.rdAt F.PORT_STATUS_lanes_up o = s.usableLanes o l ∧ (t.port o).helloAt = s.tick) ∧
      (s.portClass o = 2 → ∃ t, exec (.fecAligned o l p) s = .next t ∧ t.portState o = 4 ∧
        t.rdAt F.PORT_STATUS_lanes_up o = s.usableLanes o l)) ∧
    (∀ l p, (s.portState o ≠ 2 ∧ s.portState o ≠ 6) ∨ (s.portState o = 2 ∧ s.usableLanes o l = 0) → exec (.fecAligned o l p) s = .next s) ∧
    (s.portState o = 3 → (s.port o).acked = false → (s.port o).helloAt + usTicks 10 ≤ s.tick →
      ∃ t, exec (.helloResend o) s = .next t ∧ t.portState o = 3 ∧ (t.port o).helloAt = s.tick) ∧
    (∀ b, linkReaches s o 1 b → s.portState o = 3 → (s.port o).acked = true → ∃ t, exec (.hello o b) s = .next t ∧
      Output.link o 2 ((leBytes 1 2 ++ b.drop 1).map BitVec.toNat) ∈ t.outbox ∧ t.rdAt F.PORT_PEER_peer_addr o = field b 16 2 % 2 ^ F.PORT_PEER_peer_addr.width ∧
      (t.portState o = 1 ∨ t.portState o = 4 ∨ t.portState o = 5) ∧
      (field b 8 8 = s.rd F.MOD_SERIAL_serial → t.portState o = 5 ∧ t.rdAt F.PORT_STATUS_hold_cause o = 4)) ∧
    (∀ b, linkReaches s o 1 b → s.portState o = 4 → s.holdCause o b ≠ 0 → ∃ t, exec (.hello o b) s = .next t ∧ t.portState o = 5 ∧
      t.rdAt F.PORT_STATUS_hold_cause o = s.holdCause o b % 2 ^ F.PORT_STATUS_hold_cause.width) ∧
    (∀ b, linkReaches s o 1 b → s.portState o = 5 → field b 7 1 = 0 → ∃ t, exec (.hello o b) s = .next t ∧ t.portState o = 5 ∧
      (t.port o).peer = b) ∧
    (∀ b, linkReaches s o 1 b → s.portState o = 6 → (s.port o).aligned = true → (s.port o).before = some (field b 8 8, field b 5 1) →
      s.minLanes o ≤ popcount4 (s.rdAt F.PORT_STATUS_lanes_up o) → field b 2 1 ≠ 0 → s.rdAt F.PORT_STATUS_hold_cause o = 0 →
      ∃ t, exec (.hello o b) s = .next t ∧ t.portState o = 4) ∧
    (∀ b, linkReaches s o 2 b → s.portState o = 3 → (s.port o).acked = false → (s.port o).peer = [] → (s.port o).hello.drop 1 = b.drop 1 →
      ∃ t, exec (.helloAck o b) s = .next t ∧ (t.port o).acked = true ∧ t.portState o = 3 ∧
        t.rdAt F.PORT_PEER_rtt_ns o = min 0xFFFF (10 * (s.tick - (s.port o).helloAt)) % 2 ^ F.PORT_PEER_rtt_ns.width) ∧
    (∃ t, exec (.portEnable o false) s = .next t ∧ t.portState o = 0 ∧ t.rdAt F.PORT_CTRL_enable o = 0) ∧
    (s.portState o = 0 → ∃ t, exec (.portEnable o true) s = .next t ∧ t.portState o = 2 ∧ t.rdAt F.PORT_CTRL_enable o = 1) ∧
    (s.isSetAt F.PORT_CTRL_enable o = true → ∃ t, exec (.portRetrain o) s = .next t ∧ t.portState o = 2 ∧ t.rdAt F.PORT_CTRL_retrain o = 1) ∧
    (o < 72 → 2 ≤ s.portState o → ∃ t, exec (.lossOfLight o) s = .next t ∧ t.portState o = 1)

/-- LINK_ACK frees the retry buffer; RETRY_REQ resends from the count asked for; a flit with a bad CRC is asked for again, and the eighth
request in a row starts a retrain; a retrain keeps the lanes both ends have, and its timeout takes the port DOWN; KEEPALIVE and WAKE change the
port's state; the light sources and the hourly error counts are kept. -/
def Obligations.LinkLayer : Prop :=
  (∀ (s : State) (o : Nat) (b : List Byte),
    (linkReaches s o 3 b → ∃ t, exec (.heartbeat o b) s = .next t ∧ (t.port o).heardAt = s.tick ∧ (∀ f i, t.rdAt f i = s.rdAt f i) ∧
      sameMemory s t) ∧
    (linkReaches s o 4 b → (s.port o).vcs = [] → ∃ t, exec (.linkAck o b) s = .next t ∧ sameMemory s t ∧
      (t.port o).retry = (s.port o).retry.filter (fun x => !newer16 (field b 2 2) x.1)) ∧
    (linkReaches s o 5 b → let r := nakRun (s.port o).nakIn (field b 2 2)
      ∃ t, exec (.retryReq o b) s = .next t ∧ sameMemory s t ∧
        (r.2 < 8 → t.portState o = s.portState o ∧ (t.port o).nakIn = r ∧
          t.outbox = s.outbox ++ ((s.port o).retry.filter (fun x => !newer16 (field b 2 2) x.1)).map (fun x => Output.flit x.2)) ∧
        (8 ≤ r.2 → s.mayRetrain o = true → t.portState o = 6)) ∧
    (linkReaches s o 6 b → s.mayRetrain o = true → ∃ t, exec (.retrain o b) s = .next t ∧ sameMemory s t ∧ t.portState o = 6 ∧
      t.rdAt F.PORT_STATUS_lanes_up o = Nat.land (field b 2 1) (s.linkLanes o)) ∧
    (linkReaches s o 7 b → s.portClass o = 0 → ∃ t, exec (.hotSet o b) s = .next t ∧ sameMemory s t ∧
      sget? t.fab.peerHot (s.peerAddr o % 32) = some (field b 8 5 % 2 ^ 39)) ∧
    (linkReaches s o 8 b → s.portState o = 4 → ∃ t, exec (.keepalive o b) s = .next t ∧ t.portState o = 7 ∧ t.rdAt F.PORT_STATUS_lanes_up o = 1) ∧
    (linkReaches s o 9 b → s.portState o = 7 → ∃ t, exec (.wake o b) s = .next t ∧ t.portState o = 4)) ∧
  (∀ (s : State) (o : Nat),
    (s.portsLive = true → s.isFabric o = true → s.portState o = 4 → ∀ fec, let r := nakRun (s.port o).nakOut (s.port o).rx
      ∃ t, exec (.flitCrcFail o fec) s = .next t ∧ sameMemory s t ∧ t.portState o = (if 8 ≤ r.2 then 6 else 4) ∧
        (fec = false → t.rdAt F.PORT_LINK_ERR_crc_errors o =
          min (s.rdAt F.PORT_LINK_ERR_crc_errors o + 1) (2 ^ F.PORT_LINK_ERR_crc_errors.width - 1)) ∧
        (fec = true → t.rdAt F.PORT_FEC_UE_count o = (s.rdAt F.PORT_FEC_UE_count o + 1) % 2 ^ F.PORT_FEC_UE_count.width) ∧
        Output.link o 5 ((linkBytes 5 2 (leBytes 2 (s.port o).rx)).map BitVec.toNat) ∈ t.outbox) ∧
    (s.portsLive = true → o < 76 → s.isFabric o = false → s.portState o = 4 → ∃ t, exec (.flitCrcFail o true) s = .next t ∧ sameMemory s t ∧
      t.portState o = 4 ∧ t.rdAt F.PORT_FEC_UE_count o = (s.rdAt F.PORT_FEC_UE_count o + 1) % 2 ^ F.PORT_FEC_UE_count.width) ∧
    (s.linkLit o = true → ∃ t, exec (.fecAlignmentLoss o) s = .next t ∧ t.portState o = 6 ∧ sameMemory s t) ∧
    (s.portsLive = true → s.isFabric o = true → s.portState o = 6 → s.past ((s.port o).since + msTicks 10 - 1) = true →
      ∃ t, exec (.retrainTimeout o) s = .next t ∧ t.portState o = 1 ∧ sameMemory s t) ∧
    (∀ l, s.mayRetrain o = true → let up := s.linkLanes o
      Nat.land up l ≠ 0 → ∃ t, exec (.laneFail o l) s = .next t ∧ sameMemory s t ∧ t.portState o = 6 ∧
        t.rdAt F.PORT_STATUS_lanes_up o = (up - Nat.land up l) % 2 ^ F.PORT_STATUS_lanes_up.width) ∧
    (∀ l, s.portsLive = true → o < 72 → s.portClass o = 2 → s.portState o = 4 → s.rdAt F.PORT_STATUS_lanes_up o < 16 →
      Nat.land (s.rdAt F.PORT_STATUS_lanes_up o) l ≠ 0 → ∃ t, exec (.laneFail o l) s = .next t ∧ t.portState o = 1) ∧
    (s.mode = .dormant → s.isFabric o = true → s.portState o = 4 → s.past ((s.port o).dataAt + msTicks 1 - 1) = true →
      ∃ t, exec (.keepaliveIdleTimer o) s = .next t ∧ t.portState o = 7 ∧ t.rdAt F.PORT_STATUS_lanes_up o = 1 ∧ sameMemory s t)) ∧
  (∀ (s : State) (e src w : Nat), s.portsLive = true → e < 9 → src < 2 → w % 16 ≠ 0 → ∃ t, exec (.lightSourceFail e src w) s = .next t ∧
    sget 15 t.links.light (2 * e + src) = Nat.land (sget 15 s.links.light (2 * e + src)) (15 - w % 16) ∧
    bitAt (t.rd F.PORT_LIGHT_source_ok) (2 * e + src) = false) ∧
  (∀ (s : State) (cs : List Nat), s.alive = true → s.links.berHour < s.tick / hourTicks → ∃ t, exec (.portBerHourly cs) s = .next t ∧
    t.links.berHour = s.tick / hourTicks ∧
    ∀ o, o < 76 → t.rdAt F.PORT_FEC_CE_count o = (s.rdAt F.PORT_FEC_CE_count o + cs.getD o 0) % 2 ^ F.PORT_FEC_CE_count.width)

/-- A doorbell starts a good descriptor and stops the ring on a bad one; the end of a transfer stores what came and moves done on, or stops the
ring with its code; a resume clears the failure; a peer's write lands only in its window and its message enters its queue; a front-end port goes
down and loses its queue pairs, and frames are counted as taken or dropped; the peer's RDMA writes, queue pairs and keys take effect. -/
def Obligations.BridgeAndFrontEnd : Prop :=
  (∀ s : State, s.alive = true → s.isSet F.PORT_BR_CTRL_enable = true → s.isSet F.PORT_BR_STATUS_valid = false → s.links.bridge.length < 8 →
    let k := (s.links.bridgeTaken + 1) % 2 ^ 32
    let w := s.loadWords (s.bridgeSlot k) 4
    newer32 k s.links.bridgeTaken = true →
    (s.bridgeBad w k = 0 → ∃ t, exec (.bridgeDoorbell k) s = .next t ∧ sameMemory s t ∧ t.rd F.PORT_BR_DOORBELL_seq = k ∧
      t.links.bridgeTaken = k ∧ t.links.bridge = s.links.bridge ++ [{ seq := k, words := w }]) ∧
    (∀ e, s.bridgeBad w k = e → e ≠ 0 → ∃ t, exec (.bridgeDoorbell k) s = .next t ∧ sameMemory s t ∧ t.rd F.PORT_BR_STATUS_valid = 1 ∧
      t.rd F.PORT_BR_STATUS_error = e % 2 ^ F.PORT_BR_STATUS_error.width ∧ t.links.bridge = s.links.bridge)) ∧
  (∀ (s : State) (x : BridgeXfer) (xs : List BridgeXfer) (bs : List Byte), s.alive = true → s.links.bridge = x :: xs →
    s.bridgeBad x.words x.seq = 0 →
    (∃ t, exec (.bridgeTransferComplete true bs) s = .next t ∧ sameMemory s t ∧ t.rd F.PORT_BR_STATUS_valid = 1 ∧
      t.rd F.PORT_BR_STATUS_error = 3 ∧ t.links.bridge = xs) ∧
    (brDir x.words = 2 → bs.length = brLen x.words → brLocal x.words + brLen x.words ≤ 0xB800000000 →
      ∃ t, exec (.bridgeTransferComplete false bs) s = .next t ∧ t.loadN (brLocal x.words) (brLen x.words) = bs ∧
        (∀ a, (a < brLocal x.words ∨ brLocal x.words + brLen x.words ≤ a) → t.peek a = s.peek a) ∧
        t.rd F.PORT_BR_STATUS_done = x.seq % 2 ^ F.PORT_BR_STATUS_done.width) ∧
    (brDir x.words = 1 → ∃ t, exec (.bridgeTransferComplete false bs) s = .next t ∧ sameMemory s t ∧
      t.rd F.PORT_BR_STATUS_done = x.seq % 2 ^ F.PORT_BR_STATUS_done.width ∧
      Output.link (brPort x.words) 0xB1 (wd x.words 1 :: (s.loadN (brLocal x.words) (brLen x.words)).map BitVec.toNat) ∈ t.outbox)) ∧
  (∀ s : State, s.alive = true → newer32 (s.rd F.PORT_BR_DOORBELL_seq) s.links.bridgeTaken = false → ∃ t, exec .bridgeRingResume s = .next t ∧ sameMemory s t ∧
    t.rd F.PORT_BR_STATUS_valid = 0) ∧
  (∀ (s : State) (p a : Nat) (bs : List Byte), s.alive = true → s.isSet F.PORT_BR_CTRL_enable = true → p < 4 → s.portState (72 + p) = 4 →
    (s.inWindow a bs.length = true → a + bs.length ≤ 0xB800000000 → ∃ t, exec (.bridgePeerWrite p a bs) s = .next t ∧
      t.loadN a bs.length = bs ∧ ∀ b, (b < a ∨ a + bs.length ≤ b) → t.peek b = s.peek b) ∧
    (s.inWindow a bs.length = false → exec (.bridgePeerWrite p a bs) s = .next (s.send (.link (72 + p) 0xBE [a]))) ∧
    (∀ q, q = s.rd F.PORT_BR_CTRL_queue → coreQueue q = true → s.queueOn q = true →
      (s.fullFor (.bridge p) q = false → ∃ t, exec (.bridgePeerMessage p bs) s = .next t ∧
        (t.queue q).items.length = (s.queue q).items.length + 1) ∧
      (s.fullFor (.bridge p) q = true → ∃ t, exec (.bridgePeerMessage p bs) s = .next t ∧ sameMemory s t ∧
        (t.queue q).items = (s.queue q).items ∧ (∀ f i, t.rdAt f i = s.rdAt f i)))) ∧
  (∀ (s : State) (n o : Nat), s.frontPort n = some o → s.portsLive = true → s.portState o = 4 →
    (∃ t, exec (.frontEndPortDown n) s = .next t ∧ t.portState o = 1 ∧ t.fe n = {}) ∧
    (∀ x, ∃ t, exec (.frontEndFrame n x) s = .next t ∧
      (s.feAccepts n o x = true → sget 0 t.links.feTaken n = sget 0 s.links.feTaken n + 1 ∧ t.links.feDropped = s.links.feDropped ∧
        ((∀ q a bs, x.body ≠ .rdmaWrite q a bs) → sameMemory s t) ∧
        (∀ q a bs, x.body = .rdmaWrite q a bs →
          (s.mayWriteHbm .dma a bs.length = true → t.loadN a bs.length = bs ∧ ∀ b, (b < a ∨ a + bs.length ≤ b) → t.peek b = s.peek b) ∧
          (s.mayWriteHbm .dma a bs.length = false → sameMemory s t)) ∧
        (∀ q c k, x.body = .connect q c k → ∃ y ∈ (t.fe n).pairs, y.qp = q ∧ y.ctrl = c ∧ y.queue = k) ∧
        (∀ q, x.body = .disconnect q → ∀ y ∈ (t.fe n).pairs, y.qp ≠ q) ∧
        (∀ k, x.body = .mka k → (t.fe n).key = k)) ∧
      (s.feAccepts n o x = false → sameMemory s t ∧ sget 0 t.links.feDropped n = sget 0 s.links.feDropped n + 1 ∧
        t.links.feTaken = s.links.feTaken)))

namespace Sys2Proof.Machine

/-- The step has molted (R318): the step number rose, the banks changed places, and no barrier is open. -/
def molts (s t : State) : Prop :=
  t.step = .molted ∧ t.instar = s.nextInstar ∧ t.bank = 1 - s.bank ∧ t.replay = 0 ∧ t.barrier = {}

end Sys2Proof.Machine

/-- A module whose conditions are met votes and is MOLT_PENDING, and a job of one rank then molts; the root of several ranks decides at the end of the
tick and sends its record, and a FAIL that comes before discards; votes of children are kept; a DECISION MOLT
flips the banks, and DISCARD discards with its cause; the partner of rank 0 keeps the record and answers, and the root molts on that answer; a
vote timeout discards with cause 6. -/
def Obligations.MoltBarrier : Prop :=
  (∀ s : State, s.alive = true → s.step = .checking → s.barrier.own = 0 → s.conditionsMet = true → s.heldNonFinite = false →
    s.incomingPoison = none → let nf := !s.upd.copying && s.nonFinite
    (s.isRoot = false → ∃ t, exec .moduleVote s = .next t ∧ sameMemory s t ∧ t.step = .moltPending ∧ t.barrier.own = (if nf then 2 else 1)) ∧
    (s.isRoot = true → s.rankCount = 1 → nf = false → s.job.boundary = none → s.barrier.kids = [] → s.barrier.sentUp = false → s.barrier.recordSent = false →
      ∃ t, exec .moduleVote s = .next t ∧ molts s t) ∧
    (s.isRoot = true → s.rankCount ≠ 1 → s.kids.all (fun k => (sget? s.barrier.kids k).isSome) = true →
      s.barrier.kids.any (fun p => p.2 == 2) = false → s.barrier.sentUp = false → s.barrier.recordSent = false →
      ∃ t, exec .moduleVote s = .next t ∧ sameMemory s t ∧ t.step = .moltPending ∧ t.barrier.due = (if nf then 2 else 1) ∧ t.fab = s.fab)) ∧
  (∀ s : State, s.alive = true → s.isRoot = true → s.step = .moltPending → s.rankCount ≠ 1 → s.barrier.due = 1 →
    sameMemory s s.decideDue ∧ s.decideDue.barrier.recordSent = true ∧ s.decideDue.step = .moltPending ∧
    onItsWay s.decideDue s.partner true (fun g => g.type = .control ∧ isBarrier g 0x12 = true)) ∧
  (∀ (s u : State) (f : Flit) (k : Nat), takes s f .control u → u.rankAt f.srcModule = some k → isBarrier f 0x10 = true → u.current f = true →
    u.live = true → u.kids.contains k = true → u.barrier.recordSent = false →
    ((field f.payload 3 1 = 1 ∨ field f.payload 3 1 = 2) → sget 0 u.barrier.kids k = 0 → u.barrier.own = 0 →
      ∃ t, exec (.vote f) s = .next t ∧ sameMemory u t ∧ sget 0 t.barrier.kids k = field f.payload 3 1) ∧
    (field f.payload 3 1 = 3 → sget 0 u.barrier.kids k ≠ 3 → u.isRoot = false → ∃ t, exec (.vote f) s = .next t ∧ sameMemory u t ∧
      sget 0 t.barrier.kids k = 3) ∧
    (field f.payload 3 1 = 3 → sget 0 u.barrier.kids k ≠ 3 → u.isRoot = true → u.job.boundary = none → ∃ t, exec (.vote f) s = .next t ∧
      t.step = .discarded ∧ t.instar = u.instar ∧ t.bank = u.bank)) ∧
  (∀ (s u : State) (f : Flit), takes s f .control u → isBarrier f 0x11 = true → u.current f = true → u.live = true → u.job.boundary = none →
    (field f.payload 3 1 = 1 → u.step = .moltPending → ∃ t, exec (.decision f) s = .next t ∧ molts u t) ∧
    (field f.payload 3 1 = 3 → ∃ t, exec (.decision f) s = .next t ∧ t.step = .discarded ∧ t.rd F.CHK_MOLT_LAST_cause = field f.payload 4 1 ∧
      t.rd F.CHK_MOLT_LAST_origin = field f.payload 16 2 ∧ t.instar = u.instar ∧ t.bank = u.bank ∧ t.replay = min (u.replay + 1) 15)) ∧
  (∀ (s u : State) (f : Flit), takes s f .control u → isBarrier f 0x12 = true → u.current f = true → field f.payload 3 1 = 1 →
    u.heldRank = some 0 → f.srcModule = u.moduleOf 0 → ∃ t, exec (.record f) s = .next t ∧ sameMemory u t ∧
      t.mirror.record = some { instar := u.nextInstar, flips := 0 } ∧
      onItsWay t (u.moduleOf 0) true (fun g => g.type = .control ∧ isBarrier g 0x13 = true)) ∧
  (∀ (s u : State) (f : Flit), takes s f .control u → isBarrier f 0x13 = true → u.current f = true → u.isRoot = true →
    u.barrier.recordSent = true → u.step = .moltPending → f.srcModule = u.partner → u.job.boundary = none →
    ∃ t, exec (.recordAck f) s = .next t ∧ molts u t) ∧
  (∀ (s : State) (d : Nat), s.barrier.deadline = some d → s.alive = true → s.isRoot = true → s.step = .moltPending →
    s.barrier.recordSent = false → s.barrier.due = 0 → s.past d = true → s.job.boundary = none → ∃ t, exec .voteTimeout s = .next t ∧ t.step = .discarded ∧
      t.rd F.CHK_MOLT_LAST_cause = 6 ∧ t.instar = s.instar ∧ t.bank = s.bank)

/-- A member's digest is kept; a canary starts on its unit, and its outcome passes it or fails the step; the mirror's build ends on both sides,
and the served module learns that its mirror is complete; a completed pull makes the partner's bank the committed one. -/
def Obligations.DigestsCanariesMirror : Prop :=
  (∀ (s u : State) (f : Flit), takes s f .control u → isBarrier f 0x14 = true → u.current f = true → u.live = true →
    u.replicas.contains (field f.payload 16 2) = true → u.moduleOf (field f.payload 16 2) = f.srcModule → u.upd.header = false →
    ∃ t, exec (.digest f) s = .next t ∧ sameMemory u t ∧ sget? t.job.digests (field f.payload 16 2) = some (field f.payload 24 32)) ∧
  (∀ (s : State) (e n : Nat), s.canaryMay e n = true →
    (canaryOnCore (s.canaryWords e) = false → ∃ t, exec (.canaryStart e n) s = .next t ∧ sameMemory s t ∧
      (e, n) ∈ t.canary.started ∧ t.rd F.CHK_CANARY_STATUS_running = 1) ∧
    (canaryOnCore (s.canaryWords e) = true → let ws := s.loadWords (fld (wd (s.canaryWords e) 1) 47 0) 8
      ∃ t r, exec (.canaryStart e n) s = .next t ∧ (e, n) ∈ t.canary.started ∧ (t.wing n (segKind ws != 1)).run = some r ∧
        r.words = ws ∧ r.canary = some e)) ∧
  (∀ (s : State) (e n : Nat), s.alive = true → s.canary.rerun = false → s.canary.started.contains (e, n) = true →
    s.canary.passed.contains (e, n) = false → canaryOnCore (s.canaryWords e) = false →
    (∃ t, exec (.canaryComplete e n true) s = .next t ∧ sameMemory s t ∧ t.canary.passed = s.canary.passed ++ [(e, n)]) ∧
    (∃ t, exec (.canaryComplete e n false) s = .next t ∧ t.canary.failed = some (e, n) ∧ t.canary.rerun = true)) ∧
  (∀ s : State, s.alive = true → s.job.active = true →
    (s.mirror.buildLeft ≠ 0 → s.buildPoison = none → ∃ t, exec (.mirrorBuildEnd false) s = .next t ∧ sameMemory s t ∧ t.mirror.buildLeft = 0 ∧
      t.rd F.CHK_MIRROR_STATUS_building = 0) ∧
    (∀ r, s.heldRank = some r → ∃ t, exec (.mirrorBuildEnd true) s = .next t ∧
      sameMemory s t ∧ t.rd F.CHK_MIRROR_STATUS_held_complete = 1 ∧
      onItsWay t (s.moduleOf r) true (fun g => g.type = .control ∧ isBarrier g 0x15 = true))) ∧
  (∀ (s u : State) (f : Flit), takes s f .control u → isBarrier f 0x15 = true → u.current f = true → f.srcModule = u.partner →
    ∃ t, exec (.mirrorDone f) s = .next t ∧ sameMemory u t ∧ t.rd F.CHK_MIRROR_STATUS_own_complete = 1 ∧
      t.rd F.CHK_MIRROR_STATUS_building = 0 ∧ t.mirror.buildLeft = 0) ∧
  (∀ (s : State) (n b : Nat) (r : Bool), s.alive = true → s.mirror.pulling = true → [0, 1].find? (fun b => s.headerIs b n) = some b →
    (∀ p ∈ s.mem.hbmPoison, p.2 = true → s.inRegion b (64 * p.1) 64 = false) →
    ∃ t, exec (.statePullDone n r true) s = .next t ∧ t.mirror.pulling = false ∧ t.rd F.MOD_STEP_active_bank = b ∧
      t.instar = n % 2 ^ 64 ∧ t.rd F.CHK_MIRROR_STATUS_own_complete = 1)

namespace Sys2Proof.Machine

/-- The event count of a severity has risen, or stands at its end (R343, R346). -/
def counted (s t : State) (sev : Nat) : Prop :=
  s.rdAt F.ERR_SEV_COUNT_count sev < t.rdAt F.ERR_SEV_COUNT_count sev ∨
    t.rdAt F.ERR_SEV_COUNT_count sev = 2 ^ F.ERR_SEV_COUNT_count.width - 1

/-- A management message is taken: the session `y` and the state `u` are what its own effect begins from (R426 to R428). -/
def hears (s : State) (m : Mgmt) (roles : List Nat) (ackOnly : Bool) (y : Session) (u : State) : Prop :=
  ∀ h : Session → State → State, s.onMgmt m roles ackOnly h = h y u

/-- The directives and their codes (R357). -/
def directiveForm (c : Mgmt → Directive → Instr) (n : Nat) : Prop :=
  (c = .remap ∧ n = 1) ∨ (c = .discardStep ∧ n = 2) ∨ (c = .replay ∧ n = 3) ∨ (c = .hold ∧ n = 4) ∨ (c = .resume ∧ n = 5) ∨
  (c = .chrysalis ∧ n = 6) ∨ (c = .retirePort ∧ n = 7) ∨ (c = .testNow ∧ n = 8) ∨ (c = .drain ∧ n = 9) ∨ (c = .wakeSpare ∧ n = 10)

/-- A directive of a code is taken and accepted. -/
def accepted (s u : State) (m : Mgmt) (d : Directive) (code : Nat) : Prop :=
  (∃ y, hears s m [0] false y u) ∧ u.directiveResult code d = 0

/-- Its number is kept and its result is given, or waits (R357). -/
def answered (t : State) (d : Directive) (code : Nat) : Prop :=
  t.rd F.ERR_FM_fm_seq = d.fmSeq % 2 ^ F.ERR_FM_fm_seq.width ∧ t.mgmt.results.head? = some (d.fmSeq, code, 0)
def waitsFor (t : State) (d : Directive) (code : Nat) : Prop :=
  t.rd F.ERR_FM_fm_seq = d.fmSeq % 2 ^ F.ERR_FM_fm_seq.width ∧ (code, d.fmSeq, d.w2 % 128) ∈ t.ev.waiting

end Sys2Proof.Machine

/-- While testing is enabled a rotation falls due in a quadrant, a core that is due is tested, a test that passes or fails is recorded, a
failed core is retired with CORE_TEST_FAIL, and deferred or overdue tests are flagged; TEST_NOW makes every quadrant due and tests every free
spare; the hour's retries are compared and begin again. -/
def Obligations.InFieldTests : Prop :=
  (∀ (s : State) (q : Nat), s.testing = true → q < 4 → q ∉ s.test.due → s.testPeriod ≤ 68 * (s.tick - sget 0 s.test.rotated q) →
    ∃ t, exec (.rotationDue q) s = .next t ∧ sameMemory s t ∧ t.regs = s.regs ∧ t.test.due = s.test.due ++ [q]) ∧
  (∀ (s : State) (p : Nat), s.powered = true → p < 272 → s.isSetAt F.CHK_CORE_TEST_testing p = true →
    (∃ t, exec (.coreTestComplete p true) s = .next t ∧ sameMemory s t ∧ t.test = s.test ∧ t.rdAt F.CHK_CORE_TEST_testing p = 0 ∧
      t.rdAt F.CHK_CORE_TEST_result p = 1 ∧ t.rdAt F.CHK_CORE_TEST_tick p = s.tick % 2 ^ F.CHK_CORE_TEST_tick.width) ∧
    (∃ t, exec (.coreTestComplete p false) s = .next t ∧ p ∈ t.test.retired ∧ t.rdAt F.CHK_CORE_TEST_testing p = 0 ∧
      t.rdAt F.CHK_CORE_TEST_result p = 2 ∧ counted s t 1 ∧ (s.isSet F.CHK_CHRYS_CTRL_on_warning = false → sameMemory s t))) ∧
  (∀ (s : State) (p : Nat), s.testing = true → p < 272 → s.testDue p = true →
    ((s.job.active = true ∧ (s.spares (quadOfPhys p)).contains p = true) ∨ (s.job.active = false ∧ s.test.retired.contains p = false ∧
      s.isSetAt F.CHK_CORE_TEST_testing p = false ∧ s.underTest (quadOfPhys p) < 4)) →
    ∃ t, exec (.spareTestDue p) s = .next t ∧ sameMemory s t ∧ t.rdAt F.CHK_CORE_TEST_testing p = 1 ∧
      sameRegsBut [F.CHK_CORE_TEST_testing.key p] s t) ∧
  (∀ s : State, s.testing = true → s.live = true → s.test.due ≠ [] → s.test.deferred = false →
    s.past (s.job.openedAt + 4 * hourTicks - 1) = true → ∃ t, exec .testDeferTimer s = .next t ∧ sameMemory s t ∧ t.test.deferred = true ∧
      t.rd F.CHK_TEST_STATUS_deferred = 1 ∧ counted s t 1) ∧
  (∀ (s : State) (n : Nat), s.testing = true → s.job.active = true → s.isSet F.CHK_TEST_STATUS_overdue = false → n ∈ allCores →
    s.past (s.lastTest (s.rdAt F.MOD_CORE_MAP_phys_core n) + s.testPeriod + 24 * hourTicks) = true →
    ∃ t, exec .testOverdueTimer s = .next t ∧ sameMemory s t ∧ t.rd F.CHK_TEST_STATUS_overdue = 1 ∧ counted s t 1) ∧
  (∀ s : State, s.alive = true → s.mode ≠ .dormant → ∃ t, exec .chkTestNow s = .next t ∧ sameMemory s t ∧ t.test.due = [0, 1, 2, 3] ∧
    ∀ q, q < 4 → ∀ p ∈ s.spares q, t.rdAt F.CHK_CORE_TEST_testing p = 1) ∧
  (∀ s : State, s.alive = true → s.job.active = true → s.job.retryHour < s.tick / hourTicks → ∃ t, exec .coreRetryHourly s = .next t ∧
    t.job.retries = [] ∧ t.job.retryHour = s.tick / hourTicks ∧
    (s.isSet F.CHK_CHRYS_CTRL_on_warning = false → sameMemory s t ∧ ∀ p ∈ s.job.retries,
      s.rd F.ERR_RETRY_THRESH_per_hour < sget 0 s.job.retries p.1 → p.1 ∈ t.job.retryRaised))

/-- A heartbeat goes to every watched module; a watched module that is silent, or of whose loss a notice tells, is recorded as lost; an overlong wait for
a REMAP, or the fault manager's silence with a loss held, holds the job; a unit's watchdog makes the module FAILED; STATUS goes out once a second
and a coalescing window closes with its count. -/
def Obligations.LossesAndTimers : Prop :=
  (∀ s : State, s.jobRuns = true → s.job.beatAt + usTicks (s.rd F.ERR_CTRL_job_hb_us) ≤ s.tick →
    ∃ t, exec .jobHeartbeatTimer s = .next t ∧ sameMemory s t ∧ t.job.beatAt = s.tick ∧
      ∀ m ∈ s.watched, onItsWay t m true (fun g => g.type = .control ∧ g.dstAddr = 1 ∧ flitKind g = 0x20)) ∧
  (∀ (s u : State) (f : Flit), takes s f .control u → exec (.jobHeartbeat f) s = .next u) ∧
  (∀ (s : State) (m r : Nat), s.jobRuns = true → s.watched.contains m = true → s.rankAt m = some r → s.lost r = false →
    s.past (sget s.tick s.job.heard m + usTicks (s.rd F.ERR_CTRL_job_hb_timeout_us)) = true →
    ∃ t, exec (.jobHbTimeout m) s = .next t ∧ t.rd F.ERR_LOSS_valid = 1 ∧ counted s t 3 ∧
      (s.isSet F.ERR_LOSS_valid = false → t.rd F.ERR_LOSS_declared = 1 ∧ t.rd F.ERR_LOSS_rank = r % 2 ^ F.ERR_LOSS_rank.width ∧
        t.rd F.ERR_LOSS_module = s.moduleOf r % 2 ^ F.ERR_LOSS_module.width)) ∧
  (∀ (s u : State) (f : Flit), takes s f .control u → f.dstAddr = 1 → flitKind f = 0x21 → newer32 u.epoch (field f.payload 8 4) = false →
    field f.payload 16 2 < u.rankCount → u.lost (field f.payload 16 2) = false →
    ∃ t, exec (.lossNotice f) s = .next t ∧ t.rd F.ERR_LOSS_valid = 1 ∧
      (u.isSet F.ERR_LOSS_valid = false → t.rd F.ERR_LOSS_declared = 0 ∧
        t.rd F.ERR_LOSS_rank = field f.payload 16 2 % 2 ^ F.ERR_LOSS_rank.width)) ∧
  (∀ (s : State) (l : Loss), s.alive = true → l ∈ s.job.losses → s.past (l.since + sTicks (s.rd F.ERR_CTRL_remap_wait_s)) = true →
    (s.live = true → ∃ t, exec .remapWaitTimeout s = .next t ∧ sameMemory s t ∧ t.mode = s.mode ∧ t.job.holdAfter = true) ∧
    (s.live = false → s.mode = .running → ∃ t, exec .remapWaitTimeout s = .next t ∧ sameMemory s t ∧ t.mode = .held)) ∧
  (∀ (s : State) (unit : Nat), s.alive = true → unit < 7 → ∃ t, exec (.hubWatchdogExpiry unit) s = .next t ∧ sameMemory s t ∧
    t.mode = .failed ∧ counted s t 5) ∧
  (∀ s : State, s.powered = true → s.ev.fmRaised = false → s.past (s.ev.fmAt + sTicks 10) = true →
    ∃ t, exec .fmSilenceTimeout s = .next t ∧ sameMemory s t ∧ t.ev.fmRaised = true ∧ t.rd F.ERR_STATUS_fm_reachable = 0 ∧ counted s t 1 ∧
      (s.job.losses ≠ [] → s.live = false → s.mode = .running → t.mode = .held) ∧ (s.job.losses = [] → t.mode = s.mode ∧ t.step = s.step)) ∧
  (∀ (s : State) (w : Window), s.powered = true → s.ev.windows.find? (fun x => x.code == w.code && x.unit == w.unit &&
      decide (x.since + msTicks 100 ≤ s.tick)) = some w →
    ∃ t ws, exec (.coalesceWindowClose w.code w.unit) s = .next t ∧ sameMemory s t ∧ w ∉ t.ev.windows ∧ Output.record ws ∈ t.outbox ∧
      wd ws 0 / 2 ^ 20 % 2 ^ 12 = w.code % 2 ^ 12 ∧ wd ws 0 % 2 ^ 17 = bit (decide (1 < w.count)) * 2 ^ 16 + min w.count 0xFFFF) ∧
  (∀ s : State, s.powered = true → s.ev.statusAt + sTicks 1 ≤ s.tick → ∃ t b, exec .statusTimer s = .next t ∧ sameMemory s t ∧
    t.ev.statusAt = s.tick ∧ Output.mgmt 4 b ∈ t.outbox ∧ b.length = 64 ∧ b.head? = some s.mode.code)

/-- A directive is answered: DUPLICATE where its number is not newer; with its code of R357 and DIRECTIVE_REJECTED where it may not be carried
out, and nothing else then changes; where it is accepted, its number is kept, and its own effect follows, with APPLIED at once or when the effect
has come. -/
def Obligations.DirectivesAct : Prop :=
  (∀ (c : Mgmt → Directive → Instr) (n : Nat), directiveForm c n →
    ∀ (s u : State) (m : Mgmt) (d : Directive) (y : Session), hears s m [0] false y u →
    (u.directiveResult n d = 1 → ∃ t, exec (c m d) s = .next t ∧ sameMemory u t ∧ t.rd F.ERR_FM_result = 1 ∧ t.mode = u.mode ∧ t.step = u.step) ∧
    (1 < u.directiveResult n d → ∃ t, exec (c m d) s = .next t ∧ sameMemory u t ∧ t.mode = u.mode ∧ t.step = u.step ∧ counted u t 1 ∧
      t.mgmt.results.head? = some (d.fmSeq, n, u.directiveResult n d) ∧ t.rd F.ERR_FM_fm_seq = u.rd F.ERR_FM_fm_seq)) ∧
  (∀ (s u : State) (m : Mgmt) (d : Directive),
    (accepted s u m d 1 → u.mode = .ready → ∃ t, exec (.remap m d) s = .next t ∧ sameMemory u t ∧ waitsFor t d 1 ∧ t.ev.takeover =
      some { jobId := d.job, rank := fld d.w2 15 0, epoch := d.epoch, replay := fld d.w3 3 0, discards := fld d.w3 11 4 }) ∧
    (accepted s u m d 1 → u.mode ≠ .ready → u.moduleOf (fld d.w2 15 0) ≠ u.self → ∃ t, exec (.remap m d) s = .next t ∧ answered t d 1 ∧
      t.epoch = d.epoch % 2 ^ 32 ∧
      t.job.map = remapTable u.job.map (fld d.w2 15 0) (u.moduleOf (fld d.w2 15 0)) (fld d.w2 31 16) d.epoch) ∧
    (accepted s u m d 1 → u.mode ≠ .ready → u.moduleOf (fld d.w2 15 0) = u.self → u.job.boundary = none →
      ∃ t, exec (.remap m d) s = .next t ∧ answered t d 1 ∧ t.mode = .draining ∧
        t.step = (if u.live = true ∨ u.step = .discarded then .discarded else .none)) ∧
    (accepted s u m d 2 → u.live = true → u.job.boundary = none → u.barrier.own ≠ 3 → u.barrier.kids = [] → u.barrier.sentFail = false →
      ∃ t, exec (.discardStep m d) s = .next t ∧ answered t d 2 ∧ t.instar = u.instar ∧ t.bank = u.bank ∧
        (u.isRoot = true → t.step = .discarded ∧ t.rd F.CHK_MOLT_LAST_cause = 8) ∧
        (u.isRoot = false → sameMemory u t ∧ t.barrier.own = 3 ∧ t.barrier.cause = 8 ∧
          onItsWay t (u.moduleOf (barrierParent u.rank)) true (fun g => g.type = .control ∧ isBarrier g 0x10 = true))) ∧
    (accepted s u m d 3 → ∃ t, exec (.replay m d) s = .next t ∧ sameMemory u t ∧ waitsFor t d 3 ∧ t.mode = .running) ∧
    (accepted s u m d 4 → (u.live = true → ∃ t, exec (.hold m d) s = .next t ∧ sameMemory u t ∧ waitsFor t d 4 ∧ t.mode = u.mode ∧
        t.job.boundary = some .hold) ∧
      (u.live = false → ∃ t, exec (.hold m d) s = .next t ∧ sameMemory u t ∧ answered t d 4 ∧ t.mode = .held)) ∧
    (accepted s u m d 5 → ∃ t, exec (.resume m d) s = .next t ∧ sameMemory u t ∧ answered t d 5 ∧ t.mode = .running ∧ t.job.losses = []) ∧
    (accepted s u m d 6 → u.isRoot = false → ∃ t, exec (.chrysalis m d) s = .next t ∧ sameMemory u t ∧ waitsFor t d 6 ∧
      onItsWay t (u.moduleOf 0) true (fun g => g.type = .control ∧ g.dstAddr = 2 ∧ flitKind g = 0x32 ∧ field g.payload 3 1 = 2)) ∧
    (accepted s u m d 6 → u.isRoot = true → u.job.active = true → u.chrys.gather.isSome = true → ∃ t, exec (.chrysalis m d) s = .next t ∧
      sameMemory u t ∧ waitsFor t d 6 ∧ t.rd F.CHK_CHRYS_COORD_pending = 1) ∧
    (accepted s u m d 7 → (bitAt d.w2 7 = false → ∃ t, exec (.retirePort m d) s = .next t ∧ answered t d 7 ∧
        t.rdAt F.PORT_CTRL_enable (d.w2 % 128) = 0 ∧ t.portState (d.w2 % 128) = 0) ∧
      (bitAt d.w2 7 = true → ∃ t, exec (.retirePort m d) s = .next t ∧ t.rdAt F.PORT_CTRL_enable (d.w2 % 128) = 1 ∧
        (u.portState (d.w2 % 128) < 2 → t.portState (d.w2 % 128) = 2 ∧ waitsFor t d 7))) ∧
    (accepted s u m d 8 → ∃ t, exec (.testNow m d) s = .next t ∧ sameMemory u t ∧ answered t d 8 ∧
      (u.mode = .dormant → t.test.pendingNow = true) ∧ (u.mode ≠ .dormant → t.test.due = [0, 1, 2, 3])) ∧
    (accepted s u m d 9 → (u.live = true → ∃ t, exec (.drain m d) s = .next t ∧ sameMemory u t ∧ waitsFor t d 9 ∧ t.mode = u.mode ∧
        t.job.boundary = some .drain) ∧
      (u.live = false → ∃ t, exec (.drain m d) s = .next t ∧ sameMemory u t ∧ answered t d 9 ∧ t.mode = .draining)) ∧
    (accepted s u m d 10 → (d.w2 % 2 = 0 → ∃ t, exec (.wakeSpare m d) s = .next t ∧ sameMemory u t ∧ waitsFor t d 10 ∧ t.ev.eclosing = true) ∧
      (d.w2 % 2 = 1 → ∃ t, exec (.wakeSpare m d) s = .next t ∧ sameMemory u t ∧ answered t d 10 ∧ t.mode = .dormant ∧ t.boot.os = false ∧
        t.rd F.MEM_STATUS_self_refresh = 1)))

/-- An eclosion ends in READY once no core is under test, with ECLOSION, and in FAILED where it fails; a READY module that got no job for 600 s
returns to DORMANT. -/
def Obligations.PupaeWakeAndReturn : Prop :=
  (∀ s : State, s.ev.eclosing = true → s.mode = .dormant →
    (∃ t, exec (.eclosionComplete false) s = .next t ∧ sameMemory s t ∧ t.mode = .failed ∧ t.ev.eclosing = false ∧ counted s t 5) ∧
    ((∀ p, p < 272 → s.isSetAt F.CHK_CORE_TEST_testing p = false) → ∃ t, exec (.eclosionComplete true) s = .next t ∧ sameMemory s t ∧
      t.mode = .ready ∧ t.ev.eclosing = false ∧ t.boot.os = true ∧ t.rd F.MEM_STATUS_self_refresh = 0 ∧ t.ev.wokenAt = some s.tick ∧
      counted s t 0 ∧ (s.test.pendingNow = true → t.test.due = [0, 1, 2, 3] ∧ t.test.pendingNow = false)) ∧
    (∀ p, p < 272 → s.isSetAt F.CHK_CORE_TEST_testing p = true → exec (.eclosionComplete true) s = .next s)) ∧
  (∀ (s : State) (w : Nat), s.mode = .ready → s.job.active = false → s.ev.takeover = none → s.ev.wokenAt = some w →
    (w + sTicks 600 ≤ s.tick → ∃ t, exec .pupaReturnTimeout s = .next t ∧ sameMemory s t ∧ t.mode = .dormant ∧ t.boot.os = false ∧
      t.ev.wokenAt = none ∧ t.rd F.MEM_STATUS_self_refresh = 1) ∧
    (s.tick < w + sTicks 600 → exec .pupaReturnTimeout s = .next s))

namespace Sys2Proof.Machine

/-- A chrysalis message of a kind, of the module's own epoch (R366). -/
def chrysMsg (u : State) (f : Flit) (kind : Nat) : Prop :=
  f.dstAddr = 2 ∧ field f.payload 0 1 = kind ∧ newer32 u.epoch (field f.payload 4 4) = false

/-- The runs of the piece this module writes: its place among its replicas (R369). -/
def State.ownRuns (u : State) : List PieceRun :=
  u.pieceRuns ((u.replicas.findIdx? (fun r => r == u.rank)).getD 0) (max u.replicas.length 1)

/-- The plan's slot holds the piece and its header and directory (R370, R375). -/
def State.slotFits (u : State) (slot : Nat) : Prop :=
  u.planOk slot = true ∧
    1 + (u.ownRuns.length + 63) / 64 + (runsBytes u.ownRuns + 4095) / 4096 ≤ fld (u.planWord slot 2) 39 0

end Sys2Proof.Machine

/-- A CUT for a later instar is kept for its molt, one for the present instar starts the writer on the committed bank, and one that cannot be taken
is answered with a failed DONE of code 4; a REQUEST makes the coordinator cut at the target of R367 or stays pending; DONEs are gathered and the last
one commits; the coordinator's timeout gives up what it gathers with code 7. -/
def Obligations.ChrysalisCutsAndGathering : Prop :=
  (∀ (s u : State) (f : Flit), takes s f .control u → chrysMsg u f 0x30 →
    let now := bitAt (field f.payload 1 1) 0
    let slot := field f.payload 2 1
    let n := field f.payload 8 8
    (u.chrys.writer = none → now = false → u.instar < n → ∃ t, exec (.cut f) s = .next t ∧ sameMemory u t ∧ t.chrys.due = some (n, slot) ∧
      t.chrys.writer = none) ∧
    (u.isRoot = false → (u.chrys.writer.isSome = true ∨ n < u.instar) → ∃ t, exec (.cut f) s = .next t ∧ sameMemory u t ∧
      t.chrys.writer = u.chrys.writer ∧ t.chrys.due = u.chrys.due ∧
      onItsWay t (u.moduleOf 0) true (fun g => g.type = .control ∧ chrysMsg u g 0x31 ∧ field g.payload 1 1 = 1 ∧ field g.payload 3 1 = 4)) ∧
    (u.chrys.writer = none → now = true → n = u.instar → ∃ t, exec (.cut f) s = .next t ∧ sameMemory u t ∧
      t.rd F.CHK_CHRYS_INSTAR_instar = n ∧
      (u.slotFits slot → u.isSet F.CHK_CHRYS_CTRL_staging = false → ∃ w, t.chrys.writer = some w ∧ w.instar = n ∧ w.slot = slot ∧
        w.bank = u.bank ∧ w.runs = u.ownRuns ∧ w.staged = false ∧ w.copying = false ∧ t.rd F.CHK_CHRYS_STATUS_state = 2 ∧
        t.rd F.CHK_CHRYS_STATUS_fence = 1) ∧
      (u.planOk slot = false → t.chrys.writer = none ∧ t.rd F.CHK_CHRYS_STATUS_state = 4 ∧ t.rd F.CHK_CHRYS_STATUS_code = 6 ∧
        t.rd F.CHK_CHRYS_STATUS_fence = 0))) ∧
  (∀ (s u : State) (f : Flit), takes s f .control u → chrysMsg u f 0x32 →
    (u.isRoot = false → exec (.request f) s = .next u) ∧
    (u.isRoot = true → u.job.active = true → u.chrys.gather.isSome = true → ∃ t, exec (.request f) s = .next t ∧ sameMemory u t ∧
      t.rd F.CHK_CHRYS_COORD_pending = 1 ∧ t.chrys = u.chrys) ∧
    (u.isRoot = true → u.job.active = true → u.chrys.gather = none → ∃ t g, exec (.request f) s = .next t ∧ sameMemory u t ∧
      t.chrys.gather = some g ∧ g.slot = u.rd F.CHK_CHRYS_COORD_next_slot ∧ g.dones = [] ∧ t.rd F.CHK_CHRYS_COORD_gathering = 1 ∧
      (u.mode = .held → g.instar = u.instar) ∧ (u.mode ≠ .held → u.live = true → u.barrier.recordSent = false → g.instar = u.instar + 1) ∧
      (u.mode ≠ .held → (u.live = false ∨ u.barrier.recordSent = true) → g.instar = u.instar + 2))) ∧
  (∀ (s u : State) (f : Flit) (g : Gather), takes s f .control u → chrysMsg u f 0x31 → u.chrys.gather = some g → u.isRoot = true →
    g.instar = field f.payload 8 8 → bitAt (field f.payload 1 1) 0 = false → g.dones.any (fun d => d.rank == field f.payload 16 2) = false →
    (g.dones.length + 1 < u.rankCount → ∃ t h, exec (Instr.done f) s = .next t ∧ sameMemory u t ∧ t.chrys.gather = some h ∧
      h.dones.length = g.dones.length + 1 ∧ t.rd F.CHK_CHRYS_COORD_done_count = (g.dones.length + 1) % 2 ^ F.CHK_CHRYS_COORD_done_count.width) ∧
    (g.dones.length + 1 = u.rankCount → u.isSet F.CHK_CHRYS_COORD_pending = false → ∃ t, exec (Instr.done f) s = .next t ∧ sameMemory u t ∧
      t.chrys.gather = none ∧ t.rd F.CHK_CHRYS_LAST_instar = g.instar % 2 ^ F.CHK_CHRYS_LAST_instar.width ∧
      t.rd F.CHK_CHRYS_COORD_gathering = 0)) ∧
  (∀ (s : State) (g : Gather), s.chrys.gather = some g → s.alive = true →
    s.past (g.since + sTicks (s.rd F.CHK_CHRYS_CTRL_done_timeout_s)) = true → ∃ t, exec .chrysalisDoneTimeout s = .next t ∧ sameMemory s t ∧
      counted s t 1 ∧ (s.isSet F.CHK_CHRYS_COORD_pending = false → t.chrys.gather = none ∧ t.rd F.CHK_CHRYS_COORD_gathering = 0 ∧
        t.rd F.CHK_CHRYS_STATUS_code = 7))

/-- The staging copy moves the piece out of the bank and opens the fence, unless its source is poisoned and no copy can mend it; a completed Write counts, the last data Write is followed by the directory
and the directory by the header, whose completion ends the piece; a Write that fails goes to the other port once and then stops the writer with
code 1. -/
def Obligations.ChrysalisWriter : Prop :=
  ∀ (s : State) (w : Writer), s.chrys.writer = some w → s.alive = true →
    (w.copying = true → s.badSource w = [] → ∃ t x, exec .stagingCopyDone s = .next t ∧ t.chrys.writer = some x ∧ x.copying = false ∧
      x.staged = true ∧ x.runs = w.runs ∧ x.patches = [] ∧ x.done = w.done ∧
      t.rd F.CHK_CHRYS_STATUS_state = 2 ∧ t.rd F.CHK_CHRYS_STATUS_fence = 0 ∧ (w.runs = [] → sameMemory s t) ∧
      (∀ r, w.runs = [r] → s.regionBase 5 + r.dataOff + pad64 r.len ≤ 0xB800000000 →
        (∀ k, k < r.len → t.peek (s.regionBase 5 + r.dataOff + k) = s.pieceByte w r k) ∧
        (∀ a, (a < s.regionBase 5 + r.dataOff ∨ s.regionBase 5 + r.dataOff + pad64 r.len ≤ a) → t.peek a = s.peek a))) ∧
    (w.copying = true → w.staged = false → w.bank = 1 - s.bank → s.bank < 2 → s.rankCount = 1 → s.badSource w ≠ [] →
      ∃ t, exec .stagingCopyDone s = .next t ∧ sameMemory s t ∧ t.chrys.writer = none ∧ t.rd F.CHK_CHRYS_STATUS_code = 3) ∧
    (∀ k, w.mayComplete k = true →
      (sget false w.failed k = false → ∃ t, exec (.writeCommandComplete k false) s = .next t ∧ sameMemory s t ∧
        t.chrys.writer = some { w with failed := sput w.failed k true, sentOn := sput w.sentOn k (1 - sget (k % 2) w.sentOn k) } ∧
        ∃ o l, Output.link o 0x4E l ∈ t.outbox ∧ l.drop 4 = [k] ∧
          o = (s.frontPort (1 - sget (k % 2) w.sentOn k)).getD (70 + (1 - sget (k % 2) w.sentOn k))) ∧
      (sget false w.failed k = true → ∃ t, exec (.writeCommandComplete k false) s = .next t ∧ sameMemory s t ∧ t.chrys.writer = none ∧
        t.rd F.CHK_CHRYS_STATUS_state = 4 ∧ t.rd F.CHK_CHRYS_STATUS_code = 1 ∧ t.rd F.CHK_CHRYS_STATUS_fence = 0) ∧
      (k < w.dataCmds → s.badGranules w k = [] → ∃ t x, exec (.writeCommandComplete k true) s = .next t ∧ sameMemory s t ∧
        t.chrys.writer = some x ∧ x.done = sput w.done k true ∧ x.carried = sput w.carried k (s.commandData w k) ∧ x.runs = w.runs ∧ t.rd F.CHK_CHRYS_BYTES_bytes =
          (s.rd F.CHK_CHRYS_BYTES_bytes + min mib (w.dataLen - k * mib)) % 2 ^ F.CHK_CHRYS_BYTES_bytes.width) ∧
      (k < w.dataCmds → s.badGranules w k ≠ [] → w.staged = true → ∃ t, exec (.writeCommandComplete k true) s = .next t ∧ sameMemory s t ∧
        t.chrys.writer = none ∧ t.rd F.CHK_CHRYS_STATUS_code = 3) ∧
      (k = w.dataCmds → ∃ t x, exec (.writeCommandComplete k true) s = .next t ∧ sameMemory s t ∧
        t.chrys.writer = some x ∧ x.done = sput w.done k true ∧ x.carried = w.carried ∧
        ∃ l, Output.link ((s.frontPort (s.frontFor (k + 1))).getD (70 + s.frontFor (k + 1))) 0x4E l ∈ t.outbox ∧ l.drop 3 = [1, k + 1]) ∧
      (k = w.dataCmds + 1 → (s.isRoot = false ∨ s.isSet F.CHK_CHRYS_COORD_pending = false) → ∃ t, exec (.writeCommandComplete k true) s = .next t ∧ sameMemory s t ∧
        t.chrys.writer = none ∧ t.rd F.CHK_CHRYS_STATUS_state = 3 ∧ t.rd F.CHK_CHRYS_STATUS_fence = 0))

namespace Sys2Proof.Machine

/-- A release of RESET_N or a good supply starts main conversion at once (R385, R402, R412, R445). -/
def bootReady (s : State) : Prop :=
  s.mode = .standby ∧ s.isSet F.PWR_THERM_STATUS_tripped = false ∧ s.pwr.fromRom = false ∧ s.boot.config.isSome = true ∧ s.boot.recovery = none

/-- Main conversion is off in STANDBY, and what HBM held is undefined (R387). -/
def lostAll (s t : State) : Prop :=
  t.mode = .standby ∧ t.pwr.rails = false ∧ t.pwr.converting = false ∧ t.tick = s.tick ∧ t.boot.flashA = s.boot.flashA ∧
  t.boot.flashB = s.boot.flashB ∧ t.boot.otp = s.boot.otp ∧ t.ev.journal = s.ev.journal ∧ (∀ a, t.mem.hbm.undefAt a = true) ∧
  t.queues = [] ∧ t.job.active = false

/-- Every byte of memory reads as before, but for those of the operand caches, which are lost with the power of the cores (R390). -/
def sameButCaches (s t : State) : Prop := ∀ a, (∀ n off, place a ≠ .ocache n off) → t.peek a = s.peek a

end Sys2Proof.Machine

/-- Auxiliary power brings STANDBY (or FAILED, without an identity) and its removal OFF, keeping the flashes and the OTP; losing the main input, an
overvoltage, RESET_N and PRSNT_N take a module above STANDBY back to it with its contents lost; a good input or a release starts main
conversion where nothing holds it, and good rails start BOOTING. -/
def Obligations.SuppliesAndResets : Prop :=
  (∀ (s : State) (straps : Nat) (hi pr mg : Bool), s.mode = .off → ∃ t, exec (.auxPowerUp straps hi pr mg) s = .next t ∧
    (t.mode = .standby ∨ t.mode = .failed) ∧ t.pwr.resetLow = !hi ∧ t.pwr.absent = !pr ∧ t.boot.flashA = s.boot.flashA ∧
    t.boot.flashB = s.boot.flashB ∧ t.boot.otp = s.boot.otp ∧ t.boot.otpRead = s.boot.otp ∧ t.tick = 0) ∧
  (∀ s : State, ∃ t, exec .auxRemoved s = .next t ∧ t.mode = .off ∧ t.regs = [] ∧ t.tick = 0 ∧ t.boot.flashA = s.boot.flashA ∧
    t.boot.flashB = s.boot.flashB ∧ t.boot.otp = s.boot.otp) ∧
  (∀ s : State, s.mode ≠ .off → s.mode ≠ .standby →
    (∃ t, exec .mainRemoved s = .next t ∧ lostAll s t ∧ t.rd F.PWR_SUPPLY_main_lost = 1 ∧ t.rd F.PWR_SUPPLY_main_good = 0) ∧
    (∃ t, exec .mainOvervoltage s = .next t ∧ lostAll s t ∧ t.rd F.PWR_SUPPLY_ovp = 1 ∧ t.rd F.PWR_SUPPLY_main_good = 0) ∧
    (s.pwr.resetLow = false → ∃ t, exec .resetNAssert s = .next t ∧ lostAll s t ∧ t.rd F.PWR_SUPPLY_main_lost = 1 ∧
      t.pwr.resetLow = true ∧ t.pwr.bootWanted = false) ∧
    (s.pwr.absent = false → ∃ t, exec .prsntNLoss s = .next t ∧ lostAll s t ∧ t.rd F.PWR_SUPPLY_main_lost = 1 ∧
      t.pwr.absent = true ∧ t.pwr.bootWanted = false)) ∧
  (∀ s : State, s.mode = .standby →
    (∃ t, exec .mainRemoved s = .next t ∧ sameMemory s t ∧ t.mode = .standby ∧ t.rd F.PWR_SUPPLY_main_good = 0 ∧
      t.rd F.PWR_SUPPLY_main_lost = s.rd F.PWR_SUPPLY_main_lost ∧ t.pwr.converting = false) ∧
    (s.pwr.bootWanted = true → s.pwr.resetLow = false → s.pwr.absent = false → bootReady s →
      ∃ t, exec .mainGood s = .next t ∧ sameMemory s t ∧ t.rd F.PWR_SUPPLY_main_good = 1 ∧ t.pwr.converting = true) ∧
    (s.pwr.converting = true → s.pwr.rails = false → ∃ t, exec .railsGood s = .next t ∧ t.mode = .booting ∧ t.pwr.rails = true ∧
      t.rd F.SEC_BOOT_stage = 3 ∧ 32 ≤ t.pwr.target)) ∧
  (∀ (s : State) (straps : Nat), s.powered = true → s.pwr.resetLow = true →
    (s.pwr.absent = true → ∃ t, exec (.resetNRelease straps) s = .next t ∧ sameMemory s t ∧ t.regs = s.regs ∧ t.pwr.resetLow = false) ∧
    (s.pwr.absent = false → s.pwr.fromRom = false → ∃ t, exec (.resetNRelease straps) s = .next t ∧ sameMemory s t ∧ t.pwr.resetLow = false ∧
      t.pwr.bootWanted = true ∧ t.rd F.STW_STRAPS_boot = fld straps 8 7 ∧ t.rd F.MOD_ADDR_slot = straps % 2 ^ F.MOD_ADDR_slot.width ∧
      (bootReady s → s.pwr.mainOn = true → t.pwr.converting = true))) ∧
  (∀ (s : State) (straps : Nat), s.powered = true → s.pwr.absent = true →
    (s.pwr.resetLow = true → ∃ t, exec (.prsntNReturn straps) s = .next t ∧ sameMemory s t ∧ t.regs = s.regs ∧ t.pwr.absent = false) ∧
    (s.pwr.resetLow = false → s.pwr.fromRom = false → ∃ t, exec (.prsntNReturn straps) s = .next t ∧ sameMemory s t ∧ t.pwr.absent = false ∧
      t.pwr.bootWanted = true ∧ t.rd F.STW_STRAPS_boot = fld straps 8 7 ∧
      (bootReady s → s.pwr.mainOn = true → t.pwr.converting = true))) ∧
  (∀ s : State, s.powered = true → ∃ t, exec .wakeN s = .next t ∧ sameMemory s t ∧ t.regs = s.regs ∧ t.mode = s.mode ∧ t.pwr.awake = true)

/-- Stage 4 on good images zeroes HBM, tests the cores and starts the ports, and stage 5 follows; an image that fails takes the boot back to STANDBY;
BOOT_COMPLETE makes the module READY, or DORMANT where the straps or the configuration ask for it; recovery asks once a second and starts again
from the set that it is sent; a restart of the steward ends its sessions. -/
def Obligations.BootAndRecovery : Prop :=
  (∀ (s : State) (bad : List Nat), s.mode = .booting → s.rd F.SEC_BOOT_stage < 4 → (∀ o, o < 76 → s.portState o < 2) →
    ∃ t, exec (.bootStart bad) s = .next t ∧
      (s.imageBad (s.rd F.SEC_BOOT_flash) 2 = 0 → s.imageBad (s.rd F.SEC_BOOT_flash) 3 = 0 →
        t.mode = .booting ∧ t.rd F.SEC_BOOT_stage = 5 ∧ t.mem.hbm = {} ∧
        (∀ p ∈ bad, p < 272 → p ∈ t.test.retired ∧ t.rdAt F.CHK_CORE_TEST_result p = 2) ∧ ∀ o, o < 76 → t.portState o = 2) ∧
      (s.imageBad (s.rd F.SEC_BOOT_flash) 2 ≠ 0 → (t.mode = .standby ∨ t.mode = .failed) ∧ t.pwr.rails = false)) ∧
  (∀ s : State, s.mode = .booting → s.rd F.SEC_BOOT_stage = 5 →
    (s.rd F.STW_STRAPS_dormant_start ≠ 0 → s.isPupa = false → ∃ t, exec .bootComplete s = .next t ∧ sameMemory s t ∧ t.mode = .ready ∧
      t.boot.os = true ∧ t.rd F.SEC_BOOT_stage = 7 ∧ t.pwr.bootWanted = false) ∧
    ((s.rd F.STW_STRAPS_dormant_start = 0 ∨ s.isPupa = true) → ∃ t, exec .bootComplete s = .next t ∧ sameMemory s t ∧ t.mode = .dormant ∧
      t.boot.os = false ∧ t.rd F.MEM_STATUS_self_refresh = 1)) ∧
  (∀ (s : State) (f : Nat), s.boot.recovery = some f → s.powered = true →
    (s.boot.recoveryAt + sTicks 1 ≤ s.tick → ∃ t, exec .recoveryReqTimer s = .next t ∧ sameMemory s t ∧ t.regs = s.regs ∧
      t.boot.recoveryAt = s.tick ∧ t.outbox = s.outbox ++ [.mgmt 0x15 [s.rd F.MOD_SERIAL_serial, f]]) ∧
    (∀ cs, f < 2 → ∃ t, exec (.recoveryImage cs) s = .next t ∧
      (t.flash f).image = cs.foldl (fun (m : Image) c => if c.1 + c.2.length ≤ 0xC000000 then m.writeN c.1 c.2 else m) (s.flash f).image ∧
      (t.flash f).dirty = false ∧ t.flash (1 - f) = s.flash (1 - f))) ∧
  (∀ s : State, s.powered = true → ∃ t, exec .stewardWatchdog s = .next t ∧ t.mgmt.sessions = [] ∧
    Output.mgmt 0x14 [0] ∈ t.outbox ∧ Output.mgmt 0x14 [1] ∈ t.outbox ∧ t.boot.otp = s.boot.otp)

/-- A job whose table or regions fail their checks leaves the module READY with its event; a good one makes it RUNNING with the job's rank, ID and
instar, bank 0 active and the regions laid out; a spare takes the epoch and the replay count of its REMAP; the scrub zeroes HBM and ends the job. -/
def Obligations.JobStartAndScrub : Prop :=
  (∀ (s : State) (j : JobDesc), s.mode = .ready → s.boot.os = true → s.ev.takeover = none →
    ((jobShapeOk j = false ∨ jobMapOk j = false ∨ entryModule (j.map.getD j.rank 0) ≠ s.self) → ∃ t, exec (.jobStart j) s = .next t ∧
      sameMemory s t ∧ t.mode = .ready ∧ t.job = s.job ∧ counted s t 3) ∧
    (jobShapeOk j = true → jobMapOk j = true → entryModule (j.map.getD j.rank 0) = s.self →
      (jobMemOk j = false → ∃ t, exec (.jobStart j) s = .next t ∧ sameMemory s t ∧ t.mode = .ready ∧ t.job = s.job ∧ counted s t 3) ∧
      (jobMemOk j = true → ∃ t, exec (.jobStart j) s = .next t ∧ sameButCaches s t ∧ t.mode = .running ∧ t.step = .none ∧ t.job.active = true ∧
        t.epoch = 1 ∧ t.rank = j.rank ∧ t.rankCount = jobRanks j ∧ t.instar = j.instar % 2 ^ 64 ∧ t.bank = 0 ∧ t.replay = 0 ∧
        t.jobId = j.jobId % 2 ^ 32 ∧ (∀ k, k < 7 → t.rdAt F.MEM_REGION_size k = j.regions.getD k 0) ∧
        (∀ k, k < 8 → t.rdAt F.MEM_REGION_base k = (j.regions.take k).sum) ∧
        t.rd F.MEM_STATUS_key_id = (s.rd F.MEM_STATUS_key_id + 1) % 2 ^ F.MEM_STATUS_key_id.width))) ∧
  (∀ (s : State) (j : JobDesc) (k : Takeover), s.mode = .ready → s.boot.os = true → s.ev.takeover = some k → k.rank = j.rank → k.jobId = j.jobId →
    jobShapeOk j = true → jobMapOk j = true → entryModule (j.map.getD j.rank 0) = s.self → jobMemOk j = true →
    ∃ t, exec (.jobStart j) s = .next t ∧ sameButCaches s t ∧ t.mode = .running ∧ t.epoch = k.epoch % 2 ^ 32 ∧ t.replay = k.replay % 16 ∧
      t.instar = j.instar % 2 ^ 64 ∧ t.ev.takeover = none ∧ (jobRanks j ≠ 1 → t.mirror.pulling = true)) ∧
  (∀ s : State, s.mode = .draining → s.chrys.writer = none → ∃ t, exec .scrubComplete s = .next t ∧ t.mode = .ready ∧ t.job.active = false ∧
    t.jobId = 0 ∧ t.rank = 0 ∧ (∀ a, a < 0xB800000000 → t.peek a = 0) ∧ (∀ a, 0xB800000000 ≤ a → a < 0xC000000000 → t.peek a = s.peek a) ∧
    t.waits = [])

/-- The power loop shows the mean power, budgets and limits, and keeps the clock target within its limits; a step moves one quadrant's clock by one
step towards the target; a droop is counted and holds the steps; energy adds up; a die sensor at 115 °C in two samples, or a stack at 105 °C,
trips the module; a hot die throttles it; an idle core is gated. -/
def Obligations.PowerAndThermal : Prop :=
  (∀ (s : State) (x : PowerSample), s.powered = true → ∃ t, exec (.powerLoop x) s = .next t ∧ sameMemory s t ∧ t.mode = s.mode ∧
    t.rd F.PWR_INPUT_avg_w = s.windowPower / 1000 % 2 ^ F.PWR_INPUT_avg_w.width ∧
    t.rd F.PWR_SUPPLY_main_mv = min 0xFFFF x.mainMv ∧
    (∀ d, d < 7 → t.rdAt F.PWR_DOMAIN_budget_w d = powerLimit (s.rd F.PWR_CAP_cap_w) s.windowPower * fraction (s.rd F.PWR_CTRL_mode) d / 100 / 1000 %
      2 ^ F.PWR_DOMAIN_budget_w.width) ∧
    (s.pwr.rails = true → t.pwr.target ≤ s.rd F.MOD_ID_max_clock ∧ t.pwr.target ≤ s.rd F.PWR_CTRL_clock_ceiling)) ∧
  (∀ (s : State) (q : Nat), q < 4 → s.arrayClocked = true → sget 0 s.pwr.handoffAt q ≤ s.tick →
    let c := s.clocks.getD q 0
    let n := if c < s.pwr.target then c + 1 else c - 1
    c ≠ s.pwr.target → n < 256 → (∀ x ∈ s.clocks, x ≤ n + 1 ∧ n ≤ x + 1) →
    (s.droopHolds q = false → ∃ t, exec (.freqHandoff q) s = .next t ∧ sameMemory s t ∧ t.clocks.getD q 0 = n ∧
      (∀ r, r < 4 → r ≠ q → t.clocks.getD r 0 = s.clocks.getD r 0)) ∧
    (s.droopHolds q = true → q ∉ s.pwr.held → ∃ t, exec (.freqHandoff q) s = .next t ∧ sameMemory s t ∧ t.clocks = s.clocks ∧
      t.rd F.PWR_DROOP_COUNT_held_steps = min (s.rd F.PWR_DROOP_COUNT_held_steps + 1) (2 ^ F.PWR_DROOP_COUNT_held_steps.width - 1))) ∧
  (∀ (s : State) (p : Nat), s.arrayClocked = true → p < 272 →
    (p ∉ s.pwr.droop → ∃ t, exec (.droopAssert p) s = .next t ∧ sameMemory s t ∧ t.droopHolds (quadOfPhys p) = true ∧
      t.rd F.PWR_DROOP_COUNT_droops = min (s.rd F.PWR_DROOP_COUNT_droops + 1) (2 ^ F.PWR_DROOP_COUNT_droops.width - 1)) ∧
    (p ∈ s.pwr.droop → ∃ t, exec (.droopRelease p) s = .next t ∧ sameMemory s t ∧ t.regs = s.regs ∧ t.pwr.droop = s.pwr.droop.erase p) ∧
    (s.coreQuiet p = true → p ∉ s.pwr.gated → ∃ t, exec (.coreClockGate p) s = .next t ∧ sameMemory s t ∧ t.regs = s.regs ∧ t.clockGated p = true)) ∧
  (∀ (s : State) (p k : Nat), ∃ t, exec (.hintExpiry p k) s = .next t ∧ sameMemory s t ∧ t.regs = s.regs ∧
    ∀ h, h ∈ t.pwr.hints ↔ h ∈ s.pwr.hints ∧ ¬ (h.phys = p ∧ h.t = k ∧ h.until_ ≤ s.tick)) ∧
  (∀ (s : State) (mj : Nat), s.powered = true → ∃ t, exec (.energyIntegrate mj) s = .next t ∧ sameMemory s t ∧
    t.rd F.PWR_ENERGY_TOTAL_count = (s.rd F.PWR_ENERGY_TOTAL_count + mj) % 2 ^ F.PWR_ENERGY_TOTAL_count.width ∧
    t.rd F.PWR_ENERGY_JOB_count = (s.rd F.PWR_ENERGY_JOB_count + mj) % 2 ^ F.PWR_ENERGY_JOB_count.width) ∧
  (∀ (s : State) (ds : List (List Int)) (pk : Int), s.powered = true → s.pwr.rails = true → s.isSet F.PWR_THERM_STATUS_tripped = false →
    let new := (List.range 5).map (fun k => ds.getD k [])
    (tripped s.pwr.dies new = true → ∃ t, exec (.thermalSample ds pk) s = .next t ∧ t.rd F.PWR_THERM_STATUS_tripped = 1 ∧
      t.pwr.rails = false ∧ t.pwr.thermLow = true ∧ t.mode = .failed) ∧
    (tripped s.pwr.dies new = false → ∃ t, exec (.thermalSample ds pk) s = .next t ∧ t.pwr.rails = true ∧ t.pwr.package = pk ∧
      ∀ k, k < 5 → t.rdAt F.PWR_TEMP_max_temp k = tempBits (dieReading (s.rd F.PWR_THERM_CTRL_throttle_c) (new.getD k [])).1)) ∧
  (∀ (s : State) (ds : List (List Int)) (pk : Int), s.powered = true → s.pwr.rails = false → ∃ t, exec (.thermalSample ds pk) s = .next t ∧
    t.pwr.package = pk) ∧
  (∀ (s : State) (ts : List Int), s.powered = true → s.pwr.rails = true → s.isSet F.PWR_THERM_STATUS_tripped = false →
    ((∃ x ∈ ts.take 12, 10500 ≤ x) → ∃ t, exec (.stackTemperatureReport ts) s = .next t ∧ t.rd F.PWR_THERM_STATUS_tripped = 1 ∧
      t.pwr.rails = false ∧ t.mode = .failed) ∧
    ((∀ x ∈ ts.take 12, x < 10500) → ∃ t, exec (.stackTemperatureReport ts) s = .next t ∧ sameMemory s t ∧ t.mode = s.mode ∧
      (∀ k, k ∈ t.pwr.paced ↔ k < 12 ∧ ∃ x, ts[k]? = some x ∧ 9500 ≤ x)))

namespace Sys2Proof.Machine

/-- A reply with a status to a request of session `y` is on its way: sent, or behind the window of 1,024 (R427, R428). -/
def replied (t : State) (y : Session) (m : Mgmt) (status : Nat) : Prop :=
  (∃ q a, Output.mgmt 0x13 [y.id, q, a, m.seq, status] ∈ t.outbox) ∨
    ∃ x, t.session? y.id = some x ∧ (0x13, [m.seq, status]) ∈ x.waiting

/-- A message of a kind to the session of `y` is on its way. -/
def told (t : State) (y : Session) (kind : Nat) (p : List Nat → Prop) : Prop :=
  (∃ q a b, Output.mgmt kind (y.id :: q :: a :: b) ∈ t.outbox ∧ p b) ∨ ∃ x b, t.session? y.id = some x ∧ (kind, b) ∈ x.waiting ∧ p b

/-- The session can take one more message before its numbers end (R426). -/
def canSend (u : State) (y : Session) : Prop := ∃ x, u.session? y.id = some x ∧ x.tx + 1 < 2 ^ 31

end Sys2Proof.Machine

/-- Off, nothing is taken; an unknown session meets NO_SESSION, a failed tag is counted, a repeated number is dropped, a good message reaches its
effect, and one whose role may not ask is answered DENIED; a session whose signature verifies is opened; an acknowledgement, the 50 ms timer, the
200 ms resend and the 30 s timeout do what R426 and R427 say. -/
def Obligations.ManagementSessions : Prop :=
  (∀ (s : State) (m : Mgmt) (roles : List Nat) (a : Bool) (h : Session → State → State),
    (s.powered = false → s.onMgmt m roles a h = s) ∧
    (s.powered = true → s.session? m.session = none → s.onMgmt m roles a h = s.send (.mgmt 0x14 [m.session])) ∧
    (∀ x, s.powered = true → s.session? m.session = some x →
      (m.tagOk = false → s.onMgmt m roles a h = s.addSatAt F.STW_MGMT_tag_fail (m.port % 2) 1) ∧
      (m.tagOk = true → x.accepts m.seq = false → s.onMgmt m roles a h = s) ∧
      (m.tagOk = true → x.accepts m.seq = true → m.seq + 1 < 2 ^ 31 →
        (x.role ∈ roles → ∃ y u, hears s m roles a y u ∧ y.id = m.session ∧ sameMemory s u ∧ u.mode = s.mode ∧ u.tick = s.tick) ∧
        (x.role ∉ roles → canSend s x → x.unacked = [] → x.waiting = [] → ∃ y, y.id = m.session ∧ replied (s.onMgmt m roles a h) y m 7)))) ∧
  (∀ (s : State) (m : SessionInit) (k : List Byte), s.powered = true →
    s.peerKeys.find? (fun k => keyId k == m.keyId && decide (keyRole k < 3)) = some k →
    ∃ t, exec (.sessionInit m) s = .next t ∧ (Config.verifies (k.drop 5) m.signed m.sig = false → t = s) ∧
      (Config.verifies (k.drop 5) m.signed m.sig = true → s.mgmt.sessions.length < 8 → s.session? s.mgmt.nextId = none →
        ∃ x b, sameMemory s t ∧ t.session? s.mgmt.nextId = some x ∧ x.role = keyRole k ∧ x.keyId = m.keyId ∧
          t.mgmt.nextId = s.mgmt.nextId + 1 ∧ Output.mgmt 0x02 b ∈ t.outbox)) ∧
  (∀ (s u : State) (m : Mgmt) (y : Session) (n : Nat), hears s m anyRole true y u → ∀ x, u.session? y.id = some x →
    (newer32 u.journalLast n = false → ∃ t z, exec (.mgmtAck m n) s = .next t ∧ sameMemory u t ∧ t.session? y.id = some z ∧ z.processed = n)) ∧
  (∀ (s : State) (id : Nat) (x : Session), s.powered = true → s.session? id = some x →
    (x.owes = true → x.sentAt + msTicks 50 ≤ s.tick → ∃ t z, exec (.mgmtAckTimer id) s = .next t ∧ sameMemory s t ∧
      t.outbox = s.outbox ++ [.mgmt 0x03 [id, x.tx + 1, x.cum]] ∧ t.session? id = some z ∧ z.owes = false ∧ z.tx = x.tx + 1) ∧
    (∀ q o, x.unacked.find? (fun o => o.seqNo == q) = some o → o.sentAt + msTicks 200 ≤ s.tick → ∃ t, exec (.mgmtRetransmit id q) s = .next t ∧
      sameMemory s t ∧ t.regs = s.regs ∧ t.outbox = s.outbox ++ [.mgmt o.kind (id :: o.seqNo :: o.ack :: o.body)]) ∧
    (x.heardAt + sTicks 30 ≤ s.tick → ∃ t, exec (.sessionTimeout id) s = .next t ∧ sameMemory s t ∧ t.session? id = none) ∧
    (s.tick < x.heardAt + sTicks 30 → exec (.sessionTimeout id) s = .next s))

/-- Requests that a session may make are answered with their data or a status, BAD_ARG where an operand is out of range; a reset is taken in the
states it may be taken in and met with WRONG_STATE elsewhere; a flash write goes to the flash named and makes it wait for its commit, which verifies
it; a setting goes to both flashes; a burn writes the next free slot of its field in STANDBY. -/
def Obligations.ManagementRequests : Prop :=
  (∀ (s u : State) (m : Mgmt) (y : Session), hears s m anyRole false y u → canSend u y →
    (∀ a n, (n = 0 ∨ 65536 < n) → ∃ t, exec (.journalRead m a n) s = .next t ∧ sameMemory u t ∧ replied t y m 6) ∧
    (∀ a n, 0 < n → n ≤ 65536 → (∀ p ∈ u.ev.journal, (from32 p.1 a && newer32 ((a + n) % 2 ^ 32) p.1) = false) → ∃ t, exec (.journalRead m a n) s = .next t ∧ sameMemory u t ∧
      replied t y m 0) ∧
    (∀ b, b.length ≠ 32 → ∃ t, exec (.attestReq m b) s = .next t ∧ sameMemory u t ∧ replied t y m 6) ∧
    (∀ b, b.length = 32 → ∃ t, exec (.attestReq m b) s = .next t ∧ sameMemory u t ∧
      told t y 0x0A (fun q => q.take 256 = (u.quote b).map BitVec.toNat)) ∧
    (∀ a n, 1 ≤ n → n ≤ 64 → csrAddr a = true → ∃ t, exec (.mgmtRead m false a n) s = .next t ∧ sameMemory u t ∧
      told t y 0x0C (fun q => q.length = n ∧ q.head? = some (u.csrRead a).1)) ∧
    (∀ a n, (n = 0 ∨ 64 < n ∨ csrAddr a = false) → ∃ t, exec (.mgmtRead m false a n) s = .next t ∧ sameMemory u t ∧ replied t y m 6) ∧
    (∀ a n, n ≤ 8192 → a + n ≤ 0x100000 → ∃ t, exec (.mgmtRead m true a n) s = .next t ∧ sameMemory u t ∧
      told t y 0x0C (fun q => q = ((u.flash (u.rd F.SEC_BOOT_flash)).image.readN (0xDF00000 + a) n).map BitVec.toNat))) ∧
  (∀ (s u : State) (m : Mgmt) (y : Session), hears s m [1] false y u → canSend u y →
    (∀ a v, csrAddr a = false → ∃ t, exec (.csrWrite m a v) s = .next t ∧ sameMemory u t ∧ replied t y m 6) ∧
    (∀ a v, csrAddr a = true → exec (.csrWrite m a v) s = .next ((u.csrWrite a (v % 2 ^ 64)).replyTo y m 0)) ∧
    (∀ f o d, f < 2 → d.length ≤ 4096 → o + d.length ≤ 0xE000000 → u.flashDenied f o d.length = false → ∃ t,
      exec (.flashWrite m f o d) s = .next t ∧ sameMemory u t ∧ replied t y m 0 ∧ (t.flash f).dirty = true ∧
      (t.flash f).image = (u.flash f).image.writeN o d ∧ t.flash (1 - f) = u.flash (1 - f)) ∧
    (∀ f o d, f < 2 → d.length ≤ 4096 → o + d.length ≤ 0x10000000 → u.flashDenied f o d.length = true → ∃ t,
      exec (.flashWrite m f o d) s = .next t ∧ sameMemory u t ∧ replied t y m 7 ∧ t.boot = u.boot) ∧
    (∀ f, f < 2 → ∃ t, exec (.flashCommit m f) s = .next t ∧ sameMemory u t ∧ (t.flash f).dirty = false ∧ (t.flash f).image = (u.flash f).image ∧
      (t.setOk f = true → (u.flash f).cfgWritten = false → replied t y m 0) ∧ (t.setOk f = false → replied t y m 8)) ∧
    (∀ k d, k < 0x10000 → d.length ≤ 4080 → u.boot.flashA.percent < 74 → u.boot.flashB.percent < 74 → ∃ t,
      exec (.settingsWrite m k false d false false) s = .next t ∧ sameMemory u t ∧ replied t y m 0 ∧
      t.boot.flashA.records.length = u.boot.flashA.records.length + 1 ∧ t.boot.flashB.records.length = u.boot.flashB.records.length + 1 ∧
      (t.boot.flashA.records.getLast?).map (fun r => (r.key, r.gone, r.data)) = some (k, false, d)) ∧
    (∀ k g d, k < 0x10000 → d.length ≤ 4080 → ∃ t, exec (.settingsWrite m k g d true true) s = .next t ∧ sameMemory u t ∧ replied t y m 8 ∧
      t.boot = u.boot) ∧
    (∀ k d rb, u.mode ≠ .standby → ∃ t, exec (.otpBurn m k d rb) s = .next t ∧ sameMemory u t ∧ replied t y m 3 ∧ t.boot = u.boot) ∧
    (∀ k d rb f n, u.mode = .standby → otpField k = some f → d.length + 2 = f.size → otpNext u.boot.otp f = some n →
      (otpDenied u.boot.otp k d = true → ∃ t, exec (.otpBurn m k d rb) s = .next t ∧ sameMemory u t ∧ replied t y m 7 ∧ t.boot = u.boot) ∧
      (otpDenied u.boot.otp k d = false → rb = d ++ leBytes 2 (crc16 (d ++ leBytes 1 n)) → ∃ t, exec (.otpBurn m k d rb) s = .next t ∧
        sameMemory u t ∧ replied t y m 0 ∧ (rb.any (fun b => b != 0) = true → otpValid t.boot.otp f n = true)))) ∧
  (∀ (s u : State) (m : Mgmt) (y : Session), hears s m [0, 1] false y u →
    (u.resetOk = true →
      (u.pwr.rails = true → u.boot.config.isSome = true → ∃ t, exec (.moduleReset m) s = .next t ∧ t.mode = .booting ∧ t.rd F.SEC_BOOT_stage = 3) ∧
      (∃ t, exec (.powerCycle m) s = .next t ∧ (t.mode = .standby ∨ t.mode = .failed) ∧ t.pwr.rails = false)) ∧
    (u.resetOk = false → canSend u y → (∃ t, exec (.moduleReset m) s = .next t ∧ sameMemory u t ∧ t.mode = u.mode ∧ replied t y m 3) ∧
      (∃ t, exec (.powerCycle m) s = .next t ∧ sameMemory u t ∧ t.mode = u.mode ∧ replied t y m 3)) ∧
    (∃ t, exec (.stewardRestart m) s = .next t ∧ t.mgmt.sessions = [] ∧ Output.mgmt 0x14 [0] ∈ t.outbox) ∧
    (3 ≤ u.mode.code → u.mode ≠ .dormant → u.pwr.rails = true → ∃ t, exec (.controlComplexRestart m) s = .next t ∧ sameMemory u t ∧
      t.mode = u.mode ∧ t.boot.os = true ∧ Output.console [5] ∈ t.outbox)) ∧
  (∀ (s : State) (key : List Byte) (k : Nat), s.mode = .standby → s.hasOperator = false → key.length < 4080 →
    ((List.range 16).map (· + 1)).find? (fun k => (s.setting k).isNone) = some k → s.boot.flashA.percent < 74 → s.boot.flashB.percent < 74 →
    ∃ t, exec (.consoleOperatorKey key) s = .next t ∧ sameMemory s t ∧
      (t.boot.flashA.records.getLast?).map (fun r => (r.key, r.gone, r.data)) = some (k, false, leBytes 1 1 ++ key))

/-- A plain writable field takes its bits from a write of its register, a read-only one keeps its value, and a reserved address, or an access narrower than 64 bits, ignores the write; the
generator gives a fresh draw; the mailbox sends its eight words; I3C reads STATUS and keeps the newest acknowledgement and its address; JTAG loads
its instruction; a debug instruction is a bypass where the boot policy forbids JTAG, and is refused by name where it allows it. -/
def Obligations.RegistersAndSerialInterfaces : Prop :=
  (∀ (s : State) (a : CsrRef) (v : Nat), (s.regAt a.addr = none ∨ a.size ≠ 8) → exec (.registerWrite a v) s = .next s) ∧
  (∀ (s : State) (a v : Nat) (r : RegDesc) (i : Nat), s.csrLive a = true → s.regAt a = some (r, i) → regOps.find? (fun o => o.1 == r.base) = none →
    regAfter.find? (fun o => o.1 == r.base) = none →
    ∃ t, exec (.registerWrite { addr := a } v) s = .next t ∧ sameRegsBut (r.fields.map (fun p => p.1.key i)) s t ∧
      (r.fields.all (fun p => p.2 == .ro || p.2 == .wo || p.2 == .rc) = true → t = s)) ∧
  (∀ (s : State) (v : Nat), s.powered = true →
    (∃ t, exec (.registerWrite { addr := F.PWR_CTRL_window_s.base } v) s = .next t ∧ sameMemory s t ∧ t.rd F.PWR_CTRL_window_s =
      (let x := v / 2 ^ F.PWR_CTRL_window_s.lo % 2 ^ F.PWR_CTRL_window_s.width
       if 1 ≤ x ∧ x ≤ 30 then x else 5))) ∧
  (∀ s : State, s.powered = true → ∃ t, exec .secRngRead s = .next t ∧ sameMemory s t ∧ t.regs = s.regs ∧ t.drawn = s.drawn + 1 ∧
    t.outbox = s.outbox ++ [.reply 3 [s.draw.1]]) ∧
  (∀ s : State, s.powered = true → s.boot.os = true → ∃ t, exec .mboxSend s = .next t ∧ sameMemory s t ∧
    t.outbox = s.outbox ++ [.reply 2 ((List.range 8).map (fun k => s.rdAt F.STW_MBOX_OUT_word k))]) ∧
  (∀ s : State, s.powered = true →
    (∃ t, exec .i3cStatusRead s = .next t ∧ sameMemory s t ∧ t.regs = s.regs ∧
      t.outbox = s.outbox ++ [.reply 4 (s.statusBytes.map BitVec.toNat)]) ∧
    (∀ v, v < 2 ^ 32 → ∃ t, exec (.i3cAckWrite v) s = .next t ∧ sameMemory s t ∧ t.regs = s.regs ∧
      t.mgmt.i3cAck = (if newer32 s.mgmt.i3cAck v then s.mgmt.i3cAck else v)) ∧
    (∀ a, a < 128 → ∃ t, exec (.i3cAddressAssign a) s = .next t ∧ sameMemory s t ∧ t.regs = s.regs ∧ (a ≠ 0 → t.i3cAddress = a)) ∧
    (∃ t, exec .jtagBypass s = .next t ∧ sameMemory s t ∧ t.regs = s.regs ∧ t.mgmt.jtag = .bypass) ∧
    (∃ t, exec .jtagSamplePreload s = .next t ∧ sameMemory s t ∧ t.regs = s.regs ∧ t.mgmt.jtag = .sample ∧
      t.outbox = s.outbox ++ [.reply 5 s.sideband]) ∧
    (∃ t, exec .jtagExtest s = .next t ∧ sameMemory s t ∧ t.regs = s.regs ∧
      t.mgmt.jtag = (if s.mode = .standby ∧ (s.pwr.resetLow = true ∨ s.pwr.absent = true) then .extest else .bypass)) ∧
    (∃ t, exec .jtagIdcode s = .next t ∧ sameMemory s t ∧ t.regs = s.regs ∧ t.mgmt.jtag = .idcode ∧
      t.outbox = s.outbox ++ [.reply 5 [idcode]]) ∧
    (bitAt s.policy 2 = false → ∃ t, exec .debugInstruction s = .next t ∧ sameMemory s t ∧ t.regs = s.regs ∧ t.mgmt.jtag = .bypass) ∧
    (bitAt s.policy 2 = true → exec .debugInstruction s = .refused .debugUnit))

/-- An event with no open window takes the next sequence number, and ERR_LOG holds its eight words; a repeat within 100 ms raises the count of the record that
stands for it and takes no number; every occurrence is counted by its severity; one that cannot coalesce is sent at once; FATAL_MODULE makes
the module FAILED and FATAL_JOB marks the job. -/
def Obligations.EventRecords : Prop :=
  ∀ (s : State) (e : Event) (unit : Nat) (detail : List Nat),
    (s.record e unit detail).rdAt F.ERR_SEV_COUNT_count e.severity =
      min (s.rdAt F.ERR_SEV_COUNT_count e.severity + 1) (2 ^ F.ERR_SEV_COUNT_count.width - 1) ∧
    sameMemory s (s.raise e unit detail) ∧
    ((∀ w ∈ s.ev.windows, ¬ (w.code = e.code ∧ w.unit = unit)) →
      let seq := (s.rd F.ERR_EVENT_SEQ_seq + 1) % 2 ^ 32
      let t := s.record e unit detail
      t.rd F.ERR_EVENT_SEQ_seq = seq ∧
      t.rdAt F.ERR_LOG_record (seq % 1024 * 8) = seq * 2 ^ 32 + e.code * 2 ^ 20 + e.severity * 2 ^ 17 + 1 ∧
      t.rdAt F.ERR_LOG_record (seq % 1024 * 8 + 1) = s.tick % 2 ^ 64 ∧ t.rdAt F.ERR_LOG_record (seq % 1024 * 8 + 2) = s.instar ∧
      (s.job.active = true → t.rdAt F.ERR_LOG_record (seq % 1024 * 8 + 3) = s.jobId * 2 ^ 32 + s.rank * 2 ^ 16 + unit % 2 ^ 16) ∧
      (∀ k, k < 4 → t.rdAt F.ERR_LOG_record (seq % 1024 * 8 + 4 + k) = wd detail k % 2 ^ 64) ∧
      (e.severity ≤ 2 → t.outbox = s.outbox ∧ ∃ w ∈ t.ev.windows, w.code = e.code ∧ w.unit = unit ∧ w.since = s.tick ∧ w.count = 1) ∧
      (2 < e.severity → ∃ ws, Output.record ws ∈ t.outbox ∧ wd ws 0 = seq * 2 ^ 32 + e.code * 2 ^ 20 + e.severity * 2 ^ 17 + 1)) ∧
    (∀ w, e.severity ≤ 2 → s.windowOf e.code unit = some w → (s.record e unit detail).rd F.ERR_EVENT_SEQ_seq = s.rd F.ERR_EVENT_SEQ_seq ∧
      (s.record e unit detail).outbox = s.outbox ∧ { w with count := min (w.count + 1) 0xFFFF } ∈ (s.record e unit detail).ev.windows) ∧
    (e.severity = 5 → s.mode ≠ .off → (s.raise e unit detail).mode = .failed) ∧
    (e.severity = 4 → (s.raise e unit detail).job.fatal = true) ∧ (e.severity < 5 → (s.raise e unit detail).mode = s.mode)

/-- R309: rank k ≥ 1 is a child of exactly its parent (k − 1) / 32, rank 0 of none; a rank has at most 32 children, and four steps up lead from any rank
of up to 65,536 to the root. -/
def Obligations.BarrierTree : Prop :=
  ∀ n, n ≤ 65536 →
    (∀ r, 1 ≤ r → barrierParent r = (r - 1) / 32) ∧
    (∀ r k, k ∈ barrierKids r n ↔ 1 ≤ k ∧ k < n ∧ (k - 1) / 32 = r) ∧
    (∀ r, (barrierKids r n).length ≤ 32) ∧ (∀ r, 0 ∉ barrierKids r n) ∧
    (∀ r, r < n → barrierParent (barrierParent (barrierParent (barrierParent r))) = 0) ∧
    (∀ s : State, s.isRoot = true ↔ s.rank = 0)

/-- R338: no free spare is under test; a stand-in or a swap takes the lowest free spare, and with none, the lowest healthy one, whose test is abandoned:
the core keeps its earlier test tick and the result is abandoned (3). -/
def Obligations.SparesUnderTest : Prop :=
  ∀ (s : State) (q : Nat),
    (∀ p, s.isSetAt F.CHK_CORE_TEST_testing p = true → p ∉ s.spares q) ∧
    (∀ p ps, s.spares q = p :: ps → s.takeSpare q = some (p, s)) ∧
    (∀ p ps, s.spares q = [] → s.healthy q = p :: ps → s.isSetAt F.CHK_CORE_TEST_testing p = true ∧ ∃ t, s.takeSpare q = some (p, t) ∧
      t.isSetAt F.CHK_CORE_TEST_testing p = false ∧ t.rdAt F.CHK_CORE_TEST_result p = 3 ∧
      t.rdAt F.CHK_CORE_TEST_tick p = s.rdAt F.CHK_CORE_TEST_tick p ∧
      sameRegsBut [F.CHK_CORE_TEST_testing.key p, F.CHK_CORE_TEST_result.key p] s t) ∧
    (s.healthy q = [] → s.takeSpare q = none)

/-- The map of R158 is a bijection for each L: whatever the key, the granules of the 768 values of j fall on 768 different pseudo-channels at one offset,
and those of the carve-out do not depend on the key. -/
def Obligations.HbmPlacementIsABijection : Prop :=
  ∀ key l b, l < 2 ^ 22 → b < 256 →
    (∀ j, j < 768 → (hbmPlace key ((j * 2 ^ 22 + l) * 256 + b)).1 < 768 ∧ (hbmPlace key ((j * 2 ^ 22 + l) * 256 + b)).2 = l * 256 + b) ∧
    (∀ i j, i < 768 → j < 768 → (hbmPlace key ((i * 2 ^ 22 + l) * 256 + b)).1 = (hbmPlace key ((j * 2 ^ 22 + l) * 256 + b)).1 → i = j) ∧
    (∀ p, p < 768 → ∃ j, j < 768 ∧ (hbmPlace key ((j * 2 ^ 22 + l) * 256 + b)).1 = p) ∧
    (∀ other j, 736 ≤ j → j < 768 → hbmPlace key ((j * 2 ^ 22 + l) * 256 + b) = hbmPlace other ((j * 2 ^ 22 + l) * 256 + b))

/-- After reset the module is OFF with no job and no step, no command waits, and every register field reads its reset value. -/
def Obligations.ResetState : Prop :=
  State.reset.mode = .off ∧ State.reset.step = .none ∧ State.reset.tick = 0 ∧ State.reset.pending = [] ∧ State.reset.job.active = false ∧
  State.reset.outbox = [] ∧ (∀ f i, State.reset.rdAt f i = f.reset % 2 ^ f.width) ∧ State.reset.canonical = true ∧
  State.reset.rd F.CHK_CANARY_CTRL_period = 64 ∧ State.reset.rd F.CHK_MOLT_CTRL_vote_timeout_ms = 120000 ∧
  State.reset.rd F.CHK_TEST_CTRL_period_min = 1440 ∧ State.reset.rd F.ERR_CTRL_auto_replay = 3 ∧ State.reset.rd F.ERR_CTRL_remap_wait_s = 60 ∧
  State.reset.rd F.ERR_CTRL_job_hb_us = 1000

/-- From every state whose register map, memories and flashes are in canonical form, a step leads to such a state: equal contents stay equal data. -/
def Obligations.EveryStepKeepsCanonicalForm : Prop :=
  ∀ s t : State, s.canonical = true → Sys2Proof.Machine.step s = .next t → t.canonical = true

/-- Whatever a command does, the waiting commands stay, what was sent stays sent, and the count of draws never falls. -/
def Obligations.CommandsKeepQueueAndRecord : Prop :=
  ∀ (c : Instr) (s t : State), exec c s = .next t → t.pending = s.pending ∧ s.outbox <+: t.outbox ∧ s.drawn ≤ t.drawn

/-- No command ends in a fault, and the one refusal is DEBUG_INSTRUCTION's, with auxiliary power and with JTAG allowed by the boot policy. -/
def Obligations.OnlyDebugStops : Prop :=
  ∀ (c : Instr) (s : State), (∃ t, exec c s = .next t) ∨
    (c = .debugInstruction ∧ s.powered = true ∧ bitAt s.policy 2 = true ∧ exec c s = .refused .debugUnit)

namespace Sys2Proof.Machine

/-- FP32 words by class (R39). -/
def wNan (a : Nat) : Prop := 2 ^ 23 * 255 < a % 2 ^ 31
def wSnan (a : Nat) : Prop := wNan a ∧ a % 2 ^ 23 < 2 ^ 22
def wInf (a : Nat) : Prop := a % 2 ^ 31 = 2 ^ 23 * 255
def wZero (a : Nat) : Prop := a % 2 ^ 31 = 0
/-- The infinity and the zero whose sign is the exclusive OR of two words' signs. -/
def xorSign (a b : Nat) : Nat := (a / 2 ^ 31 + b / 2 ^ 31) % 2 * 2 ^ 31

end Sys2Proof.Machine

/-- A NaN operand, or an invalid operation, gives 0x7FC0_0000; NV is set by a signalling NaN and by the invalid operations, 0 × ∞ in a fused
multiply-add whatever its addend; a finite value over zero is the signed infinity with no flag; a sum of opposite numbers is +0; addition and
multiplication take their operands in either order. -/
def Obligations.FpSpecialValues : Prop :=
  ∀ a b c, a < 2 ^ 32 → b < 2 ^ 32 → c < 2 ^ 32 →
    (∀ f ∈ [fadd, fsub, fmul, fdiv, fmin, fmax], ((wNan a ∨ wNan b) → (f a b).1 = 0x7FC00000 ∧ ((f a b).2.nv = true ↔ wSnan a ∨ wSnan b)) ∧
      (wNan (f a b).1 → (f a b).1 = 0x7FC00000) ∧ (f a b).1 < 2 ^ 32) ∧
    (wNan a → (fsqrt a).1 = 0x7FC00000 ∧ ((fsqrt a).2.nv = true ↔ wSnan a)) ∧
    (2 ^ 31 < a → ¬ wNan a → fsqrt a = (0x7FC00000, Flags.NV)) ∧
    (wInf a → wInf b → (a ≠ b → fadd a b = (0x7FC00000, Flags.NV)) ∧ (a = b → fadd a b = (a, Flags.none)) ∧ fdiv a b = (0x7FC00000, Flags.NV)) ∧
    (wInf a → wZero b → fmul a b = (0x7FC00000, Flags.NV) ∧ fmul b a = (0x7FC00000, Flags.NV) ∧
      (ffma a b c).1 = 0x7FC00000 ∧ (ffma a b c).2.nv = true ∧ (ffma b a c).1 = 0x7FC00000 ∧ (ffma b a c).2.nv = true) ∧
    (wZero a → wZero b → fdiv a b = (0x7FC00000, Flags.NV)) ∧
    (¬ wNan a → ¬ wInf a → ¬ wZero a → wZero b → fdiv a b = (2 ^ 23 * 255 + xorSign a b, Flags.none)) ∧
    (¬ wNan a → ¬ wInf a → b = (a + 2 ^ 31) % 2 ^ 32 → fadd a b = (0, Flags.none)) ∧
    fadd a b = fadd b a ∧ fmul a b = fmul b a ∧ (¬ wNan b → fsub a b = fadd a ((b + 2 ^ 31) % 2 ^ 32))
end

