-- ==== Sys2Proof/Laws/Sparse.lean ====
section
/-! SUPPORT. Laws/Sparse.lean: reading back, leaving alone and keeping the order, for every operation on sparse maps. -/

namespace Sys2Proof.Machine

variable {α β : Type}

@[simp] theorem sget?_nil (i : Nat) : sget? ([] : Sparse α) i = none := rfl
@[simp] theorem sget_nil (d : α) (i : Nat) : sget d [] i = d := rfl

theorem sget?_sput (m : Sparse α) (i j : Nat) (v : α) : sget? (sput m i v) j = if j = i then some v else sget? m j := by
  induction m with
  | nil => simp [sput, sget?]
  | cons p m ih =>
    obtain ⟨k, w⟩ := p
    simp only [sput]
    split
    · simp [sget?]
    · split
      · subst_vars; simp only [sget?]; split <;> simp_all
      · simp only [sget?, ih]
        by_cases h : j = k
        · subst h
          have : j ≠ i := fun e => by simp_all
          simp [this]
        · simp [h]

@[simp] theorem sget_sput_same (d : α) (m : Sparse α) (i : Nat) (v : α) : sget d (sput m i v) i = v := by
  simp [sget, sget?_sput]

theorem sget_sput_other (d : α) (m : Sparse α) {i j : Nat} (v : α) (h : j ≠ i) : sget d (sput m i v) j = sget d m j := by
  simp [sget, sget?_sput, h]

theorem sget?_sdel (m : Sparse α) (i j : Nat) : sget? (sdel m i) j = if j = i then none else sget? m j := by
  induction m with
  | nil => simp [sdel]
  | cons p m ih =>
    obtain ⟨k, w⟩ := p
    simp only [sdel]
    split
    · subst_vars
      rw [ih]; simp only [sget?]; split <;> simp_all
    · simp only [sget?, ih]
      by_cases h : j = k
      · subst h
        have : j ≠ i := fun e => by simp_all
        simp [this]
      · simp [h]

theorem sget_sset [DecidableEq α] (d : α) (m : Sparse α) (i j : Nat) (v : α) :
    sget d (sset d m i v) j = if j = i then v else sget d m j := by
  unfold sset
  split
  · subst_vars; simp only [sget, sget?_sdel]; split <;> simp_all
  · simp only [sget, sget?_sput]; split <;> simp_all

@[simp] theorem sget_sset_same [DecidableEq α] (d : α) (m : Sparse α) (i : Nat) (v : α) : sget d (sset d m i v) i = v := by
  simp [sget_sset]

theorem sget_sset_other [DecidableEq α] (d : α) (m : Sparse α) {i j : Nat} (v : α) (h : j ≠ i) :
    sget d (sset d m i v) j = sget d m j := by
  simp [sget_sset, h]

/-! ### The order of the keys -/

theorem sabove_iff (b : Nat) (m : Sparse α) : sabove b m = true ↔ ∀ p ∈ m, b < p.1 := by
  induction m with
  | nil => simp [sabove]
  | cons p m ih => obtain ⟨k, w⟩ := p; simp [sabove, ih]

theorem ssorted_cons (p : Nat × α) (m : Sparse α) : ssorted (p :: m) = true ↔ (∀ q ∈ m, p.1 < q.1) ∧ ssorted m = true := by
  obtain ⟨k, w⟩ := p; simp [ssorted, sabove_iff]

theorem mem_sput {m : Sparse α} {i : Nat} {v : α} {q : Nat × α} (h : q ∈ sput m i v) : q = (i, v) ∨ q ∈ m := by
  induction m with
  | nil => simp_all [sput]
  | cons p m ih =>
    obtain ⟨k, w⟩ := p
    simp only [sput] at h
    split at h
    · simpa using h
    · split at h <;> simp_all <;> tauto

theorem mem_sdel {m : Sparse α} {i : Nat} {q : Nat × α} (h : q ∈ sdel m i) : q ∈ m ∧ q.1 ≠ i := by
  induction m with
  | nil => simp_all [sdel]
  | cons p m ih =>
    obtain ⟨k, w⟩ := p
    simp only [sdel] at h
    split at h
    · have := ih h; simp [this.1, this.2]
    · simp only [List.mem_cons] at h
      rcases h with h | h
      · subst h; constructor
        · simp
        · simp only; omega
      · have := ih h; simp [this.1, this.2]

theorem ssorted_sput {m : Sparse α} (h : ssorted m = true) (i : Nat) (v : α) : ssorted (sput m i v) = true := by
  induction m with
  | nil => simp [sput, ssorted, sabove]
  | cons p m ih =>
    obtain ⟨k, w⟩ := p
    have h' := (ssorted_cons _ _).1 h
    simp only [sput]
    split
    · rename_i hk
      rw [ssorted_cons]
      refine ⟨fun q hq => ?_, h⟩
      rcases List.mem_cons.1 hq with rfl | hq
      · exact hk
      · exact lt_trans hk (h'.1 q hq)
    · split
      · subst_vars; exact (ssorted_cons _ _).2 ⟨h'.1, h'.2⟩
      · rw [ssorted_cons]
        refine ⟨fun q hq => ?_, ih h'.2⟩
        rcases mem_sput hq with rfl | hq
        · simp only; omega
        · exact h'.1 q hq

theorem ssorted_sdel {m : Sparse α} (h : ssorted m = true) (i : Nat) : ssorted (sdel m i) = true := by
  induction m with
  | nil => simp [sdel, ssorted]
  | cons p m ih =>
    obtain ⟨k, w⟩ := p
    have h' := (ssorted_cons _ _).1 h
    simp only [sdel]
    split
    · exact ih h'.2
    · exact (ssorted_cons _ _).2 ⟨fun q hq => h'.1 q (mem_sdel hq).1, ih h'.2⟩

theorem ssorted_sset [DecidableEq α] {m : Sparse α} (h : ssorted m = true) (d : α) (i : Nat) (v : α) :
    ssorted (sset d m i v) = true := by
  unfold sset; split
  · exact ssorted_sdel h i
  · exact ssorted_sput h i v

theorem mem_skeep {p : Nat → Bool} {m : Sparse α} {q : Nat × α} : q ∈ skeep p m ↔ q ∈ m ∧ p q.1 = true := by
  induction m with
  | nil => simp [skeep]
  | cons a m ih =>
    obtain ⟨k, w⟩ := a
    simp only [skeep]
    split
    · rw [List.mem_cons, List.mem_cons, ih]
      constructor
      · rintro (rfl | h)
        · simp_all
        · exact ⟨Or.inr h.1, h.2⟩
      · rintro ⟨rfl | h, hp⟩
        · simp
        · exact Or.inr ⟨h, hp⟩
    · rw [List.mem_cons, ih]
      constructor
      · rintro ⟨h, hp⟩; exact ⟨Or.inr h, hp⟩
      · rintro ⟨rfl | h, hp⟩
        · simp_all
        · exact ⟨h, hp⟩

theorem ssorted_skeep {m : Sparse α} (h : ssorted m = true) (p : Nat → Bool) : ssorted (skeep p m) = true := by
  induction m with
  | nil => simp [skeep, ssorted]
  | cons a m ih =>
    obtain ⟨k, w⟩ := a
    have h' := (ssorted_cons _ _).1 h
    simp only [skeep]
    split
    · exact (ssorted_cons _ _).2 ⟨fun q hq => h'.1 q (mem_skeep.1 hq).1, ih h'.2⟩
    · exact ih h'.2

theorem sget?_skeep (p : Nat → Bool) (m : Sparse α) (i : Nat) : sget? (skeep p m) i = if p i then sget? m i else none := by
  induction m with
  | nil => simp [skeep]
  | cons a m ih =>
    obtain ⟨k, w⟩ := a
    simp only [skeep]
    split
    · simp only [sget?, ih]; split <;> simp_all
    · simp only [sget?, ih]
      by_cases e : i = k
      · subst e; simp_all
      · simp [e]

theorem mem_smap {f : Nat → α → β} {m : Sparse α} {q : Nat × β} (h : q ∈ smap f m) : ∃ p ∈ m, p.1 = q.1 ∧ q.2 = f p.1 p.2 := by
  induction m with
  | nil => simp_all [smap]
  | cons a m ih =>
    obtain ⟨k, w⟩ := a
    simp only [smap, List.mem_cons] at h
    rcases h with rfl | h
    · exact ⟨(k, w), by simp, rfl, rfl⟩
    · obtain ⟨p, hp, e⟩ := ih h; exact ⟨p, by simp [hp], e⟩

theorem sget?_smap (f : Nat → α → β) (m : Sparse α) (i : Nat) : sget? (smap f m) i = (sget? m i).map (f i) := by
  induction m with
  | nil => simp [smap]
  | cons a m ih =>
    obtain ⟨k, w⟩ := a
    simp only [smap, sget?, ih]; split <;> simp_all

end Sys2Proof.Machine
end

