-- ==== Sys2Proof/Laws/State.lean ====
section
/-! SUPPORT. Laws/State.lean: what each named update of the state leaves as it was, one lemma a field, and what the registers
read afterwards. -/

namespace Sys2Proof.Machine

@[simp] theorem State.wrAt_pending (s : State) (f : Field) (i v : Nat) : (s.wrAt f i v).pending = s.pending := rfl
@[simp] theorem State.wrAt_outbox (s : State) (f : Field) (i v : Nat) : (s.wrAt f i v).outbox = s.outbox := rfl
@[simp] theorem State.wrAt_tick (s : State) (f : Field) (i v : Nat) : (s.wrAt f i v).tick = s.tick := rfl
@[simp] theorem State.wrAt_drawn (s : State) (f : Field) (i v : Nat) : (s.wrAt f i v).drawn = s.drawn := rfl
@[simp] theorem State.wrAt_mode (s : State) (f : Field) (i v : Nat) : (s.wrAt f i v).mode = s.mode := rfl
@[simp] theorem State.wrAt_step (s : State) (f : Field) (i v : Nat) : (s.wrAt f i v).step = s.step := rfl
@[simp] theorem State.wrAt_job (s : State) (f : Field) (i v : Nat) : (s.wrAt f i v).job = s.job := rfl
@[simp] theorem State.wrAt_barrier (s : State) (f : Field) (i v : Nat) : (s.wrAt f i v).barrier = s.barrier := rfl
@[simp] theorem State.wrAt_mirror (s : State) (f : Field) (i v : Nat) : (s.wrAt f i v).mirror = s.mirror := rfl
@[simp] theorem State.wrAt_canary (s : State) (f : Field) (i v : Nat) : (s.wrAt f i v).canary = s.canary := rfl
@[simp] theorem State.wrAt_test (s : State) (f : Field) (i v : Nat) : (s.wrAt f i v).test = s.test := rfl
@[simp] theorem State.wrAt_ev (s : State) (f : Field) (i v : Nat) : (s.wrAt f i v).ev = s.ev := rfl
@[simp] theorem State.wrAt_mem (s : State) (f : Field) (i v : Nat) : (s.wrAt f i v).mem = s.mem := rfl
@[simp] theorem State.wrAt_queues (s : State) (f : Field) (i v : Nat) : (s.wrAt f i v).queues = s.queues := rfl
@[simp] theorem State.wrAt_waits (s : State) (f : Field) (i v : Nat) : (s.wrAt f i v).waits = s.waits := rfl
@[simp] theorem State.wrAt_stalled (s : State) (f : Field) (i v : Nat) : (s.wrAt f i v).stalled = s.stalled := rfl
@[simp] theorem State.wrAt_ops (s : State) (f : Field) (i v : Nat) : (s.wrAt f i v).ops = s.ops := rfl
@[simp] theorem State.wrAt_rings (s : State) (f : Field) (i v : Nat) : (s.wrAt f i v).rings = s.rings := rfl
@[simp] theorem State.wrAt_sched (s : State) (f : Field) (i v : Nat) : (s.wrAt f i v).sched = s.sched := rfl
@[simp] theorem State.wrAt_upd (s : State) (f : Field) (i v : Nat) : (s.wrAt f i v).upd = s.upd := rfl
@[simp] theorem State.wrAt_fab (s : State) (f : Field) (i v : Nat) : (s.wrAt f i v).fab = s.fab := rfl
@[simp] theorem State.wrAt_chrys (s : State) (f : Field) (i v : Nat) : (s.wrAt f i v).chrys = s.chrys := rfl
@[simp] theorem State.wrAt_links (s : State) (f : Field) (i v : Nat) : (s.wrAt f i v).links = s.links := rfl
@[simp] theorem State.wrAt_pwr (s : State) (f : Field) (i v : Nat) : (s.wrAt f i v).pwr = s.pwr := rfl
@[simp] theorem State.wrAt_boot (s : State) (f : Field) (i v : Nat) : (s.wrAt f i v).boot = s.boot := rfl
@[simp] theorem State.wrAt_mgmt (s : State) (f : Field) (i v : Nat) : (s.wrAt f i v).mgmt = s.mgmt := rfl
@[simp] theorem State.wrAt_arr (s : State) (f : Field) (i v : Nat) : (s.wrAt f i v).arr = s.arr := rfl
@[simp] theorem State.wrAt_row (s : State) (f : Field) (i v : Nat) : (s.wrAt f i v).row = s.row := rfl
@[simp] theorem State.wrAt_vec (s : State) (f : Field) (i v : Nat) : (s.wrAt f i v).vec = s.vec := rfl
@[simp] theorem State.wrAt_xfers (s : State) (f : Field) (i v : Nat) : (s.wrAt f i v).xfers = s.xfers := rfl
@[simp] theorem State.wrAt_nextXfer (s : State) (f : Field) (i v : Nat) : (s.wrAt f i v).nextXfer = s.nextXfer := rfl

@[simp] theorem State.wr_pending (s : State) (f : Field) (v : Nat) : (s.wr f v).pending = s.pending := rfl
@[simp] theorem State.wr_outbox (s : State) (f : Field) (v : Nat) : (s.wr f v).outbox = s.outbox := rfl
@[simp] theorem State.wr_tick (s : State) (f : Field) (v : Nat) : (s.wr f v).tick = s.tick := rfl
@[simp] theorem State.wr_drawn (s : State) (f : Field) (v : Nat) : (s.wr f v).drawn = s.drawn := rfl
@[simp] theorem State.wr_mode (s : State) (f : Field) (v : Nat) : (s.wr f v).mode = s.mode := rfl
@[simp] theorem State.wr_step (s : State) (f : Field) (v : Nat) : (s.wr f v).step = s.step := rfl
@[simp] theorem State.wr_job (s : State) (f : Field) (v : Nat) : (s.wr f v).job = s.job := rfl
@[simp] theorem State.wr_barrier (s : State) (f : Field) (v : Nat) : (s.wr f v).barrier = s.barrier := rfl
@[simp] theorem State.wr_mirror (s : State) (f : Field) (v : Nat) : (s.wr f v).mirror = s.mirror := rfl
@[simp] theorem State.wr_canary (s : State) (f : Field) (v : Nat) : (s.wr f v).canary = s.canary := rfl
@[simp] theorem State.wr_test (s : State) (f : Field) (v : Nat) : (s.wr f v).test = s.test := rfl
@[simp] theorem State.wr_ev (s : State) (f : Field) (v : Nat) : (s.wr f v).ev = s.ev := rfl
@[simp] theorem State.wr_mem (s : State) (f : Field) (v : Nat) : (s.wr f v).mem = s.mem := rfl
@[simp] theorem State.wr_queues (s : State) (f : Field) (v : Nat) : (s.wr f v).queues = s.queues := rfl
@[simp] theorem State.wr_waits (s : State) (f : Field) (v : Nat) : (s.wr f v).waits = s.waits := rfl
@[simp] theorem State.wr_stalled (s : State) (f : Field) (v : Nat) : (s.wr f v).stalled = s.stalled := rfl
@[simp] theorem State.wr_ops (s : State) (f : Field) (v : Nat) : (s.wr f v).ops = s.ops := rfl
@[simp] theorem State.wr_rings (s : State) (f : Field) (v : Nat) : (s.wr f v).rings = s.rings := rfl
@[simp] theorem State.wr_sched (s : State) (f : Field) (v : Nat) : (s.wr f v).sched = s.sched := rfl
@[simp] theorem State.wr_upd (s : State) (f : Field) (v : Nat) : (s.wr f v).upd = s.upd := rfl
@[simp] theorem State.wr_fab (s : State) (f : Field) (v : Nat) : (s.wr f v).fab = s.fab := rfl
@[simp] theorem State.wr_chrys (s : State) (f : Field) (v : Nat) : (s.wr f v).chrys = s.chrys := rfl
@[simp] theorem State.wr_links (s : State) (f : Field) (v : Nat) : (s.wr f v).links = s.links := rfl
@[simp] theorem State.wr_pwr (s : State) (f : Field) (v : Nat) : (s.wr f v).pwr = s.pwr := rfl
@[simp] theorem State.wr_boot (s : State) (f : Field) (v : Nat) : (s.wr f v).boot = s.boot := rfl
@[simp] theorem State.wr_mgmt (s : State) (f : Field) (v : Nat) : (s.wr f v).mgmt = s.mgmt := rfl
@[simp] theorem State.wr_arr (s : State) (f : Field) (v : Nat) : (s.wr f v).arr = s.arr := rfl
@[simp] theorem State.wr_row (s : State) (f : Field) (v : Nat) : (s.wr f v).row = s.row := rfl
@[simp] theorem State.wr_vec (s : State) (f : Field) (v : Nat) : (s.wr f v).vec = s.vec := rfl
@[simp] theorem State.wr_xfers (s : State) (f : Field) (v : Nat) : (s.wr f v).xfers = s.xfers := rfl
@[simp] theorem State.wr_nextXfer (s : State) (f : Field) (v : Nat) : (s.wr f v).nextXfer = s.nextXfer := rfl

@[simp] theorem State.wrBit_pending (s : State) (f : Field) (b : Bool) : (s.wrBit f b).pending = s.pending := rfl
@[simp] theorem State.wrBit_outbox (s : State) (f : Field) (b : Bool) : (s.wrBit f b).outbox = s.outbox := rfl
@[simp] theorem State.wrBit_tick (s : State) (f : Field) (b : Bool) : (s.wrBit f b).tick = s.tick := rfl
@[simp] theorem State.wrBit_drawn (s : State) (f : Field) (b : Bool) : (s.wrBit f b).drawn = s.drawn := rfl
@[simp] theorem State.wrBit_mode (s : State) (f : Field) (b : Bool) : (s.wrBit f b).mode = s.mode := rfl
@[simp] theorem State.wrBit_step (s : State) (f : Field) (b : Bool) : (s.wrBit f b).step = s.step := rfl
@[simp] theorem State.wrBit_job (s : State) (f : Field) (b : Bool) : (s.wrBit f b).job = s.job := rfl
@[simp] theorem State.wrBit_barrier (s : State) (f : Field) (b : Bool) : (s.wrBit f b).barrier = s.barrier := rfl
@[simp] theorem State.wrBit_mirror (s : State) (f : Field) (b : Bool) : (s.wrBit f b).mirror = s.mirror := rfl
@[simp] theorem State.wrBit_canary (s : State) (f : Field) (b : Bool) : (s.wrBit f b).canary = s.canary := rfl
@[simp] theorem State.wrBit_test (s : State) (f : Field) (b : Bool) : (s.wrBit f b).test = s.test := rfl
@[simp] theorem State.wrBit_ev (s : State) (f : Field) (b : Bool) : (s.wrBit f b).ev = s.ev := rfl
@[simp] theorem State.wrBit_mem (s : State) (f : Field) (b : Bool) : (s.wrBit f b).mem = s.mem := rfl
@[simp] theorem State.wrBit_queues (s : State) (f : Field) (b : Bool) : (s.wrBit f b).queues = s.queues := rfl
@[simp] theorem State.wrBit_waits (s : State) (f : Field) (b : Bool) : (s.wrBit f b).waits = s.waits := rfl
@[simp] theorem State.wrBit_stalled (s : State) (f : Field) (b : Bool) : (s.wrBit f b).stalled = s.stalled := rfl
@[simp] theorem State.wrBit_ops (s : State) (f : Field) (b : Bool) : (s.wrBit f b).ops = s.ops := rfl
@[simp] theorem State.wrBit_rings (s : State) (f : Field) (b : Bool) : (s.wrBit f b).rings = s.rings := rfl
@[simp] theorem State.wrBit_sched (s : State) (f : Field) (b : Bool) : (s.wrBit f b).sched = s.sched := rfl
@[simp] theorem State.wrBit_upd (s : State) (f : Field) (b : Bool) : (s.wrBit f b).upd = s.upd := rfl
@[simp] theorem State.wrBit_fab (s : State) (f : Field) (b : Bool) : (s.wrBit f b).fab = s.fab := rfl
@[simp] theorem State.wrBit_chrys (s : State) (f : Field) (b : Bool) : (s.wrBit f b).chrys = s.chrys := rfl
@[simp] theorem State.wrBit_links (s : State) (f : Field) (b : Bool) : (s.wrBit f b).links = s.links := rfl
@[simp] theorem State.wrBit_pwr (s : State) (f : Field) (b : Bool) : (s.wrBit f b).pwr = s.pwr := rfl
@[simp] theorem State.wrBit_boot (s : State) (f : Field) (b : Bool) : (s.wrBit f b).boot = s.boot := rfl
@[simp] theorem State.wrBit_mgmt (s : State) (f : Field) (b : Bool) : (s.wrBit f b).mgmt = s.mgmt := rfl
@[simp] theorem State.wrBit_arr (s : State) (f : Field) (b : Bool) : (s.wrBit f b).arr = s.arr := rfl
@[simp] theorem State.wrBit_row (s : State) (f : Field) (b : Bool) : (s.wrBit f b).row = s.row := rfl
@[simp] theorem State.wrBit_vec (s : State) (f : Field) (b : Bool) : (s.wrBit f b).vec = s.vec := rfl
@[simp] theorem State.wrBit_xfers (s : State) (f : Field) (b : Bool) : (s.wrBit f b).xfers = s.xfers := rfl
@[simp] theorem State.wrBit_nextXfer (s : State) (f : Field) (b : Bool) : (s.wrBit f b).nextXfer = s.nextXfer := rfl

@[simp] theorem State.addAt_pending (s : State) (f : Field) (i n : Nat) : (s.addAt f i n).pending = s.pending := rfl
@[simp] theorem State.addAt_outbox (s : State) (f : Field) (i n : Nat) : (s.addAt f i n).outbox = s.outbox := rfl
@[simp] theorem State.addAt_tick (s : State) (f : Field) (i n : Nat) : (s.addAt f i n).tick = s.tick := rfl
@[simp] theorem State.addAt_drawn (s : State) (f : Field) (i n : Nat) : (s.addAt f i n).drawn = s.drawn := rfl
@[simp] theorem State.addAt_mode (s : State) (f : Field) (i n : Nat) : (s.addAt f i n).mode = s.mode := rfl
@[simp] theorem State.addAt_step (s : State) (f : Field) (i n : Nat) : (s.addAt f i n).step = s.step := rfl
@[simp] theorem State.addAt_job (s : State) (f : Field) (i n : Nat) : (s.addAt f i n).job = s.job := rfl
@[simp] theorem State.addAt_barrier (s : State) (f : Field) (i n : Nat) : (s.addAt f i n).barrier = s.barrier := rfl
@[simp] theorem State.addAt_mirror (s : State) (f : Field) (i n : Nat) : (s.addAt f i n).mirror = s.mirror := rfl
@[simp] theorem State.addAt_canary (s : State) (f : Field) (i n : Nat) : (s.addAt f i n).canary = s.canary := rfl
@[simp] theorem State.addAt_test (s : State) (f : Field) (i n : Nat) : (s.addAt f i n).test = s.test := rfl
@[simp] theorem State.addAt_ev (s : State) (f : Field) (i n : Nat) : (s.addAt f i n).ev = s.ev := rfl
@[simp] theorem State.addAt_mem (s : State) (f : Field) (i n : Nat) : (s.addAt f i n).mem = s.mem := rfl
@[simp] theorem State.addAt_queues (s : State) (f : Field) (i n : Nat) : (s.addAt f i n).queues = s.queues := rfl
@[simp] theorem State.addAt_waits (s : State) (f : Field) (i n : Nat) : (s.addAt f i n).waits = s.waits := rfl
@[simp] theorem State.addAt_stalled (s : State) (f : Field) (i n : Nat) : (s.addAt f i n).stalled = s.stalled := rfl
@[simp] theorem State.addAt_ops (s : State) (f : Field) (i n : Nat) : (s.addAt f i n).ops = s.ops := rfl
@[simp] theorem State.addAt_rings (s : State) (f : Field) (i n : Nat) : (s.addAt f i n).rings = s.rings := rfl
@[simp] theorem State.addAt_sched (s : State) (f : Field) (i n : Nat) : (s.addAt f i n).sched = s.sched := rfl
@[simp] theorem State.addAt_upd (s : State) (f : Field) (i n : Nat) : (s.addAt f i n).upd = s.upd := rfl
@[simp] theorem State.addAt_fab (s : State) (f : Field) (i n : Nat) : (s.addAt f i n).fab = s.fab := rfl
@[simp] theorem State.addAt_chrys (s : State) (f : Field) (i n : Nat) : (s.addAt f i n).chrys = s.chrys := rfl
@[simp] theorem State.addAt_links (s : State) (f : Field) (i n : Nat) : (s.addAt f i n).links = s.links := rfl
@[simp] theorem State.addAt_pwr (s : State) (f : Field) (i n : Nat) : (s.addAt f i n).pwr = s.pwr := rfl
@[simp] theorem State.addAt_boot (s : State) (f : Field) (i n : Nat) : (s.addAt f i n).boot = s.boot := rfl
@[simp] theorem State.addAt_mgmt (s : State) (f : Field) (i n : Nat) : (s.addAt f i n).mgmt = s.mgmt := rfl
@[simp] theorem State.addAt_arr (s : State) (f : Field) (i n : Nat) : (s.addAt f i n).arr = s.arr := rfl
@[simp] theorem State.addAt_row (s : State) (f : Field) (i n : Nat) : (s.addAt f i n).row = s.row := rfl
@[simp] theorem State.addAt_vec (s : State) (f : Field) (i n : Nat) : (s.addAt f i n).vec = s.vec := rfl
@[simp] theorem State.addAt_xfers (s : State) (f : Field) (i n : Nat) : (s.addAt f i n).xfers = s.xfers := rfl
@[simp] theorem State.addAt_nextXfer (s : State) (f : Field) (i n : Nat) : (s.addAt f i n).nextXfer = s.nextXfer := rfl

@[simp] theorem State.add_pending (s : State) (f : Field) (n : Nat) : (s.add f n).pending = s.pending := rfl
@[simp] theorem State.add_outbox (s : State) (f : Field) (n : Nat) : (s.add f n).outbox = s.outbox := rfl
@[simp] theorem State.add_tick (s : State) (f : Field) (n : Nat) : (s.add f n).tick = s.tick := rfl
@[simp] theorem State.add_drawn (s : State) (f : Field) (n : Nat) : (s.add f n).drawn = s.drawn := rfl
@[simp] theorem State.add_mode (s : State) (f : Field) (n : Nat) : (s.add f n).mode = s.mode := rfl
@[simp] theorem State.add_step (s : State) (f : Field) (n : Nat) : (s.add f n).step = s.step := rfl
@[simp] theorem State.add_job (s : State) (f : Field) (n : Nat) : (s.add f n).job = s.job := rfl
@[simp] theorem State.add_barrier (s : State) (f : Field) (n : Nat) : (s.add f n).barrier = s.barrier := rfl
@[simp] theorem State.add_mirror (s : State) (f : Field) (n : Nat) : (s.add f n).mirror = s.mirror := rfl
@[simp] theorem State.add_canary (s : State) (f : Field) (n : Nat) : (s.add f n).canary = s.canary := rfl
@[simp] theorem State.add_test (s : State) (f : Field) (n : Nat) : (s.add f n).test = s.test := rfl
@[simp] theorem State.add_ev (s : State) (f : Field) (n : Nat) : (s.add f n).ev = s.ev := rfl
@[simp] theorem State.add_mem (s : State) (f : Field) (n : Nat) : (s.add f n).mem = s.mem := rfl
@[simp] theorem State.add_queues (s : State) (f : Field) (n : Nat) : (s.add f n).queues = s.queues := rfl
@[simp] theorem State.add_waits (s : State) (f : Field) (n : Nat) : (s.add f n).waits = s.waits := rfl
@[simp] theorem State.add_stalled (s : State) (f : Field) (n : Nat) : (s.add f n).stalled = s.stalled := rfl
@[simp] theorem State.add_ops (s : State) (f : Field) (n : Nat) : (s.add f n).ops = s.ops := rfl
@[simp] theorem State.add_rings (s : State) (f : Field) (n : Nat) : (s.add f n).rings = s.rings := rfl
@[simp] theorem State.add_sched (s : State) (f : Field) (n : Nat) : (s.add f n).sched = s.sched := rfl
@[simp] theorem State.add_upd (s : State) (f : Field) (n : Nat) : (s.add f n).upd = s.upd := rfl
@[simp] theorem State.add_fab (s : State) (f : Field) (n : Nat) : (s.add f n).fab = s.fab := rfl
@[simp] theorem State.add_chrys (s : State) (f : Field) (n : Nat) : (s.add f n).chrys = s.chrys := rfl
@[simp] theorem State.add_links (s : State) (f : Field) (n : Nat) : (s.add f n).links = s.links := rfl
@[simp] theorem State.add_pwr (s : State) (f : Field) (n : Nat) : (s.add f n).pwr = s.pwr := rfl
@[simp] theorem State.add_boot (s : State) (f : Field) (n : Nat) : (s.add f n).boot = s.boot := rfl
@[simp] theorem State.add_mgmt (s : State) (f : Field) (n : Nat) : (s.add f n).mgmt = s.mgmt := rfl
@[simp] theorem State.add_arr (s : State) (f : Field) (n : Nat) : (s.add f n).arr = s.arr := rfl
@[simp] theorem State.add_row (s : State) (f : Field) (n : Nat) : (s.add f n).row = s.row := rfl
@[simp] theorem State.add_vec (s : State) (f : Field) (n : Nat) : (s.add f n).vec = s.vec := rfl
@[simp] theorem State.add_xfers (s : State) (f : Field) (n : Nat) : (s.add f n).xfers = s.xfers := rfl
@[simp] theorem State.add_nextXfer (s : State) (f : Field) (n : Nat) : (s.add f n).nextXfer = s.nextXfer := rfl

@[simp] theorem State.addSatAt_pending (s : State) (f : Field) (i n : Nat) : (s.addSatAt f i n).pending = s.pending := rfl
@[simp] theorem State.addSatAt_outbox (s : State) (f : Field) (i n : Nat) : (s.addSatAt f i n).outbox = s.outbox := rfl
@[simp] theorem State.addSatAt_tick (s : State) (f : Field) (i n : Nat) : (s.addSatAt f i n).tick = s.tick := rfl
@[simp] theorem State.addSatAt_drawn (s : State) (f : Field) (i n : Nat) : (s.addSatAt f i n).drawn = s.drawn := rfl
@[simp] theorem State.addSatAt_mode (s : State) (f : Field) (i n : Nat) : (s.addSatAt f i n).mode = s.mode := rfl
@[simp] theorem State.addSatAt_step (s : State) (f : Field) (i n : Nat) : (s.addSatAt f i n).step = s.step := rfl
@[simp] theorem State.addSatAt_job (s : State) (f : Field) (i n : Nat) : (s.addSatAt f i n).job = s.job := rfl
@[simp] theorem State.addSatAt_barrier (s : State) (f : Field) (i n : Nat) : (s.addSatAt f i n).barrier = s.barrier := rfl
@[simp] theorem State.addSatAt_mirror (s : State) (f : Field) (i n : Nat) : (s.addSatAt f i n).mirror = s.mirror := rfl
@[simp] theorem State.addSatAt_canary (s : State) (f : Field) (i n : Nat) : (s.addSatAt f i n).canary = s.canary := rfl
@[simp] theorem State.addSatAt_test (s : State) (f : Field) (i n : Nat) : (s.addSatAt f i n).test = s.test := rfl
@[simp] theorem State.addSatAt_ev (s : State) (f : Field) (i n : Nat) : (s.addSatAt f i n).ev = s.ev := rfl
@[simp] theorem State.addSatAt_mem (s : State) (f : Field) (i n : Nat) : (s.addSatAt f i n).mem = s.mem := rfl
@[simp] theorem State.addSatAt_queues (s : State) (f : Field) (i n : Nat) : (s.addSatAt f i n).queues = s.queues := rfl
@[simp] theorem State.addSatAt_waits (s : State) (f : Field) (i n : Nat) : (s.addSatAt f i n).waits = s.waits := rfl
@[simp] theorem State.addSatAt_stalled (s : State) (f : Field) (i n : Nat) : (s.addSatAt f i n).stalled = s.stalled := rfl
@[simp] theorem State.addSatAt_ops (s : State) (f : Field) (i n : Nat) : (s.addSatAt f i n).ops = s.ops := rfl
@[simp] theorem State.addSatAt_rings (s : State) (f : Field) (i n : Nat) : (s.addSatAt f i n).rings = s.rings := rfl
@[simp] theorem State.addSatAt_sched (s : State) (f : Field) (i n : Nat) : (s.addSatAt f i n).sched = s.sched := rfl
@[simp] theorem State.addSatAt_upd (s : State) (f : Field) (i n : Nat) : (s.addSatAt f i n).upd = s.upd := rfl
@[simp] theorem State.addSatAt_fab (s : State) (f : Field) (i n : Nat) : (s.addSatAt f i n).fab = s.fab := rfl
@[simp] theorem State.addSatAt_chrys (s : State) (f : Field) (i n : Nat) : (s.addSatAt f i n).chrys = s.chrys := rfl
@[simp] theorem State.addSatAt_links (s : State) (f : Field) (i n : Nat) : (s.addSatAt f i n).links = s.links := rfl
@[simp] theorem State.addSatAt_pwr (s : State) (f : Field) (i n : Nat) : (s.addSatAt f i n).pwr = s.pwr := rfl
@[simp] theorem State.addSatAt_boot (s : State) (f : Field) (i n : Nat) : (s.addSatAt f i n).boot = s.boot := rfl
@[simp] theorem State.addSatAt_mgmt (s : State) (f : Field) (i n : Nat) : (s.addSatAt f i n).mgmt = s.mgmt := rfl
@[simp] theorem State.addSatAt_arr (s : State) (f : Field) (i n : Nat) : (s.addSatAt f i n).arr = s.arr := rfl
@[simp] theorem State.addSatAt_row (s : State) (f : Field) (i n : Nat) : (s.addSatAt f i n).row = s.row := rfl
@[simp] theorem State.addSatAt_vec (s : State) (f : Field) (i n : Nat) : (s.addSatAt f i n).vec = s.vec := rfl
@[simp] theorem State.addSatAt_xfers (s : State) (f : Field) (i n : Nat) : (s.addSatAt f i n).xfers = s.xfers := rfl
@[simp] theorem State.addSatAt_nextXfer (s : State) (f : Field) (i n : Nat) : (s.addSatAt f i n).nextXfer = s.nextXfer := rfl

@[simp] theorem State.addSat_pending (s : State) (f : Field) (n : Nat) : (s.addSat f n).pending = s.pending := rfl
@[simp] theorem State.addSat_outbox (s : State) (f : Field) (n : Nat) : (s.addSat f n).outbox = s.outbox := rfl
@[simp] theorem State.addSat_tick (s : State) (f : Field) (n : Nat) : (s.addSat f n).tick = s.tick := rfl
@[simp] theorem State.addSat_drawn (s : State) (f : Field) (n : Nat) : (s.addSat f n).drawn = s.drawn := rfl
@[simp] theorem State.addSat_mode (s : State) (f : Field) (n : Nat) : (s.addSat f n).mode = s.mode := rfl
@[simp] theorem State.addSat_step (s : State) (f : Field) (n : Nat) : (s.addSat f n).step = s.step := rfl
@[simp] theorem State.addSat_job (s : State) (f : Field) (n : Nat) : (s.addSat f n).job = s.job := rfl
@[simp] theorem State.addSat_barrier (s : State) (f : Field) (n : Nat) : (s.addSat f n).barrier = s.barrier := rfl
@[simp] theorem State.addSat_mirror (s : State) (f : Field) (n : Nat) : (s.addSat f n).mirror = s.mirror := rfl
@[simp] theorem State.addSat_canary (s : State) (f : Field) (n : Nat) : (s.addSat f n).canary = s.canary := rfl
@[simp] theorem State.addSat_test (s : State) (f : Field) (n : Nat) : (s.addSat f n).test = s.test := rfl
@[simp] theorem State.addSat_ev (s : State) (f : Field) (n : Nat) : (s.addSat f n).ev = s.ev := rfl
@[simp] theorem State.addSat_mem (s : State) (f : Field) (n : Nat) : (s.addSat f n).mem = s.mem := rfl
@[simp] theorem State.addSat_queues (s : State) (f : Field) (n : Nat) : (s.addSat f n).queues = s.queues := rfl
@[simp] theorem State.addSat_waits (s : State) (f : Field) (n : Nat) : (s.addSat f n).waits = s.waits := rfl
@[simp] theorem State.addSat_stalled (s : State) (f : Field) (n : Nat) : (s.addSat f n).stalled = s.stalled := rfl
@[simp] theorem State.addSat_ops (s : State) (f : Field) (n : Nat) : (s.addSat f n).ops = s.ops := rfl
@[simp] theorem State.addSat_rings (s : State) (f : Field) (n : Nat) : (s.addSat f n).rings = s.rings := rfl
@[simp] theorem State.addSat_sched (s : State) (f : Field) (n : Nat) : (s.addSat f n).sched = s.sched := rfl
@[simp] theorem State.addSat_upd (s : State) (f : Field) (n : Nat) : (s.addSat f n).upd = s.upd := rfl
@[simp] theorem State.addSat_fab (s : State) (f : Field) (n : Nat) : (s.addSat f n).fab = s.fab := rfl
@[simp] theorem State.addSat_chrys (s : State) (f : Field) (n : Nat) : (s.addSat f n).chrys = s.chrys := rfl
@[simp] theorem State.addSat_links (s : State) (f : Field) (n : Nat) : (s.addSat f n).links = s.links := rfl
@[simp] theorem State.addSat_pwr (s : State) (f : Field) (n : Nat) : (s.addSat f n).pwr = s.pwr := rfl
@[simp] theorem State.addSat_boot (s : State) (f : Field) (n : Nat) : (s.addSat f n).boot = s.boot := rfl
@[simp] theorem State.addSat_mgmt (s : State) (f : Field) (n : Nat) : (s.addSat f n).mgmt = s.mgmt := rfl
@[simp] theorem State.addSat_arr (s : State) (f : Field) (n : Nat) : (s.addSat f n).arr = s.arr := rfl
@[simp] theorem State.addSat_row (s : State) (f : Field) (n : Nat) : (s.addSat f n).row = s.row := rfl
@[simp] theorem State.addSat_vec (s : State) (f : Field) (n : Nat) : (s.addSat f n).vec = s.vec := rfl
@[simp] theorem State.addSat_xfers (s : State) (f : Field) (n : Nat) : (s.addSat f n).xfers = s.xfers := rfl
@[simp] theorem State.addSat_nextXfer (s : State) (f : Field) (n : Nat) : (s.addSat f n).nextXfer = s.nextXfer := rfl

@[simp] theorem State.orAt_pending (s : State) (f : Field) (i n : Nat) : (s.orAt f i n).pending = s.pending := rfl
@[simp] theorem State.orAt_outbox (s : State) (f : Field) (i n : Nat) : (s.orAt f i n).outbox = s.outbox := rfl
@[simp] theorem State.orAt_tick (s : State) (f : Field) (i n : Nat) : (s.orAt f i n).tick = s.tick := rfl
@[simp] theorem State.orAt_drawn (s : State) (f : Field) (i n : Nat) : (s.orAt f i n).drawn = s.drawn := rfl
@[simp] theorem State.orAt_mode (s : State) (f : Field) (i n : Nat) : (s.orAt f i n).mode = s.mode := rfl
@[simp] theorem State.orAt_step (s : State) (f : Field) (i n : Nat) : (s.orAt f i n).step = s.step := rfl
@[simp] theorem State.orAt_job (s : State) (f : Field) (i n : Nat) : (s.orAt f i n).job = s.job := rfl
@[simp] theorem State.orAt_barrier (s : State) (f : Field) (i n : Nat) : (s.orAt f i n).barrier = s.barrier := rfl
@[simp] theorem State.orAt_mirror (s : State) (f : Field) (i n : Nat) : (s.orAt f i n).mirror = s.mirror := rfl
@[simp] theorem State.orAt_canary (s : State) (f : Field) (i n : Nat) : (s.orAt f i n).canary = s.canary := rfl
@[simp] theorem State.orAt_test (s : State) (f : Field) (i n : Nat) : (s.orAt f i n).test = s.test := rfl
@[simp] theorem State.orAt_ev (s : State) (f : Field) (i n : Nat) : (s.orAt f i n).ev = s.ev := rfl
@[simp] theorem State.orAt_mem (s : State) (f : Field) (i n : Nat) : (s.orAt f i n).mem = s.mem := rfl
@[simp] theorem State.orAt_queues (s : State) (f : Field) (i n : Nat) : (s.orAt f i n).queues = s.queues := rfl
@[simp] theorem State.orAt_waits (s : State) (f : Field) (i n : Nat) : (s.orAt f i n).waits = s.waits := rfl
@[simp] theorem State.orAt_stalled (s : State) (f : Field) (i n : Nat) : (s.orAt f i n).stalled = s.stalled := rfl
@[simp] theorem State.orAt_ops (s : State) (f : Field) (i n : Nat) : (s.orAt f i n).ops = s.ops := rfl
@[simp] theorem State.orAt_rings (s : State) (f : Field) (i n : Nat) : (s.orAt f i n).rings = s.rings := rfl
@[simp] theorem State.orAt_sched (s : State) (f : Field) (i n : Nat) : (s.orAt f i n).sched = s.sched := rfl
@[simp] theorem State.orAt_upd (s : State) (f : Field) (i n : Nat) : (s.orAt f i n).upd = s.upd := rfl
@[simp] theorem State.orAt_fab (s : State) (f : Field) (i n : Nat) : (s.orAt f i n).fab = s.fab := rfl
@[simp] theorem State.orAt_chrys (s : State) (f : Field) (i n : Nat) : (s.orAt f i n).chrys = s.chrys := rfl
@[simp] theorem State.orAt_links (s : State) (f : Field) (i n : Nat) : (s.orAt f i n).links = s.links := rfl
@[simp] theorem State.orAt_pwr (s : State) (f : Field) (i n : Nat) : (s.orAt f i n).pwr = s.pwr := rfl
@[simp] theorem State.orAt_boot (s : State) (f : Field) (i n : Nat) : (s.orAt f i n).boot = s.boot := rfl
@[simp] theorem State.orAt_mgmt (s : State) (f : Field) (i n : Nat) : (s.orAt f i n).mgmt = s.mgmt := rfl
@[simp] theorem State.orAt_arr (s : State) (f : Field) (i n : Nat) : (s.orAt f i n).arr = s.arr := rfl
@[simp] theorem State.orAt_row (s : State) (f : Field) (i n : Nat) : (s.orAt f i n).row = s.row := rfl
@[simp] theorem State.orAt_vec (s : State) (f : Field) (i n : Nat) : (s.orAt f i n).vec = s.vec := rfl
@[simp] theorem State.orAt_xfers (s : State) (f : Field) (i n : Nat) : (s.orAt f i n).xfers = s.xfers := rfl
@[simp] theorem State.orAt_nextXfer (s : State) (f : Field) (i n : Nat) : (s.orAt f i n).nextXfer = s.nextXfer := rfl

@[simp] theorem State.send_pending (s : State) (o : Output) : (s.send o).pending = s.pending := rfl
@[simp] theorem State.send_regs (s : State) (o : Output) : (s.send o).regs = s.regs := rfl
@[simp] theorem State.send_tick (s : State) (o : Output) : (s.send o).tick = s.tick := rfl
@[simp] theorem State.send_drawn (s : State) (o : Output) : (s.send o).drawn = s.drawn := rfl
@[simp] theorem State.send_mode (s : State) (o : Output) : (s.send o).mode = s.mode := rfl
@[simp] theorem State.send_step (s : State) (o : Output) : (s.send o).step = s.step := rfl
@[simp] theorem State.send_job (s : State) (o : Output) : (s.send o).job = s.job := rfl
@[simp] theorem State.send_barrier (s : State) (o : Output) : (s.send o).barrier = s.barrier := rfl
@[simp] theorem State.send_mirror (s : State) (o : Output) : (s.send o).mirror = s.mirror := rfl
@[simp] theorem State.send_canary (s : State) (o : Output) : (s.send o).canary = s.canary := rfl
@[simp] theorem State.send_test (s : State) (o : Output) : (s.send o).test = s.test := rfl
@[simp] theorem State.send_ev (s : State) (o : Output) : (s.send o).ev = s.ev := rfl
@[simp] theorem State.send_mem (s : State) (o : Output) : (s.send o).mem = s.mem := rfl
@[simp] theorem State.send_queues (s : State) (o : Output) : (s.send o).queues = s.queues := rfl
@[simp] theorem State.send_waits (s : State) (o : Output) : (s.send o).waits = s.waits := rfl
@[simp] theorem State.send_stalled (s : State) (o : Output) : (s.send o).stalled = s.stalled := rfl
@[simp] theorem State.send_ops (s : State) (o : Output) : (s.send o).ops = s.ops := rfl
@[simp] theorem State.send_rings (s : State) (o : Output) : (s.send o).rings = s.rings := rfl
@[simp] theorem State.send_sched (s : State) (o : Output) : (s.send o).sched = s.sched := rfl
@[simp] theorem State.send_upd (s : State) (o : Output) : (s.send o).upd = s.upd := rfl
@[simp] theorem State.send_fab (s : State) (o : Output) : (s.send o).fab = s.fab := rfl
@[simp] theorem State.send_chrys (s : State) (o : Output) : (s.send o).chrys = s.chrys := rfl
@[simp] theorem State.send_links (s : State) (o : Output) : (s.send o).links = s.links := rfl
@[simp] theorem State.send_pwr (s : State) (o : Output) : (s.send o).pwr = s.pwr := rfl
@[simp] theorem State.send_boot (s : State) (o : Output) : (s.send o).boot = s.boot := rfl
@[simp] theorem State.send_mgmt (s : State) (o : Output) : (s.send o).mgmt = s.mgmt := rfl
@[simp] theorem State.send_arr (s : State) (o : Output) : (s.send o).arr = s.arr := rfl
@[simp] theorem State.send_row (s : State) (o : Output) : (s.send o).row = s.row := rfl
@[simp] theorem State.send_vec (s : State) (o : Output) : (s.send o).vec = s.vec := rfl
@[simp] theorem State.send_xfers (s : State) (o : Output) : (s.send o).xfers = s.xfers := rfl
@[simp] theorem State.send_nextXfer (s : State) (o : Output) : (s.send o).nextXfer = s.nextXfer := rfl

@[simp] theorem State.setVec_pending (s : State) (p : Nat) (v : VecSt) : (s.setVec p v).pending = s.pending := rfl
@[simp] theorem State.setVec_regs (s : State) (p : Nat) (v : VecSt) : (s.setVec p v).regs = s.regs := rfl
@[simp] theorem State.setVec_outbox (s : State) (p : Nat) (v : VecSt) : (s.setVec p v).outbox = s.outbox := rfl
@[simp] theorem State.setVec_tick (s : State) (p : Nat) (v : VecSt) : (s.setVec p v).tick = s.tick := rfl
@[simp] theorem State.setVec_drawn (s : State) (p : Nat) (v : VecSt) : (s.setVec p v).drawn = s.drawn := rfl
@[simp] theorem State.setVec_mode (s : State) (p : Nat) (v : VecSt) : (s.setVec p v).mode = s.mode := rfl
@[simp] theorem State.setVec_step (s : State) (p : Nat) (v : VecSt) : (s.setVec p v).step = s.step := rfl
@[simp] theorem State.setVec_job (s : State) (p : Nat) (v : VecSt) : (s.setVec p v).job = s.job := rfl
@[simp] theorem State.setVec_barrier (s : State) (p : Nat) (v : VecSt) : (s.setVec p v).barrier = s.barrier := rfl
@[simp] theorem State.setVec_mirror (s : State) (p : Nat) (v : VecSt) : (s.setVec p v).mirror = s.mirror := rfl
@[simp] theorem State.setVec_canary (s : State) (p : Nat) (v : VecSt) : (s.setVec p v).canary = s.canary := rfl
@[simp] theorem State.setVec_test (s : State) (p : Nat) (v : VecSt) : (s.setVec p v).test = s.test := rfl
@[simp] theorem State.setVec_ev (s : State) (p : Nat) (v : VecSt) : (s.setVec p v).ev = s.ev := rfl
@[simp] theorem State.setVec_mem (s : State) (p : Nat) (v : VecSt) : (s.setVec p v).mem = s.mem := rfl
@[simp] theorem State.setVec_queues (s : State) (p : Nat) (v : VecSt) : (s.setVec p v).queues = s.queues := rfl
@[simp] theorem State.setVec_waits (s : State) (p : Nat) (v : VecSt) : (s.setVec p v).waits = s.waits := rfl
@[simp] theorem State.setVec_stalled (s : State) (p : Nat) (v : VecSt) : (s.setVec p v).stalled = s.stalled := rfl
@[simp] theorem State.setVec_ops (s : State) (p : Nat) (v : VecSt) : (s.setVec p v).ops = s.ops := rfl
@[simp] theorem State.setVec_rings (s : State) (p : Nat) (v : VecSt) : (s.setVec p v).rings = s.rings := rfl
@[simp] theorem State.setVec_sched (s : State) (p : Nat) (v : VecSt) : (s.setVec p v).sched = s.sched := rfl
@[simp] theorem State.setVec_upd (s : State) (p : Nat) (v : VecSt) : (s.setVec p v).upd = s.upd := rfl
@[simp] theorem State.setVec_fab (s : State) (p : Nat) (v : VecSt) : (s.setVec p v).fab = s.fab := rfl
@[simp] theorem State.setVec_chrys (s : State) (p : Nat) (v : VecSt) : (s.setVec p v).chrys = s.chrys := rfl
@[simp] theorem State.setVec_links (s : State) (p : Nat) (v : VecSt) : (s.setVec p v).links = s.links := rfl
@[simp] theorem State.setVec_pwr (s : State) (p : Nat) (v : VecSt) : (s.setVec p v).pwr = s.pwr := rfl
@[simp] theorem State.setVec_boot (s : State) (p : Nat) (v : VecSt) : (s.setVec p v).boot = s.boot := rfl
@[simp] theorem State.setVec_mgmt (s : State) (p : Nat) (v : VecSt) : (s.setVec p v).mgmt = s.mgmt := rfl
@[simp] theorem State.setVec_arr (s : State) (p : Nat) (v : VecSt) : (s.setVec p v).arr = s.arr := rfl
@[simp] theorem State.setVec_row (s : State) (p : Nat) (v : VecSt) : (s.setVec p v).row = s.row := rfl
@[simp] theorem State.setVec_xfers (s : State) (p : Nat) (v : VecSt) : (s.setVec p v).xfers = s.xfers := rfl
@[simp] theorem State.setVec_nextXfer (s : State) (p : Nat) (v : VecSt) : (s.setVec p v).nextXfer = s.nextXfer := rfl

@[simp] theorem State.setRing_pending (s : State) (r : Nat) (x : Ring) : (s.setRing r x).pending = s.pending := rfl
@[simp] theorem State.setRing_regs (s : State) (r : Nat) (x : Ring) : (s.setRing r x).regs = s.regs := rfl
@[simp] theorem State.setRing_outbox (s : State) (r : Nat) (x : Ring) : (s.setRing r x).outbox = s.outbox := rfl
@[simp] theorem State.setRing_tick (s : State) (r : Nat) (x : Ring) : (s.setRing r x).tick = s.tick := rfl
@[simp] theorem State.setRing_drawn (s : State) (r : Nat) (x : Ring) : (s.setRing r x).drawn = s.drawn := rfl
@[simp] theorem State.setRing_mode (s : State) (r : Nat) (x : Ring) : (s.setRing r x).mode = s.mode := rfl
@[simp] theorem State.setRing_step (s : State) (r : Nat) (x : Ring) : (s.setRing r x).step = s.step := rfl
@[simp] theorem State.setRing_job (s : State) (r : Nat) (x : Ring) : (s.setRing r x).job = s.job := rfl
@[simp] theorem State.setRing_barrier (s : State) (r : Nat) (x : Ring) : (s.setRing r x).barrier = s.barrier := rfl
@[simp] theorem State.setRing_mirror (s : State) (r : Nat) (x : Ring) : (s.setRing r x).mirror = s.mirror := rfl
@[simp] theorem State.setRing_canary (s : State) (r : Nat) (x : Ring) : (s.setRing r x).canary = s.canary := rfl
@[simp] theorem State.setRing_test (s : State) (r : Nat) (x : Ring) : (s.setRing r x).test = s.test := rfl
@[simp] theorem State.setRing_ev (s : State) (r : Nat) (x : Ring) : (s.setRing r x).ev = s.ev := rfl
@[simp] theorem State.setRing_mem (s : State) (r : Nat) (x : Ring) : (s.setRing r x).mem = s.mem := rfl
@[simp] theorem State.setRing_queues (s : State) (r : Nat) (x : Ring) : (s.setRing r x).queues = s.queues := rfl
@[simp] theorem State.setRing_waits (s : State) (r : Nat) (x : Ring) : (s.setRing r x).waits = s.waits := rfl
@[simp] theorem State.setRing_stalled (s : State) (r : Nat) (x : Ring) : (s.setRing r x).stalled = s.stalled := rfl
@[simp] theorem State.setRing_ops (s : State) (r : Nat) (x : Ring) : (s.setRing r x).ops = s.ops := rfl
@[simp] theorem State.setRing_sched (s : State) (r : Nat) (x : Ring) : (s.setRing r x).sched = s.sched := rfl
@[simp] theorem State.setRing_upd (s : State) (r : Nat) (x : Ring) : (s.setRing r x).upd = s.upd := rfl
@[simp] theorem State.setRing_fab (s : State) (r : Nat) (x : Ring) : (s.setRing r x).fab = s.fab := rfl
@[simp] theorem State.setRing_chrys (s : State) (r : Nat) (x : Ring) : (s.setRing r x).chrys = s.chrys := rfl
@[simp] theorem State.setRing_links (s : State) (r : Nat) (x : Ring) : (s.setRing r x).links = s.links := rfl
@[simp] theorem State.setRing_pwr (s : State) (r : Nat) (x : Ring) : (s.setRing r x).pwr = s.pwr := rfl
@[simp] theorem State.setRing_boot (s : State) (r : Nat) (x : Ring) : (s.setRing r x).boot = s.boot := rfl
@[simp] theorem State.setRing_mgmt (s : State) (r : Nat) (x : Ring) : (s.setRing r x).mgmt = s.mgmt := rfl
@[simp] theorem State.setRing_arr (s : State) (r : Nat) (x : Ring) : (s.setRing r x).arr = s.arr := rfl
@[simp] theorem State.setRing_row (s : State) (r : Nat) (x : Ring) : (s.setRing r x).row = s.row := rfl
@[simp] theorem State.setRing_vec (s : State) (r : Nat) (x : Ring) : (s.setRing r x).vec = s.vec := rfl
@[simp] theorem State.setRing_xfers (s : State) (r : Nat) (x : Ring) : (s.setRing r x).xfers = s.xfers := rfl
@[simp] theorem State.setRing_nextXfer (s : State) (r : Nat) (x : Ring) : (s.setRing r x).nextXfer = s.nextXfer := rfl

@[simp] theorem State.setQueue_pending (s : State) (q : Nat) (x : Queue) : (s.setQueue q x).pending = s.pending := rfl
@[simp] theorem State.setQueue_regs (s : State) (q : Nat) (x : Queue) : (s.setQueue q x).regs = s.regs := rfl
@[simp] theorem State.setQueue_outbox (s : State) (q : Nat) (x : Queue) : (s.setQueue q x).outbox = s.outbox := rfl
@[simp] theorem State.setQueue_tick (s : State) (q : Nat) (x : Queue) : (s.setQueue q x).tick = s.tick := rfl
@[simp] theorem State.setQueue_drawn (s : State) (q : Nat) (x : Queue) : (s.setQueue q x).drawn = s.drawn := rfl
@[simp] theorem State.setQueue_mode (s : State) (q : Nat) (x : Queue) : (s.setQueue q x).mode = s.mode := rfl
@[simp] theorem State.setQueue_step (s : State) (q : Nat) (x : Queue) : (s.setQueue q x).step = s.step := rfl
@[simp] theorem State.setQueue_job (s : State) (q : Nat) (x : Queue) : (s.setQueue q x).job = s.job := rfl
@[simp] theorem State.setQueue_barrier (s : State) (q : Nat) (x : Queue) : (s.setQueue q x).barrier = s.barrier := rfl
@[simp] theorem State.setQueue_mirror (s : State) (q : Nat) (x : Queue) : (s.setQueue q x).mirror = s.mirror := rfl
@[simp] theorem State.setQueue_canary (s : State) (q : Nat) (x : Queue) : (s.setQueue q x).canary = s.canary := rfl
@[simp] theorem State.setQueue_test (s : State) (q : Nat) (x : Queue) : (s.setQueue q x).test = s.test := rfl
@[simp] theorem State.setQueue_ev (s : State) (q : Nat) (x : Queue) : (s.setQueue q x).ev = s.ev := rfl
@[simp] theorem State.setQueue_mem (s : State) (q : Nat) (x : Queue) : (s.setQueue q x).mem = s.mem := rfl
@[simp] theorem State.setQueue_waits (s : State) (q : Nat) (x : Queue) : (s.setQueue q x).waits = s.waits := rfl
@[simp] theorem State.setQueue_stalled (s : State) (q : Nat) (x : Queue) : (s.setQueue q x).stalled = s.stalled := rfl
@[simp] theorem State.setQueue_ops (s : State) (q : Nat) (x : Queue) : (s.setQueue q x).ops = s.ops := rfl
@[simp] theorem State.setQueue_rings (s : State) (q : Nat) (x : Queue) : (s.setQueue q x).rings = s.rings := rfl
@[simp] theorem State.setQueue_sched (s : State) (q : Nat) (x : Queue) : (s.setQueue q x).sched = s.sched := rfl
@[simp] theorem State.setQueue_upd (s : State) (q : Nat) (x : Queue) : (s.setQueue q x).upd = s.upd := rfl
@[simp] theorem State.setQueue_fab (s : State) (q : Nat) (x : Queue) : (s.setQueue q x).fab = s.fab := rfl
@[simp] theorem State.setQueue_chrys (s : State) (q : Nat) (x : Queue) : (s.setQueue q x).chrys = s.chrys := rfl
@[simp] theorem State.setQueue_links (s : State) (q : Nat) (x : Queue) : (s.setQueue q x).links = s.links := rfl
@[simp] theorem State.setQueue_pwr (s : State) (q : Nat) (x : Queue) : (s.setQueue q x).pwr = s.pwr := rfl
@[simp] theorem State.setQueue_boot (s : State) (q : Nat) (x : Queue) : (s.setQueue q x).boot = s.boot := rfl
@[simp] theorem State.setQueue_mgmt (s : State) (q : Nat) (x : Queue) : (s.setQueue q x).mgmt = s.mgmt := rfl
@[simp] theorem State.setQueue_arr (s : State) (q : Nat) (x : Queue) : (s.setQueue q x).arr = s.arr := rfl
@[simp] theorem State.setQueue_row (s : State) (q : Nat) (x : Queue) : (s.setQueue q x).row = s.row := rfl
@[simp] theorem State.setQueue_vec (s : State) (q : Nat) (x : Queue) : (s.setQueue q x).vec = s.vec := rfl
@[simp] theorem State.setQueue_xfers (s : State) (q : Nat) (x : Queue) : (s.setQueue q x).xfers = s.xfers := rfl
@[simp] theorem State.setQueue_nextXfer (s : State) (q : Nat) (x : Queue) : (s.setQueue q x).nextXfer = s.nextXfer := rfl

@[simp] theorem State.setArr_pending (s : State) (p : Nat) (a : ArrSt) : (s.setArr p a).pending = s.pending := rfl
@[simp] theorem State.setArr_regs (s : State) (p : Nat) (a : ArrSt) : (s.setArr p a).regs = s.regs := rfl
@[simp] theorem State.setArr_outbox (s : State) (p : Nat) (a : ArrSt) : (s.setArr p a).outbox = s.outbox := rfl
@[simp] theorem State.setArr_tick (s : State) (p : Nat) (a : ArrSt) : (s.setArr p a).tick = s.tick := rfl
@[simp] theorem State.setArr_drawn (s : State) (p : Nat) (a : ArrSt) : (s.setArr p a).drawn = s.drawn := rfl
@[simp] theorem State.setArr_mode (s : State) (p : Nat) (a : ArrSt) : (s.setArr p a).mode = s.mode := rfl
@[simp] theorem State.setArr_step (s : State) (p : Nat) (a : ArrSt) : (s.setArr p a).step = s.step := rfl
@[simp] theorem State.setArr_job (s : State) (p : Nat) (a : ArrSt) : (s.setArr p a).job = s.job := rfl
@[simp] theorem State.setArr_barrier (s : State) (p : Nat) (a : ArrSt) : (s.setArr p a).barrier = s.barrier := rfl
@[simp] theorem State.setArr_mirror (s : State) (p : Nat) (a : ArrSt) : (s.setArr p a).mirror = s.mirror := rfl
@[simp] theorem State.setArr_canary (s : State) (p : Nat) (a : ArrSt) : (s.setArr p a).canary = s.canary := rfl
@[simp] theorem State.setArr_test (s : State) (p : Nat) (a : ArrSt) : (s.setArr p a).test = s.test := rfl
@[simp] theorem State.setArr_ev (s : State) (p : Nat) (a : ArrSt) : (s.setArr p a).ev = s.ev := rfl
@[simp] theorem State.setArr_mem (s : State) (p : Nat) (a : ArrSt) : (s.setArr p a).mem = s.mem := rfl
@[simp] theorem State.setArr_queues (s : State) (p : Nat) (a : ArrSt) : (s.setArr p a).queues = s.queues := rfl
@[simp] theorem State.setArr_waits (s : State) (p : Nat) (a : ArrSt) : (s.setArr p a).waits = s.waits := rfl
@[simp] theorem State.setArr_stalled (s : State) (p : Nat) (a : ArrSt) : (s.setArr p a).stalled = s.stalled := rfl
@[simp] theorem State.setArr_ops (s : State) (p : Nat) (a : ArrSt) : (s.setArr p a).ops = s.ops := rfl
@[simp] theorem State.setArr_rings (s : State) (p : Nat) (a : ArrSt) : (s.setArr p a).rings = s.rings := rfl
@[simp] theorem State.setArr_sched (s : State) (p : Nat) (a : ArrSt) : (s.setArr p a).sched = s.sched := rfl
@[simp] theorem State.setArr_upd (s : State) (p : Nat) (a : ArrSt) : (s.setArr p a).upd = s.upd := rfl
@[simp] theorem State.setArr_fab (s : State) (p : Nat) (a : ArrSt) : (s.setArr p a).fab = s.fab := rfl
@[simp] theorem State.setArr_chrys (s : State) (p : Nat) (a : ArrSt) : (s.setArr p a).chrys = s.chrys := rfl
@[simp] theorem State.setArr_links (s : State) (p : Nat) (a : ArrSt) : (s.setArr p a).links = s.links := rfl
@[simp] theorem State.setArr_pwr (s : State) (p : Nat) (a : ArrSt) : (s.setArr p a).pwr = s.pwr := rfl
@[simp] theorem State.setArr_boot (s : State) (p : Nat) (a : ArrSt) : (s.setArr p a).boot = s.boot := rfl
@[simp] theorem State.setArr_mgmt (s : State) (p : Nat) (a : ArrSt) : (s.setArr p a).mgmt = s.mgmt := rfl
@[simp] theorem State.setArr_row (s : State) (p : Nat) (a : ArrSt) : (s.setArr p a).row = s.row := rfl
@[simp] theorem State.setArr_vec (s : State) (p : Nat) (a : ArrSt) : (s.setArr p a).vec = s.vec := rfl
@[simp] theorem State.setArr_xfers (s : State) (p : Nat) (a : ArrSt) : (s.setArr p a).xfers = s.xfers := rfl
@[simp] theorem State.setArr_nextXfer (s : State) (p : Nat) (a : ArrSt) : (s.setArr p a).nextXfer = s.nextXfer := rfl

@[simp] theorem State.setWing_pending (s : State) (n : Nat) (hw : Bool) (w : WingSt) : (s.setWing n hw w).pending = s.pending := rfl
@[simp] theorem State.setWing_regs (s : State) (n : Nat) (hw : Bool) (w : WingSt) : (s.setWing n hw w).regs = s.regs := rfl
@[simp] theorem State.setWing_outbox (s : State) (n : Nat) (hw : Bool) (w : WingSt) : (s.setWing n hw w).outbox = s.outbox := rfl
@[simp] theorem State.setWing_tick (s : State) (n : Nat) (hw : Bool) (w : WingSt) : (s.setWing n hw w).tick = s.tick := rfl
@[simp] theorem State.setWing_drawn (s : State) (n : Nat) (hw : Bool) (w : WingSt) : (s.setWing n hw w).drawn = s.drawn := rfl
@[simp] theorem State.setWing_mode (s : State) (n : Nat) (hw : Bool) (w : WingSt) : (s.setWing n hw w).mode = s.mode := rfl
@[simp] theorem State.setWing_step (s : State) (n : Nat) (hw : Bool) (w : WingSt) : (s.setWing n hw w).step = s.step := rfl
@[simp] theorem State.setWing_job (s : State) (n : Nat) (hw : Bool) (w : WingSt) : (s.setWing n hw w).job = s.job := rfl
@[simp] theorem State.setWing_barrier (s : State) (n : Nat) (hw : Bool) (w : WingSt) : (s.setWing n hw w).barrier = s.barrier := rfl
@[simp] theorem State.setWing_mirror (s : State) (n : Nat) (hw : Bool) (w : WingSt) : (s.setWing n hw w).mirror = s.mirror := rfl
@[simp] theorem State.setWing_canary (s : State) (n : Nat) (hw : Bool) (w : WingSt) : (s.setWing n hw w).canary = s.canary := rfl
@[simp] theorem State.setWing_test (s : State) (n : Nat) (hw : Bool) (w : WingSt) : (s.setWing n hw w).test = s.test := rfl
@[simp] theorem State.setWing_ev (s : State) (n : Nat) (hw : Bool) (w : WingSt) : (s.setWing n hw w).ev = s.ev := rfl
@[simp] theorem State.setWing_mem (s : State) (n : Nat) (hw : Bool) (w : WingSt) : (s.setWing n hw w).mem = s.mem := rfl
@[simp] theorem State.setWing_queues (s : State) (n : Nat) (hw : Bool) (w : WingSt) : (s.setWing n hw w).queues = s.queues := rfl
@[simp] theorem State.setWing_waits (s : State) (n : Nat) (hw : Bool) (w : WingSt) : (s.setWing n hw w).waits = s.waits := rfl
@[simp] theorem State.setWing_stalled (s : State) (n : Nat) (hw : Bool) (w : WingSt) : (s.setWing n hw w).stalled = s.stalled := rfl
@[simp] theorem State.setWing_ops (s : State) (n : Nat) (hw : Bool) (w : WingSt) : (s.setWing n hw w).ops = s.ops := rfl
@[simp] theorem State.setWing_rings (s : State) (n : Nat) (hw : Bool) (w : WingSt) : (s.setWing n hw w).rings = s.rings := rfl
@[simp] theorem State.setWing_upd (s : State) (n : Nat) (hw : Bool) (w : WingSt) : (s.setWing n hw w).upd = s.upd := rfl
@[simp] theorem State.setWing_fab (s : State) (n : Nat) (hw : Bool) (w : WingSt) : (s.setWing n hw w).fab = s.fab := rfl
@[simp] theorem State.setWing_chrys (s : State) (n : Nat) (hw : Bool) (w : WingSt) : (s.setWing n hw w).chrys = s.chrys := rfl
@[simp] theorem State.setWing_links (s : State) (n : Nat) (hw : Bool) (w : WingSt) : (s.setWing n hw w).links = s.links := rfl
@[simp] theorem State.setWing_pwr (s : State) (n : Nat) (hw : Bool) (w : WingSt) : (s.setWing n hw w).pwr = s.pwr := rfl
@[simp] theorem State.setWing_boot (s : State) (n : Nat) (hw : Bool) (w : WingSt) : (s.setWing n hw w).boot = s.boot := rfl
@[simp] theorem State.setWing_mgmt (s : State) (n : Nat) (hw : Bool) (w : WingSt) : (s.setWing n hw w).mgmt = s.mgmt := rfl
@[simp] theorem State.setWing_arr (s : State) (n : Nat) (hw : Bool) (w : WingSt) : (s.setWing n hw w).arr = s.arr := rfl
@[simp] theorem State.setWing_row (s : State) (n : Nat) (hw : Bool) (w : WingSt) : (s.setWing n hw w).row = s.row := rfl
@[simp] theorem State.setWing_vec (s : State) (n : Nat) (hw : Bool) (w : WingSt) : (s.setWing n hw w).vec = s.vec := rfl
@[simp] theorem State.setWing_xfers (s : State) (n : Nat) (hw : Bool) (w : WingSt) : (s.setWing n hw w).xfers = s.xfers := rfl
@[simp] theorem State.setWing_nextXfer (s : State) (n : Nat) (hw : Bool) (w : WingSt) : (s.setWing n hw w).nextXfer = s.nextXfer := rfl

@[simp] theorem State.setPort_pending (s : State) (o : Nat) (p : PortSt) : (s.setPort o p).pending = s.pending := rfl
@[simp] theorem State.setPort_regs (s : State) (o : Nat) (p : PortSt) : (s.setPort o p).regs = s.regs := rfl
@[simp] theorem State.setPort_outbox (s : State) (o : Nat) (p : PortSt) : (s.setPort o p).outbox = s.outbox := rfl
@[simp] theorem State.setPort_tick (s : State) (o : Nat) (p : PortSt) : (s.setPort o p).tick = s.tick := rfl
@[simp] theorem State.setPort_drawn (s : State) (o : Nat) (p : PortSt) : (s.setPort o p).drawn = s.drawn := rfl
@[simp] theorem State.setPort_mode (s : State) (o : Nat) (p : PortSt) : (s.setPort o p).mode = s.mode := rfl
@[simp] theorem State.setPort_step (s : State) (o : Nat) (p : PortSt) : (s.setPort o p).step = s.step := rfl
@[simp] theorem State.setPort_job (s : State) (o : Nat) (p : PortSt) : (s.setPort o p).job = s.job := rfl
@[simp] theorem State.setPort_barrier (s : State) (o : Nat) (p : PortSt) : (s.setPort o p).barrier = s.barrier := rfl
@[simp] theorem State.setPort_mirror (s : State) (o : Nat) (p : PortSt) : (s.setPort o p).mirror = s.mirror := rfl
@[simp] theorem State.setPort_canary (s : State) (o : Nat) (p : PortSt) : (s.setPort o p).canary = s.canary := rfl
@[simp] theorem State.setPort_test (s : State) (o : Nat) (p : PortSt) : (s.setPort o p).test = s.test := rfl
@[simp] theorem State.setPort_ev (s : State) (o : Nat) (p : PortSt) : (s.setPort o p).ev = s.ev := rfl
@[simp] theorem State.setPort_mem (s : State) (o : Nat) (p : PortSt) : (s.setPort o p).mem = s.mem := rfl
@[simp] theorem State.setPort_queues (s : State) (o : Nat) (p : PortSt) : (s.setPort o p).queues = s.queues := rfl
@[simp] theorem State.setPort_waits (s : State) (o : Nat) (p : PortSt) : (s.setPort o p).waits = s.waits := rfl
@[simp] theorem State.setPort_stalled (s : State) (o : Nat) (p : PortSt) : (s.setPort o p).stalled = s.stalled := rfl
@[simp] theorem State.setPort_ops (s : State) (o : Nat) (p : PortSt) : (s.setPort o p).ops = s.ops := rfl
@[simp] theorem State.setPort_rings (s : State) (o : Nat) (p : PortSt) : (s.setPort o p).rings = s.rings := rfl
@[simp] theorem State.setPort_sched (s : State) (o : Nat) (p : PortSt) : (s.setPort o p).sched = s.sched := rfl
@[simp] theorem State.setPort_upd (s : State) (o : Nat) (p : PortSt) : (s.setPort o p).upd = s.upd := rfl
@[simp] theorem State.setPort_fab (s : State) (o : Nat) (p : PortSt) : (s.setPort o p).fab = s.fab := rfl
@[simp] theorem State.setPort_chrys (s : State) (o : Nat) (p : PortSt) : (s.setPort o p).chrys = s.chrys := rfl
@[simp] theorem State.setPort_pwr (s : State) (o : Nat) (p : PortSt) : (s.setPort o p).pwr = s.pwr := rfl
@[simp] theorem State.setPort_boot (s : State) (o : Nat) (p : PortSt) : (s.setPort o p).boot = s.boot := rfl
@[simp] theorem State.setPort_mgmt (s : State) (o : Nat) (p : PortSt) : (s.setPort o p).mgmt = s.mgmt := rfl
@[simp] theorem State.setPort_arr (s : State) (o : Nat) (p : PortSt) : (s.setPort o p).arr = s.arr := rfl
@[simp] theorem State.setPort_row (s : State) (o : Nat) (p : PortSt) : (s.setPort o p).row = s.row := rfl
@[simp] theorem State.setPort_vec (s : State) (o : Nat) (p : PortSt) : (s.setPort o p).vec = s.vec := rfl
@[simp] theorem State.setPort_xfers (s : State) (o : Nat) (p : PortSt) : (s.setPort o p).xfers = s.xfers := rfl
@[simp] theorem State.setPort_nextXfer (s : State) (o : Nat) (p : PortSt) : (s.setPort o p).nextXfer = s.nextXfer := rfl

@[simp] theorem State.setWriter_pending (s : State) (w : Option Writer) : (s.setWriter w).pending = s.pending := rfl
@[simp] theorem State.setWriter_regs (s : State) (w : Option Writer) : (s.setWriter w).regs = s.regs := rfl
@[simp] theorem State.setWriter_outbox (s : State) (w : Option Writer) : (s.setWriter w).outbox = s.outbox := rfl
@[simp] theorem State.setWriter_tick (s : State) (w : Option Writer) : (s.setWriter w).tick = s.tick := rfl
@[simp] theorem State.setWriter_drawn (s : State) (w : Option Writer) : (s.setWriter w).drawn = s.drawn := rfl
@[simp] theorem State.setWriter_mode (s : State) (w : Option Writer) : (s.setWriter w).mode = s.mode := rfl
@[simp] theorem State.setWriter_step (s : State) (w : Option Writer) : (s.setWriter w).step = s.step := rfl
@[simp] theorem State.setWriter_job (s : State) (w : Option Writer) : (s.setWriter w).job = s.job := rfl
@[simp] theorem State.setWriter_barrier (s : State) (w : Option Writer) : (s.setWriter w).barrier = s.barrier := rfl
@[simp] theorem State.setWriter_mirror (s : State) (w : Option Writer) : (s.setWriter w).mirror = s.mirror := rfl
@[simp] theorem State.setWriter_canary (s : State) (w : Option Writer) : (s.setWriter w).canary = s.canary := rfl
@[simp] theorem State.setWriter_test (s : State) (w : Option Writer) : (s.setWriter w).test = s.test := rfl
@[simp] theorem State.setWriter_ev (s : State) (w : Option Writer) : (s.setWriter w).ev = s.ev := rfl
@[simp] theorem State.setWriter_mem (s : State) (w : Option Writer) : (s.setWriter w).mem = s.mem := rfl
@[simp] theorem State.setWriter_queues (s : State) (w : Option Writer) : (s.setWriter w).queues = s.queues := rfl
@[simp] theorem State.setWriter_waits (s : State) (w : Option Writer) : (s.setWriter w).waits = s.waits := rfl
@[simp] theorem State.setWriter_stalled (s : State) (w : Option Writer) : (s.setWriter w).stalled = s.stalled := rfl
@[simp] theorem State.setWriter_ops (s : State) (w : Option Writer) : (s.setWriter w).ops = s.ops := rfl
@[simp] theorem State.setWriter_rings (s : State) (w : Option Writer) : (s.setWriter w).rings = s.rings := rfl
@[simp] theorem State.setWriter_sched (s : State) (w : Option Writer) : (s.setWriter w).sched = s.sched := rfl
@[simp] theorem State.setWriter_upd (s : State) (w : Option Writer) : (s.setWriter w).upd = s.upd := rfl
@[simp] theorem State.setWriter_fab (s : State) (w : Option Writer) : (s.setWriter w).fab = s.fab := rfl
@[simp] theorem State.setWriter_links (s : State) (w : Option Writer) : (s.setWriter w).links = s.links := rfl
@[simp] theorem State.setWriter_pwr (s : State) (w : Option Writer) : (s.setWriter w).pwr = s.pwr := rfl
@[simp] theorem State.setWriter_boot (s : State) (w : Option Writer) : (s.setWriter w).boot = s.boot := rfl
@[simp] theorem State.setWriter_mgmt (s : State) (w : Option Writer) : (s.setWriter w).mgmt = s.mgmt := rfl
@[simp] theorem State.setWriter_arr (s : State) (w : Option Writer) : (s.setWriter w).arr = s.arr := rfl
@[simp] theorem State.setWriter_row (s : State) (w : Option Writer) : (s.setWriter w).row = s.row := rfl
@[simp] theorem State.setWriter_vec (s : State) (w : Option Writer) : (s.setWriter w).vec = s.vec := rfl
@[simp] theorem State.setWriter_xfers (s : State) (w : Option Writer) : (s.setWriter w).xfers = s.xfers := rfl
@[simp] theorem State.setWriter_nextXfer (s : State) (w : Option Writer) : (s.setWriter w).nextXfer = s.nextXfer := rfl

@[simp] theorem State.setSession_pending (s : State) (x : Session) : (s.setSession x).pending = s.pending := rfl
@[simp] theorem State.setSession_regs (s : State) (x : Session) : (s.setSession x).regs = s.regs := rfl
@[simp] theorem State.setSession_outbox (s : State) (x : Session) : (s.setSession x).outbox = s.outbox := rfl
@[simp] theorem State.setSession_tick (s : State) (x : Session) : (s.setSession x).tick = s.tick := rfl
@[simp] theorem State.setSession_drawn (s : State) (x : Session) : (s.setSession x).drawn = s.drawn := rfl
@[simp] theorem State.setSession_mode (s : State) (x : Session) : (s.setSession x).mode = s.mode := rfl
@[simp] theorem State.setSession_step (s : State) (x : Session) : (s.setSession x).step = s.step := rfl
@[simp] theorem State.setSession_job (s : State) (x : Session) : (s.setSession x).job = s.job := rfl
@[simp] theorem State.setSession_barrier (s : State) (x : Session) : (s.setSession x).barrier = s.barrier := rfl
@[simp] theorem State.setSession_mirror (s : State) (x : Session) : (s.setSession x).mirror = s.mirror := rfl
@[simp] theorem State.setSession_canary (s : State) (x : Session) : (s.setSession x).canary = s.canary := rfl
@[simp] theorem State.setSession_test (s : State) (x : Session) : (s.setSession x).test = s.test := rfl
@[simp] theorem State.setSession_ev (s : State) (x : Session) : (s.setSession x).ev = s.ev := rfl
@[simp] theorem State.setSession_mem (s : State) (x : Session) : (s.setSession x).mem = s.mem := rfl
@[simp] theorem State.setSession_queues (s : State) (x : Session) : (s.setSession x).queues = s.queues := rfl
@[simp] theorem State.setSession_waits (s : State) (x : Session) : (s.setSession x).waits = s.waits := rfl
@[simp] theorem State.setSession_stalled (s : State) (x : Session) : (s.setSession x).stalled = s.stalled := rfl
@[simp] theorem State.setSession_ops (s : State) (x : Session) : (s.setSession x).ops = s.ops := rfl
@[simp] theorem State.setSession_rings (s : State) (x : Session) : (s.setSession x).rings = s.rings := rfl
@[simp] theorem State.setSession_sched (s : State) (x : Session) : (s.setSession x).sched = s.sched := rfl
@[simp] theorem State.setSession_upd (s : State) (x : Session) : (s.setSession x).upd = s.upd := rfl
@[simp] theorem State.setSession_fab (s : State) (x : Session) : (s.setSession x).fab = s.fab := rfl
@[simp] theorem State.setSession_chrys (s : State) (x : Session) : (s.setSession x).chrys = s.chrys := rfl
@[simp] theorem State.setSession_links (s : State) (x : Session) : (s.setSession x).links = s.links := rfl
@[simp] theorem State.setSession_pwr (s : State) (x : Session) : (s.setSession x).pwr = s.pwr := rfl
@[simp] theorem State.setSession_boot (s : State) (x : Session) : (s.setSession x).boot = s.boot := rfl
@[simp] theorem State.setSession_arr (s : State) (x : Session) : (s.setSession x).arr = s.arr := rfl
@[simp] theorem State.setSession_row (s : State) (x : Session) : (s.setSession x).row = s.row := rfl
@[simp] theorem State.setSession_vec (s : State) (x : Session) : (s.setSession x).vec = s.vec := rfl
@[simp] theorem State.setSession_xfers (s : State) (x : Session) : (s.setSession x).xfers = s.xfers := rfl
@[simp] theorem State.setSession_nextXfer (s : State) (x : Session) : (s.setSession x).nextXfer = s.nextXfer := rfl

@[simp] theorem State.setRow_pending (s : State) (p : Nat) (r : RowSt) : (s.setRow p r).pending = s.pending := rfl
@[simp] theorem State.setRow_regs (s : State) (p : Nat) (r : RowSt) : (s.setRow p r).regs = s.regs := rfl
@[simp] theorem State.setRow_outbox (s : State) (p : Nat) (r : RowSt) : (s.setRow p r).outbox = s.outbox := rfl
@[simp] theorem State.setRow_tick (s : State) (p : Nat) (r : RowSt) : (s.setRow p r).tick = s.tick := rfl
@[simp] theorem State.setRow_drawn (s : State) (p : Nat) (r : RowSt) : (s.setRow p r).drawn = s.drawn := rfl
@[simp] theorem State.setRow_mode (s : State) (p : Nat) (r : RowSt) : (s.setRow p r).mode = s.mode := rfl
@[simp] theorem State.setRow_step (s : State) (p : Nat) (r : RowSt) : (s.setRow p r).step = s.step := rfl
@[simp] theorem State.setRow_job (s : State) (p : Nat) (r : RowSt) : (s.setRow p r).job = s.job := rfl
@[simp] theorem State.setRow_barrier (s : State) (p : Nat) (r : RowSt) : (s.setRow p r).barrier = s.barrier := rfl
@[simp] theorem State.setRow_mirror (s : State) (p : Nat) (r : RowSt) : (s.setRow p r).mirror = s.mirror := rfl
@[simp] theorem State.setRow_canary (s : State) (p : Nat) (r : RowSt) : (s.setRow p r).canary = s.canary := rfl
@[simp] theorem State.setRow_test (s : State) (p : Nat) (r : RowSt) : (s.setRow p r).test = s.test := rfl
@[simp] theorem State.setRow_ev (s : State) (p : Nat) (r : RowSt) : (s.setRow p r).ev = s.ev := rfl
@[simp] theorem State.setRow_mem (s : State) (p : Nat) (r : RowSt) : (s.setRow p r).mem = s.mem := rfl
@[simp] theorem State.setRow_queues (s : State) (p : Nat) (r : RowSt) : (s.setRow p r).queues = s.queues := rfl
@[simp] theorem State.setRow_waits (s : State) (p : Nat) (r : RowSt) : (s.setRow p r).waits = s.waits := rfl
@[simp] theorem State.setRow_stalled (s : State) (p : Nat) (r : RowSt) : (s.setRow p r).stalled = s.stalled := rfl
@[simp] theorem State.setRow_ops (s : State) (p : Nat) (r : RowSt) : (s.setRow p r).ops = s.ops := rfl
@[simp] theorem State.setRow_rings (s : State) (p : Nat) (r : RowSt) : (s.setRow p r).rings = s.rings := rfl
@[simp] theorem State.setRow_sched (s : State) (p : Nat) (r : RowSt) : (s.setRow p r).sched = s.sched := rfl
@[simp] theorem State.setRow_upd (s : State) (p : Nat) (r : RowSt) : (s.setRow p r).upd = s.upd := rfl
@[simp] theorem State.setRow_fab (s : State) (p : Nat) (r : RowSt) : (s.setRow p r).fab = s.fab := rfl
@[simp] theorem State.setRow_chrys (s : State) (p : Nat) (r : RowSt) : (s.setRow p r).chrys = s.chrys := rfl
@[simp] theorem State.setRow_links (s : State) (p : Nat) (r : RowSt) : (s.setRow p r).links = s.links := rfl
@[simp] theorem State.setRow_pwr (s : State) (p : Nat) (r : RowSt) : (s.setRow p r).pwr = s.pwr := rfl
@[simp] theorem State.setRow_boot (s : State) (p : Nat) (r : RowSt) : (s.setRow p r).boot = s.boot := rfl
@[simp] theorem State.setRow_mgmt (s : State) (p : Nat) (r : RowSt) : (s.setRow p r).mgmt = s.mgmt := rfl
@[simp] theorem State.setRow_arr (s : State) (p : Nat) (r : RowSt) : (s.setRow p r).arr = s.arr := rfl
@[simp] theorem State.setRow_vec (s : State) (p : Nat) (r : RowSt) : (s.setRow p r).vec = s.vec := rfl
@[simp] theorem State.setRow_xfers (s : State) (p : Nat) (r : RowSt) : (s.setRow p r).xfers = s.xfers := rfl
@[simp] theorem State.setRow_nextXfer (s : State) (p : Nat) (r : RowSt) : (s.setRow p r).nextXfer = s.nextXfer := rfl

@[simp] theorem State.setTx_pending (s : State) (k : Nat) (x : TxSpace) : (s.setTx k x).pending = s.pending := rfl
@[simp] theorem State.setTx_regs (s : State) (k : Nat) (x : TxSpace) : (s.setTx k x).regs = s.regs := rfl
@[simp] theorem State.setTx_outbox (s : State) (k : Nat) (x : TxSpace) : (s.setTx k x).outbox = s.outbox := rfl
@[simp] theorem State.setTx_tick (s : State) (k : Nat) (x : TxSpace) : (s.setTx k x).tick = s.tick := rfl
@[simp] theorem State.setTx_drawn (s : State) (k : Nat) (x : TxSpace) : (s.setTx k x).drawn = s.drawn := rfl
@[simp] theorem State.setTx_mode (s : State) (k : Nat) (x : TxSpace) : (s.setTx k x).mode = s.mode := rfl
@[simp] theorem State.setTx_step (s : State) (k : Nat) (x : TxSpace) : (s.setTx k x).step = s.step := rfl
@[simp] theorem State.setTx_job (s : State) (k : Nat) (x : TxSpace) : (s.setTx k x).job = s.job := rfl
@[simp] theorem State.setTx_barrier (s : State) (k : Nat) (x : TxSpace) : (s.setTx k x).barrier = s.barrier := rfl
@[simp] theorem State.setTx_mirror (s : State) (k : Nat) (x : TxSpace) : (s.setTx k x).mirror = s.mirror := rfl
@[simp] theorem State.setTx_canary (s : State) (k : Nat) (x : TxSpace) : (s.setTx k x).canary = s.canary := rfl
@[simp] theorem State.setTx_test (s : State) (k : Nat) (x : TxSpace) : (s.setTx k x).test = s.test := rfl
@[simp] theorem State.setTx_ev (s : State) (k : Nat) (x : TxSpace) : (s.setTx k x).ev = s.ev := rfl
@[simp] theorem State.setTx_mem (s : State) (k : Nat) (x : TxSpace) : (s.setTx k x).mem = s.mem := rfl
@[simp] theorem State.setTx_queues (s : State) (k : Nat) (x : TxSpace) : (s.setTx k x).queues = s.queues := rfl
@[simp] theorem State.setTx_waits (s : State) (k : Nat) (x : TxSpace) : (s.setTx k x).waits = s.waits := rfl
@[simp] theorem State.setTx_stalled (s : State) (k : Nat) (x : TxSpace) : (s.setTx k x).stalled = s.stalled := rfl
@[simp] theorem State.setTx_ops (s : State) (k : Nat) (x : TxSpace) : (s.setTx k x).ops = s.ops := rfl
@[simp] theorem State.setTx_rings (s : State) (k : Nat) (x : TxSpace) : (s.setTx k x).rings = s.rings := rfl
@[simp] theorem State.setTx_sched (s : State) (k : Nat) (x : TxSpace) : (s.setTx k x).sched = s.sched := rfl
@[simp] theorem State.setTx_upd (s : State) (k : Nat) (x : TxSpace) : (s.setTx k x).upd = s.upd := rfl
@[simp] theorem State.setTx_chrys (s : State) (k : Nat) (x : TxSpace) : (s.setTx k x).chrys = s.chrys := rfl
@[simp] theorem State.setTx_links (s : State) (k : Nat) (x : TxSpace) : (s.setTx k x).links = s.links := rfl
@[simp] theorem State.setTx_pwr (s : State) (k : Nat) (x : TxSpace) : (s.setTx k x).pwr = s.pwr := rfl
@[simp] theorem State.setTx_boot (s : State) (k : Nat) (x : TxSpace) : (s.setTx k x).boot = s.boot := rfl
@[simp] theorem State.setTx_mgmt (s : State) (k : Nat) (x : TxSpace) : (s.setTx k x).mgmt = s.mgmt := rfl
@[simp] theorem State.setTx_arr (s : State) (k : Nat) (x : TxSpace) : (s.setTx k x).arr = s.arr := rfl
@[simp] theorem State.setTx_row (s : State) (k : Nat) (x : TxSpace) : (s.setTx k x).row = s.row := rfl
@[simp] theorem State.setTx_vec (s : State) (k : Nat) (x : TxSpace) : (s.setTx k x).vec = s.vec := rfl
@[simp] theorem State.setTx_xfers (s : State) (k : Nat) (x : TxSpace) : (s.setTx k x).xfers = s.xfers := rfl
@[simp] theorem State.setTx_nextXfer (s : State) (k : Nat) (x : TxSpace) : (s.setTx k x).nextXfer = s.nextXfer := rfl

@[simp] theorem State.setRx_pending (s : State) (k : Nat) (x : RxSpace) : (s.setRx k x).pending = s.pending := rfl
@[simp] theorem State.setRx_regs (s : State) (k : Nat) (x : RxSpace) : (s.setRx k x).regs = s.regs := rfl
@[simp] theorem State.setRx_outbox (s : State) (k : Nat) (x : RxSpace) : (s.setRx k x).outbox = s.outbox := rfl
@[simp] theorem State.setRx_tick (s : State) (k : Nat) (x : RxSpace) : (s.setRx k x).tick = s.tick := rfl
@[simp] theorem State.setRx_drawn (s : State) (k : Nat) (x : RxSpace) : (s.setRx k x).drawn = s.drawn := rfl
@[simp] theorem State.setRx_mode (s : State) (k : Nat) (x : RxSpace) : (s.setRx k x).mode = s.mode := rfl
@[simp] theorem State.setRx_step (s : State) (k : Nat) (x : RxSpace) : (s.setRx k x).step = s.step := rfl
@[simp] theorem State.setRx_job (s : State) (k : Nat) (x : RxSpace) : (s.setRx k x).job = s.job := rfl
@[simp] theorem State.setRx_barrier (s : State) (k : Nat) (x : RxSpace) : (s.setRx k x).barrier = s.barrier := rfl
@[simp] theorem State.setRx_mirror (s : State) (k : Nat) (x : RxSpace) : (s.setRx k x).mirror = s.mirror := rfl
@[simp] theorem State.setRx_canary (s : State) (k : Nat) (x : RxSpace) : (s.setRx k x).canary = s.canary := rfl
@[simp] theorem State.setRx_test (s : State) (k : Nat) (x : RxSpace) : (s.setRx k x).test = s.test := rfl
@[simp] theorem State.setRx_ev (s : State) (k : Nat) (x : RxSpace) : (s.setRx k x).ev = s.ev := rfl
@[simp] theorem State.setRx_mem (s : State) (k : Nat) (x : RxSpace) : (s.setRx k x).mem = s.mem := rfl
@[simp] theorem State.setRx_queues (s : State) (k : Nat) (x : RxSpace) : (s.setRx k x).queues = s.queues := rfl
@[simp] theorem State.setRx_waits (s : State) (k : Nat) (x : RxSpace) : (s.setRx k x).waits = s.waits := rfl
@[simp] theorem State.setRx_stalled (s : State) (k : Nat) (x : RxSpace) : (s.setRx k x).stalled = s.stalled := rfl
@[simp] theorem State.setRx_ops (s : State) (k : Nat) (x : RxSpace) : (s.setRx k x).ops = s.ops := rfl
@[simp] theorem State.setRx_rings (s : State) (k : Nat) (x : RxSpace) : (s.setRx k x).rings = s.rings := rfl
@[simp] theorem State.setRx_sched (s : State) (k : Nat) (x : RxSpace) : (s.setRx k x).sched = s.sched := rfl
@[simp] theorem State.setRx_upd (s : State) (k : Nat) (x : RxSpace) : (s.setRx k x).upd = s.upd := rfl
@[simp] theorem State.setRx_chrys (s : State) (k : Nat) (x : RxSpace) : (s.setRx k x).chrys = s.chrys := rfl
@[simp] theorem State.setRx_links (s : State) (k : Nat) (x : RxSpace) : (s.setRx k x).links = s.links := rfl
@[simp] theorem State.setRx_pwr (s : State) (k : Nat) (x : RxSpace) : (s.setRx k x).pwr = s.pwr := rfl
@[simp] theorem State.setRx_boot (s : State) (k : Nat) (x : RxSpace) : (s.setRx k x).boot = s.boot := rfl
@[simp] theorem State.setRx_mgmt (s : State) (k : Nat) (x : RxSpace) : (s.setRx k x).mgmt = s.mgmt := rfl
@[simp] theorem State.setRx_arr (s : State) (k : Nat) (x : RxSpace) : (s.setRx k x).arr = s.arr := rfl
@[simp] theorem State.setRx_row (s : State) (k : Nat) (x : RxSpace) : (s.setRx k x).row = s.row := rfl
@[simp] theorem State.setRx_vec (s : State) (k : Nat) (x : RxSpace) : (s.setRx k x).vec = s.vec := rfl
@[simp] theorem State.setRx_xfers (s : State) (k : Nat) (x : RxSpace) : (s.setRx k x).xfers = s.xfers := rfl
@[simp] theorem State.setRx_nextXfer (s : State) (k : Nat) (x : RxSpace) : (s.setRx k x).nextXfer = s.nextXfer := rfl

@[simp] theorem State.setWingQueue_pending (s : State) (n : Nat) (hw : Bool) (q : List (List Nat)) : (s.setWingQueue n hw q).pending = s.pending := rfl
@[simp] theorem State.setWingQueue_regs (s : State) (n : Nat) (hw : Bool) (q : List (List Nat)) : (s.setWingQueue n hw q).regs = s.regs := rfl
@[simp] theorem State.setWingQueue_outbox (s : State) (n : Nat) (hw : Bool) (q : List (List Nat)) : (s.setWingQueue n hw q).outbox = s.outbox := rfl
@[simp] theorem State.setWingQueue_tick (s : State) (n : Nat) (hw : Bool) (q : List (List Nat)) : (s.setWingQueue n hw q).tick = s.tick := rfl
@[simp] theorem State.setWingQueue_drawn (s : State) (n : Nat) (hw : Bool) (q : List (List Nat)) : (s.setWingQueue n hw q).drawn = s.drawn := rfl
@[simp] theorem State.setWingQueue_mode (s : State) (n : Nat) (hw : Bool) (q : List (List Nat)) : (s.setWingQueue n hw q).mode = s.mode := rfl
@[simp] theorem State.setWingQueue_step (s : State) (n : Nat) (hw : Bool) (q : List (List Nat)) : (s.setWingQueue n hw q).step = s.step := rfl
@[simp] theorem State.setWingQueue_job (s : State) (n : Nat) (hw : Bool) (q : List (List Nat)) : (s.setWingQueue n hw q).job = s.job := rfl
@[simp] theorem State.setWingQueue_barrier (s : State) (n : Nat) (hw : Bool) (q : List (List Nat)) : (s.setWingQueue n hw q).barrier = s.barrier := rfl
@[simp] theorem State.setWingQueue_mirror (s : State) (n : Nat) (hw : Bool) (q : List (List Nat)) : (s.setWingQueue n hw q).mirror = s.mirror := rfl
@[simp] theorem State.setWingQueue_canary (s : State) (n : Nat) (hw : Bool) (q : List (List Nat)) : (s.setWingQueue n hw q).canary = s.canary := rfl
@[simp] theorem State.setWingQueue_test (s : State) (n : Nat) (hw : Bool) (q : List (List Nat)) : (s.setWingQueue n hw q).test = s.test := rfl
@[simp] theorem State.setWingQueue_ev (s : State) (n : Nat) (hw : Bool) (q : List (List Nat)) : (s.setWingQueue n hw q).ev = s.ev := rfl
@[simp] theorem State.setWingQueue_mem (s : State) (n : Nat) (hw : Bool) (q : List (List Nat)) : (s.setWingQueue n hw q).mem = s.mem := rfl
@[simp] theorem State.setWingQueue_queues (s : State) (n : Nat) (hw : Bool) (q : List (List Nat)) : (s.setWingQueue n hw q).queues = s.queues := rfl
@[simp] theorem State.setWingQueue_waits (s : State) (n : Nat) (hw : Bool) (q : List (List Nat)) : (s.setWingQueue n hw q).waits = s.waits := rfl
@[simp] theorem State.setWingQueue_stalled (s : State) (n : Nat) (hw : Bool) (q : List (List Nat)) : (s.setWingQueue n hw q).stalled = s.stalled := rfl
@[simp] theorem State.setWingQueue_ops (s : State) (n : Nat) (hw : Bool) (q : List (List Nat)) : (s.setWingQueue n hw q).ops = s.ops := rfl
@[simp] theorem State.setWingQueue_rings (s : State) (n : Nat) (hw : Bool) (q : List (List Nat)) : (s.setWingQueue n hw q).rings = s.rings := rfl
@[simp] theorem State.setWingQueue_upd (s : State) (n : Nat) (hw : Bool) (q : List (List Nat)) : (s.setWingQueue n hw q).upd = s.upd := rfl
@[simp] theorem State.setWingQueue_fab (s : State) (n : Nat) (hw : Bool) (q : List (List Nat)) : (s.setWingQueue n hw q).fab = s.fab := rfl
@[simp] theorem State.setWingQueue_chrys (s : State) (n : Nat) (hw : Bool) (q : List (List Nat)) : (s.setWingQueue n hw q).chrys = s.chrys := rfl
@[simp] theorem State.setWingQueue_links (s : State) (n : Nat) (hw : Bool) (q : List (List Nat)) : (s.setWingQueue n hw q).links = s.links := rfl
@[simp] theorem State.setWingQueue_pwr (s : State) (n : Nat) (hw : Bool) (q : List (List Nat)) : (s.setWingQueue n hw q).pwr = s.pwr := rfl
@[simp] theorem State.setWingQueue_boot (s : State) (n : Nat) (hw : Bool) (q : List (List Nat)) : (s.setWingQueue n hw q).boot = s.boot := rfl
@[simp] theorem State.setWingQueue_mgmt (s : State) (n : Nat) (hw : Bool) (q : List (List Nat)) : (s.setWingQueue n hw q).mgmt = s.mgmt := rfl
@[simp] theorem State.setWingQueue_arr (s : State) (n : Nat) (hw : Bool) (q : List (List Nat)) : (s.setWingQueue n hw q).arr = s.arr := rfl
@[simp] theorem State.setWingQueue_row (s : State) (n : Nat) (hw : Bool) (q : List (List Nat)) : (s.setWingQueue n hw q).row = s.row := rfl
@[simp] theorem State.setWingQueue_vec (s : State) (n : Nat) (hw : Bool) (q : List (List Nat)) : (s.setWingQueue n hw q).vec = s.vec := rfl
@[simp] theorem State.setWingQueue_xfers (s : State) (n : Nat) (hw : Bool) (q : List (List Nat)) : (s.setWingQueue n hw q).xfers = s.xfers := rfl
@[simp] theorem State.setWingQueue_nextXfer (s : State) (n : Nat) (hw : Bool) (q : List (List Nat)) : (s.setWingQueue n hw q).nextXfer = s.nextXfer := rfl

@[simp] theorem State.setColl_pending (s : State) (c : Coll) : (s.setColl c).pending = s.pending := rfl
@[simp] theorem State.setColl_regs (s : State) (c : Coll) : (s.setColl c).regs = s.regs := rfl
@[simp] theorem State.setColl_outbox (s : State) (c : Coll) : (s.setColl c).outbox = s.outbox := rfl
@[simp] theorem State.setColl_tick (s : State) (c : Coll) : (s.setColl c).tick = s.tick := rfl
@[simp] theorem State.setColl_drawn (s : State) (c : Coll) : (s.setColl c).drawn = s.drawn := rfl
@[simp] theorem State.setColl_mode (s : State) (c : Coll) : (s.setColl c).mode = s.mode := rfl
@[simp] theorem State.setColl_step (s : State) (c : Coll) : (s.setColl c).step = s.step := rfl
@[simp] theorem State.setColl_job (s : State) (c : Coll) : (s.setColl c).job = s.job := rfl
@[simp] theorem State.setColl_barrier (s : State) (c : Coll) : (s.setColl c).barrier = s.barrier := rfl
@[simp] theorem State.setColl_mirror (s : State) (c : Coll) : (s.setColl c).mirror = s.mirror := rfl
@[simp] theorem State.setColl_canary (s : State) (c : Coll) : (s.setColl c).canary = s.canary := rfl
@[simp] theorem State.setColl_test (s : State) (c : Coll) : (s.setColl c).test = s.test := rfl
@[simp] theorem State.setColl_ev (s : State) (c : Coll) : (s.setColl c).ev = s.ev := rfl
@[simp] theorem State.setColl_mem (s : State) (c : Coll) : (s.setColl c).mem = s.mem := rfl
@[simp] theorem State.setColl_queues (s : State) (c : Coll) : (s.setColl c).queues = s.queues := rfl
@[simp] theorem State.setColl_waits (s : State) (c : Coll) : (s.setColl c).waits = s.waits := rfl
@[simp] theorem State.setColl_stalled (s : State) (c : Coll) : (s.setColl c).stalled = s.stalled := rfl
@[simp] theorem State.setColl_ops (s : State) (c : Coll) : (s.setColl c).ops = s.ops := rfl
@[simp] theorem State.setColl_rings (s : State) (c : Coll) : (s.setColl c).rings = s.rings := rfl
@[simp] theorem State.setColl_sched (s : State) (c : Coll) : (s.setColl c).sched = s.sched := rfl
@[simp] theorem State.setColl_upd (s : State) (c : Coll) : (s.setColl c).upd = s.upd := rfl
@[simp] theorem State.setColl_chrys (s : State) (c : Coll) : (s.setColl c).chrys = s.chrys := rfl
@[simp] theorem State.setColl_links (s : State) (c : Coll) : (s.setColl c).links = s.links := rfl
@[simp] theorem State.setColl_pwr (s : State) (c : Coll) : (s.setColl c).pwr = s.pwr := rfl
@[simp] theorem State.setColl_boot (s : State) (c : Coll) : (s.setColl c).boot = s.boot := rfl
@[simp] theorem State.setColl_mgmt (s : State) (c : Coll) : (s.setColl c).mgmt = s.mgmt := rfl
@[simp] theorem State.setColl_arr (s : State) (c : Coll) : (s.setColl c).arr = s.arr := rfl
@[simp] theorem State.setColl_row (s : State) (c : Coll) : (s.setColl c).row = s.row := rfl
@[simp] theorem State.setColl_vec (s : State) (c : Coll) : (s.setColl c).vec = s.vec := rfl
@[simp] theorem State.setColl_xfers (s : State) (c : Coll) : (s.setColl c).xfers = s.xfers := rfl
@[simp] theorem State.setColl_nextXfer (s : State) (c : Coll) : (s.setColl c).nextXfer = s.nextXfer := rfl

@[simp] theorem State.send_outbox (s : State) (o : Output) : (s.send o).outbox = s.outbox ++ [o] := rfl

/-! ### Registers -/

@[simp] theorem State.rdAt_send (s : State) (o : Output) (f : Field) (i : Nat) : (s.send o).rdAt f i = s.rdAt f i := rfl
@[simp] theorem State.rd_send (s : State) (o : Output) (f : Field) : (s.send o).rd f = s.rd f := rfl
@[simp] theorem State.rdAt_setVec (s : State) (p : Nat) (v : VecSt) (g : Field) (j : Nat) : (s.setVec p v).rdAt g j = s.rdAt g j := rfl
@[simp] theorem State.rd_setVec (s : State) (p : Nat) (v : VecSt) (g : Field) : (s.setVec p v).rd g = s.rd g := rfl
@[simp] theorem State.rdAt_setRing (s : State) (r : Nat) (x : Ring) (g : Field) (j : Nat) : (s.setRing r x).rdAt g j = s.rdAt g j := rfl
@[simp] theorem State.rd_setRing (s : State) (r : Nat) (x : Ring) (g : Field) : (s.setRing r x).rd g = s.rd g := rfl
@[simp] theorem State.rdAt_setQueue (s : State) (q : Nat) (x : Queue) (g : Field) (j : Nat) : (s.setQueue q x).rdAt g j = s.rdAt g j := rfl
@[simp] theorem State.rd_setQueue (s : State) (q : Nat) (x : Queue) (g : Field) : (s.setQueue q x).rd g = s.rd g := rfl
@[simp] theorem State.rdAt_setArr (s : State) (p : Nat) (a : ArrSt) (g : Field) (j : Nat) : (s.setArr p a).rdAt g j = s.rdAt g j := rfl
@[simp] theorem State.rd_setArr (s : State) (p : Nat) (a : ArrSt) (g : Field) : (s.setArr p a).rd g = s.rd g := rfl
@[simp] theorem State.rdAt_setWing (s : State) (n : Nat) (hw : Bool) (w : WingSt) (g : Field) (j : Nat) : (s.setWing n hw w).rdAt g j = s.rdAt g j := rfl
@[simp] theorem State.rd_setWing (s : State) (n : Nat) (hw : Bool) (w : WingSt) (g : Field) : (s.setWing n hw w).rd g = s.rd g := rfl
@[simp] theorem State.rdAt_setPort (s : State) (o : Nat) (p : PortSt) (g : Field) (j : Nat) : (s.setPort o p).rdAt g j = s.rdAt g j := rfl
@[simp] theorem State.rd_setPort (s : State) (o : Nat) (p : PortSt) (g : Field) : (s.setPort o p).rd g = s.rd g := rfl
@[simp] theorem State.rdAt_setWriter (s : State) (w : Option Writer) (g : Field) (j : Nat) : (s.setWriter w).rdAt g j = s.rdAt g j := rfl
@[simp] theorem State.rd_setWriter (s : State) (w : Option Writer) (g : Field) : (s.setWriter w).rd g = s.rd g := rfl
@[simp] theorem State.rdAt_setSession (s : State) (x : Session) (g : Field) (j : Nat) : (s.setSession x).rdAt g j = s.rdAt g j := rfl
@[simp] theorem State.rd_setSession (s : State) (x : Session) (g : Field) : (s.setSession x).rd g = s.rd g := rfl
@[simp] theorem State.rdAt_setRow (s : State) (p : Nat) (r : RowSt) (g : Field) (j : Nat) : (s.setRow p r).rdAt g j = s.rdAt g j := rfl
@[simp] theorem State.rd_setRow (s : State) (p : Nat) (r : RowSt) (g : Field) : (s.setRow p r).rd g = s.rd g := rfl
@[simp] theorem State.rdAt_setTx (s : State) (k : Nat) (x : TxSpace) (g : Field) (j : Nat) : (s.setTx k x).rdAt g j = s.rdAt g j := rfl
@[simp] theorem State.rd_setTx (s : State) (k : Nat) (x : TxSpace) (g : Field) : (s.setTx k x).rd g = s.rd g := rfl
@[simp] theorem State.rdAt_setRx (s : State) (k : Nat) (x : RxSpace) (g : Field) (j : Nat) : (s.setRx k x).rdAt g j = s.rdAt g j := rfl
@[simp] theorem State.rd_setRx (s : State) (k : Nat) (x : RxSpace) (g : Field) : (s.setRx k x).rd g = s.rd g := rfl
@[simp] theorem State.rdAt_setWingQueue (s : State) (n : Nat) (hw : Bool) (q : List (List Nat)) (g : Field) (j : Nat) : (s.setWingQueue n hw q).rdAt g j = s.rdAt g j := rfl
@[simp] theorem State.rd_setWingQueue (s : State) (n : Nat) (hw : Bool) (q : List (List Nat)) (g : Field) : (s.setWingQueue n hw q).rd g = s.rd g := rfl
@[simp] theorem State.rdAt_setColl (s : State) (c : Coll) (g : Field) (j : Nat) : (s.setColl c).rdAt g j = s.rdAt g j := rfl
@[simp] theorem State.rd_setColl (s : State) (c : Coll) (g : Field) : (s.setColl c).rd g = s.rd g := rfl

end Sys2Proof.Machine
end

