-- ==== Sys2Proof/Laws/Regs.lean ====
section
/-! SUPPORT. Laws/Regs.lean: a register field reads what was written to it, cut to its width, and no other field changes; the
canonical form of the register map. -/

namespace Sys2Proof.Machine

@[simp] theorem State.rdAt_wrAt_same (s : State) (f : Field) (i v : Nat) : (s.wrAt f i v).rdAt f i = v % 2 ^ f.width := by
  simp [State.rdAt, State.wrAt]

theorem State.rdAt_wrAt_other (s : State) (f g : Field) (i j v : Nat) (h : g.key j ≠ f.key i) :
    (s.wrAt f i v).rdAt g j = s.rdAt g j := by
  simp only [State.rdAt, State.wrAt]
  congr 1
  simp only [sget, sset]
  split
  · rw [sget?_sdel]; simp [h]
  · rw [sget?_sput]; simp [h]

theorem State.rdAt_lt (s : State) (f : Field) (i : Nat) : s.rdAt f i < 2 ^ f.width := Nat.mod_lt _ (Nat.two_pow_pos _)

@[simp] theorem State.rd_wr_same (s : State) (f : Field) (v : Nat) : (s.wr f v).rd f = v % 2 ^ f.width :=
  s.rdAt_wrAt_same f 0 v

theorem State.rd_wr_other (s : State) (f g : Field) (v : Nat) (h : g.key 0 ≠ f.key 0) : (s.wr f v).rd g = s.rd g :=
  s.rdAt_wrAt_other f g 0 0 v h

@[simp] theorem State.rd_wrBit_same (s : State) (f : Field) (b : Bool) (h : f.width = 1) : (s.wrBit f b).rd f = bit b := by
  rw [State.wrBit, State.rd_wr_same, h]; cases b <;> rfl

/-- Elements of one field with different numbers have different places. -/
theorem Field.key_ne (f : Field) {i j : Nat} (h : i ≠ j) : f.key i ≠ f.key j := by
  intro e
  apply h
  simp only [Field.key] at e
  omega

/-- Fields at different places never share one, whatever their elements. -/
theorem Field.key_ne_of_slot (f g : Field) (i j : Nat) (hf : f.slot < 2 ^ 64) (hg : g.slot < 2 ^ 64) (h : f.slot ≠ g.slot) :
    f.key i ≠ g.key j := by
  simp only [Field.key]
  omega

theorem State.wrAt_sorted (s : State) (f : Field) (i v : Nat) (h : ssorted s.regs = true) : ssorted (s.wrAt f i v).regs = true :=
  ssorted_sset h _ _ _

/-- A counter that wraps holds the sum modulo its width. -/
theorem State.rdAt_addAt_same (s : State) (f : Field) (i n : Nat) : (s.addAt f i n).rdAt f i = (s.rdAt f i + n) % 2 ^ f.width := by
  simp [State.addAt]

/-- A saturating counter stops at all ones. -/
theorem State.rdAt_addSatAt_same (s : State) (f : Field) (i n : Nat) :
    (s.addSatAt f i n).rdAt f i = min (s.rdAt f i + n) (2 ^ f.width - 1) := by
  rw [State.addSatAt, State.rdAt_wrAt_same]
  apply Nat.mod_eq_of_lt
  have : 0 < 2 ^ f.width := Nat.two_pow_pos _
  omega

end Sys2Proof.Machine
end

