-- ==== Sys2Proof/Laws/Memory.lean ====
section
/-! SUPPORT. Laws/Memory.lean: a byte written is read back and every other byte stays; every operation on a memory keeps its canonical
form, and the memories after reset have it. -/

namespace Sys2Proof.Machine

theorem fillOf_defined (m : Image) (a : Nat) (h : m.undefAt a = false) : fillOf m.layers a = 0 := by
  simp only [Image.undefAt] at h
  revert h
  induction m.layers with
  | nil => intro _; rfl
  | cons l ls ih =>
    intro h
    simp only [fillOf]
    simp only [List.find?_cons] at h
    by_cases hm : l.misses a = true
    · simp only [hm, if_true] at h ⊢
      simp only [Bool.not_eq_false'] at h
      simp [h]
    · simp only [Bool.not_eq_true] at hm
      simp only [hm, Bool.false_eq_true, if_false] at h ⊢
      exact ih h

@[simp] theorem Image.write_layers (m : Image) (a : Nat) (b : Byte) : (m.write a b).layers = m.layers := by
  unfold Image.write; split <;> rfl

@[simp] theorem Image.undefAt_write (m : Image) (a : Nat) (b : Byte) (c : Nat) : (m.write a b).undefAt c = m.undefAt c := by
  unfold Image.undefAt; rw [Image.write_layers]

/-- Reading back a byte written. -/
@[simp] theorem Image.read_write_same (m : Image) (a : Nat) (b : Byte) : (m.write a b).read a = b := by
  cases h : m.undefAt a with
  | true => simp [Image.read, Image.write, h, sget?_sput]
  | false =>
    have hf := fillOf_defined m a h
    unfold Image.read
    rw [Image.write_layers]
    simp only [Image.write, h, Bool.false_eq_true, if_false, sset]
    by_cases hb : b = 0
    · subst hb; simp [sget?_sdel, hf]
    · rw [if_neg hb, sget?_sput]; simp

/-- A write leaves every other byte alone. -/
theorem Image.read_write_other (m : Image) {a c : Nat} (b : Byte) (h : c ≠ a) : (m.write a b).read c = m.read c := by
  unfold Image.read
  rw [Image.write_layers]
  have : sget? (m.write a b).cells c = sget? m.cells c := by
    unfold Image.write; split
    · simp [sget?_sput, h]
    · simp only [sset]; split
      · simp [sget?_sdel, h]
      · simp [sget?_sput, h]
  rw [this]

/-! ### Canonical form -/

theorem Image.wf_iff (m : Image) : m.wf = true ↔ ssorted m.cells = true ∧ ∀ c ∈ m.cells, m.undefAt c.1 = true ∨ c.2 ≠ 0 := by
  simp [Image.wf]

@[simp] theorem Image.wf_empty : ({} : Image).wf = true := rfl

theorem Image.write_wf (m : Image) (a : Nat) (b : Byte) (h : m.wf = true) : (m.write a b).wf = true := by
  rw [Image.wf_iff] at h ⊢
  simp only [Image.undefAt_write]
  cases hu : m.undefAt a with
  | true =>
    have e : (m.write a b).cells = sput m.cells a b := by simp [Image.write, hu]
    rw [e]
    refine ⟨ssorted_sput h.1 _ _, fun c hc => ?_⟩
    rcases mem_sput hc with rfl | hc
    · exact Or.inl hu
    · exact h.2 c hc
  | false =>
    have e : (m.write a b).cells = sset 0 m.cells a b := by simp [Image.write, hu]
    rw [e]
    refine ⟨ssorted_sset h.1 _ _ _, fun c hc => ?_⟩
    unfold sset at hc
    split at hc
    · exact h.2 c (mem_sdel hc).1
    · rename_i hb
      rcases mem_sput hc with rfl | hc
      · exact Or.inr hb
      · exact h.2 c hc

theorem Image.writeN_wf (bs : List Byte) : ∀ (m : Image) (a : Nat), m.wf = true → (m.writeN a bs).wf = true := by
  induction bs with
  | nil => intro m a h; exact h
  | cons b bs ih => intro m a h; exact ih _ _ (m.write_wf a b h)

theorem Image.copy_wf (m : Image) (a b n : Nat) (h : m.wf = true) : (m.copy a b n).wf = true := m.writeN_wf _ b h

theorem Image.layer_wf (m : Image) (l : Layer) (h : m.wf = true) :
    Image.wf { cells := skeep (fun a => l.keep.any (fun r => decide (r.1 ≤ a) && decide (a < r.2))) m.cells, layers := l :: m.layers } = true := by
  rw [Image.wf_iff] at h ⊢
  refine ⟨ssorted_skeep h.1 _, fun c hc => ?_⟩
  have hk := mem_skeep.1 hc
  have hm : l.misses c.1 = false := by simp only [Layer.misses, hk.2, Bool.not_true]
  rcases h.2 c hk.1 with hu | hn
  · left
    simp only [Image.undefAt, List.find?_cons, hm] at hu ⊢
    exact hu
  · exact Or.inr hn

theorem Image.discardOutside_wf (m : Image) (g : Nat) (keep : List (Nat × Nat)) (h : m.wf = true) :
    (m.discardOutside g keep).wf = true := m.layer_wf { gen := g, keep := keep } h

theorem Image.scrubOutside_wf (m : Image) (keep : List (Nat × Nat)) (h : m.wf = true) : (m.scrubOutside keep).wf = true :=
  m.layer_wf { gen := 0, keep := keep, zero := true } h

/-- The machine after reset is held in canonical form. -/
theorem reset_canonical : State.reset.canonical = true := rfl

end Sys2Proof.Machine
end

