-- ==== Sys2Proof/WellFormed.lean ====
section
/-! DEFINITION. WellFormed.lean: which commands the outside can send: every number fits the unit it names (R11, R12, R15, R130, R176, R191,
R197, R260, R303, R425). A command that does not is still given a meaning (most change nothing), so no meaning rests on this. -/

namespace Sys2Proof

/-- A hardware thread (R11, R130). -/
def threadOk (t : ThreadRef) : Bool := decide (t.core < 256) && decide (t.scalar < 128) && decide (t.slot < 32)

/-- A flit (R260): every field of the envelope in its width, class 3 reserved, 64 to 256 bytes of payload in granules. -/
def flitOk (f : Flit) : Bool :=
  decide (f.dstModule < 2 ^ 16) && decide (f.dstAddr < 2 ^ 48) && decide (f.srcModule < 2 ^ 16) && decide (f.epoch < 2 ^ 16) &&
  decide (f.seq < 2 ^ 16) && decide (f.cls < 3) && decide (f.hops < 5) && decide (f.poison < 2 ^ (f.payload.length / 64)) &&
  decide (f.jobId < 2 ^ 32) && decide (f.step < 2 ^ 16) && decide (f.replay < 2 ^ 4) && decide (f.via < 2 ^ 11) &&
  [64, 128, 192, 256].contains f.payload.length && decide (f.port < 76) && decide (f.crc < 2 ^ 64)

/-- A management message (R425): port A or B, 32-bit numbers. -/
def mgmtOk (m : Mgmt) : Bool := decide (m.port < 2) && decide (m.session < 2 ^ 32) && decide (m.seq < 2 ^ 32) && decide (m.ack < 2 ^ 32)

/-- A directive (R355): 32-bit numbers, instance 0 or 1, and two 64-bit operands. -/
def directiveOk (d : Directive) : Bool :=
  decide (d.fmSeq < 2 ^ 32) && decide (d.inst < 2) && decide (d.job < 2 ^ 32) && decide (d.epoch < 2 ^ 32) && decide (d.w2 < 2 ^ 64) && decide (d.w3 < 2 ^ 64)

/-- A job's description (R22, R24, R25): numbers in the widths of their registers, and 64-bit table entries. -/
def jobOk (j : JobDesc) : Bool :=
  decide (j.jobId < 2 ^ 32) && decide (j.seed < 2 ^ 64) && decide (j.rank < 2 ^ 16) && j.map.all (fun w => decide (w < 2 ^ 64)) &&
  decide (j.instar < 2 ^ 64) && decide (j.random < 2 ^ 64)

/-- A command is well formed. -/
def wellFormed (i : Instr) : Bool :=
  match i with
  | .auxPowerUp straps _ _ _ => decide (straps < 2 ^ 11)
  | .auxRemoved => true
  | .mainRemoved => true
  | .mainOvervoltage => true
  | .mainGood => true
  | .resetNAssert => true
  | .resetNRelease straps => decide (straps < 2 ^ 11)
  | .prsntNLoss => true
  | .wakeN => true
  | .railsGood => true
  | .bootStart _ => true
  | .bootComplete => true
  | .recoveryReqTimer => true
  | .recoveryImage _ => true
  | .stewardWatchdog => true
  | .jobStart j => jobOk j
  | .scrubComplete => true
  | .stepOpen => true
  | .stepReplay => true
  | .mbAdmit => true
  | .segmentStart core _ => decide (core < 256)
  | .epilogueEntry core _ => decide (core < 256)
  | .segmentComplete core _ => decide (core < 256)
  | .cocoonAllocRequest core _ => decide (core < 256)
  | .cocoonAllocGrant => true
  | .cocoonStallTimeout core _ => decide (core < 256)
  | .mbDeadlineExpiry mb _ => decide (mb < 4096)
  | .mbHardLimitExpiry mb _ => decide (mb < 4096)
  | .standinTakeover core => decide (core < 256)
  | .arbiterGrant core => decide (core < 256)
  | .checkMismatch core _ => decide (core < 256)
  | .retryRestart core => decide (core < 256)
  | .injectMismatch core => decide (core < 256)
  | .tileComplete core _ => decide (core < 256)
  | .requantPrepassDone core _ => decide (core < 256)
  | .rowTileAccept core _ => decide (core < 256)
  | .softmaxExpPass core _ => decide (core < 256)
  | .attnMergeTile core => decide (core < 256)
  | .rowCmdStart core => decide (core < 256)
  | .rowCmdRun core => decide (core < 256)
  | .rowContextComplete core => decide (core < 256)
  | .rowFlushCtx core => decide (core < 256)
  | .vecLaunch core => decide (core < 256)
  | .vecLaunchComplete core => decide (core < 256)
  | .flushIcache core => decide (core < 256)
  | .threadResume core => decide (core < 256)
  | .add th => threadOk th
  | .sub th => threadOk th
  | .mul th => threadOk th
  | .mulhi th => threadOk th
  | .mulhu th => threadOk th
  | .and th => threadOk th
  | .or th => threadOk th
  | .xor th => threadOk th
  | .shl th => threadOk th
  | .shr th => threadOk th
  | .sra th => threadOk th
  | .min th => threadOk th
  | .max th => threadOk th
  | .minu th => threadOk th
  | .maxu th => threadOk th
  | .adds th => threadOk th
  | .subs th => threadOk th
  | .mad th => threadOk th
  | .sel th => threadOk th
  | .mov th => threadOk th
  | .intEq th => threadOk th
  | .intNe th => threadOk th
  | .intLt th => threadOk th
  | .intLe th => threadOk th
  | .intLtu th => threadOk th
  | .intLeu th => threadOk th
  | .fadd th => threadOk th
  | .fsub th => threadOk th
  | .fmul th => threadOk th
  | .ffma th => threadOk th
  | .ffms th => threadOk th
  | .fnma th => threadOk th
  | .fmin th => threadOk th
  | .fmax th => threadOk th
  | .fabs th => threadOk th
  | .fneg th => threadOk th
  | .fsqrt th => threadOk th
  | .frcpe th => threadOk th
  | .frsqe th => threadOk th
  | .fexp2 th => threadOk th
  | .fscale th => threadOk th
  | .fexpo th => threadOk th
  | .fpEq th => threadOk th
  | .fpLt th => threadOk th
  | .fpLe th => threadOk th
  | .fpUn th => threadOk th
  | .hadd2 th => threadOk th
  | .hmul2 th => threadOk th
  | .hfma2 th => threadOk th
  | .hmin2 th => threadOk th
  | .hmax2 th => threadOk th
  | .hdot2 th => threadOk th
  | .cvt th => threadOk th
  | .pand th => threadOk th
  | .por th => threadOk th
  | .pxor th => threadOk th
  | .pnot th => threadOk th
  | .pmov th => threadOk th
  | .movi th => threadOk th
  | .movhi th => threadOk th
  | .addi th => threadOk th
  | .ld th => threadOk th
  | .st th => threadOk th
  | .faddM th => threadOk th
  | .fmulM th => threadOk th
  | .ffmaM th => threadOk th
  | .hfma2M th => threadOk th
  | .hdot2M th => threadOk th
  | .iaddM th => threadOk th
  | .dmaIssue th => threadOk th
  | .dmaTransferComplete _ _ => true
  | .sqPush th => threadOk th
  | .sqPop th => threadOk th
  | .sqStat th => threadOk th
  | .syncAdd th => threadOk th
  | .syncAddr th => threadOk th
  | .syncSet th => threadOk th
  | .syncReadlo th => threadOk th
  | .syncReadhi th => threadOk th
  | .syncWait th => threadOk th
  | .br th => threadOk th
  | .call th => threadOk th
  | .nop th => threadOk th
  | .exit th => threadOk th
  | .ret th => threadOk th
  | .fenceOc th => threadOk th
  | .fenceDma th => threadOk th
  | .gangMaskp th => threadOk th
  | .gangPush th => threadOk th
  | .gangPop th => threadOk th
  | .laneid th => threadOk th
  | .bcast th => threadOk th
  | .gangVote th => threadOk th
  | .maskrd th => threadOk th
  | .lred th => threadOk th
  | .hintHeavy th => threadOk th
  | .hintLight th => threadOk th
  | .trap th => threadOk th
  | .tick th => threadOk th
  | .tickh th => threadOk th
  | .tid th => threadOk th
  | .flags th => threadOk th
  | .clrf th => threadOk th
  | .ftz th => threadOk th
  | .srt th => threadOk th
  | .sri th => threadOk th
  | .illegal th => threadOk th
  | .patrolScrub _ => true
  | .sramScrub core _ _ _ _ => decide (core < 256)
  | .memCeHourly => true
  | .imbalanceWindow _ => true
  | .refetchReply _ instar _ _ => decide (instar < 2 ^ 64)
  | .resendRequest _ instar _ => decide (instar < 2 ^ 64)
  | .tsResidentWrite index value => decide (index < 1024) && decide (value < 2 ^ 64)
  | .queueEnable queue value => decide (queue < 8192) && decide (value < 2 ^ 64)
  | .queueWaitTimeout queue thread => decide (queue < 8192) && thread.all threadOk
  | .routerForwardItem queue => decide (queue < 8192)
  | .creditReturn queue _ => decide (queue < 8192)
  | .waitTimeout _ => true
  | .synValueWrite counter value => decide (counter < 131072) && decide (value < 2 ^ 64)
  | .synAddWrite counter value => decide (counter < 131072) && decide (value < 2 ^ 64)
  | .synWaitsRead => true
  | .ringDoorbell ring value => decide (ring < 2) && decide (value < 2 ^ 64)
  | .commandComplete ring => decide (ring < 2)
  | .ringEnable ring => decide (ring < 2)
  | .ringDisable ring => decide (ring < 2)
  | .ringAbort ring => decide (ring < 2)
  | .ringRestart ring => decide (ring < 2)
  | .ringCplAck ring value => decide (ring < 2) && decide (value < 2 ^ 64)
  | .cmdNop ring seq => decide (ring < 2) && decide (seq < 2 ^ 32)
  | .queuePush ring seq => decide (ring < 2) && decide (seq < 2 ^ 32)
  | .cmdSyncAdd ring seq => decide (ring < 2) && decide (seq < 2 ^ 32)
  | .cmdSyncSet ring seq => decide (ring < 2) && decide (seq < 2 ^ 32)
  | .cmdSyncRead ring seq => decide (ring < 2) && decide (seq < 2 ^ 32)
  | .cmdSyncWait ring seq => decide (ring < 2) && decide (seq < 2 ^ 32)
  | .cmdDma ring seq => decide (ring < 2) && decide (seq < 2 ^ 32)
  | .stepLoad ring seq => decide (ring < 2) && decide (seq < 2 ^ 32)
  | .stepRun ring seq => decide (ring < 2) && decide (seq < 2 ^ 32)
  | .stepStop ring seq => decide (ring < 2) && decide (seq < 2 ^ 32)
  | .stepWait ring seq => decide (ring < 2) && decide (seq < 2 ^ 32)
  | .jobEnd ring seq => decide (ring < 2) && decide (seq < 2 ^ 32)
  | .jobCancel ring seq => decide (ring < 2) && decide (seq < 2 ^ 32)
  | .stripeUpdate _ _ _ => true
  | .factorPass _ _ => true
  | .headerWrite _ => true
  | .copyPass _ => true
  | .regenerationPass => true
  | .loadTable => true
  | .loadUcode => true
  | .ucEnd => true
  | .ucLd rd sel => decide (rd < 16) && decide (sel < 64)
  | .ucLdk rd sel => decide (rd < 16) && decide (sel < 64)
  | .ucSt ra sel => decide (ra < 16) && decide (sel < 64)
  | .ucAdd rd ra rb => decide (rd < 16) && decide (ra < 16) && decide (rb < 16)
  | .ucSub rd ra rb => decide (rd < 16) && decide (ra < 16) && decide (rb < 16)
  | .ucFma rd ra rb rc => decide (rd < 16) && decide (ra < 16) && decide (rb < 16) && decide (rc < 16)
  | .ucMul rd ra rb => decide (rd < 16) && decide (ra < 16) && decide (rb < 16)
  | .ucDiv rd ra rb => decide (rd < 16) && decide (ra < 16) && decide (rb < 16)
  | .ucSqrt rd ra => decide (rd < 16) && decide (ra < 16)
  | .ucMax rd ra rb => decide (rd < 16) && decide (ra < 16) && decide (rb < 16)
  | .ucMin rd ra rb => decide (rd < 16) && decide (ra < 16) && decide (rb < 16)
  | .ucAbs rd ra => decide (rd < 16) && decide (ra < 16)
  | .ucNeg rd ra => decide (rd < 16) && decide (ra < 16)
  | .ucSign rd ra => decide (rd < 16) && decide (ra < 16)
  | .write f => flitOk f
  | .readReq f => flitOk f
  | .readData f => flitOk f
  | .queueItem f => flitOk f
  | .syncAddFlit f => flitOk f
  | .collData f => flitOk f
  | .ack f => flitOk f
  | .ackTimer _ _ => true
  | .retransmitTimeout _ _ seq => decide (seq < 2 ^ 32)
  | .hotLinkTimer _ _ => true
  | .hotspotTimer _ => true
  | .heartbeatTimer port => decide (port < 76)
  | .linkSilence port => decide (port < 76)
  | .allReduce => true
  | .reduceScatter => true
  | .allGather => true
  | .allToAll => true
  | .broadcast => true
  | .collComplete _ => true
  | .portBringup port => decide (port < 76)
  | .bringupRetryTimer port => decide (port < 76)
  | .bringupTimeout port => decide (port < 76)
  | .hello port _ => decide (port < 76)
  | .helloAck port _ => decide (port < 76)
  | .heartbeat port _ => decide (port < 76)
  | .linkAck port _ => decide (port < 76)
  | .retryReq port _ => decide (port < 76)
  | .retrain port _ => decide (port < 76)
  | .hotSet port _ => decide (port < 76)
  | .keepalive port _ => decide (port < 76)
  | .wake port _ => decide (port < 76)
  | .keepaliveIdleTimer port => decide (port < 76)
  | .laneFail port _ => decide (port < 76)
  | .retrainTimeout port => decide (port < 76)
  | .lightSourceFail _ _ _ => true
  | .portBerHourly _ => true
  | .portRetrain port => decide (port < 76)
  | .portEnable port _ => decide (port < 76)
  | .bridgeDoorbell value => decide (value < 2 ^ 64)
  | .bridgeTransferComplete _ _ => true
  | .bridgeRingResume => true
  | .bridgePeerWrite port addr _ => decide (port < 4) && decide (addr < 2 ^ 64)
  | .bridgePeerMessage port _ => decide (port < 4)
  | .keptNextReady value => decide (value < 2 ^ 64)
  | .keptRepairDone => true
  | .moduleVote => true
  | .vote f => flitOk f
  | .decision f => flitOk f
  | .record f => flitOk f
  | .recordAck f => flitOk f
  | .digest f => flitOk f
  | .mirrorDone f => flitOk f
  | .voteTimeout => true
  | .canaryStart _ _ => true
  | .canaryComplete _ _ _ => true
  | .mirrorBuildEnd _ => true
  | .statePullDone instar _ _ => decide (instar < 2 ^ 64)
  | .rotationDue quadrant => decide (quadrant < 4)
  | .coreTestComplete phys _ => decide (phys < 272)
  | .spareTestDue phys => decide (phys < 272)
  | .testDeferTimer => true
  | .testOverdueTimer => true
  | .chkTestNow => true
  | .jobHeartbeatTimer => true
  | .jobHeartbeat f => flitOk f
  | .jobHbTimeout _ => true
  | .lossNotice f => flitOk f
  | .remapWaitTimeout => true
  | .statusTimer => true
  | .fmSilenceTimeout => true
  | .remap m d => mgmtOk m && directiveOk d
  | .discardStep m d => mgmtOk m && directiveOk d
  | .replay m d => mgmtOk m && directiveOk d
  | .hold m d => mgmtOk m && directiveOk d
  | .resume m d => mgmtOk m && directiveOk d
  | .chrysalis m d => mgmtOk m && directiveOk d
  | .retirePort m d => mgmtOk m && directiveOk d
  | .testNow m d => mgmtOk m && directiveOk d
  | .drain m d => mgmtOk m && directiveOk d
  | .wakeSpare m d => mgmtOk m && directiveOk d
  | .eclosionComplete _ => true
  | .pupaReturnTimeout => true
  | .coreRetryHourly => true
  | .hubWatchdogExpiry _ => true
  | .coalesceWindowClose _ _ => true
  | .cut f => flitOk f
  | .done f => flitOk f
  | .request f => flitOk f
  | .stagingCopyDone => true
  | .writeCommandComplete _ _ => true
  | .chrysalisDoneTimeout => true
  | .powerLoop _ => true
  | .freqHandoff quadrant => decide (quadrant < 4)
  | .droopAssert phys => decide (phys < 272)
  | .droopRelease phys => decide (phys < 272)
  | .hintExpiry phys _ => decide (phys < 272)
  | .energyIntegrate _ => true
  | .thermalSample _ _ => true
  | .coreClockGate phys => decide (phys < 272)
  | .sessionInit _ => true
  | .mgmtAck m _ => mgmtOk m
  | .mgmtAckTimer session => decide (session < 2 ^ 32)
  | .mgmtRetransmit session seq => decide (session < 2 ^ 32) && decide (seq < 2 ^ 32)
  | .sessionTimeout session => decide (session < 2 ^ 32)
  | .journalRead m _ _ => mgmtOk m
  | .attestReq m _ => mgmtOk m
  | .mgmtRead m _ addr _ => mgmtOk m && decide (addr < 2 ^ 64)
  | .csrWrite m addr value => mgmtOk m && decide (addr < 2 ^ 64) && decide (value < 2 ^ 64)
  | .moduleReset m => mgmtOk m
  | .stewardRestart m => mgmtOk m
  | .powerCycle m => mgmtOk m
  | .controlComplexRestart m => mgmtOk m
  | .flashWrite m flash _ _ => mgmtOk m && decide (flash < 2)
  | .flashCommit m flash => mgmtOk m && decide (flash < 2)
  | .settingsWrite m _ _ _ _ _ => mgmtOk m
  | .otpBurn m _ _ _ => mgmtOk m
  | .consoleOperatorKey _ => true
  | .mboxSend => true
  | .secRngRead => true
  | .i3cStatusRead => true
  | .i3cAckWrite value => decide (value < 2 ^ 64)
  | .i3cAddressAssign addr => decide (addr < 2 ^ 64)
  | .jtagBypass => true
  | .jtagSamplePreload => true
  | .jtagExtest => true
  | .jtagIdcode => true
  | .registerWrite addr value => decide (addr.addr < 2 ^ 64) && [1, 2, 4, 8].contains addr.size && decide (value < 2 ^ 64)
  | .prsntNReturn straps => decide (straps < 2 ^ 11)
  | .carveOutPoisonRead read => decide (read.addr < 2 ^ 64)
  | .flitCrcFail port _ => decide (port < 76)
  | .fecAlignmentLoss port => decide (port < 76)
  | .lossOfLight port => decide (port < 76)
  | .fecAligned port _ _ => decide (port < 76)
  | .helloResend port => decide (port < 76)
  | .frontEndPortDown _ => true
  | .frontEndFrame _ _ => true
  | .stackTemperatureReport _ => true
  | .debugInstruction => true

end Sys2Proof
end

