-- ==== Sys2Proof/Tests/Slice0.lean ====
section
/-! SUPPORT. Tests/Slice0.lean: the model's own tests: ill-formed commands that WellFormed refuses, a concrete machine for the
hypotheses of every statement, and small runs whose results are written out from the spec. -/

namespace Sys2Proof.Tests

open Sys2Proof Sys2Proof.Machine

set_option Elab.async false

/-! ### A small machine: one thread of logical core 1, served by physical core 1, with its instruction at 0x1000 -/

/-- A word of format R (R146). -/
def rWord (major rd rs1 rs2 rs3 fn m : Nat) : Nat :=
  major * 2 ^ 24 + rd * 2 ^ 21 + rs1 * 2 ^ 18 + rs2 * 2 ^ 15 + rs3 * 2 ^ 12 + fn * 2 ^ 6 + m

/-- RUNNING, with core 1 mapped to physical core 1, one thread, and the instruction word at 0x1000. -/
def vecState (t : Thread) (w : Nat) : State :=
  (({ State.reset with mode := .running, step := .opened, vec := [(1, { threads := [(0, t)] })] } : State).wrAt F.MOD_CORE_MAP_phys_core 1 1).storeN
    0x1000 (leBytes 4 w)

def freeThread : Thread := { st := .running, pc := 0x1000, lanes := [{ w := [7, 5, 9, 3, 0x3F800000, 0x40000000, 2, 4], p := 1 }], launch := 1 }
def gangThread : Thread :=
  { st := .running, gang := true, pc := 0x1000, mask := 2 ^ 32 - 1, launch := 1, lanes := List.replicate 32 { w := [7, 5, 9, 3, 1, 2, 3, 4], p := 2 } }
def ref1 : ThreadRef := ⟨1, 0, 0⟩

/-- What issues when the thread of `ref1` issues. -/
def issueOf (t : Thread) (w : Nat) : Issue := ⟨1, 1, 0, t, w, t.effect w⟩

/-- The conditions of `Issues` as a truth value. -/
def issuesB (s : State) (o : VOp) (th : ThreadRef) (x : Issue) : Bool :=
  decide (s.ready th o.retries = some (x.phys, x.key, x.th)) && decide (x.core = th.core) && decide (x.th.st = .running) &&
  (match s.fetch x.phys x.th.pc with
    | .word w => w == x.word
    | _ => false) && decide (VOp.ofWord x.word = o) && (x.th.guardPoison x.word).isEmpty && decide (x.lanes = x.th.effect x.word)

theorem issues_of_issuesB {s : State} {o : VOp} {th : ThreadRef} {x : Issue} (h : issuesB s o th x = true) : Issues s o th x := by
  simp only [issuesB, Bool.and_eq_true, decide_eq_true_eq, List.isEmpty_iff] at h
  obtain ⟨⟨⟨⟨⟨⟨h1, h2⟩, h3⟩, h4⟩, h5⟩, h6⟩, h7⟩ := h
  refine ⟨h1, h2, h3, ?_, h5, h6, h7⟩
  split at h4
  · rename_i w hw; rw [hw]; simp only [beq_iff_eq] at h4; rw [h4]
  · cases h4

/-- Words of the lane instructions, from R146 to R149 (majors 0x00 to 0x0F and 0x1A). -/
def wordsInt : List (VOp × Nat) :=
  [(.add, rWord 0 3 1 2 0 0 0), (.sub, rWord 0 3 1 2 0 1 0), (.mul, rWord 0 3 1 2 0 2 0), (.mulhi, rWord 0 3 1 2 0 3 0),
   (.mulhu, rWord 0 3 1 2 0 4 0), (.and, rWord 0 3 1 2 0 5 0), (.or, rWord 0 3 1 2 0 6 0), (.xor, rWord 0 3 1 2 0 7 0),
   (.shl, rWord 0 3 1 2 0 8 0), (.shr, rWord 0 3 1 2 0 9 0), (.sra, rWord 0 3 1 2 0 10 0), (.min, rWord 0 3 1 2 0 11 0),
   (.max, rWord 0 3 1 2 0 12 0), (.minu, rWord 0 3 1 2 0 13 0), (.maxu, rWord 0 3 1 2 0 14 0), (.adds, rWord 0 3 1 2 0 15 0),
   (.subs, rWord 0 3 1 2 0 16 0), (.mad, rWord 0 3 1 2 5 17 0), (.sel, rWord 0 3 1 2 0 18 1), (.mov, rWord 0 3 1 0 0 19 0)]
def wordsFp : List (VOp × Nat) :=
  [(.intEq, rWord 1 0 1 2 0 0 1), (.intNe, rWord 1 0 1 2 0 1 1), (.intLt, rWord 1 0 1 2 0 2 0), (.intLe, rWord 1 0 1 2 0 3 2),
   (.intLtu, rWord 1 0 1 2 0 4 3), (.intLeu, rWord 1 0 1 2 0 5 3),
   (.fadd, rWord 2 3 4 5 0 0 0), (.fsub, rWord 2 3 4 5 0 1 0), (.fmul, rWord 2 3 4 5 0 2 0), (.ffma, rWord 2 3 4 5 4 3 0),
   (.ffms, rWord 2 3 4 5 4 4 0), (.fnma, rWord 2 3 4 5 4 5 0), (.fmin, rWord 2 3 4 5 0 6 0), (.fmax, rWord 2 3 4 5 0 7 0),
   (.fabs, rWord 2 3 4 0 0 8 0), (.fneg, rWord 2 3 4 0 0 9 0), (.fsqrt, rWord 2 3 4 0 0 10 0), (.frcpe, rWord 2 3 4 0 0 11 0),
   (.frsqe, rWord 2 3 4 0 0 12 0), (.fexp2, rWord 2 3 4 0 0 13 0), (.fscale, rWord 2 3 4 6 0 14 0), (.fexpo, rWord 2 3 4 0 0 15 0)]
def wordsBf : List (VOp × Nat) :=
  [(.fpEq, rWord 3 0 4 5 0 0 1), (.fpLt, rWord 3 0 4 5 0 1 1), (.fpLe, rWord 3 0 4 5 0 2 1), (.fpUn, rWord 3 0 4 5 0 3 1),
   (.hadd2, rWord 4 3 4 5 0 0 0), (.hmul2, rWord 4 3 4 5 0 1 0), (.hfma2, rWord 4 3 4 5 4 2 0), (.hmin2, rWord 4 3 4 5 0 3 0),
   (.hmax2, rWord 4 3 4 5 0 4 0), (.hdot2, rWord 4 3 4 5 4 5 0),
   -- FP32 to BF16 (0x01), element 1, nearest even, saturating
   (.cvt, 5 * 2 ^ 24 + 3 * 2 ^ 21 + 4 * 2 ^ 18 + 0x01 * 2 ^ 13 + 0x00 * 2 ^ 8 + 1 * 2 ^ 5),
   (.pand, rWord 6 0 1 2 0 0 1), (.por, rWord 6 0 1 2 0 1 2), (.pxor, rWord 6 0 1 2 0 2 3), (.pnot, rWord 6 0 1 0 0 3 1),
   (.pmov, rWord 6 0 1 0 0 4 0),
   (.movi, 7 * 2 ^ 24 + 3 * 2 ^ 21 + 0x8000), (.movhi, 7 * 2 ^ 24 + 3 * 2 ^ 21 + 2 ^ 16 + 0xFFFF),
   (.addi, 7 * 2 ^ 24 + 3 * 2 ^ 21 + 1 * 2 ^ 18 + 2 * 2 ^ 16 + 0xFFFF)]
def wordsMem : List (VOp × Nat) :=
  [(.ld, 0x08 * 2 ^ 24 + 3 * 2 ^ 21 + 0x1FFFF), (.faddM, 0x0A * 2 ^ 24 + 3 * 2 ^ 21 + 4 * 2 ^ 18 + 2 ^ 17 + 5), (.fmulM, 0x0B * 2 ^ 24 + 3 * 2 ^ 21),
   -- the example of R148: FFMA.M w2, w1, [0x0_2340 + w7] under guard p1
   (.ffmaM, 0x2C462340), (.hfma2M, 0x0D * 2 ^ 24 + 3 * 2 ^ 21), (.hdot2M, 0x0E * 2 ^ 24 + 3 * 2 ^ 21), (.iaddM, 0x0F * 2 ^ 24 + 3 * 2 ^ 21),
   (.tick, rWord 0x1A 3 0 0 0 0 0), (.tickh, rWord 0x1A 3 0 0 0 1 0), (.tid, rWord 0x1A 3 0 0 0 2 0), (.flags, rWord 0x1A 3 0 0 0 3 0),
   (.clrf, rWord 0x1A 0 0 0 0 4 0), (.ftz, rWord 0x1A 0 0 0 0 5 1), (.srt, rWord 0x1A 0 1 0 0 6 0), (.sri, rWord 0x1A 0 1 2 0 7 0)]
def laneWords : List (VOp × Nat) := wordsInt ++ wordsFp ++ wordsBf ++ wordsMem

/-- Every lane instruction issues from its word, in a free thread and in a gang, with its index base clean. -/
theorem test_lane_words_issue : laneWords.all (fun p => issuesB (vecState freeThread p.2) p.1 ref1 (issueOf freeThread p.2) &&
    (issueOf freeThread p.2).idxPoison.isEmpty) = true := by decide +kernel
theorem test_lane_words_issue_gang : laneWords.all (fun p => issuesB (vecState gangThread p.2) p.1 ref1 (issueOf gangThread p.2)) = true := by
  decide +kernel

/-- The words cover every form of LaneInstructionsComplete, so every operation of its list meets its hypotheses. -/
theorem test_meets_LaneInstructionsComplete : ∀ p ∈ laneForms, ∃ s th x, Issues s p.2 th x ∧ (p.2.isMem = true → x.idxPoison = []) := by
  have h : ∀ p ∈ laneForms, ∃ q ∈ laneWords, q.1 = p.2 := by decide +kernel
  intro p hp
  obtain ⟨q, hq, e⟩ := h p hp
  have k := List.all_eq_true.mp test_lane_words_issue q hq
  simp only [Bool.and_eq_true, List.isEmpty_iff] at k
  exact ⟨_, _, _, e ▸ issues_of_issuesB k.1, fun _ => k.2⟩

theorem test_meets_IntegerInstructions_compute : ∀ p ∈ intForms, ∃ s th x, Issues s p.2.1 th x := by
  have h : ∀ p ∈ intForms, ∃ q ∈ laneWords, q.1 = p.2.1 := by
    simp only [intForms, List.forall_mem_cons, List.not_mem_nil, false_implies, implies_true, and_true]; decide +kernel
  intro p hp
  obtain ⟨q, hq, e⟩ := h p hp
  have k := List.all_eq_true.mp test_lane_words_issue q hq
  exact ⟨_, _, _, e ▸ issues_of_issuesB (Bool.and_eq_true_iff.mp k).1⟩

theorem test_meets_IntegerInstructions_compares : ∀ p ∈ cmpForms, ∃ s th x, Issues s p.2.1 th x := by
  have h : ∀ p ∈ cmpForms, ∃ q ∈ laneWords, q.1 = p.2.1 := by
    simp only [cmpForms, List.forall_mem_cons, List.not_mem_nil, false_implies, implies_true, and_true]; decide +kernel
  intro p hp
  obtain ⟨q, hq, e⟩ := h p hp
  have k := List.all_eq_true.mp test_lane_words_issue q hq
  exact ⟨_, _, _, e ▸ issues_of_issuesB (Bool.and_eq_true_iff.mp k).1⟩

theorem test_meets_MovesAndSystemInstructions : (VOp.movhi ∈ laneForms.map Prod.snd) ∧
    Issues (vecState freeThread (rWord 0x1A 0 1 2 0 7 0)) .sri ref1 (issueOf freeThread (rWord 0x1A 0 1 2 0 7 0)) ∧
    0 ∈ (issueOf freeThread (rWord 0x1A 0 1 2 0 7 0)).lanes :=
  ⟨by decide +kernel, issues_of_issuesB (by decide +kernel), by decide +kernel⟩

/-- ST to the last word of the cache, every lane of a gang to one word. -/
theorem test_meets_StoreWritesAddressedWords :
    let w := 0x09 * 2 ^ 24 + 3 * 2 ^ 21 + 0x1FFFF
    Issues (vecState gangThread w) .st ref1 (issueOf gangThread w) ∧ (issueOf gangThread w).idxPoison = [] ∧
    (∀ n, n < 256 → (vecState gangThread w).phys n = (vecState gangThread w).phys 1 → n = 1) :=
  ⟨issues_of_issuesB (by decide +kernel), by decide +kernel, by decide +kernel⟩

/-- The lanes store to one word and the highest lane's value stays (R141). -/
theorem test_store_highest_lane : (let t : Thread := { gangThread with lanes := (List.range 32).map (fun i => { w := [i, 0, 0, 0, 0, 0, 0, 0] }) }
    match exec (.st ref1) (vecState t (0x09 * 2 ^ 24 + 5)) with
    | .next u => leNat (u.loadN (ocBase 1 + 20) 4)
    | _ => 0) = 31 := by decide +kernel

def brWord : Nat := 0x13 * 2 ^ 24 + (2 ^ 23 - 1)
def callWord : Nat := 0x14 * 2 ^ 24 + 2 ^ 23 + 2

/-- A branch by −1, a call with the all bit, taken and not taken, a return from depth 4, NOP and FENCE_OC. -/
theorem test_meets_BranchesCallsAndReturns :
    Issues (vecState freeThread brWord) .br ref1 (issueOf freeThread brWord) ∧
    (Issues (vecState { gangThread with ret := [0, 0, 0] } callWord) .call ref1 (issueOf { gangThread with ret := [0, 0, 0] } callWord) ∧
      (issueOf { gangThread with ret := [0, 0, 0] } callWord).lanes.length = 32) ∧
    (Issues (vecState { gangThread with mask := 0 } callWord) .call ref1 (issueOf { gangThread with mask := 0 } callWord) ∧
      (issueOf { gangThread with mask := 0 } callWord).lanes = []) ∧
    (Issues (vecState { freeThread with ret := [4, 8, 12, 16] } (rWord 0x15 0 0 0 0 2 0)) .ret ref1
      (issueOf { freeThread with ret := [4, 8, 12, 16] } (rWord 0x15 0 0 0 0 2 0))) ∧
    Issues (vecState freeThread (rWord 0x15 0 0 0 0 0 0)) .nop ref1 (issueOf freeThread (rWord 0x15 0 0 0 0 0 0)) ∧
    Issues (vecState freeThread (rWord 0x15 0 0 0 0 3 0)) .fenceOc ref1 (issueOf freeThread (rWord 0x15 0 0 0 0 3 0)) := by
  refine ⟨?_, ⟨?_, ?_⟩, ⟨?_, ?_⟩, ?_, ?_, ?_⟩
  all_goals first | exact issues_of_issuesB (by decide +kernel) | decide +kernel

/-- PUSH at depth 7, POP at depth 1, MASKP on clean predicates, and EXIT of all lanes. -/
theorem test_meets_GangInstructions_masksAndExit :
    (let t := { gangThread with stack := [1, 1, 1, 1, 1, 1, 1] }
     Issues (vecState t (rWord 0x16 0 0 0 0 1 0)) .gangPush ref1 (issueOf t (rWord 0x16 0 0 0 0 1 0)) ∧
       (issueOf t (rWord 0x16 0 0 0 0 1 0)).lanes ≠ []) ∧
    (let t := { gangThread with stack := [5] }
     Issues (vecState t (rWord 0x16 0 0 0 0 2 0)) .gangPop ref1 (issueOf t (rWord 0x16 0 0 0 0 2 0))) ∧
    (Issues (vecState gangThread (rWord 0x16 0 0 0 0 0 6)) .gangMaskp ref1 (issueOf gangThread (rWord 0x16 0 0 0 0 0 6)) ∧
      ∀ i ∈ (issueOf gangThread (rWord 0x16 0 0 0 0 0 6)).lanes, (gangThread.lane i).predPoison 2 = false) ∧
    (Issues (vecState gangThread (rWord 0x15 0 0 0 0 1 0)) .exit ref1 (issueOf gangThread (rWord 0x15 0 0 0 0 1 0)) ∧
      gangThread.retired < 2 ^ 32 ∧ gangThread.lanes.length = 32) ∧
    (Issues (vecState freeThread (rWord 0x15 0 0 0 0 1 0)) .exit ref1 (issueOf freeThread (rWord 0x15 0 0 0 0 1 0)) ∧
      (issueOf freeThread (rWord 0x15 0 0 0 0 1 0)).lanes = [0]) := by
  refine ⟨⟨?_, ?_⟩, ?_, ⟨?_, ?_⟩, ⟨?_, ?_, ?_⟩, ⟨?_, ?_⟩⟩
  all_goals first | exact issues_of_issuesB (by decide +kernel) | decide +kernel

theorem test_meets_GangInstructions_crossLane : gangThread.gang = true ∧ (issueOf gangThread (rWord 0x17 3 1 0 0 3 1)).lanes ≠ [] ∧
    Issues (vecState gangThread (rWord 0x16 3 0 0 0 3 0)) .laneid ref1 (issueOf gangThread (rWord 0x16 3 0 0 0 3 0)) ∧
    Issues (vecState gangThread (rWord 0x16 3 0 0 0 6 0)) .maskrd ref1 (issueOf gangThread (rWord 0x16 3 0 0 0 6 0)) ∧
    Issues (vecState gangThread (rWord 0x16 3 1 2 0 4 0)) .bcast ref1 (issueOf gangThread (rWord 0x16 3 1 2 0 4 0)) ∧
    Issues (vecState gangThread (rWord 0x16 0 1 0 0 5 7)) .gangVote ref1 (issueOf gangThread (rWord 0x16 0 1 0 0 5 7)) ∧
    Issues (vecState gangThread (rWord 0x17 3 1 0 0 3 1)) .lred ref1 (issueOf gangThread (rWord 0x17 3 1 0 0 3 1)) := by
  refine ⟨?_, ?_, ?_, ?_, ?_, ?_, ?_⟩
  all_goals first | exact issues_of_issuesB (by decide +kernel) | decide +kernel

/-- LRED IADD over 32 lanes of 5 gives 160 on every lane; the masked lanes' identity is 0 (R137). -/
theorem test_lred_iadd : (match exec (.lred ref1) (vecState gangThread (rWord 0x17 3 1 0 0 3 1)) with
    | .next u => (((u.vecAt 1).thread 0).lane 31).reg 3
    | _ => 0) = 160 := by decide +kernel

/-- MULHI of 0x80000000 and 2 is −1; MOVHI keeps the low half; the shift amount is taken modulo 32. -/
theorem test_mulhi : (match exec (.mulhi ref1) (vecState { freeThread with lanes := [{ w := [0, 0x80000000, 2, 0, 0, 0, 0, 0] }] } (rWord 0 3 1 2 0 3 0)) with
    | .next u => (((u.vecAt 1).thread 0).lane 0).reg 3
    | _ => 0) = 0xFFFFFFFF := by decide +kernel
theorem test_shl : (match exec (.shl ref1) (vecState { freeThread with lanes := [{ w := [0, 3, 33, 0, 0, 0, 0, 0] }] } (rWord 0 3 1 2 0 8 0)) with
    | .next u => (((u.vecAt 1).thread 0).lane 0).reg 3
    | _ => 0) = 6 := by decide +kernel

/-! ### Counters, queues, DMA, traps and launches of the vector cluster -/

/-- A free thread with register words of its own. -/
def thr (w : List Nat) : Thread := { freeThread with lanes := [{ w := w }] }
/-- A queue of core 1, of 16 items, switched on. -/
def withQueue (s : State) (q : Nat) (x : Queue) : State := ((s.wrAt F.QUE_CFG_enable q 1).wrAt F.QUE_CFG_log2_depth q 4).setQueue q x
def item64 : Item := { data := List.replicate 64 7 }

def syncT : Thread := thr [0, 131071, 5, 0, 0, 0, 0, 0]
/-- An earlier transfer of the thread into this module. -/
def syncXfer : Xfer := { id := 1, core := 1, owner := .thread 1 0, words := [0x10000, 0x20000, 64 * 2 ^ 44 + 2 ^ 28, 0, 2 ^ 60, 0, 0, 0], asked := true }
theorem test_meets_VectorSyncInstructions_counters :
    (∀ i ∈ (issueOf syncT (rWord 0x12 0 1 2 3 2 0)).lanes, (syncT.lane i).reg 1 < 131072 ∧ (syncT.lane i).regPoison 1 = false ∧
      (syncT.lane i).regPoison 2 = false ∧ (syncT.lane i).regPoison 3 = false) ∧
    (Issues (vecState syncT (rWord 0x12 0 1 2 0 0 0)) .syncAdd ref1 (issueOf syncT (rWord 0x12 0 1 2 0 0 0)) ∧
      (vecState syncT (rWord 0x12 0 1 2 0 0 0)).ops = [] ∧
      nothingBefore (vecState syncT (rWord 0x12 0 1 2 0 0 0)) ((issueOf syncT (rWord 0x12 0 1 2 0 0 0)).owner 0)) ∧
    (let s := { vecState syncT (rWord 0x12 0 1 2 0 0 0) with xfers := [syncXfer] }
     Issues s .syncAdd ref1 (issueOf syncT (rWord 0x12 0 1 2 0 0 0)) ∧ (issueOf syncT (rWord 0x12 0 1 2 0 0 0)).lanes = [0] ∧ s.ops = [] ∧
      s.xfersInto ((issueOf syncT (rWord 0x12 0 1 2 0 0 0)).owner 0) s.self ≠ []) ∧
    (Issues (vecState syncT (rWord 0x12 0 1 2 3 1 4)) .syncAddr ref1 (issueOf syncT (rWord 0x12 0 1 2 3 1 4)) ∧
      (vecState syncT (rWord 0x12 0 1 2 3 1 4)).nodeOk 1 0 = true ∧
      nothingBefore (vecState syncT (rWord 0x12 0 1 2 3 1 4)) ((issueOf syncT (rWord 0x12 0 1 2 3 1 4)).owner 0) ∧
      (vecState syncT (rWord 0x12 0 1 2 3 1 4)).nodeModule 1 0 = (vecState syncT (rWord 0x12 0 1 2 3 1 4)).self) ∧
    Issues (vecState syncT (rWord 0x12 0 1 2 3 2 0)) .syncSet ref1 (issueOf syncT (rWord 0x12 0 1 2 3 2 0)) ∧
    Issues (vecState syncT (rWord 0x12 3 1 0 0 3 0)) .syncReadlo ref1 (issueOf syncT (rWord 0x12 3 1 0 0 3 0)) ∧
    Issues (vecState syncT (rWord 0x12 3 1 0 0 4 0)) .syncReadhi ref1 (issueOf syncT (rWord 0x12 3 1 0 0 4 0)) := by
  refine ⟨?_, ⟨?_, ?_, ?_, ?_⟩, ⟨?_, ?_, ?_, ?_⟩, ⟨?_, ?_, ⟨?_, ?_⟩, ?_⟩, ?_, ?_, ?_⟩
  all_goals first | exact issues_of_issuesB (by decide +kernel) | decide +kernel

/-- A target of 0 is met at once, one of 5 is not, with and without a timeout, in a free thread whose lane has the shape of R133. -/
theorem test_meets_VectorSyncInstructions_wait : let w := rWord 0x12 0 1 2 3 5 1
    let t0 := thr [100, 7, 0, 0, 0, 0, 0, 0]
    let t5 := thr [100, 7, 5, 0, 0, 0, 0, 0]
    let z5 := thr [0, 7, 5, 0, 0, 0, 0, 0]
    (Issues (vecState t0 w) .syncWait ref1 (issueOf t0 w) ∧ laneShape (vecState t0 w) ref1 (issueOf t0 w) ∧ (issueOf t0 w).lanes = [0] ∧
      (vecState t0 w).opFree (issueOf t0 w) = true ∧ (vecState t0 w).generalWaits + 1 ≤ generalPlaces ∧
      (t0.lane 0).reg 2 ≤ (vecState t0 w).counter 7) ∧
    (Issues (vecState z5 w) .syncWait ref1 (issueOf z5 w) ∧ laneShape (vecState z5 w) ref1 (issueOf z5 w) ∧ (issueOf z5 w).lanes = [0] ∧
      (vecState z5 w).opFree (issueOf z5 w) = true ∧ (z5.lane 0).reg (fRd w) = 0 ∧ (vecState z5 w).counter 7 < (z5.lane 0).reg 2) ∧
    (Issues (vecState t5 w) .syncWait ref1 (issueOf t5 w) ∧ laneShape (vecState t5 w) ref1 (issueOf t5 w) ∧
      (vecState t5 w).counter 7 < (t5.lane 0).reg 2 ∧ (t5.lane 0).reg (fRd w) = 100 ∧ (vecState t5 w).opFree (issueOf t5 w) = true ∧
      (vecState t5 w).generalWaits + 1 ≤ generalPlaces) := by
  refine ⟨⟨?_, ?_, ?_, ?_, ?_, ?_⟩, ⟨?_, ?_, ?_, ?_, ?_, ?_⟩, ?_, ?_, ?_, ?_, ?_, ?_⟩
  all_goals first | exact issues_of_issuesB (by decide +kernel) | (simp only [laneShape]; decide +kernel) | decide +kernel

def qT : Thread := thr [0, 24, 131056, 0, 0, 0, 0, 0]
def pushState (x : Queue) (m : Nat) : State := withQueue (vecState qT (rWord 0x11 0 1 2 0 0 m)) 24 x
def popState (x : Queue) (m : Nat) : State := withQueue (vecState qT (rWord 0x11 3 1 2 0 1 m)) 24 x

/-- Room for the sixteenth item, and a FULL queue; an item to pop, and none; with and without the wait bit. -/
theorem test_meets_VectorQueueInstructions :
    let room : Queue := { items := List.replicate 15 item64 }
    let full : Queue := { items := List.replicate 16 item64 }
    (Issues (pushState room 1) .sqPush ref1 (issueOf qT (rWord 0x11 0 1 2 0 0 1)) ∧ (pushState room 1).fullFor (.thread 1 0) 24 = false ∧
      (pushState room 1).mayPush (.thread 1 0) 24 = true) ∧
    (Issues (pushState full 33) .sqPush ref1 (issueOf qT (rWord 0x11 0 1 2 0 0 33)) ∧ (pushState full 33).fullFor (.thread 1 0) 24 = true ∧
      (pushState full 33).mayPush (.thread 1 0) 24 = true) ∧
    (Issues (popState full 1) .sqPop ref1 (issueOf qT (rWord 0x11 3 1 2 0 1 1)) ∧ (popState full 1).visible 24 = true ∧
      (popState full 1).mayPop 1 24 = true) ∧
    (Issues (popState {} 33) .sqPop ref1 (issueOf qT (rWord 0x11 3 1 2 0 1 33)) ∧ (popState {} 33).visible 24 = false ∧
      (popState {} 33).mayPop 1 24 = true) ∧
    (let s := withQueue (vecState qT (rWord 0x11 3 1 0 0 2 0)) 24 {}
     Issues s .sqStat ref1 (issueOf qT (rWord 0x11 3 1 0 0 2 0)) ∧ s.mayPop 1 24 = true) := by
  refine ⟨⟨?_, ?_, ?_⟩, ⟨?_, ?_, ?_⟩, ⟨?_, ?_, ?_⟩, ⟨?_, ?_, ?_⟩, ?_, ?_⟩
  all_goals first | exact issues_of_issuesB (by decide +kernel) | decide +kernel

/-- A copy of 64 bytes from 0x10000 to 0x20000 (R143), adding to counter 131071. -/
def dmaWords : List Nat := [0x10000, 0x20000, 64 * 2 ^ 44 + 2 ^ 28, 0, 2 ^ 60 + 2 ^ 48 + 131071 * 2 ^ 31, 0, 0, 0]
def dmaT : Thread := thr [0, 131056, 0, 0, 0, 0, 0, 0]
def dmaState : State := (vecState dmaT (rWord 0x10 0 1 0 0 0 0)).storeN (ocAddr 1 131056) (wordBytes dmaWords)
def dmaXfer : Xfer := { id := 1, core := 1, owner := .thread 1 0, words := dmaWords, asked := true }

theorem test_meets_VectorDmaAndTransfers_issue : let x := issueOf dmaT (rWord 0x10 0 1 0 0 0 0)
    (Issues dmaState .dmaIssue ref1 x ∧ x.lanes = [0] ∧ dmaState.coreXfers x.core + 1 ≤ coreXferLimit ∧
      dmaState.loadWords (ocAddr 1 131056) 8 = dmaWords ∧ dmaState.poisonAt (ocAddr 1 131056) = false ∧ dmaState.xferBad false dmaWords = false ∧
      dmaState.threadXfers 1 0 < 16) ∧
    (let s := vecState dmaT (rWord 0x15 0 0 0 0 4 0)
     Issues s .fenceDma ref1 (issueOf dmaT (rWord 0x15 0 0 0 0 4 0)) ∧ s.threadXfers 1 0 = 0 ∧
      Issues { s with xfers := [dmaXfer] } .fenceDma ref1 (issueOf dmaT (rWord 0x15 0 0 0 0 4 0)) ∧
      0 < ({ s with xfers := [dmaXfer] } : State).threadXfers 1 0) := by
  refine ⟨⟨?_, ?_, ?_, ?_, ?_, ?_, ?_⟩, ?_, ?_, ?_, ?_⟩
  all_goals first | exact issues_of_issuesB (by decide +kernel) | decide +kernel

def hintWord (kind : Nat) : Nat := 0x18 * 2 ^ 24 + kind * 2 ^ 20 + 1023 * 2 ^ 10 + 1023
def trapWord (code : Nat) : Nat := 0x19 * 2 ^ 24 + code
def pausedVec : VecSt := { threads := [(0, { freeThread with st := .paused })] }

/-- Codes 0x7FFF and 0x8000 are the two sides of the bound. -/
theorem test_meets_HintsAndTraps :
    Issues (vecState freeThread (hintWord 1)) .hintHeavy ref1 (issueOf freeThread (hintWord 1)) ∧
    Issues (vecState freeThread (hintWord 2)) .hintLight ref1 (issueOf freeThread (hintWord 2)) ∧
    Issues (vecState freeThread (trapWord 0x7FFF)) .trap ref1 (issueOf freeThread (trapWord 0x7FFF)) ∧
    Issues (vecState freeThread (trapWord 0x8000)) .trap ref1 (issueOf freeThread (trapWord 0x8000)) ∧
    (let s := vecState { freeThread with st := .paused } 0
     s.alive = true ∧ ((s.vecAt (s.phys 1)).thread 0).st = .paused) ∧
    ((0, { freeThread with st := .paused }) ∈ pausedVec.threads ∧ 0 ∈ launchGroups [2 ^ 60 + 2 ^ 56 + 2 ^ 43] ∧
      0 ∈ launchSlots [2 ^ 60 + 2 ^ 56 + 2 ^ 43]) := by
  refine ⟨?_, ?_, ?_, ?_, ?_, ?_, ?_, ?_⟩
  all_goals first | exact issues_of_issuesB (by decide +kernel) | decide +kernel

theorem test_meets_VectorExceptions :
    let g8 := { gangThread with stack := List.replicate 8 1 }
    let c4 := { freeThread with ret := [0, 4, 8, 12] }
    Issues (vecState freeThread (0x1B * 2 ^ 24)) .illegal ref1 (issueOf freeThread (0x1B * 2 ^ 24)) ∧
    Issues (vecState freeThread (rWord 0x16 0 0 0 0 1 0)) .gangPush ref1 (issueOf freeThread (rWord 0x16 0 0 0 0 1 0)) ∧
    Issues (vecState freeThread (rWord 0x17 3 1 0 0 6 0)) .lred ref1 (issueOf freeThread (rWord 0x17 3 1 0 0 6 0)) ∧
    Issues (vecState g8 (rWord 0x16 0 0 0 0 1 0)) .gangPush ref1 (issueOf g8 (rWord 0x16 0 0 0 0 1 0)) ∧
    Issues (vecState gangThread (rWord 0x16 0 0 0 0 2 0)) .gangPop ref1 (issueOf gangThread (rWord 0x16 0 0 0 0 2 0)) ∧
    (Issues (vecState c4 callWord) .call ref1 (issueOf c4 callWord) ∧ (issueOf c4 callWord).taken = true) ∧
    Issues (vecState freeThread (rWord 0x15 0 0 0 0 2 0)) .ret ref1 (issueOf freeThread (rWord 0x15 0 0 0 0 2 0)) := by
  refine ⟨?_, ?_, ?_, ?_, ?_, ⟨?_, ?_⟩, ?_⟩
  all_goals first | exact issues_of_issuesB (by decide +kernel) | decide +kernel

/-- A launch of slots 31 to 31 in lane group 3, free mode, at 0x1000 (R138). -/
def launchEntry : List Nat := [2 ^ 60 + 8 * 2 ^ 56 + 31 * 2 ^ 49 + 2 ^ 43, 0x1000, 0, 0, 0, 0, 0, 0]
def cluster (v : VecSt) : State := ({ State.reset with mode := .running, step := .opened, vec := [(1, v)] } : State).wrAt F.MOD_CORE_MAP_phys_core 1 1
def launchState : State := (withQueue (cluster {}) 24 { items := [{ data := wordBytes launchEntry }] }).wrAt F.VEC_CTRL_launch_queue 1 24

theorem test_meets_LaunchesAndInstructionCache :
    (let s := cluster { head := some (0 :: launchEntry) }
     s.alive = true ∧ s.stepOpen = true ∧ s.coreServed 1 = true ∧ (s.vecAt (s.phys 1)).head = some (0 :: launchEntry) ∧ launchReason launchEntry = 0 ∧
      (s.vecAt (s.phys 1)).canStart launchEntry = true ∧ 3 ∈ launchGroups launchEntry ∧ 31 ∈ launchSlots launchEntry ∧
      launchGang launchEntry = false) ∧
    (launchState.coreServed 1 = true ∧ launchState.rdAt F.VEC_CTRL_launch_queue (launchState.phys 1) = 24 ∧ launchState.mayPop 1 24 = true ∧ launchState.visible 24 = true ∧
      launchState.poisonAt (launchState.rdAt F.QUE_BACKING_base 24 + 0 % launchState.depth 24 * 64) = false ∧
      launchReason (bytesWords (wordBytes launchEntry)) = 0 ∧
      (launchState.vecAt (launchState.phys 1)).canStart (bytesWords (wordBytes launchEntry)) = true) ∧
    ((cluster { launches := [{ id := 1, words := launchEntry, left := 0 }] }).vecAt 1).launches.find? (fun l => l.left == 0) =
      some { id := 1, words := launchEntry, left := 0 } ∧
    ((cluster { launches := [{ id := 1, words := launchEntry, left := 0 }] }).store64 0 (2 ^ 48)).listsDone = false ∧
    (let s := { cluster { launches := [{ id := 1, words := launchEntry, left := 0 }] } with upd := { normDone := true } }
     s.phys 1 = 1 ∧ s.vec = [(1, { launches := [{ id := 1, words := launchEntry, left := 0 }] })] ∧ s.working = true ∧ s.listsDone = true) ∧
    (cluster { threads := [(0, freeThread)] }).alive = true := by decide +kernel

def ringWait : Wait := ⟨131071, 5, some 9, .ring 0⟩
theorem test_meets_CounterCommands : (cluster {}).alive = true ∧
    (let s := { cluster {} with waits := [ringWait], tick := 10 }
     s.waits.find? (fun y => y.who == ringWait.who) = some ringWait ∧ 9 < s.tick ∧ s.stalled = []) := by decide +kernel

def fwdState (x : Queue) : State :=
  ((withQueue (cluster {}) 6143 x).wrAt F.QUE_CFG_forward 6143 1).wrAt F.QUE_STATUS_credits 6143 1
theorem test_meets_QueueCommands : ({ cluster {} with step := .none } : State).stepOpen = false ∧
    (let s := fwdState { items := [item64] }
     s.alive = true ∧ s.queueOn 6143 = true ∧ coreQueue 6143 = true ∧ s.isSetAt F.QUE_CFG_forward 6143 = true ∧ s.visible 6143 = true ∧
      0 < s.rdAt F.QUE_STATUS_credits 6143 ∧ (s.queue 6143).backlog = [] ∧ (s.queue 6143).abortDue = false ∧ s.ops = [] ∧ s.rdAt F.QUE_FWD_remote_log2_depth 6143 < 17) ∧
    (let s := { ((withQueue (cluster {}) 24 {}).wrAt F.QUE_TIMEOUT_ticks 24 9).wrAt F.VEC_CTRL_launch_queue 1 24 with tick := 10 }
     s.queueOn 24 = true ∧ s.rdAt F.QUE_TIMEOUT_ticks 24 ≠ 0xFFFFFFFF ∧ (s.queue 24).since + s.rdAt F.QUE_TIMEOUT_ticks 24 < s.tick ∧
      s.queueEmpty 24 = true ∧ s.hwConsumes 24 = true) := by decide +kernel

def ringXfer : Xfer := { dmaXfer with owner := .ring 0 3 }
theorem test_meets_VectorDmaAndTransfers_complete :
    (let s := { cluster {} with xfers := [ringXfer] }
     s.xfers.find? (fun y => y.id == ringXfer.id) = some ringXfer ∧ s.alive = true ∧ ringXfer.asked = true ∧ s.ops = [] ∧ s.xferBlocked ringXfer = none ∧
      s.srcRemote dmaWords = false ∧ s.dstRemote dmaWords = false ∧ s.tagPending 1 = false ∧ dLayout dmaWords = 0 ∧ dRows dmaWords = 1 ∧
      dDst dmaWords + dRowBytes dmaWords ≤ 0xC000000000) := by decide +kernel

/-! ### Command rings, programs and step opening -/

/-- Ring 0 at 0xB800000000 with completions at 0xB810000000, 16 slots each, and the commands given. -/
def ringed (s : State) (cs : List RingCmd) : State :=
  ((((((s.wrAt F.QUE_RING_CTRL_enable 0 1).wrAt F.QUE_RING_CTRL_cmd_log2 0 4).wrAt F.QUE_RING_CTRL_cpl_log2 0 4).wrAt F.QUE_RING_BASE_base 0
    0xB800000000).wrAt F.QUE_RING_CPL_BASE_base 0 0xB810000000)).setRing 0 { cmds := cs }
def cmd (op : Nat) (ws : List Nat) : RingCmd := { seq := 1, words := (2 ^ 32 + op * 2 ^ 24) :: ws }
def oneCmd (op : Nat) (ws : List Nat) : State := ringed (cluster {}) [cmd op ws]
/-- The command of `oneCmd` starts. -/
def startsB (s : State) (op : Nat) (ws : List Nat) : Bool := decide (s.startable 0 1 op = some { seq := 1, words := ws })

theorem starts_of_startsB {s : State} {op : Nat} {ws : List Nat} (h : startsB s op ws = true) : starts s 0 1 op ws :=
  ⟨{ seq := 1, words := ws }, of_decide_eq_true h, rfl, rfl⟩

theorem test_meets_CommandRings_control :
    (let s := (ringed (cluster {}) []).wrAt F.QUE_RING_CTRL_enable 0 0
     s.alive = true ∧ s.isSetAt F.QUE_RING_CTRL_enable 0 = false ∧ s.ringBasesOk 0 = true ∧
      (s.wrAt F.QUE_RING_BASE_base 0 (0xC000000000 - 1024 + 64)).ringBasesOk 0 = false) ∧
    (oneCmd 0 []).isSetAt F.QUE_RING_CTRL_enable 0 = true ∧ ((oneCmd 0 []).ring 0).cmds ≠ [] ∧ ((ringed (cluster {}) []).ring 0).cmds = [] ∧
    (let s := (ringed (cluster {}) []).wrAt F.QUE_RING_STATUS_stopped 0 1
     s.isSetAt F.QUE_RING_STATUS_stopped 0 = true ∧ newer32 (s.rdAt F.QUE_RING_DOORBELL_seq 0) (s.rdAt F.QUE_RING_STATE_taken 0) = false) := by
  decide +kernel

/-- An entry for command 1 lies in slot 1, and a completed command waits for its completion. -/
def entryState (op : Nat) : State := (ringed (cluster {}) []).storeN 0xB800000040 (leBytes 8 (2 ^ 32 + op * 2 ^ 24))
theorem test_meets_CommandRings_entries :
    (let s := entryState 0x25
     s.alive = true ∧ s.ringOn 0 = true ∧ s.isSetAt F.QUE_RING_STATUS_stopped 0 = false ∧ s.isSetAt F.QUE_RING_CTRL_abort 0 = false ∧
      s.cplFull 0 = false ∧ (1 + 2 ^ 32 - s.rdAt F.QUE_RING_STATUS_done 0) % 2 ^ 32 ≤ s.cmdSlots 0 ∧ s.poisonAt 0xB800000040 = false ∧
      fld (wd (s.loadWords 0xB800000040 8) 0) 63 32 = 1 ∧ cmdKnown (cmdOp (s.loadWords 0xB800000040 8)) = true ∧
      cmdKnown (cmdOp ((entryState 0x26).loadWords 0xB800000040 8)) = false) ∧
    (newer32 17 ((entryState 0).rdAt F.QUE_RING_STATE_taken 0) = true ∧
      (entryState 0).cmdSlots 0 < (17 + 2 ^ 32 - (entryState 0).rdAt F.QUE_RING_STATUS_done 0) % 2 ^ 32) ∧
    (let s := ringed (cluster {}) [{ cmd 0 [] with started := true, result := some (255, 3) }]
     s.alive = true ∧ s.cplFull 0 = false ∧ (s.ring 0).disabling = false ∧ inCarve (0xB810000000 + 1 % s.cplSlots 0 * 32) 32 = true) := by decide +kernel

/-- A doorbell takes the entry at its slot (R199). -/
theorem test_doorbell_takes : (match exec (.ringDoorbell 0 1) (entryState 2) with
    | .next t => ((t.ring 0).cmds.map (fun c => (c.seq, cmdOp c.words)), t.rdAt F.QUE_RING_STATE_taken 0)
    | _ => ([], 0)) = ([(1, 2)], 1) := by decide +kernel

/-- An earlier transfer of the ring goes into this module, or an operation of the ring waits on counter 7. -/
def ringBehind (s : State) : State := { s with xfers := [{ dmaXfer with owner := .ring 0 0 }] }
def ringWaiting (s : State) : State := { s with ops := [{ owner := .ring 0 0, node := s.self, counter := 7, value := 1 }] }
theorem test_meets_RingCommands_adds :
    starts (oneCmd 0 []) 0 1 0 (cmd 0 []).words ∧
    (starts (oneCmd 2 [131071, 5]) 0 1 2 (cmd 2 [131071, 5]).words ∧ (addTarget (cmd 2 [131071, 5]).words).2.1 = 0 ∧
      (oneCmd 2 [131071, 5]).ops = [] ∧ nothingBefore (oneCmd 2 [131071, 5]) (.ring 0 1)) ∧
    (starts (ringBehind (oneCmd 2 [131071, 5])) 0 1 2 (cmd 2 [131071, 5]).words ∧
      (ringBehind (oneCmd 2 [131071, 5])).xfersInto (.ring 0 1) (ringBehind (oneCmd 2 [131071, 5])).self ≠ []) ∧
    (let s := oneCmd 2 [39967 * 2 ^ 48 + 2 ^ 32, 5]
     starts s 0 1 2 (cmd 2 [39967 * 2 ^ 48 + 2 ^ 32, 5]).words ∧
      (s.xfersInto (.ring 0 1) 39967 = [] ∧ s.itemsInto (.ring 0 1) 39967 = [] ∧
        (addTarget (cmd 2 [39967 * 2 ^ 48 + 2 ^ 32, 5]).words).2 = (1, 39967) ∧ 39967 ≠ s.self)) := by
  refine ⟨?_, ⟨?_, ?_, ?_, ?_, ?_⟩, ⟨?_, ?_⟩, ?_, ?_⟩
  all_goals first | exact starts_of_startsB (by decide +kernel) | decide +kernel

theorem test_meets_RingCommands_counters :
    (starts (oneCmd 3 [7, 5]) 0 1 3 (cmd 3 [7, 5]).words ∧ (oneCmd 3 [7, 5]).opPending (.ring 0 1) 7 = false) ∧
    starts (oneCmd 4 [7]) 0 1 4 (cmd 4 [7]).words ∧
    (starts (oneCmd 5 [7, 0]) 0 1 5 (cmd 5 [7, 0]).words ∧ 0 ≤ (oneCmd 5 [7, 0]).counter 7) ∧
    (starts (oneCmd 5 [7, 1]) 0 1 5 (cmd 5 [7, 1]).words ∧ (oneCmd 5 [7, 1]).counter 7 < 1 ∧ fld (wd (cmd 5 [7, 1]).words 3) 31 0 = 0) ∧
    (starts (oneCmd 5 [7, 1, 1]) 0 1 5 (cmd 5 [7, 1, 1]).words ∧ (oneCmd 5 [7, 1, 1]).opPending (.ring 0 1) 7 = false ∧
      fld (wd (cmd 5 [7, 1, 1]).words 3) 31 0 ≠ 0) ∧
    (starts (ringWaiting (oneCmd 3 [7, 5])) 0 1 3 (cmd 3 [7, 5]).words ∧ (ringWaiting (oneCmd 3 [7, 5])).opPending (.ring 0 1) 7 = true) := by
  refine ⟨⟨?_, ?_⟩, ?_, ⟨?_, ?_⟩, ⟨?_, ?_⟩, ⟨?_, ?_, ?_⟩, ?_, ?_⟩
  all_goals first | exact starts_of_startsB (by decide +kernel) | decide +kernel

def ringPush (n : Nat) : State := withQueue (oneCmd 1 [n * 2 ^ 19 + 24, 0x1000]) 24 {}
def ringDma (a : Nat) (ws : List Nat) : State := (oneCmd 6 [0, a]).storeN a (wordBytes ws)
theorem test_meets_RingCommands_pushAndDma :
    ((ringPush 1024).startable 0 1 1 = some (cmd 1 [1024 * 2 ^ 19 + 24, 0x1000]) ∧ (ringPush 1024).mayPush (.ring 0) 24 = true ∧
      (ringPush 1024).mayReadHbm .dma 0x1000 (64 * 1024) = true) ∧
    ((ringPush 1025).startable 0 1 1 = some (cmd 1 [1025 * 2 ^ 19 + 24, 0x1000])) ∧
    (starts (ringDma 0x1000 dmaWords) 0 1 6 (cmd 6 [0, 0x1000]).words ∧ inCarve 0x1000 64 = false) ∧
    (starts (ringDma 0xBFFFFFFFC0 [1]) 0 1 6 (cmd 6 [0, 0xBFFFFFFFC0]).words ∧ inCarve 0xBFFFFFFFC0 64 = true ∧
      (ringDma 0xBFFFFFFFC0 [1]).poisoned 0xBFFFFFFFC0 64 = false ∧
      (ringDma 0xBFFFFFFFC0 [1]).xferBad true ((ringDma 0xBFFFFFFFC0 [1]).loadWords 0xBFFFFFFFC0 8) = true) ∧
    (starts (ringDma 0xB800010000 dmaWords) 0 1 6 (cmd 6 [0, 0xB800010000]).words ∧ inCarve 0xB800010000 64 = true ∧
      (ringDma 0xB800010000 dmaWords).poisoned 0xB800010000 64 = false ∧ (ringDma 0xB800010000 dmaWords).loadWords 0xB800010000 8 = dmaWords ∧
      (ringDma 0xB800010000 dmaWords).xferBad true dmaWords = false) := by
  refine ⟨⟨?_, ?_, ?_⟩, ?_, ⟨?_, ?_⟩, ⟨?_, ?_, ?_, ?_⟩, ?_, ?_, ?_, ?_, ?_⟩
  all_goals first | exact starts_of_startsB (by decide +kernel) | decide +kernel

/-- A program of one micro-batch and no segments at 0x10000, in a heap of 64 MiB (R205 to R207). -/
def program : List Nat := [2 ^ 60 + 2 ^ 46 + 2 ^ 34, 0x11000, 0x12000, 0x13000, 0x14000, 0, 0, 0]
def programmed (s : State) : State := ((s.wrAt F.MEM_REGION_size 7 1).storeN 0x10000 (wordBytes program)).storeN 0x11000 (wordBytes [0, 0, 0x15000, 0])
def loadState : State := { programmed (oneCmd 0x20 [0x10000]) with step := .none }
def runState (ws : List Nat) (op : Nat) : State := (programmed (oneCmd op ws)).wr F.SCH_STEP_loaded 1

theorem test_meets_StepAndJobCommands_load :
    (starts loadState 0 1 0x20 (cmd 0x20 [0x10000]).words ∧ loadState.stepOpen = false ∧ loadState.mode = .running ∧
      loadState.programBad 0x10000 = none) ∧
    (starts { programmed (oneCmd 0x20 [0x10001]) with step := .none } 0 1 0x20 (cmd 0x20 [0x10001]).words ∧
      (loadState.programBad 0x10001).map BadItem.code = some 3) ∧
    (starts (programmed (oneCmd 0x20 [0x10000])) 0 1 0x20 (cmd 0x20 [0x10000]).words ∧ (programmed (oneCmd 0x20 [0x10000])).stepOpen = true) := by
  refine ⟨⟨?_, ?_, ?_, ?_⟩, ⟨?_, ?_⟩, ?_, ?_⟩
  all_goals first | exact starts_of_startsB (by decide +kernel) | decide +kernel

theorem test_meets_StepAndJobCommands_run :
    (starts (runState [1] 0x21) 0 1 0x21 (cmd 0x21 [1]).words ∧ (runState [1] 0x21).isSet F.SCH_STEP_loaded = true ∧
      (runState [1] 0x21).tableBad (runState [1] 0x21).upd.place (runState [1] 0x21).upd.table = none ∧ (runState [1] 0x21).replicas.length ≤ 256) ∧
    (starts (oneCmd 0x21 [1]) 0 1 0x21 (cmd 0x21 [1]).words ∧ (oneCmd 0x21 [1]).isSet F.SCH_STEP_loaded = false) ∧
    (starts { oneCmd 0x22 [] with step := .molted } 0 1 0x22 (cmd 0x22 []).words ∧ ({ oneCmd 0x22 [] with step := .molted } : State).stepOpen = false ∧
      ¬(({ oneCmd 0x22 [] with step := .molted } : State).step = .discarded ∧ ({ oneCmd 0x22 [] with step := .molted } : State).mode = .held)) ∧
    (starts ((oneCmd 0x22 []).wr F.SCH_RUN_running 1) 0 1 0x22 (cmd 0x22 []).words ∧ ((oneCmd 0x22 []).wr F.SCH_RUN_running 1).stepOpen = true ∧
      ((oneCmd 0x22 []).wr F.SCH_RUN_running 1).isSet F.SCH_RUN_running = true) ∧
    starts { (oneCmd 0x22 []).wr F.SCH_RUN_running 1 with step := .discarded, mode := .held } 0 1 0x22 (cmd 0x22 []).words ∧
    (starts (oneCmd 0x23 [0, 0]) 0 1 0x23 (cmd 0x23 [0, 0]).words ∧ 0 ≤ (oneCmd 0x23 [0, 0]).instar) ∧
    (starts { oneCmd 0x23 [0, 1] with mode := .held } 0 1 0x23 (cmd 0x23 [0, 1]).words ∧ (oneCmd 0x23 [0, 1]).instar < 1) := by
  refine ⟨⟨?_, ?_, ?_, ?_⟩, ⟨?_, ?_⟩, ⟨?_, ?_, ?_⟩, ⟨?_, ?_, ?_⟩, ?_, ⟨?_, ?_⟩, ?_, ?_⟩
  all_goals first | exact starts_of_startsB (by decide +kernel) | decide +kernel

theorem test_meets_StepAndJobCommands_end :
    (starts { oneCmd 0x24 [] with step := .discarded } 0 1 0x24 (cmd 0x24 []).words ∧ ({ oneCmd 0x24 [] with step := .discarded } : State).live = false) ∧
    (starts (oneCmd 0x24 []) 0 1 0x24 (cmd 0x24 []).words ∧ (oneCmd 0x24 []).live = true) ∧
    starts { oneCmd 0x25 [] with mode := .held } 0 1 0x25 (cmd 0x25 []).words := by
  refine ⟨⟨?_, ?_⟩, ⟨?_, ?_⟩, ?_⟩
  all_goals first | exact starts_of_startsB (by decide +kernel) | decide +kernel

/-- One kept input at 0x4000000 in region 3, its table at 0x16000. -/
def openState (ready : Nat) (base : Nat) : State :=
  ((((((({ programmed (cluster {}) with step := .none } : State).wr F.SCH_STEP_header 0x10000).wr F.SCH_STEP_loaded 1).wr F.SCH_RUN_running 1).wr
    F.CHK_KEPT_NEXT_ready ready).wr F.CHK_KEPT_NEXT_count 1).wr F.CHK_KEPT_NEXT_address 0x16000 |>.wrAt F.MEM_REGION_base 3 1 |>.wrAt F.MEM_REGION_size 3 1).storeN
    0x16000 (wordBytes [base, 64])
theorem test_meets_StepsOpenAndReplay :
    ((openState 1 0x4000000).mayOpen = true ∧ (openState 1 0x4000000).isSet F.CHK_KEPT_NEXT_ready = true ∧ (openState 1 0x4000000).keptOk = true ∧
      (openState 1 0x4000000).fab.held = [] ∧ (openState 1 0x4000000).firstPoison ((openState 1 0x4000000).bankBase (openState 1 0x4000000).bank) 256 = none) ∧
    ((openState 0 0x4000000).mayOpen = true ∧ (openState 0 0x4000000).isSet F.CHK_KEPT_NEXT_ready = false) ∧
    ((openState 1 0x3FFFFC0).mayOpen = true ∧ (openState 1 0x3FFFFC0).keptOk = false) ∧
    (let s := { cluster {} with step := .discarded }
     s.alive = true ∧ s.job.losses = [] ∧ s.job.boundary = none ∧ s.isSet F.CHK_KEPT_CUR_repair = false ∧ s.upd.regenDue = false ∧
      s.mirror.pulling = false ∧ s.fab.held = [] ∧ s.firstPoison (s.bankBase s.bank) 256 = none) ∧
    ((cluster {}).store64 0 (2 ^ 48)).listsDone = false ∧
    ((cluster {}).wr F.CHK_KEPT_CUR_repair 1).isSet F.CHK_KEPT_CUR_repair = true := by decide +kernel

/-! ### Scheduling, the cocoon and the array -/

/-- A program of one micro-batch with one cocoon entry of one unit, and one segment on a wing of core 1 (R206 to R208). -/
def segProgram (hw : Bool) (seg : List Nat) (size : Nat) : State :=
  let s := ((((cluster {}).wrAt F.MEM_REGION_size 7 1).wrAt F.MEM_REGION_size 6 1).wr F.SCH_COCOON_free 1024)
  let s := ((s.wr F.SCH_STEP_header 0x10000).wr F.SCH_STEP_loaded 1).storeN 0x10000 (wordBytes program)
  let s := (s.storeN 0x11000 (wordBytes [2 ^ 28, 0, 0x15000, 0])).storeN 0x15000 (wordBytes [size * 2 ^ 40 + 2 ^ 28 + 2 ^ 17, 0x17000])
  ((s.storeN (0x13010 + 8 * bit hw) (leBytes 8 (2 ^ 48 + 0x16000))).storeN 0x16000 (wordBytes seg)).readHead 1 hw

/-- A forward segment of micro-batch 0 with two private counters from 131070, and one that asks for entry 0. -/
def fwSeg (alloc : Bool) : List Nat := [2 ^ 60 + bit alloc * 2 ^ 43 + 131070 * 2 ^ 18 + 2 * 2 ^ 10, 0, 0, 0, 0, 0, 0, 0]
/-- Admitted: one micro-batch. -/
def admit1 (s : State) : State := s.wr F.SCH_ADMIT_next 1

theorem test_meets_AdmissionAndDeadlines : (segProgram false (fwSeg false) 1).mayAdmit = true ∧
    (let s := { (segProgram false (fwSeg false) 1).setPass 0 true { start := 5 } with tick := 10 ^ 12 }
     s.alive = true ∧ s.pass? 0 true = some { start := 5 } ∧ s.past (s.mbDeadline 5 (s.expect 0 true)) = true ∧
      s.past (s.mbHard 5 (s.expect 0 true)) = true ∧ s.isSet F.SCH_LATE_valid = false ∧ (s.wr F.SCH_LATE_valid 1).isSet F.SCH_LATE_valid = true) := by
  decide +kernel

/-- A running segment whose epilogue has one entry of an opcode. -/
def epiRun (op : Nat) (ws : List Nat) (skip : Bool) : RunSeg :=
  { words := [2 ^ 60, 0, 0, 0, 0, 2 ^ 48 + 0x18000, 0, 0], skip := skip, epilogue := [(op * 2 ^ 24) :: ws] }
def epiState (op : Nat) (ws : List Nat) (skip : Bool) : State :=
  (segProgram false (fwSeg false) 1).setWing 1 false { run := some (epiRun op ws skip) }
/-- The state and the segment stand before the entry, whose opcode is `op`. -/
def epiReady (s : State) (r : RunSeg) (op : Nat) : Prop := (s.wing 1 false).run = some r ∧ s.alive = true ∧ s.coreWorks 1 = true ∧
  r.workDone = true ∧ r.epi < (segEpi r.words).1 ∧ r.epiBusy = false ∧ cmdOp (r.epilogue.getD r.epi []) = op

theorem exists_pair {α β : Type} {x : α × β} {b : β} {p : α → Prop} (h : x.2 = b) (g : p x.1) : ∃ u, x = (u, b) ∧ p u :=
  ⟨x.1, by rw [← h], g⟩

theorem test_meets_SegmentsStartAndComplete_start :
    (admit1 (segProgram false (fwSeg false) 1)).headSeg 1 false = some { words := fwSeg false } ∧
    (∃ u, (admit1 (segProgram false (fwSeg false) 1)).readyForAlloc 1 false (fwSeg false) = (u, true) ∧ u.needsAlloc (fwSeg false) = false) ∧
    (let s := segProgram true (fwSeg false) 1
     s.headSeg 1 true = some { words := fwSeg false, code := 7 } ∧ s.sched.segFailed = false ∧
      ({ s with sched := { s.sched with segFailed := true } } : State).headSeg 1 true = some { words := fwSeg false, code := 7 }) :=
  ⟨by decide +kernel, exists_pair (by decide +kernel) (by decide +kernel), by decide +kernel⟩

theorem test_meets_SegmentsStartAndComplete_complete :
    (let s := epiState 2 [131071, 1] false
     epiReady s (epiRun 2 [131071, 1] false) 2 ∧ (addTarget [2 * 2 ^ 24, 131071, 1]).2.1 = 0 ∧ s.ops = [] ∧ nothingBefore s (.epilogue 1 false)) ∧
    (epiReady (epiState 1 [] true) (epiRun 1 [] true) 1 ∧ (epiRun 1 [] true).skip = true) ∧
    (let s := (epiState 6 [0, 0x18040] false).storeN 0x18040 (wordBytes dmaWords)
     epiReady s (epiRun 6 [0, 0x18040] false) 6 ∧ s.inHeap 0x18040 64 = true ∧ s.loadWords 0x18040 8 = dmaWords ∧ s.xferBad false dmaWords = false) ∧
    epiReady (epiState 3 [] false) (epiRun 3 [] false) 3 ∧
    (let r : RunSeg := { words := fwSeg false }
     let s := (cluster {}).setWing 1 false { run := some r }
     (s.wing 1 false).run = some r ∧ s.alive = true ∧ s.working = true ∧ r.canary = none ∧ r.workDone = true ∧ (segEpi r.words).1 ≤ r.epi) := by
  unfold epiReady nothingBefore; decide +kernel

/-- A request waits. -/
def withWaiting (s : State) (q : CocoonReq) : State := { s with sched := { s.sched with waiting := [q] } }
def allocSeg : State := admit1 (segProgram false (fwSeg true) 1024)
/-- An allocation of the whole cocoon, of one unit too many, of more than is left, and one behind another. -/
theorem test_meets_CocoonRequestsAndStandins_requests :
    allocSeg.headSeg 1 false = some { words := fwSeg true } ∧
    (∃ u, allocSeg.readyForAlloc 1 false (fwSeg true) = (u, true) ∧ u.needsAlloc (fwSeg true) = true ∧ u.sched.waiting = [] ∧
      u.entrySize 0 0 = some 1024 ∧ fwWaiting u = false ∧ u.lowestRun 1024 = some 0 ∧ 1024 ≤ u.unreserved ∧ u.baseWord 0 0 + 8 ≤ 0xB800000000) ∧
    (∃ u, (admit1 (segProgram false (fwSeg true) 1025)).readyForAlloc 1 false (fwSeg true) = (u, true) ∧ u.entrySize 0 0 = none ∧ u.sched.segFailed = false) ∧
    (∃ u, (allocSeg.wr F.SCH_COCOON_free 1023).readyForAlloc 1 false (fwSeg true) = (u, true) ∧ u.unreserved < 1024) ∧
    (let q : CocoonReq := { core := 2, hw := false, mb := 0, entry := 5, units := 2000, keep := true, backward := false, since := 0 }
     ∃ u, (withWaiting allocSeg q).readyForAlloc 1 false (fwSeg true) = (u, true) ∧ fwWaiting u = true ∧
      (u.sched.waiting.any (fun q => q.mb == 0 && q.entry == 0)) = false) := by
  refine ⟨by decide +kernel, exists_pair (by decide +kernel) ?_, exists_pair (by decide +kernel) ?_, exists_pair (by decide +kernel) ?_,
    exists_pair (by decide +kernel) ?_⟩
  all_goals decide +kernel

def waitingReq (backward : Bool) : CocoonReq :=
  { core := 1, hw := backward, mb := 0, entry := 0, units := 1, keep := !backward, backward := backward, since := 0 }
theorem test_meets_CocoonRequestsAndStandins_grants :
    (∃ u, (withWaiting allocSeg (waitingReq true)).serve (waitingReq true) = (u, true) ∧
      (withWaiting allocSeg (waitingReq true)).sched.waiting.find? (fun q => q.backward) = some (waitingReq true)) ∧
    (∃ u, (withWaiting allocSeg (waitingReq false)).serve (waitingReq false) = (u, true) ∧
      (withWaiting allocSeg (waitingReq false)).sched.waiting.find? (fun q => q.backward) = none ∧
      (withWaiting allocSeg (waitingReq false)).sched.waiting.find? (fun q => !q.backward) = some (waitingReq false)) ∧
    (∃ u, (withWaiting (allocSeg.wr F.SCH_COCOON_free 0) (waitingReq false)).serve (waitingReq false) = (u, false) ∧
      (withWaiting (allocSeg.wr F.SCH_COCOON_free 0) (waitingReq false)).sched.waiting.find? (fun q => q.backward) = none) ∧
    (let s := { withWaiting allocSeg (waitingReq false) with tick := 10 ^ 12 }
     s.sched.waiting.find? (fun q => q.core == 1 && q.hw == false) = some (waitingReq false) ∧
      s.past (0 + msTicks (s.rd F.SCH_COCOON_CTRL_stall_limit_ms)) = true) ∧
    (let s := { ((cluster {}).wrAt F.MOD_CORE_MAP_suspect 1 1) with sched := { fenced := [1] } }
     s.alive = true ∧ s.sched.fenced.contains 1 = true ∧ s.suspect 1 = true ∧ s.abandonedXfers 1 = false ∧ (s.spares (quadOf 1)).head? = some 2) ∧
    (let s := { ((cluster {}).wrAt F.MOD_CORE_MAP_suspect 1 1) with sched := { fenced := [1] }, test := { retired := List.range 68 } }
     s.alive = true ∧ s.takeSpare (quadOf 1) = none ∧ s.working = true) := by
  refine ⟨exists_pair (by decide +kernel) ?_, exists_pair (by decide +kernel) ?_, exists_pair (by decide +kernel) ?_, ?_, ?_, ?_⟩
  all_goals decide +kernel

/-- A descriptor of one tile: INT8 operands, FP32 output to slot 8 (R84), with a check policy. -/
def tileDesc (policy : Nat) : List Nat :=
  [2 ^ 60 + policy * 2 ^ 55, 2 ^ 52 + 2 ^ 40 + 2 ^ 24, 0, 0, 0, 8 * 2 ^ 52, 0, 0]
def arrayState (a : ArrSt) : State := { cluster {} with arr := [(1, a)] }
def tile1 (policy : Nat) : Tile := { hw := false, chain := [tileDesc policy], m := 0, n := 0, acc := [], poison := false }

theorem test_meets_ArrayTiles :
    (let s := arrayState { fw := some { words := tileDesc 0 } }
     let u := (s.startPrepass 1 false).startPrepass 1 true
     s.arrayRuns 1 = true ∧ s.isSetAt F.ARR_CTRL_inject_mismatch (s.phys 1) = false ∧ u.wingReady 1 false = true ∧ u.wingReady 1 true = false ∧
      (s.arrAt (s.phys 1)).wing false = some { words := tileDesc 0 }) ∧
    (let s := (arrayState { fw := some { words := tileDesc 0 }, hw := some { words := tileDesc 0 } }).wrAt F.SCH_CTRL_fw_share 1 1
     let u := (s.startPrepass 1 false).startPrepass 1 true
     u.wingReady 1 false = true ∧ u.wingReady 1 true = true ∧ false = !(decide (sget 0 s.sched.arb 1 < s.rdAt F.SCH_CTRL_fw_share (s.phys 1)))) ∧
    (let s := (arrayState {}).setWingQueue 1 true [[0]]
     let u := (s.startPrepass 1 false).startPrepass 1 true
     s.arrayRuns 1 = true ∧ u.wingReady 1 true = true ∧ u.wingReady 1 false = false ∧ (u.arrAt (s.phys 1)).wing true = none ∧
      u.wingQueue 1 true = [[0]] ∧ (u.setWingQueue 1 true []).descCode 1 [0] ((u.arrAt (s.phys 1)).held true) = 1) ∧
    (let s := arrayState { hw := some { words := tileDesc 0, prepass := true } }
     s.arrayWorks 1 = true ∧ (s.arrAt (s.phys 1)).wing true = some { words := tileDesc 0, prepass := true }) ∧
    (let s := arrayState { tiles := [tile1 2], last := 1 }
     s.alive = true ∧ s.coreWorks 1 = true ∧ (s.arrAt (s.phys 1)).running = some (tile1 2) ∧ tdPolicy (tile1 2).words = 2 ∧
      (s.arrAt (s.phys 1)).oldest false = some (tile1 2) ∧ tdDest (tile1 2).words = 0) ∧
    ((arrayState { tiles := [tile1 0], last := 1 }).arrAt 1).running = some (tile1 0) ∧
    (let s := arrayState { tiles := [{ tile1 0 with void := true }], last := 1, retry := true }
     s.isSetAt F.ARR_CTRL_inject_mismatch (s.phys 1) = false ∧ (s.arrAt (s.phys 1)).retry = true ∧
      (s.arrAt (s.phys 1)).tiles = [{ tile1 0 with void := true }]) := by decide +kernel

/-! ### The row engine -/

/-- A context of operation `op` over one block, FP32 to slot 8, record slot 100 (R106). -/
def rowCtx (op : Nat) : List Nat := [op * 2 ^ 60, 2 ^ 52 + 2 ^ 40, 0, 0, 0, 0, 8 * 2 ^ 52 + 100 * 2 ^ 4, 0]
/-- Context 0 at slot 50 of core 1's tile store, if the table has an entry, with the row engine's state. -/
def rowState (op count : Nat) (r : RowSt) : State :=
  let s := (({ cluster {} with row := [(1, r)] } : State).wrAt F.ROW_CTRL_ctx_count 1 count).wrAt F.ROW_CTRL_ctx_base_slot 1 50
  s.storeN (slotAddr 1 50) (wordBytes (rowCtx op))
/-- A tile for the row engine (destination 1), FP32. -/
def rowTile1 : Tile := { hw := false, chain := [[2 ^ 60 + 2 ^ 47, 2 ^ 52 + 2 ^ 40 + 2 ^ 24, 0, 0, 0, 0, 0, 0]], m := 0, n := 0, acc := [], poison := false }
def withTile (s : State) (t : Tile) : State := { s with arr := [(1, { tiles := [t] })] }

theorem exists_some_of_any {α : Type} {o : Option α} {p : α → Bool} (h : o.any p = true) : ∃ v, o = some v ∧ p v = true := by
  cases o with
  | none => cases h
  | some v => exact ⟨v, rfl, h⟩

theorem test_meets_RowEngine_accept :
    (let s := withTile (rowState 1 0 {}) rowTile1
     s.alive = true ∧ s.coreWorks 1 = true ∧ (s.arrAt (s.phys 1)).oldest false = some rowTile1 ∧ tdDest rowTile1.words = 1 ∧
      s.ctxWords 1 (tdRowCtx rowTile1.words) = none) ∧
    (let s := withTile (rowState 1 1 { started := [100] }) rowTile1
     let u := s.cacheCtx 1 0 (rowCtx 1)
     (s.ctxWords 1 (tdRowCtx rowTile1.words) = some (rowCtx 1) ∧ s.poisonAt ((s.ctxAddr 1 0).getD 0) = false ∧ u.ctxCode 1 (rowCtx 1) = 0 ∧
      tdOutCode rowTile1.words = 0 ∧ tdDual rowTile1.words = false ∧ tdM rowTile1.words = rcM (rowCtx 1) ∧ tdN rowTile1.words = rcN (rowCtx 1) ∧
      rcTileFed (rowCtx 1) = true ∧ (u.rowAt (s.phys 1)).hasStart (rowCtx 1) = true) ∧
      ∃ v, u.acceptTile 1 0 false (rowCtx 1) (tdExtents rowTile1.words) (u.rowTile 1 rowTile1) = some v ∧ (!(v.rowAt 1).stopped) = true) := by
  refine ⟨?_, ?_, ?_⟩
  · decide +kernel
  · decide +kernel
  · exact exists_some_of_any (by decide +kernel)

def rowChunk : RowChunk := { ctx := 0, words := rowCtx 1, hw := false, tiles := [{ m := 0, n := 0, vals := [], poison := false, empty := false }] }
/-- A chunk of two row blocks, the first with tiles delivered for merging and none merged. -/
def rowChunk2 : RowChunk :=
  { ctx := 0, words := [2 ^ 60, 2 * 2 ^ 52 + 2 ^ 40, 0, 0, 0, 0, 8 * 2 ^ 52 + 100 * 2 ^ 4, 0], hw := false,
    tiles := [{ m := 0, n := 0, vals := [], poison := false, empty := false }, { m := 1, n := 0, vals := [], poison := false, empty := false }] }
def rowMerge : RowMerge := { ctx := 0, words := rowCtx 2, tile := { m := 0, n := 0, vals := [], poison := false, empty := false } }
def rowCmd (act op : Nat) (r : RowSt) : State :=
  (withQueue (rowState op 1 r) 24 { items := [{ data := wordBytes [act * 2 ^ 60, 0, 0, 0, 0, 0, 0, 0] }] }).wrAt F.ROW_CTRL_cmd_queue 1 24

theorem test_meets_RowEngine_passes :
    (let s := rowState 1 1 { chunks := [rowChunk] }
     ((s.rowAt (s.phys 1)).chunks.find? (fun k => k.ctx == 0 && k.whole && !k.rest.isEmpty)) = some rowChunk ∧
      s.passable 1 rowChunk = rowChunk.rest ∧ rcOp rowChunk.words ≠ 4 ∧ rowChunk ∉ (s.rowAt (s.phys 1)).chunks.erase rowChunk) ∧
    (let s := (rowState 1 1 { chunks := [rowChunk2] }).storeN (slotAddr 1 100) (wordBytes [2 ^ 44])
     ((s.rowAt (s.phys 1)).chunks.find? (fun k => k.ctx == 0 && k.whole && !k.rest.isEmpty)) = some rowChunk2 ∧
      s.passable 1 rowChunk2 = [1] ∧ rowChunk2.passed.length + (s.passable 1 rowChunk2).length < rcM rowChunk2.words) ∧
    (let s := (rowState 2 1 { merge := some rowMerge }).storeN (slotAddr 1 100) (wordBytes [2 ^ 44])
     (s.rowAt (s.phys 1)).merge = some rowMerge ∧ hdrScored (recordHeader s 1 (rowCtx 2) 0) ≠ hdrMerged (recordHeader s 1 (rowCtx 2) 0)) ∧
    (let s := rowState 1 1 { finished := [{ ctx := 0, words := rowCtx 1, flags := {}, feed := 0 }] }
     (s.rowAt (s.phys 1)).finished.length = 1) ∧ ((rowState 1 1 {}).rowAt 1).idle = true ∧
    ((rowState 1 1 { chunks := [rowChunk] }).rowAt 1).idle = false := by decide +kernel

theorem test_meets_RowEngine_commands :
    (let s := rowCmd 1 1 {}
     s.mayPop 1 (s.rdAt F.ROW_CTRL_cmd_queue 1) = true ∧ s.coreServed 1 = true ∧ s.visible 24 = true ∧ s.ctxWords 1 0 = some (rowCtx 1) ∧
      s.poisonAt ((s.ctxAddr 1 0).getD 0) = false ∧ (s.rowAt 1).idleFor 0 = true ∧ ((s.popFront 24).2.cacheCtx 1 0 (rowCtx 1)).ctxCode 1 (rowCtx 1) = 0 ∧
      fld (wd (bytesWords (wordBytes [2 ^ 60, 0, 0, 0, 0, 0, 0, 0])) 0) 63 60 = 1) ∧
    (let s := rowCmd 2 6 { started := [100] }
     s.ctxWords 1 0 = some (rowCtx 6) ∧ ((s.popFront 24).2.cacheCtx 1 0 (rowCtx 6)).ctxCode 1 (rowCtx 6) = 0 ∧ rcTileFed (rowCtx 6) = false ∧
      (((s.popFront 24).2.cacheCtx 1 0 (rowCtx 6)).rowAt 1).hasStart (rowCtx 6) = true ∧
      fld (wd (bytesWords (wordBytes [2 * 2 ^ 60, 0, 0, 0, 0, 0, 0, 0])) 0) 63 60 = 2) := by decide +kernel

/-! ### Scrubs, refetches and the update engines -/

theorem test_meets_ScrubAndMonitors :
    (let s := (cluster {}).wr F.MEM_CTRL_scrub_enable 1
     let demand : CodeCheck := { symbols := 6, other := true, demand := some 0xBFFFFFFFFF }
     s.alive = true ∧ s.mode ≠ .dormant ∧ s.isSet F.MEM_CTRL_scrub_enable = true ∧ s.mem.scrubAt < hbmGranules ∧
      s.poisonAt (scrubAddr s.mem.scrubAt) = false ∧ (0xBFFFFFFFFF < 0xC000000000 ∧ 6 ≤ demand.symbols ∧ demand.other = true) ∧
      s.poisonAt (0xBFFFFFFFFF / 64 * 64) = false) ∧
    (let s := { cluster {} with mem := { scrubAt := hbmGranules - 1 } }
     s.mem.scrubAt < hbmGranules) ∧
    ({ cluster {} with tick := hourTicks } : State).mem.ceHourNo < hourTicks / hourTicks ∧
    (let s := ({ cluster {} with job := { active := true } } : State).wr F.MEM_IMB_CTRL_enable 1
     s.alive = true ∧ s.job.active = true ∧ s.isSet F.MEM_IMB_CTRL_enable = true ∧
      s.tick / msTicks 100 ≤ s.mem.imbWindow ∧ ({ s with tick := msTicks 100 } : State).mem.imbWindow < msTicks 100 / msTicks 100) := by decide +kernel

theorem test_imbalance_length : (List.replicate 768 65536).length = 768 := List.length_replicate

def refetching (g : Nat) (poison : Bool) : State :=
  let s := (({ cluster {} with mem := { refetches := [{ granule := g, instar := 0, resend := false }] } } : State).wrAt F.MEM_REGION_size 0 1).wrAt F.MEM_REGION_base 1 1
  if poison then s.setPoison g true else s
theorem test_meets_RefetchesAndResidents :
    (let s := refetching 0x3FFFFC0 true
     s.alive = true ∧ s.regionOf 0x3FFFFC0 ≠ 2 ∧ s.chrys.writer = none ∧
      s.mem.refetches.find? (fun r => r.granule == 0x3FFFFC0 && r.resend == false && r.instar == s.instar) = some ⟨0x3FFFFC0, 0, false, false⟩ ∧
      s.poisonAt 0x3FFFFC0 = true ∧ s.inRegion s.bank 0x3FFFFC0 64 = true) ∧
    (refetching 0x3FFFFC0 false).poisonAt 0x3FFFFC0 = false ∧
    (let s := { refetching 0 false with job := { active := true } }
     s.regionOf 0 < 2 ∧ s.poisonAt 0 = false ∧ s.heldInstar 0 false ≠ s.heldInstar 0 false + 1) ∧
    (place 0xBFFFFFFFFF = .carve 0xBFFFFFFFFF ∧ (cluster {}).powered = true ∧ ((cluster {}).setPoison 0xBFFFFFFFFF true).poisonAt 0xBFFFFFFFFF = true) ∧
    ({ cluster {} with step := .none } : State).stepOpen = false ∧
    (let v := 3967 * 2 ^ 52 + 1 * 2 ^ 40 + 4095 * 2 ^ 28 + 1 * 2 ^ 15 + 1
     bitAt v 0 = true ∧ fld v 63 52 + fld v 51 40 ≤ 3968 ∧ fld v 39 28 + fld v 27 15 ≤ 4096) ∧
    (let v := 3967 * 2 ^ 52 + 2 * 2 ^ 40 + 1
     bitAt v 0 = true ∧ 3968 < fld v 63 52 + fld v 51 40) := by decide +kernel

/-- Two banks of 64 MiB, the heap and the gradient hold; a table of one entry of 32 parameters (R231): AdamW, or factored. -/
def upEntry (layout : Nat) : List Nat :=
  [(if layout = 2 then 3 else 0) * 2 ^ 60 + layout * 2 ^ 58 + 32, 0, 0, (if layout = 2 then 2 ^ 20 + 32 else 0), 256, 0xC000000, 0x8000000, 0x8000000]
def upState (layout : Nat) (u : UpdSt) : State :=
  let s := ({ cluster {} with upd := { u with table := [upEntry layout] } } : State)
  let s := (((s.wrAt F.MEM_REGION_size 0 1).wrAt F.MEM_REGION_base 1 1).wrAt F.MEM_REGION_size 1 1)
  let s := (((s.wrAt F.MEM_REGION_base 7 2).wrAt F.MEM_REGION_size 7 1).wrAt F.MEM_REGION_base 4 3).wrAt F.MEM_REGION_size 4 1
  (s.wrAt F.UPD_ENGINE_in_service 0 1).wrAt F.UPD_ENGINE_in_service 1 1

theorem test_meets_UpdateEnginePasses_stripe :
    let s := (upState 0 { chunks := [(0, 0, 1)] }).wr F.UPD_CTRL_mode 0
    s.stripeAt 0 = some (0, upEntry 0, 0) ∧ s.updating = true ∧ s.upd.copying = false ∧ s.engineUp 0 = true ∧ s.engineOf 0 = 0 ∧
    s.stripeDone 0 = false ∧ s.gradReady 0 0 = true ∧ s.nextOf 0 0 = true ∧ s.firstPoison (s.stripeAddr s.bank (upEntry 0) 0) (stripeSize (upEntry 0)) = none ∧
    s.fencedAt s.incoming (ueOff (upEntry 0)) (stripeSize (upEntry 0)) = false ∧ sget false s.upd.rerun (stripeKey 0 0) = false ∧
    sget false (upState 0 { rerun := [(stripeKey 0 0, true)] }).upd.rerun (stripeKey 0 0) = true := by decide +kernel

theorem test_meets_UpdateEnginePasses_factor :
    (let s := (upState 2 { normDone := true }).wr F.UPD_CTRL_mode 1
     s.updating = true ∧ ueFactored (upEntry 2) = true ∧ s.factorDone 0 = false ∧ s.arrival = false ∧ s.upd.normOr = false ∧
      s.engineUp (s.engineOf (s.firstStripe 0)) = true ∧ s.firstPoison (s.rowAddr s.bank (upEntry 2) 0) (factorBytes (upEntry 2)) = none ∧
      s.fencedAt s.incoming (ueOff (upEntry 2) + rowFactorOff (upEntry 2)) (factorBytes (upEntry 2)) = false) ∧
    (let s := upState 2 { copying := true }
     s.updating = true ∧ s.stripeAt 0 = some (0, upEntry 2, 0) ∧ s.stripeDone 0 = false ∧ s.stripeAt 1 = none ∧ 1 - s.shardStripes = 0 ∧
      sget false s.upd.rerun (stripeKey 0 0) = false ∧
      s.fencedAt s.incoming (ueOff (upEntry 2)) (stripeSize (upEntry 2)) = false ∧ s.firstPoison (s.stripeAddr s.bank (upEntry 2) 0) (stripeSize (upEntry 2)) = none ∧
      s.rowAddr s.incoming (upEntry 2) 0 + factorBytes (upEntry 2) ≤ 0xB800000000) ∧
    (let s := upState 0 { copying := true, stripes := [(0, true)] }
     s.updating = true ∧ s.headerDue = true ∧ s.firstPoison (s.bankBase s.bank) 256 = none ∧ s.headerFenced s.incoming = false ∧
      s.bankBase s.incoming + 256 ≤ 0xB800000000) := by decide +kernel

/-- The shortest image: one END (R245). -/
def image1 : List Nat := 2 ^ 56 :: List.replicate 39 0
theorem test_meets_UpdateEnginePasses_loads :
    (let s := { upState 0 { regenDue := true } with job := { active := true }, step := .none }
     s.regenMay = false ∧ (s.wr F.UPD_STATUS_table_loaded 1).regenMay = true ∧
      ∀ p ∈ s.allWork, s.firstPoison (s.stripeAddr s.bank p.1.2 p.2) 8192 = none) ∧
    (upState 0 {}).stepOpen = true ∧
    (let s := { upState 0 {} with step := .none }
     let u := (s.wr F.UPD_LOAD_load_table 1).wr F.UPD_LOAD_load_table 0
     s.isSet F.UPD_LOAD_load_ucode = false ∧ s.isSet F.UPD_LOAD_load_table = false ∧ u.tableBad (0, 0x8000000) [] = none ∧
      (u.tableBad (1, 0) [upEntry 0]).map Prod.fst = some 4) ∧
    (let s := ({ upState 0 {} with step := .none } : State).wr F.UPD_UCODE_address (0xC000000 - 320) |>.storeN (0xC000000 - 320) (leBytes 8 (2 ^ 56))
     s.inHeap (0xC000000 - 320) 320 = true ∧ imgBad (s.loadWords (0xC000000 - 320) 40) = none) ∧
    ({ upState 0 {} with step := .none } : State).inHeap 0 320 = false := by decide +kernel

/-- ST may name each of W, M1 and WORK once (R239). -/
def ucState (uc : UcSt) : State := (upState 0 { chunks := [(0, 0, 1)], uc := uc }).wr F.UPD_CTRL_mode 0
theorem test_meets_MicrocodeOperations :
    (let s := ucState { index := 31 }
     (s.ucHere = s.upd.uc ∧ s.ucRuns s.upd.uc = true ∧
      s.firstPoison (s.stripeAddr s.bank (s.ucEntry s.upd.uc) (s.upd.uc.index / 2048)) (stripeSize (s.ucEntry s.upd.uc)) = none) ∧
      s.ucLast s.upd.uc = true ∧ ucHasSource (ueLayout (upEntry 0)) 15 = true ∧ ucHasDest (ueLayout (upEntry 0)) 4 = true ∧
      sget? s.upd.uc.stores 4 = none ∧ (s.gradVal (upEntry 0) 31).isFinite = true) ∧
    (let s := (ucState {}).storeN 0xC000000 [0xFF, 0xFF, 0xFF, 0xFF]
     s.ucHere = s.upd.uc ∧ s.ucRuns s.upd.uc = true ∧ s.ucLast s.upd.uc = false ∧ ucHasSource (ueLayout (upEntry 0)) 0 = true ∧
      (s.gradVal (upEntry 0) 0).isFinite = false) := by decide +kernel

/-! ### The fabric -/

/-- A job of two ranks on modules 0 and 5, with port 71 UP towards module 5. -/
def fabState : State :=
  let s := ({ cluster {} with job := { active := true, shapes := [⟨2, 1, 1, 1, 1⟩], map := [(0, ⟨0, 5, 0⟩), (1, ⟨5, 0, 0⟩)] } } : State)
  ((s.wrAt F.PORT_STATUS_state 71 4).wrAt F.PORT_PEER_peer_addr 71 5).wr F.MOD_JOB_rank_count_m1 1
/-- With the CRC of link count 0 (R292). -/
def withCrc (f : Flit) : Flit := { f with crc := flitCrc 0 f }
/-- A flit from module 5 in the current attempt. -/
def flit (ty : FlitType) (addr : Nat) (ordered : Bool) (seq : Nat) (bs : List Byte) : Flit :=
  withCrc
  { dstModule := 0, dstAddr := addr, srcModule := 5, epoch := 0, seq := seq, type := ty, cls := 2, nonmin := false, hops := 1, poison := 0,
    jobId := 0, step := 1, replay := 0, via := 0, ordered := ordered, payload := bs, port := 71 }

/-- The state that a taken flit leaves. -/
def taken? (v : Verdict) : Option State := match v with
  | .take u => some u
  | _ => none

theorem takes_of {s : State} {f : Flit} {ty : FlitType} {p : State → Bool}
    (h : (s.arrives f ty && f.crc == flitCrc (s.port f.port).rx f && (taken? ((s.linkTake f.port).receive f)).any p) = true) :
    ∃ u, takes s f ty u ∧ p u = true := by
  simp only [Bool.and_eq_true, beq_iff_eq] at h
  obtain ⟨u, hu, hp⟩ := exists_some_of_any h.2
  refine ⟨u, ⟨h.1.1, h.1.2, ?_⟩, hp⟩
  unfold taken? at hu
  split at hu
  · rename_i v hv; rw [hv, Option.some.inj hu]
  · cases hu

def held? (v : Verdict) : Option State := match v with
  | .hold u => some u
  | _ => none

theorem holds_of {s : State} {f : Flit} {ty : FlitType} {p : State → Bool}
    (h : (s.arrives f ty && f.crc == flitCrc (s.port f.port).rx f && (held? ((s.linkTake f.port).receive f)).any p) = true) :
    ∃ u, s.arrives f ty = true ∧ f.crc = flitCrc (s.port f.port).rx f ∧ (s.linkTake f.port).receive f = .hold u ∧ p u = true := by
  simp only [Bool.and_eq_true, beq_iff_eq] at h
  obtain ⟨u, hu, hp⟩ := exists_some_of_any h.2
  refine ⟨u, h.1.1, h.1.2, ?_, hp⟩
  unfold held? at hu
  split at hu
  · rename_i v hv; rw [hv, Option.some.inj hu]
  · cases hu

/-- Numbers 65535 and 0 are the two sides of the wrap. -/
theorem test_meets_ReceptionOfFlits :
    (cluster {}).alive = true ∧ ({ cluster {} with mode := .standby } : State).alive = false ∧
    ((flit .write 64 false 0 []).dstModule = fabState.self ∧ ({ flit .write 64 false 0 [] with dstModule := 6 }).dstModule ≠ fabState.self ∧
      fabState.inJob { flit .write 64 false 0 [] with jobId := 1 } = false) ∧
    newer32 (fabState.wr F.MOD_MAP_EPOCH_epoch 1).epoch (extend16 32 (fabState.wr F.MOD_MAP_EPOCH_epoch 1).epoch 0) = true ∧
    (fabState.inJob (flit .write 64 false 0 []) = true ∧ newer32 fabState.epoch (extend16 32 fabState.epoch 0) = false) ∧
    (let s := fabState.wr F.MOD_STEP_replay_count 1
     s.inJob (flit .write 64 false 0 []) = true ∧ (s.flitAttempt (flit .write 64 false 0 [])).before s.attempt = true) ∧
    (newer32 (extend16 32 fabState.epoch 0) fabState.epoch = false ∧ (fabState.rxSpace (spaceKey 5 false)).has 0 = false) ∧
    (let f := { flit .syncAdd 64 true 0 [] with replay := 1 }
     fabState.inJob f = true ∧ (fabState.flitAttempt f).before fabState.attempt = false ∧ fabState.attempt.before (fabState.flitAttempt f) = true ∧
      fabState.ended (spaceKey 5 true) 0 (fabState.flitAttempt f) = false ∧
      (fabState.laterRx (spaceKey 5 true) 0 (fabState.flitAttempt f)).has 0 = false ∧
      0 = (fabState.laterRx (spaceKey 5 true) 0 (fabState.flitAttempt f)).next) ∧
    (fabState.flitAttempt (flit .write 64 false 0 []) = fabState.attempt ∧ (fabState.rxSpace (spaceKey 5 false)).has 65535 = true) ∧
    ((fabState.rxSpace (spaceKey 5 true)).has 1 = false ∧ 1 ≠ (fabState.rxSpace (spaceKey 5 true)).next) ∧
    (fabState.live = true ∧ (fabState.rxSpace (spaceKey 5 true)).has 0 = false ∧ 0 = (fabState.rxSpace (spaceKey 5 true)).next) := by
  decide +kernel

def bytes64 : List Byte := List.replicate 64 7
/-- A READ_REQ of 256 bytes for context 3. -/
def readReq (a : Nat) : Flit := flit .readReq a false 0 (wordBytes [0, 3, 256, 0])
def boundState : State :=
  (((fabState.wrAt F.QUE_CFG_enable 6144 1).wrAt F.QUE_CFG_log2_depth 6144 4).wrAt F.QUE_FWD_node 6144 5).wrAt F.QUE_FWD_remote_queue 6144 24
def itemFlit : Flit := flit .queueItem (6144 + 24 * 2 ^ 16) true 0 bytes64

theorem test_meets_FlitsAct_memory :
    (∃ u, takes fabState (flit .write 0xB7FFFFFFC0 false 0 bytes64) .write u ∧ (u.mayWriteHbm .dma 0xB7FFFFFFC0 64 &&
      !u.toMirror (flit .write 0xB7FFFFFFC0 false 0 bytes64) && (fabState.linkTake 71).mirrorWait (flit .write 0xB7FFFFFFC0 false 0 bytes64) == none) = true) ∧
    (∃ u, takes fabState (flit .write 0xB800000000 false 0 bytes64) .write u ∧
      (!u.mayWriteHbm .dma 0xB800000000 64 && !inTiles 0xB800000000 64 && !u.toMirror (flit .write 0xB800000000 false 0 bytes64) &&
        (fabState.linkTake 71).mirrorWait (flit .write 0xB800000000 false 0 bytes64) == none) = true) ∧
    (∃ u, takes fabState (readReq 0) .readReq u ∧
      (u.mayReadHbm .dma 0 256 && (fabState.linkTake 71).readWait (readReq 0) == none && flitReadKind (readReq 0) == 0) = true) ∧
    (∃ u, takes fabState (readReq 0xB800000000) .readReq u ∧
      (!u.mayReadHbm .dma 0xB800000000 256 && !inTiles 0xB800000000 256 && (fabState.linkTake 71).readWait (readReq 0xB800000000) == none) = true) := by
  refine ⟨?_, ?_, ?_, ?_⟩ <;> exact takes_of (by decide +kernel)

/-- A transfer that reads module 5. -/
def remoteWords : List Nat := [0x10000, 0x20000, 64 * 2 ^ 44 + 2 ^ 28, 0, 2 ^ 60 + 1 * 2 ^ 58, 0, 0, 0]
def remoteXfer : Xfer := { id := 1, core := 1, owner := .ring 0 3, words := [0x10000 + 5 * 2 ^ 48, 0x20000, 64 * 2 ^ 44 + 2 ^ 28, 0, 2 ^ 60 + 2 ^ 58, 0, 0, 0], asked := true }
def sent (n : Nat) : TxFlit := { tag := 1, flit := { flit .write 64 false 9 bytes64 with dstModule := 5, srcModule := 0 }, sentAt := 0, sends := n }
def sentState (n : Nat) : State := { fabState with xfers := [remoteXfer], fab := { tx := [(spaceKey 5 false, { next := 10, unacked := [sent n] })] }, tick := 10 ^ 9 }
theorem test_meets_FlitsAct_rest :
    (∃ u, takes { fabState with xfers := [remoteXfer] } (flit .readData (2 ^ 36) false 0 bytes64) .readData u ∧
      (u.xfers.any (u.readsUnder 1)) = true) ∧
    (∃ u, takes { fabState with xfers := [remoteXfer] } (flit .readData (2 ^ 46 + 2 ^ 16 + 1) false 0 bytes64) .readData u ∧
      (u.xfers.any (u.readsUnder 1)) = true) ∧
    (∃ u, takes (sentState 0) (flit .readData (2 ^ 46 + 9) false 0 bytes64) .readData u ∧
      ((u.txSpace (spaceKey 5 false)).unacked.find? (fun t => t.flit.seq == 9) == some (sent 0) && u.xfers.any (fun x => x.id == (sent 0).tag)) = true) ∧
    (∃ u, takes fabState itemFlit .queueItem u ∧ (!u.itemBound itemFlit) = true) ∧
    (∃ u, takes boundState itemFlit .queueItem u ∧
      (u.itemBound itemFlit && !u.fullFor .router 6144 && (u.queue 6144).backlog.isEmpty) = true) ∧
    (∃ u, takes (withQueue boundState 6144 { items := List.replicate 16 { data := bytes64 } }) itemFlit .queueItem u ∧
      (u.itemBound itemFlit && u.fullFor .router 6144 && (u.queue 6144).backlog.isEmpty) = true) ∧
    (∃ u, ({ boundState with step := .none } : State).arrives itemFlit .queueItem = true ∧
      itemFlit.crc = flitCrc (({ boundState with step := .none } : State).port 71).rx itemFlit ∧
      (({ boundState with step := .none } : State).linkTake 71).receive itemFlit = .hold u ∧ u.itemBound itemFlit = true) ∧
    (∃ u, takes fabState (flit .syncAdd 131071 true 0 bytes64) .syncAdd u ∧ counterOk 131071 = true) := by
  refine ⟨?_, ?_, ?_, ?_, ?_, ?_, ?_, ?_⟩
  all_goals first | exact takes_of (by decide +kernel) | exact holds_of (by decide +kernel)

theorem test_meets_AcksAndTimers :
    (let f := flit .ack 0 false 0 (ackBytes {})
     fabState.arrives f .ack = true ∧ f.crc = flitCrc (fabState.port f.port).rx f ∧ fabState.inJob f = true ∧ newer32 fabState.epoch (extend16 32 fabState.epoch f.epoch) = false ∧
      fabState.flitAttempt f = fabState.attempt) ∧
    (let s := { fabState with fab := { rx := [(spaceKey 5 true, { owed := 1 })] }, tick := 10 ^ 9 }
     0 < (s.rxSpace (spaceKey 5 true)).owed ∧ s.past (0 + usTicks 2) = true) ∧
    ((sentState 0).txSpace (spaceKey 5 false)).unacked.find? (fun t => t.flit.seq == 9) = some (sent 0) ∧
    (sentState 0).past (0 + usTicks ((sentState 0).rd F.FAB_RETX_CTRL_timeout_us)) = true ∧
    (sent 0).sends < (sentState 0).rd F.FAB_RETX_CTRL_max_retx ∧ (sentState 0).rd F.FAB_RETX_CTRL_max_retx ≤ (sent 255).sends ∧
    (let s := { fabState with tick := 10 ^ 9 }
     s.linkLit 71 = true ∧ (s.port 71).sentAt + usTicks (s.rd F.FAB_HB_CTRL_interval_us) ≤ s.tick ∧
      s.past ((s.port 71).heardAt + usTicks (s.rd F.FAB_HB_CTRL_timeout_us)) = true) ∧
    (fabState.isFabric 71 = true ∧ (fabState.hotOf 71).hot = false) ∧
    (let s := { fabState with fab := { hot := [(71, { hot := true })] }, tick := 10 ^ 11 }
     (s.hotOf 71).hot = true ∧ s.isSet F.FAB_HOTSPOT_valid = false ∧
      (s.hotOf 71).hotSince + msTicks (s.rd F.FAB_HOT_CTRL_hotspot_ms) ≤ s.tick) ∧
    (({ fabState with fab := { hot := [(71, { fullSince := some 0 })] } } : State).hotOf 71).fullSince = some 0 := by decide +kernel

/-- A descriptor over all ranks (R270): FP32 throughout, 32 elements in chunks of 32 from 0x10000 to 0x20000. -/
def collWords (op : Nat) : List Nat :=
  [op * 2 ^ 60 + 63 * 2 ^ 30, 7 * 2 ^ 32, 32 * 2 ^ 24, 32 * 2 ^ 24, 0x10000, 0x20000, 0, 0]
def collState (w : List Nat) : State :=
  (withQueue fabState 24 { items := [{ data := wordBytes w }] }).wr F.FAB_COLL_CTRL_queue 24 |>.wr F.FAB_COLL_CTRL_enable 1

theorem test_meets_Collectives_start : ∀ op ∈ [1, 2, 3, 4, 5], (let s := collState (collWords op)
    let w := bytesWords ((s.queue 24).items.headD { data := [] }).data
    s.rd F.FAB_COLL_CTRL_queue = 24 ∧ s.alive = true ∧ s.live = true ∧ s.isSet F.FAB_COLL_CTRL_enable = true ∧ s.queueOn 24 = true ∧
    s.isSetAt F.QUE_CFG_forward 24 = false ∧ s.visible 24 = true ∧ s.inFlight < 16 ∧ cOp w = op ∧ (s.popFront 24).1.poison = false ∧
    s.fab.early = [] ∧ (s.queue 24).backlog = [] ∧ (s.queue 24).abortDue = false ∧ coreQueue 24 = true ∧ (s.popFront 24).2.collCode w = 0 ∧ s.collBlocked w = none) := by
  simp only [List.forall_mem_cons, List.not_mem_nil, false_implies, implies_true, and_true]
  refine ⟨?_, ?_, ?_, ?_, ?_⟩
  all_goals decide +kernel

theorem test_meets_Collectives_reject : let s := collState ((2 ^ 60 + 63 * 2 ^ 30) :: List.replicate 7 0)
    let w := bytesWords ((s.queue 24).items.headD { data := [] }).data
    cOp w = 1 ∧ (s.popFront 24).2.collCode w = 4 := by decide +kernel

def collFlit (dig : Nat) : Flit := flit .collData 0 false 0 (collBytes 3 0 0 false (cId (collWords 1)) 0 0 dig [])
def aColl : Coll := { id := cId (collWords 1), words := collWords 1, placed := 32 }
/-- A digest that names another axis_mask. -/
def otherAxes : Flit := flit .collData 0 false 0 (collBytes 3 0 0 false (cId (collWords 1) + 2 ^ 33) 0 0 5 [])
theorem test_meets_Collectives_data :
    (∃ u, takes fabState (collFlit 0) .collData u ∧ ((u.fab.colls.find? (fun c => c.id == collFlitId (collFlit 0))).isNone && (u.fab.colls.find? (fun c => u.digestMeets c (collFlit 0))).isNone) = true) ∧
    (∃ u, takes { fabState with fab := { colls := [aColl] } } (collFlit (cDigest (collWords 1))) .collData u ∧
      (u.fab.colls.find? (fun c => c.id == collFlitId (collFlit 0)) == some aColl &&
        field (collFlit (cDigest (collWords 1))).payload 32 32 == cDigest aColl.words) = true) ∧
    (∃ u, takes { fabState with fab := { colls := [aColl] } } (collFlit 5) .collData u ∧
      (u.fab.colls.find? (fun c => c.id == collFlitId (collFlit 0)) == some aColl && field (collFlit 5).payload 32 32 != cDigest aColl.words &&
        field (collFlit 5).payload 0 1 == 3) = true) ∧
    (∃ u, takes { fabState with fab := { colls := [aColl] } } otherAxes .collData u ∧ (!u.fab.colls.any (fun c => c.id == collFlitId otherAxes) &&
      u.fab.colls.find? (fun c => u.digestMeets c otherAxes) == some aColl && field otherAxes.payload 32 32 != cDigest aColl.words) = true) ∧
    (let s := { fabState with fab := { colls := [aColl] } }
     s.live = true ∧ s.fab.colls.find? (fun c => cSeq c.words == 7 && !c.done && !c.isNorm &&
      c.placed == dstCount c.words (s.communicator c.words).length (s.memberIndex c.words)) = some aColl ∧ cReport aColl.words = false) := by
  refine ⟨?_, ?_, ?_, ?_, by decide +kernel⟩ <;> exact takes_of (by decide +kernel)

/-! ### Ports, links and the bridge -/

/-- Port 71 in a state, with its link record. -/
def portState (st : Nat) (p : PortSt) : State :=
  { ((cluster {}).wrAt F.PORT_STATUS_state 71 st).wrAt F.PORT_CTRL_enable 71 1 with links := { ports := [(71, p)] }, tick := 10 ^ 9 }
def linkMsg (kind at_ : Nat) (bs : List Byte) : List Byte := linkBytes kind at_ bs
def linkReachesB (s : State) (o kind : Nat) (b : List Byte) : Bool :=
  s.portsLive && s.isFabric o && decide (3 ≤ s.portState o) && decide (b.length = 64) && decide (field b 0 1 = kind) &&
    decide (1 ≤ kind) && decide (kind ≤ 9) && linkTakes (s.portState o) kind

theorem linkReaches_of {s : State} {o kind : Nat} {b : List Byte} (h : linkReachesB s o kind b = true) : linkReaches s o kind b := by
  simp only [linkReachesB, Bool.and_eq_true, decide_eq_true_eq] at h
  exact ⟨h.1.1.1.1.1.1.1, h.1.1.1.1.1.1.2, h.1.1.1.1.1.2, h.1.1.1.1.2, h.1.1.1.2, h.1.1.2, h.1.2, h.2⟩

theorem test_meets_PortBringup :
    ((portState 0 {}).portsLive = true ∧ (portState 1 {}).isSetAt F.PORT_CTRL_enable 71 = true ∧ (portState 1 {}).portState 71 = 1 ∧
      0 + sTicks 1 ≤ (portState 1 {}).tick) ∧
    ((portState 2 {}).portState 71 = 2 ∧ (portState 3 {}).portState 71 = 3 ∧ (portState 2 {}).past (0 + msTicks 100 - 1) = true) ∧
    ((portState 2 {}).usableLanes 71 15 ≠ 0 ∧ (portState 2 {}).portClass 71 ≠ 2 ∧
      ((portState 2 {}).wrAt F.PORT_STATUS_role_class 71 2).portClass 71 = 2 ∧ ((portState 2 {}).wrAt F.PORT_STATUS_role_class 71 2).usableLanes 71 15 ≠ 0 ∧
      ((portState 2 {}).wrAt F.PORT_STATUS_role_class 71 2).usableLanes 71 7 = 0) ∧
    (((portState 3 {}).port 71).acked = false ∧ 0 + usTicks 10 ≤ (portState 3 {}).tick) ∧
    ((portState 3 { acked := true }).port 71).acked = true ∧
    (((portState 3 { hello := linkMsg 1 8 [1] }).port 71).hello.drop 1 = (linkMsg 2 8 [1]).drop 1 ∧ ((portState 3 {}).port 71).peer = []) := by
  decide +kernel
/-- A HELLO of serial number 9, protocol version 4, from module 5. -/
def helloMsg : List Byte := [1, 4, 2, 0, 0, 0, 0, 0] ++ leBytes 8 9 ++ leBytes 2 5 ++ List.replicate 46 0
theorem test_meets_PortBringup_hellos :
    (linkReaches (portState 4 {}) 71 1 (linkMsg 1 8 [9]) ∧ (portState 4 {}).holdCause 71 (linkMsg 1 8 [9]) ≠ 0) ∧
    (linkReaches (portState 5 {}) 71 1 helloMsg ∧ field helloMsg 7 1 = 0) ∧
    (let s := (portState 6 { aligned := true, before := some (9, 0) }).wrAt F.PORT_STATUS_lanes_up 71 15
     linkReaches s 71 1 helloMsg ∧ ((s.port 71).before = some (field helloMsg 8 8, field helloMsg 5 1) ∧
      s.minLanes 71 ≤ popcount4 (s.rdAt F.PORT_STATUS_lanes_up 71) ∧ field helloMsg 2 1 ≠ 0 ∧ s.rdAt F.PORT_STATUS_hold_cause 71 = 0)) := by
  refine ⟨⟨?_, ?_⟩, ⟨?_, ?_⟩, ?_, ?_⟩
  all_goals first | exact linkReaches_of (by decide +kernel) | decide +kernel
theorem test_meets_PortBringup_hello : linkReaches (portState 3 { acked := true }) 71 1 (linkMsg 1 8 [9]) ∧
    linkReaches (portState 3 { hello := linkMsg 1 8 [1] }) 71 2 (linkMsg 2 8 [1]) ∧
    field (linkMsg 1 8 (leBytes 8 ((portState 3 {}).rd F.MOD_SERIAL_serial))) 8 8 = (portState 3 {}).rd F.MOD_SERIAL_serial :=
  ⟨linkReaches_of (by decide +kernel), linkReaches_of (by decide +kernel), by decide +kernel⟩

theorem test_meets_LinkLayer_flits :
    linkReaches (portState 4 {}) 71 3 (linkMsg 3 8 []) ∧ (linkReaches (portState 4 {}) 71 4 (linkMsg 4 2 (leBytes 2 5)) ∧ ((portState 4 {}).port 71).vcs = []) ∧
    (linkReaches (portState 4 { nakIn := (5, 6) }) 71 5 (linkMsg 5 2 (leBytes 2 5)) ∧ (nakRun (5, 6) 5).2 < 8) ∧
    (linkReaches (portState 4 { nakIn := (5, 7) }) 71 5 (linkMsg 5 2 (leBytes 2 5)) ∧ 8 ≤ (nakRun (5, 7) 5).2 ∧ (portState 4 {}).mayRetrain 71 = true) ∧
    (linkReaches (portState 4 {}) 71 6 (linkMsg 6 2 [3]) ∧ (portState 4 {}).mayRetrain 71 = true) ∧ (linkReaches (portState 4 {}) 71 7 (linkMsg 7 8 []) ∧ (portState 4 {}).portClass 71 = 0) ∧
    (linkReaches (portState 4 {}) 71 8 (linkMsg 8 8 []) ∧ (portState 4 {}).portState 71 = 4) ∧
    (linkReaches (portState 7 {}) 71 9 (linkMsg 9 8 []) ∧ (portState 7 {}).portState 71 = 7) := by
  refine ⟨?_, ⟨?_, ?_⟩, ⟨?_, ?_⟩, ⟨?_, ?_, ?_⟩, ⟨?_, ?_⟩, ⟨?_, ?_⟩, ⟨?_, ?_⟩, ?_, ?_⟩
  all_goals first | exact linkReaches_of (by decide +kernel) | decide +kernel

theorem test_meets_LinkLayer_lanes :
    ((portState 4 {}).linkLit 71 = true ∧ (portState 5 {}).linkLit 71 = true) ∧
    ((portState 6 {}).isFabric 71 = true ∧ (portState 6 {}).portState 71 = 6 ∧ (portState 6 {}).past (0 + msTicks 10 - 1) = true) ∧
    (let s := (portState 4 {}).wrAt F.PORT_STATUS_lanes_up 71 15
     s.mayRetrain 71 = true ∧ Nat.land (s.linkLanes 71) 8 ≠ 0) ∧
    ((portState 4 {}).portsLive = true ∧ (((portState 4 {}).wrAt F.PORT_STATUS_role_class 71 2).isFabric 71 = false)) ∧
    (let s := ((portState 4 {}).wrAt F.PORT_STATUS_role_class 71 2).wrAt F.PORT_STATUS_lanes_up 71 15
     s.portClass 71 = 2 ∧ s.portState 71 = 4 ∧ s.rdAt F.PORT_STATUS_lanes_up 71 < 16 ∧ Nat.land (s.rdAt F.PORT_STATUS_lanes_up 71) 4 ≠ 0) ∧
    (let s := { portState 4 {} with mode := .dormant }
     s.portState 71 = 4 ∧ s.past (0 + msTicks 1 - 1) = true) ∧
    ({ portState 4 {} with tick := hourTicks } : State).links.berHour < hourTicks / hourTicks := by decide +kernel

/-- Port 75 UP as a bridge port; the ring lies at 0xB800000000, its window is the heap. -/
def bridgeState (w : List Nat) (xs : List BridgeXfer) : State :=
  let s := ((((cluster {}).wr F.PORT_BR_CTRL_enable 1).wrAt F.PORT_STATUS_state 75 4).wrAt F.PORT_STATUS_state 72 4).wrAt F.MEM_REGION_size 7 1
  let s := ((s.wr F.PORT_BR_RING_base 0xB800000000).wr F.PORT_BR_WINDOW_size 1).wr F.PORT_BR_CTRL_queue 24
  { withQueue s 24 {} with links := { bridge := xs } }.storeN (0xB800000000 + 1 % (withQueue s 24 {}).bridgeEntries * 32) (wordBytes w)
/-- 64 bytes at 0x3FFFFC0 from (2) or to (1) the peer of port 75. -/
def brWords (dir : Nat) : List Nat := [dir * 2 ^ 62 + 3 * 2 ^ 60 + 0x3FFFFC0, 0x1000, 64, 2 ^ 32]

theorem test_meets_BridgeAndFrontEnd_ring :
    (let s := bridgeState (brWords 2) []
     s.alive = true ∧ s.isSet F.PORT_BR_CTRL_enable = true ∧ s.isSet F.PORT_BR_STATUS_valid = false ∧ s.links.bridge.length < 8 ∧
      (s.links.bridgeTaken + 1) % 2 ^ 32 = 1 ∧ newer32 1 s.links.bridgeTaken = true ∧ s.bridgeBad (s.loadWords (s.bridgeSlot 1) 4) 1 = 0) ∧
    (let s := bridgeState [0, 0, 0, 0] []
     s.bridgeBad (s.loadWords (s.bridgeSlot 1) 4) 1 = 1) ∧
    (let s := bridgeState [] [⟨1, brWords 2⟩]
     s.bridgeBad (brWords 2) 1 = 0 ∧ brDir (brWords 2) = 2 ∧ bytes64.length = brLen (brWords 2) ∧ brLocal (brWords 2) + brLen (brWords 2) ≤ 0xB800000000 ∧
      s.bridgeBad (brWords 1) 1 = 0 ∧ brDir (brWords 1) = 1) ∧
    newer32 ((bridgeState [] []).rd F.PORT_BR_DOORBELL_seq) (bridgeState [] []).links.bridgeTaken = false := by decide +kernel

/-- A frame for front-end port 0, and the port with queue pair 3 and one address. -/
def feFrame (b : FeBody) : FeFrame := { length := 9216, mac := 2 ^ 40, vlan := none, addr := 17, marked := false, secured := none, body := b }
def feState : State :=
  let s := (portState 4 {}).wrAt F.PORT_STATUS_role_class 71 2
  { s with links := { s.links with fe := [(0, { addrs := [17], pairs := [⟨3, 0, 1⟩] })] } }
def fullQueue : Queue := { items := List.replicate 16 item64 }
theorem test_meets_BridgeAndFrontEnd_peers :
    (let s := bridgeState [] []
     s.portState (72 + 3) = 4 ∧ s.portState (72 + 0) = 4 ∧ s.inWindow 0x3FFFFC0 64 = true ∧ s.inWindow 0x3FFFFC1 64 = false ∧
      s.rd F.PORT_BR_CTRL_queue = 24 ∧ s.queueOn 24 = true ∧ s.fullFor (.bridge 3) 24 = false ∧
      (s.setQueue 24 fullQueue).fullFor (.bridge 3) 24 = true) ∧
    (feState.frontPort 0 = some 71 ∧ feState.portsLive = true ∧ feState.portState 71 = 4 ∧
      (∀ b ∈ [FeBody.rdmaWrite 3 0 bytes64, .rdmaWrite 3 0xB800000000 bytes64, .connect 4 15 64, .disconnect 3, .mka (some ⟨false, 0, 1⟩), .other],
        feState.feAccepts 0 71 (feFrame b) = true) ∧
      feState.mayWriteHbm .dma 0 64 = true ∧ feState.mayWriteHbm .dma 0xB800000000 64 = false ∧
      feState.feAccepts 0 71 { feFrame .other with length := 9217 } = false) := by decide +kernel

/-! ### The molt barrier, digests, canaries and the mirror -/

/-- The payload of a barrier message: its kind, code, step 1, and an origin. -/
def ctrlBytes (kind code org : Nat) : List Byte := leBytes 8 (kind + code * 2 ^ 24) ++ leBytes 8 1 ++ leBytes 2 org ++ List.replicate 46 0
def ctrl (kind code org : Nat) : Flit := flit .control 0 true 0 (ctrlBytes kind code org)
/-- Every condition of R310 is met in the step being checked. -/
def chkState (b : BarrierSt) : State :=
  { fabState.wr F.CHK_MIRROR_STATUS_fence 1 with
    step := .checking, upd := { header := true }, job := { fabState.job with digestDone := true }, barrier := b }
/-- The module as rank 1, which holds the mirror of rank 0 on module 5. -/
def rankOne (s : State) : State :=
  ({ s with job := { s.job with map := [(0, ⟨5, 0, 0⟩), (1, ⟨0, 5, 0⟩)] } } : State).wr F.MOD_JOB_rank 1
def pendingState (b : BarrierSt) : State := { chkState b with step := .moltPending }

theorem test_meets_MoltBarrier_votes :
    (let s := chkState {}
     s.alive = true ∧ s.barrier.own = 0 ∧ s.conditionsMet = true ∧ s.heldNonFinite = false ∧ s.incomingPoison = none ∧
      (rankOne s).conditionsMet = true ∧ (rankOne s).isRoot = false ∧ s.isRoot = true ∧ (s.wr F.MOD_JOB_rank_count_m1 0).rankCount = 1 ∧
      (s.wr F.MOD_JOB_rank_count_m1 0).conditionsMet = true ∧ (!s.upd.copying && s.nonFinite) = false ∧ s.job.boundary = none ∧
      s.barrier.kids = [] ∧ s.barrier.sentUp = false ∧ s.barrier.recordSent = false) ∧
    (let s := chkState { kids := [(1, 1)] }
     s.barrier.own = 0 ∧ s.conditionsMet = true ∧ s.incomingPoison = none ∧ s.isRoot = true ∧ s.rankCount ≠ 1 ∧
      s.kids.all (fun k => (sget? s.barrier.kids k).isSome) = true ∧ s.barrier.kids.any (fun p => p.2 == 2) = false) ∧
    (let s := pendingState { due := 1 }
     s.alive = true ∧ s.isRoot = true ∧ s.step = .moltPending ∧ s.rankCount ≠ 1 ∧ s.barrier.due = 1) ∧
    (let s := pendingState { deadline := some 0 }
     s.alive = true ∧ s.isRoot = true ∧ s.step = .moltPending ∧ s.barrier.recordSent = false ∧ s.barrier.due = 0 ∧ ({ s with tick := 1 } : State).past 0 = true ∧ s.job.boundary = none) := by
  decide +kernel

/-- Codes 1, 2 and 3 of a child; the child of rank 1 is rank 33, on module 5 as well. -/
theorem test_meets_MoltBarrier_flits :
    (∀ c ∈ [1, 2], ∃ u, takes (chkState {}) (ctrl 0x10 c 1) .control u ∧ (u.rankAt 5 == some 1 && isBarrier (ctrl 0x10 c 1) 0x10 &&
      u.current (ctrl 0x10 c 1) && u.live && u.kids.contains 1 && !u.barrier.recordSent && sget 0 u.barrier.kids 1 == 0 &&
      field (ctrl 0x10 c 1).payload 3 1 == c && u.barrier.own == 0) = true) ∧
    (∃ u, takes (({ chkState {} with job := { fabState.job with map := [(1, ⟨0, 5, 0⟩), (33, ⟨5, 0, 0⟩)] } }).wr F.MOD_JOB_rank 1 |>.wr
        F.MOD_JOB_rank_count_m1 33) (ctrl 0x10 3 1) .control u ∧ (u.rankAt 5 == some 33 && u.current (ctrl 0x10 3 1) && u.live &&
      u.kids.contains 33 && sget 0 u.barrier.kids 33 != 3 && !u.isRoot && !u.barrier.recordSent) = true) ∧
    (∃ u, takes (chkState {}) (ctrl 0x10 3 1) .control u ∧ (u.rankAt 5 == some 1 && u.current (ctrl 0x10 3 1) && u.live && u.kids.contains 1 &&
      sget 0 u.barrier.kids 1 != 3 && u.isRoot && u.job.boundary == none && !u.barrier.recordSent) = true) ∧
    (∃ u, takes (pendingState {}) (ctrl 0x11 1 0) .control u ∧ (isBarrier (ctrl 0x11 1 0) 0x11 && u.current (ctrl 0x11 1 0) && u.live &&
      u.job.boundary == none && u.step == .moltPending) = true) ∧
    (∃ u, takes (chkState {}) (ctrl 0x11 3 0xFFFF) .control u ∧ (u.current (ctrl 0x11 3 0xFFFF) && u.live && u.job.boundary == none) = true) ∧
    (∃ u, takes (rankOne (pendingState {})) (ctrl 0x12 1 0) .control u ∧ (isBarrier (ctrl 0x12 1 0) 0x12 && u.current (ctrl 0x12 1 0) &&
      u.heldRank == some 0 && u.moduleOf 0 == 5) = true) ∧
    (∃ u, takes (pendingState { recordSent := true }) (ctrl 0x13 1 0) .control u ∧ (u.current (ctrl 0x13 1 0) && u.isRoot &&
      u.barrier.recordSent && u.step == .moltPending && u.partner == 5 && u.job.boundary == none) = true) := by
  simp only [List.forall_mem_cons, List.not_mem_nil, false_implies, implies_true, and_true]
  refine ⟨⟨?_, ?_⟩, ?_, ?_, ?_, ?_, ?_, ?_⟩ <;> exact takes_of (by decide +kernel)

/-- One canary entry of a kind at 0x10040, its image at 0x10000. -/
def canaryState (kind : Nat) (c : CanarySt) : State :=
  let s := ((cluster {}).wr F.CHK_CANARY_CTRL_image 0x10000).wrAt F.MEM_REGION_size 7 1
  { (s.storeN 0x10000 (leBytes 8 (2 ^ 48 + 0x10040))).storeN 0x10040 (wordBytes [kind * 2 ^ 60, 0x10080, 0x10100, 64, 0, 0, 0, 0]) with
    canary := c, upd := { header := true } }
theorem test_meets_DigestsCanariesMirror_canaries :
    ((canaryState 0 { due := true }).canaryMay 0 255 = true ∧ canaryOnCore ((canaryState 0 {}).canaryWords 0) = true) ∧
    (((canaryState 3 { due := true }).wrAt F.UPD_ENGINE_in_service 3 1).canaryMay 0 3 = true ∧ canaryOnCore ((canaryState 3 {}).canaryWords 0) = false) ∧
    ((canaryState 4 { due := true }).canaryMay 0 0 = true) ∧
    (let s := canaryState 3 { due := true, started := [(0, 0)] }
     s.alive = true ∧ s.canary.rerun = false ∧ s.canary.started.contains (0, 0) = true ∧ s.canary.passed.contains (0, 0) = false) := by decide +kernel

theorem test_meets_DigestsCanariesMirror_mirror :
    (∃ u, takes (({ chkState {} with upd := {} } : State).wr F.CHK_REPLICA_axis_mask 31) (ctrl 0x14 0 1) .control u ∧
      (isBarrier (ctrl 0x14 0 1) 0x14 && u.current (ctrl 0x14 0 1) && u.live && u.replicas.contains 1 && u.moduleOf 1 == 5 && !u.upd.header) = true) ∧
    (∃ u, takes fabState (ctrl 0x15 0 0) .control u ∧ (isBarrier (ctrl 0x15 0 0) 0x15 && u.current (ctrl 0x15 0 0) && u.partner == 5) = true) ∧
    (let s := { fabState with mirror := { buildLeft := 2 } }
     s.alive = true ∧ s.job.active = true ∧ s.mirror.buildLeft ≠ 0 ∧ s.buildPoison = none ∧ s.heldRank = some 1) ∧
    (let s := ({ fabState with mirror := { pulling := true } } : State).storeN (0x4000000 + 40) (leBytes 8 0)
     let s := (((s.wrAt F.MEM_REGION_base 1 1).wrAt F.MEM_REGION_size 1 1).wrAt F.MEM_REGION_size 0 1).storeN 0x4000000 (leBytes 8 9)
     s.alive = true ∧ s.mirror.pulling = true ∧ [0, 1].find? (fun b => s.headerIs b 9) = some 1 ∧ s.mem.hbmPoison = []) := by
  refine ⟨?_, ?_, by decide +kernel, by decide +kernel⟩ <;> exact takes_of (by decide +kernel)

/-! ### Tests in the field, losses, timers, and directives -/

/-- A job with in-field test enabled, far from reset, its losses given. -/
def testState (ls : List Loss) : State :=
  { fabState.wr F.CHK_TEST_CTRL_enable 1 with tick := 10 ^ 14, job := { fabState.job with losses := ls } }

theorem test_meets_InFieldTests :
    ((testState []).testing = true ∧ 3 ∉ (testState []).test.due ∧ (testState []).testPeriod ≤ 68 * ((testState []).tick - sget 0 (testState []).test.rotated 3)) ∧
    ((testState []).powered = true ∧ ((testState []).wrAt F.CHK_CORE_TEST_testing 271 1).isSetAt F.CHK_CORE_TEST_testing 271 = true) ∧
    ((testState []).testDue 267 = true) ∧
    (let s := { testState [] with job := {} }
     s.testing = true ∧ s.testDue 1 = true ∧ s.job.active = false ∧ s.test.retired.contains 1 = false ∧ s.isSetAt F.CHK_CORE_TEST_testing 1 = false ∧
      s.underTest (quadOfPhys 1) < 4) ∧
    (let s := { testState [] with test := { due := [0] } }
     s.testing = true ∧ s.live = true ∧ s.test.due ≠ [] ∧ s.test.deferred = false ∧ s.past (s.job.openedAt + 4 * hourTicks - 1) = true) ∧
    ((testState []).job.active = true ∧ (testState []).isSet F.CHK_TEST_STATUS_overdue = false ∧ (255 ∈ allCores) ∧
      (testState []).past ((testState []).lastTest ((testState []).rdAt F.MOD_CORE_MAP_phys_core 255) + (testState []).testPeriod + 24 * hourTicks) = true) ∧
    ((testState []).alive = true ∧ (testState []).mode ≠ .dormant ∧ (testState []).job.retryHour < (testState []).tick / hourTicks) := by decide +kernel

theorem test_meets_InFieldTests_spare : ((testState []).spares (quadOfPhys 267)).contains 267 = true := by
  simp only [List.contains_eq_mem, decide_eq_true_eq, State.spares, State.healthy, List.mem_filter, Bool.and_eq_true]
  decide +kernel

def lossNotice : Flit := { flit .control 1 false 0 (leBytes 8 0x21 ++ leBytes 8 0 ++ leBytes 2 1 ++ List.replicate 46 0) with step := 1 }
theorem test_meets_LossesAndTimers :
    ((testState []).jobRuns = true ∧ (testState []).job.beatAt + usTicks ((testState []).rd F.ERR_CTRL_job_hb_us) ≤ (testState []).tick) ∧
    (let s := { testState [] with job := { (testState []).job with heard := [(5, 0)] } }
     s.watched.contains 5 = true ∧ s.rankAt 5 = some 1 ∧ s.lost 1 = false ∧
      s.past (sget s.tick s.job.heard 5 + usTicks (s.rd F.ERR_CTRL_job_hb_timeout_us)) = true) ∧
    (let l : Loss := { rank := 1, module := 5, since := 0 }
     let s := testState [l]
     l ∈ s.job.losses ∧ s.past (l.since + sTicks (s.rd F.ERR_CTRL_remap_wait_s)) = true ∧ s.live = true ∧
      ({ s with step := .discarded } : State).live = false ∧ s.mode = .running) ∧
    ((testState []).ev.fmRaised = false ∧ (testState []).past ((testState []).ev.fmAt + sTicks 10) = true) ∧
    (let w : Window := { code := 0x101, unit := 3, since := 0, seqNo := 1, count := 2 }
     let s := { testState [] with ev := { windows := [w] } }
     s.powered = true ∧ s.ev.windows.find? (fun x => x.code == 0x101 && x.unit == 3 && decide (x.since + msTicks 100 ≤ s.tick)) = some w) ∧
    (testState []).ev.statusAt + sTicks 1 ≤ (testState []).tick := by decide +kernel
theorem test_meets_LossesAndTimers_flits :
    (∃ u, takes fabState (flit .control 1 false 0 (leBytes 8 0x20 ++ List.replicate 56 0)) .control u ∧ true = true) ∧
    (∃ u, takes fabState lossNotice .control u ∧ (lossNotice.dstAddr == 1 && flitKind lossNotice == 0x21 &&
      !newer32 u.epoch (field lossNotice.payload 8 4) && decide (field lossNotice.payload 16 2 < u.rankCount) &&
      !u.lost (field lossNotice.payload 16 2)) = true) := by
  refine ⟨?_, ?_⟩ <;> exact takes_of (by decide +kernel)

/-- The session that a message leaves, and the state that its effect begins from (R426 to R428). -/
def heardSession (x : Session) (m : Mgmt) (a : Bool) (s : State) : Session := if a then x.took m s.tick else { x.took m s.tick with owes := true }
def heardState (x : Session) (m : Mgmt) (a : Bool) (s : State) : State :=
  let t := ((s.setSession (heardSession x m a s)).addAt F.STW_MGMT_rx (m.port % 2) 1).mgmtDrain x.id
  if x.role = 0 then t.hearFm else t
def hearsB (s : State) (x : Session) (m : Mgmt) (roles : List Nat) : Bool :=
  s.powered && decide (s.session? m.session = some x) && m.tagOk && x.accepts m.seq && decide (m.seq + 1 < 2 ^ 31) && roles.contains x.role
theorem hears_of {s : State} {x : Session} {m : Mgmt} {roles : List Nat} (a : Bool) (h : hearsB s x m roles = true) :
    hears s m roles a (heardSession x m a s) (heardState x m a s) := by
  simp only [hearsB, Bool.and_eq_true, decide_eq_true_eq] at h
  obtain ⟨⟨⟨⟨⟨h1, h2⟩, h3⟩, h4⟩, h5⟩, h6⟩ := h
  intro k
  simp only [State.onMgmt, h1, h2, h3, h4, Bool.not_true, Bool.false_eq_true, if_false, if_neg (by omega : ¬ 2 ^ 31 ≤ m.seq + 1)]
  split <;> simp_all [heardState, heardSession]

/-- A session of a role; its first message. -/
def sess (role : Nat) : Session := { id := 1, role := role, keyId := 9, heardAt := 0, sentAt := 0 }
def msg1 : Mgmt := { port := 0, session := 1, seq := 1, ack := 0, tagOk := true }
def withSession (s : State) (role : Nat) : State := { s with mgmt := { sessions := [sess role] } }
def order (w2 w3 epoch : Nat) : Directive := { fmSeq := 1, inst := 0, job := 0, epoch := epoch, w2 := w2, w3 := w3 }

theorem accepted_of {s : State} {code : Nat} {d : Directive} {p : State → Bool}
    (h : (hearsB (withSession s 0) (sess 0) msg1 [0] && decide ((heardState (sess 0) msg1 false (withSession s 0)).directiveResult code d = 0) &&
      p (heardState (sess 0) msg1 false (withSession s 0))) = true) : ∃ u, accepted (withSession s 0) u msg1 d code ∧ p u = true := by
  simp only [Bool.and_eq_true, decide_eq_true_eq] at h
  exact ⟨_, ⟨⟨_, hears_of false h.1.1⟩, h.1.2⟩, h.2⟩

/-- A code of R357 is the form of one directive; its number is not newer, its job is another, and it is accepted. -/
theorem test_meets_DirectivesAct_rejected :
    directiveForm .hold 4 ∧ directiveForm .wakeSpare 10 ∧
    (let s := ((withSession (cluster {}) 0).wr F.ERR_FM_fm_seq 1).wr F.ERR_FM_code 4
     hearsB s (sess 0) msg1 [0] = true ∧ (heardState (sess 0) msg1 false s).directiveResult 4 (order 0 0 0) = 1) ∧
    (let s := withSession (cluster {}) 0
     hearsB s (sess 0) msg1 [0] = true ∧ 1 < (heardState (sess 0) msg1 false s).directiveResult 4 { order 0 0 0 with job := 5 }) := by
  refine ⟨by simp [directiveForm], by simp [directiveForm], ?_, ?_⟩ <;> decide +kernel

theorem test_meets_DirectivesAct_remap :
    (∃ u, accepted (withSession ({ cluster {} with mode := .ready } : State) 0) u msg1 (order 0 0 1) 1 ∧ (u.mode == .ready) = true) ∧
    (∃ u, accepted (withSession fabState 0) u msg1 (order (1 + 6 * 2 ^ 16) 0 1) 1 ∧ (u.mode != .ready && u.moduleOf 1 != u.self) = true) ∧
    (∃ u, accepted (withSession fabState 0) u msg1 (order (0 + 6 * 2 ^ 16) 0 1) 1 ∧
      (u.mode != .ready && u.moduleOf 0 == u.self && u.job.boundary == none) = true) := by
  refine ⟨?_, ?_, ?_⟩ <;> exact accepted_of (by decide +kernel)
theorem test_meets_DirectivesAct_steps :
    (∃ u, accepted (withSession (rankOne fabState) 0) u msg1 (order 1 0 0) 2 ∧ (u.live && u.step != .moltPending && u.job.boundary == none &&
      u.barrier.own != 3 && u.barrier.kids == [] && !u.barrier.sentFail && !u.isRoot) = true) ∧
    (∃ u, accepted (withSession fabState 0) u msg1 (order 1 0 0) 2 ∧ (u.live && u.barrier.own != 3 && u.isRoot) = true) ∧
    (∃ u, accepted (withSession ({ fabState with step := .discarded } : State) 0) u msg1 (order 1 0 0) 3 ∧ true = true) ∧
    (∃ u, accepted (withSession fabState 0) u msg1 (order 0 0 0) 4 ∧ u.live = true) ∧
    (∃ u, accepted (withSession ({ fabState with step := .none } : State) 0) u msg1 (order 0 0 0) 4 ∧ (!u.live) = true) ∧
    (∃ u, accepted (withSession ({ fabState with mode := .held, step := .none } : State) 0) u msg1 (order 0 0 0) 5 ∧ true = true) := by
  refine ⟨?_, ?_, ?_, ?_, ?_, ?_⟩ <;> exact accepted_of (by decide +kernel)
theorem test_meets_DirectivesAct_rest :
    (∃ u, accepted (withSession (rankOne fabState) 0) u msg1 (order 0 0 0) 6 ∧ (!u.isRoot) = true) ∧
    (∃ u, accepted (withSession ({ fabState with chrys := { gather := some { instar := 1, slot := 0, since := 0 } } } : State) 0) u msg1 (order 0 0 0) 6 ∧
      (u.isRoot && u.job.active && u.chrys.gather.isSome) = true) ∧
    (∃ u, accepted (withSession fabState 0) u msg1 (order 75 0 0) 7 ∧ (!bitAt 75 7) = true) ∧
    (∃ u, accepted (withSession fabState 0) u msg1 (order (128 + 75) 0 0) 7 ∧ (bitAt (128 + 75) 7 && decide (u.portState 75 < 2)) = true) ∧
    (∃ u, accepted (withSession ({ fabState with mode := .dormant } : State) 0) u msg1 (order 0 0 0) 8 ∧ (u.mode == .dormant) = true) ∧
    (∃ u, accepted (withSession fabState 0) u msg1 (order 0 0 0) 8 ∧ (u.mode != .dormant) = true) ∧
    (∃ u, accepted (withSession fabState 0) u msg1 (order 0 0 0) 9 ∧ u.live = true) ∧
    (∃ u, accepted (withSession ({ fabState with step := .none } : State) 0) u msg1 (order 0 0 0) 9 ∧ (!u.live) = true) ∧
    (∃ u, accepted (withSession ({ cluster {} with mode := .dormant } : State) 0) u msg1 (order 0 0 0) 10 ∧ true = true) ∧
    (∃ u, accepted (withSession ({ cluster {} with mode := .ready } : State) 0) u msg1 (order 1 0 0) 10 ∧ true = true) := by
  refine ⟨?_, ?_, ?_, ?_, ?_, ?_, ?_, ?_, ?_, ?_⟩ <;> exact accepted_of (by decide +kernel)

theorem test_meets_PupaeWakeAndReturn :
    (let s := { cluster {} with mode := .dormant, ev := { eclosing := true } }
     s.ev.eclosing = true ∧ s.mode = .dormant ∧ (∀ p, p < 272 → s.isSetAt F.CHK_CORE_TEST_testing p = false) ∧
      (s.wrAt F.CHK_CORE_TEST_testing 271 1).isSetAt F.CHK_CORE_TEST_testing 271 = true) ∧
    (let s := { cluster {} with mode := .ready, ev := { wokenAt := some 0 } }
     s.mode = .ready ∧ s.job.active = false ∧ s.ev.takeover = none ∧ s.ev.wokenAt = some 0 ∧ s.tick < 0 + sTicks 600 ∧
      0 + sTicks 600 ≤ ({ s with tick := sTicks 600 } : State).tick) := by decide +kernel

/-! ### Chrysalis -/

/-- A chrysalis message with flags, code, an instar and a rank, of epoch 0. -/
def chrysBytes (kind flags slot code inst rk : Nat) : List Byte :=
  leBytes 8 (kind + flags * 2 ^ 8 + slot * 2 ^ 16 + code * 2 ^ 24) ++ leBytes 8 inst ++ leBytes 2 rk ++ List.replicate 46 0
def chrys (kind flags slot code inst rk : Nat) : Flit := flit .control 2 false 0 (chrysBytes kind flags slot code inst rk)
def chrysMsgB (u : State) (f : Flit) (kind : Nat) : Bool :=
  f.dstAddr == 2 && field f.payload 0 1 == kind && !newer32 u.epoch (field f.payload 4 4)
theorem chrysMsg_of {u : State} {f : Flit} {kind : Nat} (h : chrysMsgB u f kind = true) : chrysMsg u f kind := by
  simpa [chrysMsgB, chrysMsg, and_assoc] using h
/-- A plan of two slots at 0x10000, each of 2^20 blocks; the shard is one header run. -/
def planState : State :=
  (((fabState.wr F.CHK_CHRYS_PLAN_address 0x10000).wr F.CHK_CHRYS_PLAN_slots 2).wrAt F.MEM_REGION_size 7 1).storeN 0x10000
    (wordBytes ([0, 0, 2 ^ 20, 0, 0, 0, 0, 0, 0, 0, 2 ^ 20, 0, 0, 0, 0, 0]))
def run1 : PieceRun := { kind := 1, entry := 0, off := 0, len := 64, dataOff := 0 }
def writer1 (d : Sparse Bool) : Writer := { instar := 0, slot := 0, bank := 0, piece := 0, pieces := 1, runs := [run1], dataLen := 64, done := d }
def writing (s : State) (w : Writer) : State := { s with chrys := { writer := some w } }

theorem test_meets_ChrysalisCutsAndGathering_cuts :
    (∃ u, takes planState (chrys 0x30 0 0 0 1 0) .control u ∧ (chrysMsgB u (chrys 0x30 0 0 0 1 0) 0x30 && u.chrys.writer == none &&
      !bitAt (field (chrys 0x30 0 0 0 1 0).payload 1 1) 0 && decide (u.instar < 1)) = true) ∧
    (∃ u, takes (writing (rankOne planState) (writer1 [])) (chrys 0x30 0 0 0 1 0) .control u ∧
      (chrysMsgB u (chrys 0x30 0 0 0 1 0) 0x30 && !u.isRoot && u.chrys.writer.isSome) = true) ∧
    (∃ u, takes planState (chrys 0x30 1 0 0 0 0) .control u ∧ (chrysMsgB u (chrys 0x30 1 0 0 0 0) 0x30 && u.chrys.writer == none &&
      bitAt (field (chrys 0x30 1 0 0 0 0).payload 1 1) 0 && u.instar == 0 && u.planOk 0 &&
      decide (1 + (u.ownRuns.length + 63) / 64 + (runsBytes u.ownRuns + 4095) / 4096 ≤ fld (u.planWord 0 2) 39 0) &&
      !u.isSet F.CHK_CHRYS_CTRL_staging) = true) ∧
    (∃ u, takes planState (chrys 0x30 1 2 0 0 0) .control u ∧ (u.chrys.writer == none && u.instar == 0 && !u.planOk 2) = true) := by
  refine ⟨?_, ?_, ?_, ?_⟩ <;> exact takes_of (by decide +kernel)

def gather1 (ds : List DoneRec) : Gather := { instar := 1, slot := 0, since := 0, dones := ds }
def gathering (ds : List DoneRec) : State := { fabState with chrys := { gather := some (gather1 ds) } }
def done1 : Flit := chrys 0x31 0 0 0 1 1
theorem test_meets_ChrysalisCutsAndGathering_gathering :
    (∃ u, takes (rankOne fabState) (chrys 0x32 0 0 0 0 0) .control u ∧ (chrysMsgB u (chrys 0x32 0 0 0 0 0) 0x32 && !u.isRoot) = true) ∧
    (∃ u, takes (gathering []) (chrys 0x32 0 0 0 0 0) .control u ∧ (u.isRoot && u.job.active && u.chrys.gather.isSome) = true) ∧
    (∃ u, takes fabState (chrys 0x32 0 0 0 0 0) .control u ∧ (u.isRoot && u.job.active && u.chrys.gather == none && u.mode != .held && u.live &&
      !u.barrier.recordSent) = true) ∧
    (∃ u, takes ({ fabState with mode := .held, step := .none } : State) (chrys 0x32 0 0 0 0 0) .control u ∧ (u.isRoot && u.chrys.gather == none &&
      u.mode == .held) = true) ∧
    (∃ u, takes ({ fabState with step := .discarded } : State) (chrys 0x32 0 0 0 0 0) .control u ∧ (u.isRoot && u.chrys.gather == none &&
      u.mode != .held && !u.live) = true) ∧
    (∃ u, takes (gathering []) done1 .control u ∧ (chrysMsgB u done1 0x31 && u.chrys.gather == some (gather1 []) && u.isRoot &&
      field done1.payload 8 8 == 1 && !bitAt (field done1.payload 1 1) 0 && decide (0 + 1 < u.rankCount)) = true) ∧
    (∃ u, takes (gathering [⟨0, 0, 1, 0⟩]) done1 .control u ∧ (u.chrys.gather == some (gather1 [⟨0, 0, 1, 0⟩]) && u.isRoot &&
      field done1.payload 16 2 == 1 && decide (1 + 1 = u.rankCount) && !u.isSet F.CHK_CHRYS_COORD_pending) = true) ∧
    (let s := { gathering [] with tick := 10 ^ 14 }
     s.alive = true ∧ s.past ((gather1 []).since + sTicks (s.rd F.CHK_CHRYS_CTRL_done_timeout_s)) = true ∧ s.isSet F.CHK_CHRYS_COORD_pending = false) := by
  refine ⟨?_, ?_, ?_, ?_, ?_, ?_, ?_, by decide +kernel⟩ <;> exact takes_of (by decide +kernel)

theorem test_meets_ChrysalisWriter :
    (let w := { writer1 [] with copying := true, staged := true }
     (writing planState w).alive = true ∧ (writing planState w).chrys.writer = some w ∧ w.copying = true ∧ w.runs = [run1] ∧
      (writing planState w).badSource w = [] ∧ (writing planState w).regionBase 5 + run1.dataOff + pad64 run1.len ≤ 0xB800000000) ∧
    (let w := { writer1 [] with copying := true, bank := 1 }
     let s := (writing planState w).wr F.MOD_JOB_rank_count_m1 0
     w.bank = 1 - s.bank ∧ s.bank < 2 ∧ s.rankCount = 1 ∧ (s.setPoison (s.bankBase 1) true).badSource w ≠ []) ∧
    ((writer1 []).mayComplete 0 = true ∧ sget false (writer1 []).failed 0 = false ∧ (0 < (writer1 []).dataCmds) ∧
      (writing planState (writer1 [])).badGranules (writer1 []) 0 = []) ∧
    (sget false ({ writer1 [] with failed := [(0, true)] } : Writer).failed 0 = true ∧ ({ writer1 [] with failed := [(0, true)] } : Writer).mayComplete 0 = true) ∧
    (let w := { writer1 [] with staged := true }
     w.mayComplete 0 = true ∧ ((writing planState w).setPoison ((granules ((writing planState w).sourceAddr w run1 0) 64).headD 0) true).badGranules w 0 ≠ []) ∧
    ((writer1 [(0, true)]).mayComplete 1 = true ∧ 1 = (writer1 [(0, true)]).dataCmds) ∧
    ((writer1 [(0, true), (1, true)]).mayComplete 2 = true ∧ 2 = (writer1 [(0, true), (1, true)]).dataCmds + 1 ∧
      (writing (rankOne planState) (writer1 [(0, true), (1, true)])).isRoot = false) := by decide +kernel

/-! ### Supplies, boot, jobs, power -/

def aConfig : ConfigSt := { source := 1, generation := 1, signed := true, items := [], unknown := 0 }

theorem test_meets_SuppliesAndResets :
    State.reset.mode = .off ∧
    ((cluster {}).mode ≠ .off ∧ (cluster {}).mode ≠ .standby ∧ (cluster {}).pwr.resetLow = false ∧ (cluster {}).pwr.absent = false) ∧
    (let s := { State.reset with mode := .standby, boot := { config := some aConfig }, pwr := { bootWanted := true } }
     s.mode = .standby ∧ s.pwr.bootWanted = true ∧ s.pwr.resetLow = false ∧ s.pwr.absent = false ∧
      (s.isSet F.PWR_THERM_STATUS_tripped = false ∧ s.pwr.fromRom = false ∧ s.boot.config.isSome = true ∧ s.boot.recovery = none)) ∧
    (let s := { State.reset with mode := .standby, pwr := { converting := true } }
     s.pwr.converting = true ∧ s.pwr.rails = false) ∧
    (let s := { State.reset with mode := .standby, boot := { config := some aConfig }, pwr := { resetLow := true } }
     s.powered = true ∧ s.pwr.resetLow = true ∧ s.pwr.absent = false ∧ s.pwr.fromRom = false ∧
      ({ s with pwr := { s.pwr with mainOn := true } } : State).pwr.mainOn = true ∧ ({ s with pwr := { s.pwr with absent := true } } : State).pwr.absent = true) := by
  decide +kernel
theorem test_meets_SuppliesAndResets_ready : bootReady { State.reset with mode := .standby, boot := { config := some aConfig } } := by
  simp only [bootReady]; decide +kernel

def bootState (stage : Nat) : State := ({ State.reset with mode := .booting } : State).wr F.SEC_BOOT_stage stage
theorem test_meets_BootAndRecovery :
    ((bootState 3).mode = .booting ∧ (bootState 3).rd F.SEC_BOOT_stage < 4 ∧ ∀ o, o < 76 → (bootState 3).portState o < 2) ∧
    ((bootState 5).rd F.SEC_BOOT_stage = 5 ∧ ((bootState 5).wr F.STW_STRAPS_dormant_start 1).rd F.STW_STRAPS_dormant_start ≠ 0 ∧
      (bootState 5).isPupa = false ∧ ((bootState 5).wr F.STW_STRAPS_dormant_start 0).rd F.STW_STRAPS_dormant_start = 0) ∧
    (let s := { State.reset with mode := .standby, boot := { recovery := some 1 }, tick := sTicks 1 }
     s.boot.recovery = some 1 ∧ s.powered = true ∧ s.boot.recoveryAt + sTicks 1 ≤ s.tick) := by decide +kernel

/-- A job of one rank on this module. -/
def aJob : JobDesc :=
  { jobId := 7, seed := 3, nanTrap := false, rank := 0, shapes := [⟨1, 1, 1, 1, 1⟩], map := [2 ^ 48 + 0xFFFF * 2 ^ 16], regions := [1, 1, 0, 0, 0, 0, 0],
    heldBank := 0, mirrorBase := 2, instar := 9, random := 0 }
def readyState : State := { cluster {} with mode := .ready, step := .none, boot := { os := true } }
def aTakeover : Takeover := { jobId := 7, rank := 0, epoch := 4, replay := 2, discards := 0 }
theorem test_meets_JobStartAndScrub :
    (readyState.mode = .ready ∧ readyState.boot.os = true ∧ readyState.ev.takeover = none) ∧
    (jobShapeOk aJob = true ∧ jobMapOk aJob = true ∧ entryModule (aJob.map.getD aJob.rank 0) = readyState.self ∧ jobMemOk aJob = true) ∧
    (jobShapeOk { aJob with rank := 1 } = false ∧ jobMapOk { aJob with map := [2 ^ 48] } = false ∧ jobMemOk { aJob with regions := [] } = false) ∧
    (({ readyState with ev := { takeover := some aTakeover } } : State).ev.takeover = some aTakeover ∧ aTakeover.rank = aJob.rank ∧ aTakeover.jobId = aJob.jobId) ∧
    (({ cluster {} with mode := .draining } : State).mode = .draining ∧ (cluster {}).chrys.writer = none) := by decide +kernel

def powered (p : PwrSt) : State := { (cluster {}).wr F.PWR_STATUS_clock 0x50505050 with pwr := { p with rails := true, target := 81 } }
theorem test_meets_PowerAndThermal :
    ((powered {}).powered = true ∧ (powered {}).pwr.rails = true ∧ (powered {}).arrayClocked = true) ∧
    (sget 0 (powered {}).pwr.handoffAt 3 ≤ (powered {}).tick ∧ (powered {}).clocks.getD 3 0 = 80 ∧ 80 ≠ (powered {}).pwr.target ∧
      (∀ x ∈ (powered {}).clocks, x ≤ 81 + 1 ∧ 81 ≤ x + 1) ∧ (powered {}).droopHolds 3 = false) ∧
    ((powered { droop := [271] }).droopHolds 3 = true ∧ (3 ∉ (powered { droop := [271] }).pwr.held)) ∧
    ((271 ∉ (powered {}).pwr.droop) ∧ (271 ∈ (powered { droop := [271] }).pwr.droop) ∧ (powered {}).coreQuiet 271 = true ∧ (271 ∉ (powered {}).pwr.gated)) ∧
    (let hot := [[11500]]
     (powered {}).isSet F.PWR_THERM_STATUS_tripped = false ∧ tripped (powered { dies := hot }).pwr.dies ((List.range 5).map (fun k => hot.getD k [])) = true ∧
      tripped (powered {}).pwr.dies ((List.range 5).map (fun k => hot.getD k [])) = false) ∧
    ((cluster {}).pwr.rails = false ∧ (∃ x ∈ ([10500] : List Int).take 12, 10500 ≤ x) ∧ (∀ x ∈ ([10499] : List Int).take 12, x < 10500)) := by decide +kernel

/-! ### Management, registers and serial interfaces -/

def kept (x : Session) : State := { cluster {} with mgmt := { sessions := [x] }, tick := 10 ^ 12 }
/-- A peer key record (log entry 38): role, ID, key. -/
def peerRecord (role : Nat) : List Byte := leBytes 1 role ++ leBytes 4 9 ++ [3]
def keyed : State := { cluster {} with boot := { flashA := { records := [⟨1, 1, false, peerRecord 1⟩] } } }
def initMsg : SessionInit := { port := 0, keyId := 9, lastEvent := 0, kemKey := [], nonce := [], signed := [], sig := [] }

theorem test_meets_ManagementSessions :
    ((kept (sess 2)).powered = true ∧ (kept (sess 2)).session? msg1.session = some (sess 2) ∧ (kept (sess 2)).session? 7 = none ∧
      State.reset.powered = false ∧ (sess 2).accepts msg1.seq = true ∧ msg1.seq + 1 < 2 ^ 31 ∧ msg1.tagOk = true ∧ (sess 2).role ∈ anyRole ∧
      (sess 2).role ∉ [1] ∧ (sess 2).unacked = [] ∧ (sess 2).waiting = [] ∧ (sess 2).tx + 1 < 2 ^ 31) ∧
    (({ sess 2 with high := 1, cum := 1 } : Session).accepts 1 = false ∧ ({ msg1 with tagOk := false } : Mgmt).tagOk = false) ∧
    (keyed.powered = true ∧ keyed.peerKeys.find? (fun k => keyId k == initMsg.keyId && decide (keyRole k < 3)) = some (peerRecord 1)) ∧
    (hearsB (kept (sess 2)) (sess 2) msg1 anyRole = true ∧
      ((heardState (sess 2) msg1 true (kept (sess 2))).session? 1).isSome = true ∧ newer32 (heardState (sess 2) msg1 true (kept (sess 2))).journalLast 0 = false) ∧
    (let x := { sess 2 with owes := true }
     (kept x).session? 1 = some x ∧ x.sentAt + msTicks 50 ≤ (kept x).tick) ∧
    (let o : OutMsg := { seqNo := 4, ack := 0, kind := 5, body := [], sentAt := 0 }
     let x := { sess 2 with unacked := [o] }
     (kept x).session? 1 = some x ∧ x.unacked.find? (fun o => o.seqNo == 4) = some o ∧ o.sentAt + msTicks 200 ≤ (kept x).tick) ∧
    ((sess 2).heardAt + sTicks 30 ≤ (kept (sess 2)).tick ∧ (cluster {}).tick < (sess 2).heardAt + sTicks 30) := by decide +kernel

/-- A standby or running module whose operator has asked: the state its request begins from. -/
def asked (s : State) : State := heardState (sess 1) msg1 false (withSession s 1)
def standby : State := { cluster {} with mode := .standby }
theorem test_meets_ManagementRequests :
    (hearsB (withSession (cluster {}) 1) (sess 1) msg1 anyRole = true ∧ ((asked (cluster {})).session? 1).isSome = true ∧
      (∀ p ∈ (asked (cluster {})).ev.journal, (from32 p.1 0 && newer32 ((0 + 65536) % 2 ^ 32) p.1) = false) ∧ ([] : List Byte).length ≠ 32 ∧ (List.replicate 32 (0 : Byte)).length = 32 ∧
      csrAddr 0x20000000000 = true ∧ csrAddr 0 = false) ∧
    (hearsB (withSession (cluster {}) 1) (sess 1) msg1 [1] = true ∧ 0xDFFFFFF + [(0 : Byte)].length ≤ 0xE000000 ∧
      (asked (cluster {})).flashDenied 1 0xDFFFFFF 1 = false ∧ (asked (cluster {})).flashDenied 1 0xE000000 1 = true ∧
      (asked (cluster {})).boot.flashA.percent < 74 ∧ (asked (cluster {})).boot.flashB.percent < 74 ∧ (asked (cluster {})).mode ≠ .standby) ∧
    ((asked standby).mode = .standby ∧ otpField 3 = some otpPolicy ∧ (leBytes 6 1).length + 2 = otpPolicy.size ∧ otpNext (asked standby).boot.otp otpPolicy = some 0 ∧
      otpDenied (asked standby).boot.otp 3 (leBytes 6 1) = false ∧ otpField 2 = some otpClass ∧ otpDenied (asked standby).boot.otp 2 (leBytes 2 30) = true ∧
      otpNext (asked standby).boot.otp otpClass = some 0 ∧ (leBytes 2 30).length + 2 = otpClass.size) ∧
    (hearsB (withSession standby 1) (sess 1) msg1 [0, 1] = true ∧ (asked standby).resetOk = true ∧ (asked (cluster {})).resetOk = false ∧
      (asked { standby with pwr := { rails := true }, boot := { config := some aConfig } }).pwr.rails = true ∧
      3 ≤ (asked { cluster {} with pwr := { rails := true } }).mode.code ∧ (asked (cluster {})).mode ≠ .dormant) ∧
    (standby.hasOperator = false ∧ standby.boot.flashA.percent < 74 ∧
      ((List.range 16).map (· + 1)).find? (fun k => (standby.setting k).isNone) = some 1 ∧ keyed.hasOperator = true) := by decide +kernel

/-- A valid policy slot that allows nothing. -/
def lockedOtp : Sparse Byte :=
  [(0x156, BitVec.ofNat 8 (crc16 (List.replicate 7 0) % 256)), (0x157, BitVec.ofNat 8 (crc16 (List.replicate 7 0) / 256))]
theorem test_meets_RegistersAndSerialInterfaces :
    ((cluster {}).regAt 0 = none) ∧
    ((cluster {}).csrLive F.CHK_CANARY_CTRL_period.base = true ∧ ((cluster {}).regAt F.CHK_CANARY_CTRL_period.base).isSome = true ∧
      (regOps.find? (fun o => o.1 == F.CHK_CANARY_CTRL_period.base)).isNone = true ∧
      (regAfter.find? (fun o => o.1 == F.CHK_CANARY_CTRL_period.base)).isNone = true) ∧
    ((cluster {}).powered = true ∧ ({ cluster {} with boot := { os := true } } : State).boot.os = true ∧
      bitAt (cluster {}).policy 2 = true ∧ bitAt ({ cluster {} with boot := { otpRead := lockedOtp } } : State).policy 2 = false) := by decide +kernel

/-! ### Events, spares, placement, whole-module statements -/

def windowState (c n : Nat) : State := { cluster {} with ev := { windows := [⟨c, 3, 0, 1, n⟩] } }
theorem test_meets_EventRecords :
    (∀ w ∈ (cluster {}).ev.windows, ¬ (w.code = Event.CORE_TEST_FAIL.code ∧ w.unit = 3)) ∧ Event.CORE_TEST_FAIL.severity ≤ 2 ∧
    (windowState Event.CORE_TEST_FAIL.code 0xFFFF).windowOf Event.CORE_TEST_FAIL.code 3 = some ⟨Event.CORE_TEST_FAIL.code, 3, 0, 1, 0xFFFF⟩ ∧
    (windowState Event.CORE_TEST_FAIL.code 1).windowOf Event.CORE_TEST_FAIL.code 3 = some ⟨Event.CORE_TEST_FAIL.code, 3, 0, 1, 1⟩ ∧
    Event.THERM_TRIP.severity = 5 ∧ Event.CANARY_FAIL.severity = 4 ∧ 2 < Event.CANARY_FAIL.severity ∧ (cluster {}).mode ≠ .off ∧
    (cluster {}).job.active = false ∧ fabState.job.active = true := by decide +kernel

/-- Rank 32 is the last child of the root, 33 the first of rank 1. -/
theorem test_meets_BarrierTree : barrierParent 32 = 0 ∧ barrierParent 33 = 1 ∧ barrierParent 65535 = 2047 ∧ (barrierKids 0 65536).getLast? = some 32 ∧
    (barrierKids 2047 65536).length = 31 ∧ barrierKids 1 33 = [] := by decide +kernel

/-- Core 271 alone is not retired in quadrant 3, and it is under test. -/
def lastSpare (testing : Nat) : State :=
  { (cluster {}).wrAt F.CHK_CORE_TEST_testing 271 testing with test := { retired := (quadPhys 3).erase 271 } }
theorem lastSpare_healthy (n p : Nat) (h : p ∈ (lastSpare n).healthy 3) : p = 271 := by
  simp only [State.healthy, List.mem_filter, Bool.and_eq_true] at h
  have h1 : ∀ p ∈ quadPhys 3, (!((quadPhys 3).erase 271).contains p) = true → p = 271 := by decide +kernel
  exact h1 p h.1 h.2.2
theorem test_meets_SparesUnderTest :
    (lastSpare 1).isSetAt F.CHK_CORE_TEST_testing 271 = true ∧ 271 ∈ (lastSpare 0).spares 3 ∧ 271 ∈ (lastSpare 1).healthy 3 := by
  refine ⟨by decide +kernel, ?_, ?_⟩ <;> simp only [State.spares, State.healthy, List.mem_filter, Bool.and_eq_true] <;> decide +kernel
theorem test_meets_SparesUnderTest_none :
    (lastSpare 1).spares 3 = [] ∧ ({ cluster {} with test := { retired := quadPhys 3 } } : State).healthy 3 = [] := by
  constructor
  · refine List.filter_eq_nil_iff.mpr fun p hp => ?_
    rw [lastSpare_healthy 1 p hp]; decide +kernel
  · refine List.filter_eq_nil_iff.mpr fun p hp => ?_
    have h : (quadPhys 3).contains p = true := by simpa using hp
    show ¬ ((!_ && !(quadPhys 3).contains p) = true)
    rw [h]; simp

/-- The ends of the ranges of R158. -/
theorem test_meets_HbmPlacementIsABijection :
    (0 < 2 ^ 22 ∧ 0 < 256 ∧ 0 < 768 ∧ 736 ≤ 736) ∧ 2 ^ 22 - 1 < 2 ^ 22 ∧ 255 < 256 ∧ 767 < 768 ∧ 736 ≤ 767 ∧
    (hbmPlace 12345 ((767 * 2 ^ 22 + (2 ^ 22 - 1)) * 256 + 255)).2 = (2 ^ 22 - 1) * 256 + 255 := by decide +kernel

theorem test_meets_EveryStepKeepsCanonicalForm : let s := { readyState with pending := [.ringDoorbell 0 0] }
    s.canonical = true ∧ ∃ t, Sys2Proof.Machine.step s = .next t := ⟨by decide +kernel, _, rfl⟩
theorem test_meets_CommandsKeepQueueAndRecord : ∃ t, exec .secRngRead (cluster {}) = .next t ∧ (cluster {}).drawn < t.drawn :=
  ⟨_, rfl, by decide +kernel⟩
theorem test_meets_OnlyDebugStops : bitAt (cluster {}).policy 2 = true ∧ (cluster {}).powered = true := by decide +kernel
/-- The default policy allows JTAG (R451): the debug instruction is refused by name. -/
theorem test_debugInstruction : exec .debugInstruction (cluster {}) = .refused .debugUnit := by
  unfold exec Sys2Proof.Machine.execDebugInstruction
  simp only [show (cluster {}).powered = true by decide +kernel, show bitAt (cluster {}).policy 2 = true by decide +kernel]
  rfl

/-! ### FP32 (R39, R50, R66) -/

theorem test_meets_FpSpecialValues :
    wNan 0x7F800001 ∧ wSnan 0xFFBFFFFF ∧ ¬ wSnan 0x7FC00000 ∧ wInf 0xFF800000 ∧ wZero 0x80000000 ∧ ¬ wNan 0x7F800000 ∧
    ((0x80000000 : Nat) < 0xFF800000 ∧ ¬ wNan 0xFF800000) ∧ (¬ wNan 1 ∧ ¬ wInf 1 ∧ ¬ wZero 1) ∧ (0x80000001 : Nat) = (1 + 2 ^ 31) % 2 ^ 32 := by
  simp only [wNan, wSnan, wInf, wZero]; decide
/-- 1.0 + 2⁻²⁴ is a tie, which goes to the even 1.0 (R50); 1.0 + 3·2⁻²⁴ rises to 1 + 2⁻²². -/
theorem test_round_to_even : (fadd 0x3F800000 0x33800000).1 = 0x3F800000 ∧ (fadd 0x3F800000 0x34400000).1 = 0x3F800002 := by decide +kernel
/-- 1.0 divided by 3.0, and the square root of 2.0, to nearest. -/
theorem test_fdiv_fsqrt : (fdiv 0x3F800000 0x40400000).1 = 0x3EAAAAAB ∧ (fsqrt 0x40000000).1 = 0x3FB504F3 := by decide +kernel
/-- A difference of two normal numbers may be subnormal, exactly (R39). -/
theorem test_subnormal : (fsub 0x00800001 0x00800000).1 = 1 := by decide +kernel

/-! ### The queue of commands -/

theorem test_meets_IdleStepPassesOneTick : (cluster {}).pending = [] ∧ ({ cluster {} with tick := 2 ^ 64 - 1 } : State).pending = [] ∧
    State.reset.pending = [] := ⟨rfl, rfl, rfl⟩
/-- The front of the queue runs first and leaves it. -/
theorem test_front_first : let s := { cluster {} with pending := [.secRngRead, .wakeN] }
    ∃ t, Sys2Proof.Machine.step s = .next t ∧ t.pending = [.wakeN] ∧ t.drawn = s.drawn + 1 := ⟨_, rfl, rfl, rfl⟩

/-! ### WellFormed: a good command, and one that each check refuses (each checks the first value out of range) -/

def th0 : ThreadRef := ⟨255, 127, 31⟩
theorem test_wellFormed_good :
    wellFormed (.add th0) = true ∧ wellFormed (.segmentStart 255 true) = true ∧ wellFormed (.coreTestComplete 271 true) = true ∧
    wellFormed (.heartbeatTimer 75) = true ∧ wellFormed (.write (flit .write 0 false 0 bytes64)) = true ∧ wellFormed (.hold msg1 (order 0 0 0)) = true ∧
    wellFormed (.jobStart aJob) = true ∧ wellFormed (.ucFma 15 15 15 15) = true := by decide +kernel

theorem test_wellFormed_units :
    wellFormed (.segmentStart 256 true) = false ∧ wellFormed (.coreTestComplete 272 true) = false ∧ wellFormed (.heartbeatTimer 76) = false ∧
    wellFormed (.bridgePeerMessage 4 []) = false ∧ wellFormed (.ringDoorbell 2 0) = false ∧ wellFormed (.queueEnable 8192 0) = false ∧
    wellFormed (.synValueWrite 131072 0) = false ∧ wellFormed (.flashCommit msg1 2) = false ∧ wellFormed (.rotationDue 4) = false ∧
    wellFormed (.mbDeadlineExpiry 4096 true) = false ∧ wellFormed (.tsResidentWrite 1024 0) = false := by decide +kernel
theorem test_wellFormed_numbers :
    wellFormed (.ringDoorbell 0 (2 ^ 64)) = false ∧ wellFormed (.registerWrite { addr := 2 ^ 64 } 0) = false ∧ wellFormed (.registerWrite { addr := 0, size := 3 } 0) = false ∧ wellFormed (.cmdNop 0 (2 ^ 32)) = false ∧
    wellFormed (.mgmtAckTimer (2 ^ 32)) = false ∧ wellFormed (.refetchReply 0 (2 ^ 64) [] false) = false ∧ wellFormed (.carveOutPoisonRead { addr := 2 ^ 64 }) = false ∧
    wellFormed (.auxPowerUp (2 ^ 11) true true true) = false ∧ wellFormed (.ucAdd 16 0 0) = false ∧ wellFormed (.ucAdd 0 16 0) = false ∧
    wellFormed (.ucAdd 0 0 16) = false ∧ wellFormed (.ucFma 0 0 0 16) = false ∧ wellFormed (.ucLd 0 64) = false := by decide +kernel
theorem test_wellFormed_threads :
    threadOk ⟨256, 0, 0⟩ = false ∧ threadOk ⟨0, 128, 0⟩ = false ∧ threadOk ⟨0, 0, 32⟩ = false ∧ wellFormed (.add ⟨256, 0, 0⟩) = false ∧
    wellFormed (.queueWaitTimeout 0 (some ⟨256, 0, 0⟩)) = false := by decide +kernel
theorem test_wellFormed_flits : ∀ f ∈
    (let g := flit .write 0 false 0 bytes64
     [{ g with dstModule := 2 ^ 16 }, { g with dstAddr := 2 ^ 48 }, { g with srcModule := 2 ^ 16 }, { g with epoch := 2 ^ 16 }, { g with seq := 2 ^ 16 },
      { g with cls := 3 }, { g with hops := 5 }, { g with poison := 2 }, { g with jobId := 2 ^ 32 }, { g with step := 2 ^ 16 }, { g with replay := 16 },
      { g with via := 2 ^ 11 }, { g with payload := [] }, { g with payload := List.replicate 320 0 }, { g with port := 76 }, { g with crc := 2 ^ 64 }]),
    wellFormed (.write f) = false := by decide +kernel
theorem test_wellFormed_management : (∀ m ∈ [{ msg1 with port := 2 }, { msg1 with session := 2 ^ 32 }, { msg1 with seq := 2 ^ 32 }, { msg1 with ack := 2 ^ 32 }],
      wellFormed (.hold m (order 0 0 0)) = false) ∧
    (∀ d ∈ (let e := order 0 0 0
      [{ e with fmSeq := 2 ^ 32 }, { e with inst := 2 }, { e with job := 2 ^ 32 }, { e with epoch := 2 ^ 32 }, { e with w2 := 2 ^ 64 }, { e with w3 := 2 ^ 64 }]),
      wellFormed (.hold msg1 d) = false) ∧
    (∀ j ∈ [{ aJob with jobId := 2 ^ 32 }, { aJob with seed := 2 ^ 64 }, { aJob with rank := 2 ^ 16 }, { aJob with map := [2 ^ 64] }, { aJob with instar := 2 ^ 64 },
      { aJob with random := 2 ^ 64 }], wellFormed (.jobStart j) = false) := by decide +kernel

end Sys2Proof.Tests
end

section
/-! PROOFS. What every operation of the machine keeps, and the statements on its scope (SPEC, 00_scope).

`State.Keeps s t` says that on the way from `s` to `t` no waiting command was touched, nothing sent was taken back, no draw was undone, and
a canonical form was not lost. The rule of an operation reads `s.Keeps t → s.Keeps (t.op …)`, so the rule of a longer program is the chain
of its operations' rules, in the program's own order: `h.wr.send` for a write and then an output, `.ite` where it chooses, `.foldl` where
it loops, `.frame` where it writes fields that the relation does not speak of. One rule per operation of the model follows, in the model's
order, up to `exec`.

Some meanings match on a heavy expression inside a `let`. Their rules unfold the definition by `rw [show f = _ from by delta f; rfl]` and
introduce only the states they name (`extract_lets +onlyGivenNames`), so that the kernel compares the two sides without evaluating it. -/

namespace Sys2Proof.Machine

/-! ### What every operation keeps (log entries 1, 5, 6) -/

/-- From `s` to `t` no waiting command went or came, what was sent stays sent, no draw was taken back, and a canonical form was kept. -/
structure State.Keeps (s t : State) : Prop where
  pending : t.pending = s.pending
  outbox : s.outbox <+: t.outbox
  drawn : s.drawn ≤ t.drawn
  canonical : s.canonical = true → t.canonical = true

/-- The outcome of a command keeps what `State.Keeps` says, if it is a next state. -/
def State.KeepsOut (s : State) : Host.Outcome State Fault Refusal → Prop
  | .next t => s.Keeps t
  | _ => True

/-- What becomes of a flit keeps it too, whichever verdict it is. -/
def State.KeepsVerdict (s : State) : Verdict → Prop
  | .drop t | .hold t | .take t => s.Keeps t

theorem State.canonical_iff (s : State) : s.canonical = true ↔
    ssorted s.regs = true ∧ (s.mem.hbm.wf = true ∧ s.mem.tile.wf = true ∧ s.mem.oc.wf = true) ∧
      s.boot.flashA.image.wf = true ∧ s.boot.flashB.image.wf = true := by
  simp only [State.canonical, Memory.wf, Bool.and_eq_true, and_assoc]

section
variable {s t u : State}

/-! #### Rules for any program: nothing done, a change elsewhere, a choice, a loop -/

theorem State.Keeps.refl (s : State) : s.Keeps s := ⟨rfl, List.prefix_rfl, Nat.le_refl _, id⟩

section
variable {tick : Nat} {mode : ModState} {step : StepState} {job : JobSt} {barrier : BarrierSt} {mirror : MirrorSt} {canary : CanarySt} {test : TestSt}
  {ev : EventSt} {queues : Sparse Queue} {waits : List Wait} {stalled : List Stalled} {ops : List CounterOp} {rings : Sparse Ring}
  {sched : SchedSt} {upd : UpdSt} {fab : FabSt} {chrys : ChrysSt} {links : LinksSt} {pwr : PwrSt} {mgmt : MgmtSt} {arr : Sparse ArrSt}
  {row : Sparse RowSt} {vec : Sparse VecSt} {xfers : List Xfer} {nextXfer : Nat}

/-- A change of the fields that `State.Keeps` does not speak of. -/
theorem State.Keeps.frame (h : s.Keeps t) : s.Keeps { t with
    tick, mode, step, job, barrier, mirror, canary, test, ev, queues, waits, stalled, ops,
    rings, sched, upd, fab, chrys, links, pwr, mgmt, arr, row, vec, xfers, nextXfer } :=
  ⟨h.pending, h.outbox, h.drawn, h.canonical⟩

/-- The same, and draws. -/
theorem State.Keeps.frameDrawn {n : Nat} (h : s.Keeps t) : s.Keeps { t with
    drawn := t.drawn + n, tick, mode, step, job, barrier, mirror, canary, test, ev, queues, waits, stalled, ops,
    rings, sched, upd, fab, chrys, links, pwr, mgmt, arr, row, vec, xfers, nextXfer } :=
  ⟨h.pending, h.outbox, h.drawn.trans (Nat.le_add_right _ _), h.canonical⟩

/-- The same, and what stands beside the bytes of the memories. -/
theorem State.Keeps.frameMem {hbmPoison tilePoison ocPoison rewritten : Sparse Bool} {hot ceHour : Sparse Nat} {ceRaised : List Nat}
    {key imbWindow imbTick ceHourNo scrubAt sramAt : Nat} {refetches : List Refetch} (h : s.Keeps t) : s.Keeps { t with
      mem := { t.mem with
        hbmPoison, tilePoison, ocPoison, key, hot, imbWindow, imbTick, ceHour, ceHourNo, ceRaised, rewritten, scrubAt, sramAt, refetches },
      tick, mode, step, job, barrier, mirror, canary, test, ev, queues, waits, stalled, ops,
      rings, sched, upd, fab, chrys, links, pwr, mgmt, arr, row, vec, xfers, nextXfer } :=
  ⟨h.pending, h.outbox, h.drawn, h.canonical⟩

/-- The same, and what stands beside the flashes. -/
theorem State.Keeps.frameBoot {otp otpRead : Sparse Byte} {config : Option ConfigSt} {failed : List (Nat × Nat)}
    {recovery : Option Nat} {recoveryAt : Nat} {os : Bool} (h : s.Keeps t) : s.Keeps { t with
      boot := { t.boot with otp, otpRead, config, failed, recovery, recoveryAt, os },
      tick, mode, step, job, barrier, mirror, canary, test, ev, queues, waits, stalled, ops,
      rings, sched, upd, fab, chrys, links, pwr, mgmt, arr, row, vec, xfers, nextXfer } :=
  ⟨h.pending, h.outbox, h.drawn, h.canonical⟩

end

/-- A change that leaves every map in canonical form. -/
theorem State.Keeps.rebuilt (h : s.Keeps t) (hc : t.canonical = true → u.canonical = true) (hd : t.drawn ≤ u.drawn)
    (hp : u.pending = t.pending := by rfl) (ho : u.outbox = t.outbox := by rfl) : s.Keeps u :=
  ⟨hp.trans h.pending, ho ▸ h.outbox, h.drawn.trans hd, hc ∘ h.canonical⟩

theorem State.Keeps.ite {c : Prop} [Decidable c] (h : s.Keeps t) (k : s.Keeps u) : s.Keeps (if c then t else u) := by
  split <;> assumption

theorem State.Keeps.ite_fst {α : Type} {c : Prop} [Decidable c] {p q : State × α} (h : s.Keeps p.1) (k : s.Keeps q.1) :
    s.Keeps (if c then p else q).1 := by
  split <;> assumption

theorem State.KeepsVerdict.ite {c : Prop} [Decidable c] {a b : Verdict} (h : s.KeepsVerdict a) (k : s.KeepsVerdict b) :
    s.KeepsVerdict (if c then a else b) := by
  split <;> assumption

theorem State.KeepsOut.ite {c : Prop} [Decidable c] {a b : Host.Outcome State Fault Refusal} (h : s.KeepsOut a) (k : s.KeepsOut b) :
    s.KeepsOut (if c then a else b) := by
  split <;> assumption

theorem State.Keeps.foldl {α : Type} {l : List α} {f : State → α → State} (h : s.Keeps t) (hf : ∀ u x, s.Keeps u → s.Keeps (f u x)) :
    s.Keeps (l.foldl f t) := by
  induction l generalizing t with
  | nil => exact h
  | cons x l ih => exact ih (hf t x h)

theorem State.Keeps.foldl_fst {α β : Type} {l : List α} {f : State × β → α → State × β} {p : State × β} (h : s.Keeps p.1)
    (hf : ∀ q x, s.Keeps q.1 → s.Keeps (f q x).1) : s.Keeps (l.foldl f p).1 := by
  induction l generalizing p with
  | nil => exact h
  | cons x l ih => exact ih (hf p x h)

theorem State.Keeps.foldl_snd {α β : Type} {l : List α} {f : β × State → α → β × State} {p : β × State} (h : s.Keeps p.2)
    (hf : ∀ q x, s.Keeps q.2 → s.Keeps (f q x).2) : s.Keeps (l.foldl f p).2 := by
  induction l generalizing p with
  | nil => exact h
  | cons x l ih => exact ih (hf p x h)

/-! #### The operations that write what is kept: registers, outputs, draws, memories and flashes -/

/-- A change of the register map that leaves it sorted. -/
theorem State.Keeps.withRegs {r : Sparse Nat} (h : s.Keeps t) (hr : ssorted t.regs = true → ssorted r = true) :
    s.Keeps { t with regs := r } :=
  h.rebuilt (fun c => by
    rw [State.canonical_iff] at c ⊢
    exact ⟨hr c.1, c.2⟩) (Nat.le_refl _)

/-- A change of the memories that leaves each in canonical form. -/
theorem State.Keeps.withMem {m : MemSt} (h : s.Keeps t) (hm : Memory.wf t.mem = true → Memory.wf m = true) :
    s.Keeps { t with mem := m } :=
  h.rebuilt (fun c => by
    simp only [State.canonical, Bool.and_eq_true] at c ⊢
    exact ⟨⟨⟨c.1.1.1, hm c.1.1.2⟩, c.1.2⟩, c.2⟩) (Nat.le_refl _)

/-- A change of the flashes and the OTP array that leaves each image in canonical form. -/
theorem State.Keeps.withBoot {b : BootSt} (h : s.Keeps t) (ha : t.boot.flashA.image.wf = true → b.flashA.image.wf = true)
    (hb : t.boot.flashB.image.wf = true → b.flashB.image.wf = true) : s.Keeps { t with boot := b } :=
  h.rebuilt (fun c => by
    rw [State.canonical_iff] at c ⊢
    exact ⟨c.1, c.2.1, ha c.2.2.1, hb c.2.2.2⟩) (Nat.le_refl _)

/-- Any number of draws. -/
theorem State.Keeps.drew {n : Nat} (h : s.Keeps t) : s.Keeps { t with drawn := t.drawn + n } :=
  ⟨h.pending, h.outbox, h.drawn.trans (Nat.le_add_right _ _), h.canonical⟩

theorem State.Keeps.wrAt {f : Field} {i v : Nat} (h : s.Keeps t) : s.Keeps (t.wrAt f i v) :=
  h.withRegs fun c => ssorted_sset c _ _ _

theorem State.Keeps.send {o : Output} (h : s.Keeps t) : s.Keeps (t.send o) :=
  ⟨h.pending, h.outbox.trans (List.prefix_append _ _), h.drawn, h.canonical⟩

theorem State.Keeps.draw (h : s.Keeps t) : s.Keeps t.draw.2 := h.drew

theorem Memory.wf_iff (m : MemSt) : Memory.wf m = true ↔ m.hbm.wf = true ∧ m.tile.wf = true ∧ m.oc.wf = true := by
  simp only [Memory.wf, Bool.and_eq_true, and_assoc]

theorem State.Keeps.poke {a : Nat} {b : Byte} (h : s.Keeps t) : s.Keeps (t.poke a b) := by
  unfold State.poke
  split
  case h_1 | h_2 =>
    refine h.withMem fun c => ?_
    rw [Memory.wf_iff] at c ⊢
    exact ⟨Image.write_wf _ _ _ c.1, c.2⟩
  case h_3 =>
    refine h.withMem fun c => ?_
    rw [Memory.wf_iff] at c ⊢
    exact ⟨c.1, Image.write_wf _ _ _ c.2.1, c.2.2⟩
  case h_4 =>
    refine h.withMem fun c => ?_
    rw [Memory.wf_iff] at c ⊢
    exact ⟨c.1, c.2.1, Image.write_wf _ _ _ c.2.2⟩
  case h_5 => exact h

/-! #### The operations of Machine/Ops.lean -/

theorem State.Keeps.wr (h : s.Keeps t) {f : Field} {v : Nat} : s.Keeps (t.wr f v) := h.wrAt

theorem State.Keeps.wrBit (h : s.Keeps t) {f : Field} {b : Bool} : s.Keeps (t.wrBit f b) := h.wr

theorem State.Keeps.addAt (h : s.Keeps t) {f : Field} {i n : Nat} : s.Keeps (t.addAt f i n) := h.wrAt

theorem State.Keeps.add (h : s.Keeps t) {f : Field} {n : Nat} : s.Keeps (t.add f n) := h.addAt

theorem State.Keeps.addSatAt (h : s.Keeps t) {f : Field} {i n : Nat} : s.Keeps (t.addSatAt f i n) := h.wrAt

theorem State.Keeps.addSat (h : s.Keeps t) {f : Field} {n : Nat} : s.Keeps (t.addSat f n) := h.addSatAt

theorem State.Keeps.clearAt (h : s.Keeps t) {fs : List Field} {i : Nat} : s.Keeps (t.clearAt fs i) := h.foldl fun _ _ hu => hu.wrAt

theorem State.Keeps.clear (h : s.Keeps t) {fs : List Field} : s.Keeps (t.clear fs) := h.clearAt

theorem State.Keeps.each (h : s.Keeps t) {is : List Nat} {f : State → Nat → State} (hf : ∀ u x, s.Keeps u → s.Keeps (f u x)) :
    s.Keeps (t.each is f) :=
  h.foldl fun _ _ hu => hf _ _ hu

theorem State.Keeps.idle (h : s.Keeps t) : s.Keeps t.idle := .ite h.frame h

theorem State.Keeps.takeSpare {x : Nat × State} (h : s.Keeps t) {q : Nat} (e : t.takeSpare q = some x) : s.Keeps x.2 := by
  unfold State.takeSpare at e
  split at e
  · exact Option.some.inj e ▸ h
  · split at e
    · exact Option.some.inj e ▸ h.wrAt.wrAt
    · cases e

theorem State.poke_drawn (t : State) (a : Nat) (b : Byte) : (t.poke a b).drawn = t.drawn := by
  unfold State.poke
  split <;> rfl

theorem State.Keeps.setPoison (h : s.Keeps t) {a : Nat} {v : Bool} : s.Keeps (t.setPoison a v) := by
  unfold State.setPoison
  extract_lets _
  split
  · extract_lets _ _
    exact h.frameMem
  · extract_lets _ _
    exact h.frameMem
  · exact h.frameMem
  · exact h.frameMem
  · exact h

theorem State.Keeps.storeRaw (h : s.Keeps t) {a : Nat} {bs : List Byte} : s.Keeps (t.storeRaw a bs) := by
  induction bs generalizing t a with
  | nil => exact h
  | cons b bs ih => exact ih h.poke

theorem State.storeRaw_drawn (bs : List Byte) : ∀ (t : State) (a : Nat), (t.storeRaw a bs).drawn = t.drawn := by
  induction bs with
  | nil => exact fun _ _ => rfl
  | cons b bs ih => exact fun t a => (ih _ _).trans (t.poke_drawn a b)

theorem State.Keeps.storeN (h : s.Keeps t) {a : Nat} {bs : List Byte} {poison : Bool} : s.Keeps (t.storeN a bs poison) :=
  h.storeRaw.foldl fun _ _ hu => .ite hu.setPoison (.ite hu.setPoison hu)

theorem State.Keeps.store64 (h : s.Keeps t) {a v : Nat} : s.Keeps (t.store64 a v) := h.storeN

theorem State.Keeps.loseStores (h : s.Keeps t) {p : Nat} {tile : Bool} : s.Keeps (t.loseStores p tile) := by
  refine h.rebuilt (fun c => ?_) (Nat.le_add_right _ 1)
  rw [State.canonical_iff] at c ⊢
  obtain ⟨hregs, ⟨hhbm, htile, hoc⟩, hflash⟩ := c
  cases tile
  · exact ⟨hregs, ⟨hhbm, htile, Image.discardOutside_wf _ _ _ hoc⟩, hflash⟩
  · exact ⟨hregs, ⟨hhbm, Image.discardOutside_wf _ _ _ htile, Image.discardOutside_wf _ _ _ hoc⟩, hflash⟩

theorem State.Keeps.copyResidents (h : s.Keeps t) {n p q : Nat} : s.Keeps (t.copyResidents n p q) := by
  refine h.foldl fun _ _ hu => hu.withMem fun c => ?_
  rw [Memory.wf_iff] at c ⊢
  exact ⟨c.1, Image.copy_wf _ _ _ _ (Image.copy_wf _ _ _ _ c.2.1), c.2.2⟩

/-! #### The operations of Machine/MgmtTx.lean -/

theorem State.Keeps.setSession (h : s.Keeps t) {x : Session} : s.Keeps (t.setSession x) := h.frame

theorem State.Keeps.endSession (h : s.Keeps t) {id : Nat} : s.Keeps (t.endSession id) := h.frame.wr

theorem State.Keeps.mgmtEmit (h : s.Keeps t) {id : Nat} {m : OutMsg} : s.Keeps (t.mgmtEmit id m) := h.send

theorem State.Keeps.mgmtTo (h : s.Keeps t) {id kind : Nat} {body : List Nat} : s.Keeps (t.mgmtTo id kind body) := by
  unfold State.mgmtTo
  split
  · exact h
  · extract_lets _
    exact .ite h.setSession (.ite h.endSession h.setSession.mgmtEmit)

theorem State.Keeps.mgmtAll (h : s.Keeps t) {roles : List Nat} {kind : Nat} {body : List Nat} : s.Keeps (t.mgmtAll roles kind body) :=
  h.foldl fun _ _ hu => hu.mgmtTo

theorem State.Keeps.mgmtDrain (h : s.Keeps t) {id : Nat} : s.Keeps (t.mgmtDrain id) := by
  unfold State.mgmtDrain
  split
  · exact h
  · extract_lets _
    exact h.setSession.foldl fun _ _ hu => hu.mgmtTo

theorem State.Keeps.sendRecord (h : s.Keeps t) {ws : List Nat} : s.Keeps (t.sendRecord ws) := h.send.mgmtAll

/-! #### The operations of Machine/Events.lean -/

theorem State.Keeps.fileRecord (h : s.Keeps t) {seq : Nat} {ws : List Nat} : s.Keeps (t.fileRecord seq ws) := by
  unfold State.fileRecord
  extract_lets u _
  have hu : s.Keeps u := h.foldl fun _ _ hu => hu.wrAt
  exact hu.frame

theorem State.Keeps.closeWindow (h : s.Keeps t) {w : Window} : s.Keeps (t.closeWindow w) := h.frame.fileRecord.sendRecord

theorem State.Keeps.appendRecord (h : s.Keeps t) {e : Event} {unit : Nat} {detail : List Nat} : s.Keeps (t.appendRecord e unit detail) := by
  unfold State.appendRecord
  extract_lets u _ _ v _
  have hu : s.Keeps u := h.foldl fun _ _ hu => hu.closeWindow
  have hv : s.Keeps v := hu.wr.fileRecord
  exact .ite hv.frame hv.sendRecord

theorem State.Keeps.countRepeat (h : s.Keeps t) {w : Window} {sev : Nat} : s.Keeps (t.countRepeat w sev) := h.wrAt.frame

theorem State.Keeps.record (h : s.Keeps t) {e : Event} {unit : Nat} {detail : List Nat} : s.Keeps (t.record e unit detail) := by
  unfold State.record
  extract_lets u
  have hu : s.Keeps u := h.addSatAt
  split
  · exact hu.countRepeat
  · exact hu.appendRecord

theorem State.Keeps.enterFailed (h : s.Keeps t) {cause : Nat} : s.Keeps (t.enterFailed cause) := .ite h h.frame.record

theorem State.Keeps.raise (h : s.Keeps t) {e : Event} {unit : Nat} {detail : List Nat} : s.Keeps (t.raise e unit detail) :=
  .ite h.record.enterFailed (.ite h.record.frame h.record)

theorem State.Keeps.raiseRec (h : s.Keeps t) {e : Event} {unit : Nat} {r : List Field} {i : Nat} : s.Keeps (t.raiseRec e unit r i) :=
  h.raise

theorem State.Keeps.nanEvents (h : s.Keeps t) {x : NanTag} {n : Nat} : s.Keeps (t.nanEvents x n) := by
  unfold State.nanEvents
  extract_lets _ _ u v w _ u'
  have hu : s.Keeps u := .ite h.frame h
  have hv : s.Keeps v := hu.wr.wr.wr.wr.wr.wr.wr
  have hw : s.Keeps w := hv.wr.wr.wr.wr
  have hu' : s.Keeps u' := hw.frame.wr
  exact .ite h (.ite hu.addSat (.ite hu'.raise hu))

/-! #### The operations of Machine/Wiring.lean -/

theorem State.Keeps.setPort (h : s.Keeps t) {o : Nat} {p : PortSt} : s.Keeps (t.setPort o p) := h.frame

theorem State.Keeps.setPortState (h : s.Keeps t) {o v : Nat} : s.Keeps (t.setPortState o v) := h.wrAt

theorem State.Keeps.showTopo (h : s.Keeps t) : s.Keeps t.showTopo := h.wr.wr.wrBit

/-! #### The operations of Machine/LinkTx.lean -/

theorem State.Keeps.sendLink (h : s.Keeps t) {o : Nat} {body : List Byte} : s.Keeps (t.sendLink o body) := h.setPort.send

theorem State.Keeps.linkPut (h : s.Keeps t) {o : Nat} {f : Flit} : s.Keeps (t.linkPut o f) := h.setPort.send

theorem State.Keeps.noteHot (h : s.Keeps t) {o : Nat} : s.Keeps (t.noteHot o) := h.frame

theorem State.Keeps.leaveKeepalive (h : s.Keeps t) {o : Nat} : s.Keeps (t.leaveKeepalive o) := h.wrAt.wrAt

theorem State.Keeps.grantPort {n : Nat} (h : s.Keeps t) {o : Nat} : s.Keeps (State.grantPort n t o) := by
  induction n generalizing t with
  | zero => exact h
  | succ n ih =>
    unfold State.grantPort
    split
    · split
      · exact ih h.setPort.linkPut
      · exact h
    · exact h

theorem State.Keeps.drainPort (h : s.Keeps t) {o : Nat} : s.Keeps (t.drainPort o) := h.grantPort.noteHot

theorem State.Keeps.portSend (h : s.Keeps t) {o : Nat} {f : Flit} : s.Keeps (t.portSend o f) := by
  unfold State.portSend
  extract_lets u _ _ v _
  have hu : s.Keeps u := .ite h.sendLink.leaveKeepalive h
  have hv : s.Keeps v := hu.setPort
  exact hv.frame.drainPort

theorem State.Keeps.route (h : s.Keeps t) {f : Flit} : s.Keeps (t.route f) := by
  unfold State.route
  extract_lets _ u
  have hu : s.Keeps u := h.frameDrawn
  split
  · split
    · exact h.portSend
    · exact h
  · split
    · split
      · exact h.frame.portSend
      · exact h
    · split
      · exact h
      · exact .portSend (.ite hu.add hu)

/-! #### The operations of Machine/Send.lean -/

theorem State.Keeps.setTx (h : s.Keeps t) {k : Nat} {x : TxSpace} : s.Keeps (t.setTx k x) := h.frame

theorem State.Keeps.setRx (h : s.Keeps t) {k : Nat} {x : RxSpace} : s.Keeps (t.setRx k x) := h.frame

theorem State.Keeps.emit (h : s.Keeps t) {f : Flit} : s.Keeps (t.emit f) := h.add.route

theorem State.Keeps.launch (h : s.Keeps t) {k : Nat} {f : Flit} {tag : Nat} : s.Keeps (t.launch k f tag) := h.setTx.emit

theorem State.Keeps.sendFlit (h : s.Keeps t) {f : Flit} {tag : Nat} : s.Keeps (t.sendFlit f tag) := .ite h.setTx h.launch

theorem State.Keeps.drainTx {n : Nat} (h : s.Keeps t) {k : Nat} : s.Keeps (State.drainTx n t k) := by
  induction n generalizing t with
  | zero => exact h
  | succ n ih =>
    unfold State.drainTx
    extract_lets
    split
    · exact h
    · exact .ite h (.ite h (ih h.setTx.launch))

theorem State.Keeps.sendBarrier (h : s.Keeps t) {dst kind code cause flags count origin digest : Nat} :
    s.Keeps (t.sendBarrier dst kind code cause flags count origin digest) :=
  h.sendFlit

theorem State.Keeps.sendNotice (h : s.Keeps t) {dst kind rank by_ : Nat} : s.Keeps (t.sendNotice dst kind rank by_) := h.sendFlit

/-! #### The operations of Machine/UpdTable.lean -/

theorem State.Keeps.rejectTable (h : s.Keeps t) {source code entry : Nat} : s.Keeps (t.rejectTable source code entry) :=
  h.wr.wr.wr.wr.raiseRec

theorem State.Keeps.loadTable (h : s.Keeps t) : s.Keeps t.loadTable := by
  unfold State.loadTable
  extract_lets _ _ _ _
  split
  · exact h.rejectTable
  · exact h.frame.wr

theorem State.Keeps.loadUcode (h : s.Keeps t) : s.Keeps t.loadUcode := by
  rw [show State.loadUcode = _ from by delta State.loadUcode; rfl]
  extract_lets +onlyGivenNames _ _
  split
  · exact h.rejectTable
  · exact h.frame.wr

theorem State.Keeps.settleLoads (h : s.Keeps t) : s.Keeps t.settleLoads :=
  .ite h (.ite (.loadUcode (.wr (.ite h.wr.loadTable h))) (.ite h.wr.loadTable h))

theorem State.Keeps.execLoadTable (h : s.Keeps t) : s.KeepsOut (execLoadTable t) := Keeps.ite h.wr.settleLoads h

theorem State.Keeps.execLoadUcode (h : s.Keeps t) : s.KeepsOut (execLoadUcode t) := Keeps.ite h.wr.settleLoads h

theorem State.Keeps.showScale (h : s.Keeps t) : s.Keeps t.showScale := h.wr.wr

theorem State.Keeps.updFlags (h : s.Keeps t) {f : Flags} : s.Keeps (t.updFlags f) := h.wr.wr.wr

theorem State.Keeps.openUpd (h : s.Keeps t) : s.Keeps t.openUpd :=
  .ite h.frame.showScale.wr.wr.wr.wr.wr.wr.wr.updFlags.storeN h.frame.showScale.wr.wr.wr.wr.wr.wr.wr.updFlags

/-! #### The operations of Machine/Attempt.lean -/

theorem State.Keeps.answer (h : s.Keeps t) {code fmSeq result : Nat} : s.Keeps (t.answer code fmSeq result) := h.frame.wr.mgmtAll

theorem State.Keeps.finishDirectives (h : s.Keeps t) {code : Nat} : s.Keeps (t.finishDirectives code) :=
  h.frame.foldl fun _ _ hu => hu.answer

theorem State.Keeps.settleSteps (h : s.Keeps t) : s.Keeps t.settleSteps := h.frame

theorem State.Keeps.resetQueue (h : s.Keeps t) {q : Nat} : s.Keeps (t.resetQueue q) := .ite h.frame.clearAt.wrAt h.frame.clearAt

theorem State.Keeps.resetQueues (h : s.Keeps t) : s.Keeps t.resetQueues := h.foldl fun _ _ hu => hu.resetQueue

theorem State.Keeps.abandonPushes (h : s.Keeps t) : s.Keeps t.abandonPushes := h.frame

theorem State.Keeps.endWaits (h : s.Keeps t) : s.Keeps t.endWaits := h.frame

theorem State.Keeps.undefineStores (h : s.Keeps t) : s.Keeps t.undefineStores := by
  refine h.rebuilt (fun c => ?_) (Nat.le_add_right _ 1)
  rw [State.canonical_iff] at c ⊢
  obtain ⟨hregs, ⟨hhbm, htile, hoc⟩, hflash⟩ := c
  exact ⟨hregs, ⟨hhbm, Image.discardOutside_wf _ _ _ htile, Image.discardOutside_wf _ _ _ hoc⟩, hflash⟩

theorem State.Keeps.resetSpaces (h : s.Keeps t) : s.Keeps t.resetSpaces := h.frame

theorem State.Keeps.flushDecisions (h : s.Keeps t) : s.Keeps t.flushDecisions :=
  h.foldl fun _ _ hu => .ite (hu.foldl (fun _ _ hu' => hu'.launch)) hu

theorem State.Keeps.resetUpd (h : s.Keeps t) : s.Keeps t.resetUpd := h.frame.wr

theorem State.Keeps.resetArrays (h : s.Keeps t) : s.Keeps t.resetArrays := h.frame.foldl fun _ _ hu => hu.wrAt

theorem State.Keeps.dropContexts (h : s.Keeps t) : s.Keeps t.dropContexts := h.frame

theorem State.Keeps.resetVec (h : s.Keeps t) : s.Keeps t.resetVec := h.frame

theorem State.Keeps.endAttempt (h : s.Keeps t) : s.Keeps t.endAttempt :=
  h.flushDecisions.resetQueues.abandonPushes.endWaits.undefineStores.resetSpaces.resetUpd.resetArrays.resetVec.frame.wr.clear.wr.wr.wr

theorem State.Keeps.askPartner (h : s.Keeps t) {g instar : Nat} : s.Keeps (t.askPartner g instar) := h.sendFlit

theorem State.Keeps.askCopy (h : s.Keeps t) {r : Refetch} : s.Keeps (t.askCopy r) := .ite h.sendFlit h.askPartner

theorem State.Keeps.askAgain (h : s.Keeps t) : s.Keeps t.askAgain := by
  unfold State.askAgain
  extract_lets _ _ u
  have hu : s.Keeps u := h.frameMem.foldl fun _ _ hu => hu.askCopy
  split
  · exact hu.foldl fun _ _ hu' => hu'.askPartner
  · exact hu

theorem State.Keeps.promoteRx (h : s.Keeps t) : s.Keeps t.promoteRx := h.frame

theorem State.Keeps.endInputWait (h : s.Keeps t) : s.Keeps t.endInputWait := by
  unfold State.endInputWait
  extract_lets _
  split
  · exact h.frame.add
  · exact h

theorem State.Keeps.enterHeld (h : s.Keeps t) : s.Keeps t.enterHeld :=
  .ite h.frame.endInputWait.finishDirectives.settleLoads.settleSteps h

theorem State.Keeps.enterDraining (h : s.Keeps t) : s.Keeps t.enterDraining :=
  .ite h.endInputWait.frame.clear.finishDirectives.settleLoads.settleSteps h

theorem State.Keeps.atBoundary (h : s.Keeps t) : s.Keeps t.atBoundary := by
  unfold State.atBoundary
  extract_lets _
  split
  · exact h.frame.enterHeld
  · exact h.enterDraining
  · exact h

theorem State.Keeps.discardStep (h : s.Keeps t) {cause origin : Nat} {hold : Bool} : s.Keeps (t.discardStep cause origin hold) := by
  unfold State.discardStep
  extract_lets _ _ u v w _ _ u' v'
  have hu : s.Keeps u := .ite h.frame h
  have hv : s.Keeps v := hu.endAttempt.dropContexts
  have hw : s.Keeps w := hv.wr.addSat.wr.wr.wr
  have hu' : s.Keeps u' := hw.frame.promoteRx.askAgain
  have hv' : s.Keeps v' := .ite hu'.enterHeld hu'
  exact .ite hv'.atBoundary h

theorem State.Keeps.decideDiscard (h : s.Keeps t) {cause origin : Nat} : s.Keeps (t.decideDiscard cause origin) :=
  .discardStep (.foldl (.wr (.ite h h.add)) (fun _ _ hu => hu.sendBarrier))

theorem State.Keeps.passFail (h : s.Keeps t) : s.Keeps t.passFail := .ite (.ite h h.decideDiscard) (.ite h h.sendBarrier.frame)

theorem State.Keeps.voteFail (h : s.Keeps t) {cause : Nat} : s.Keeps (t.voteFail cause) := h.frame.passFail

theorem State.Keeps.directedFail (h : s.Keeps t) : s.Keeps t.directedFail := .ite h.voteFail h

theorem State.Keeps.failStep (h : s.Keeps t) {cause : Nat} {hold : Bool} : s.Keeps (t.failStep cause hold) := by
  unfold State.failStep
  extract_lets _ u _
  have hu : s.Keeps u := .ite h.frame h
  exact .ite (.ite hu hu.voteFail) (.ite hu.frame.enterHeld hu)

theorem State.Keeps.fatalJob (h : s.Keeps t) {e : Event} {unit : Nat} {detail : List Nat} {cause : Nat} :
    s.Keeps (t.fatalJob e unit detail cause) :=
  h.raise.failStep

theorem State.Keeps.consumed (h : s.Keeps t) {point a : Nat} : s.Keeps (t.consumed point a) := .ite h.addSat h.addSat.wr.wr.wr.wr

theorem State.Keeps.poisonFatal (h : s.Keeps t) {a : Nat} : s.Keeps (t.poisonFatal a) := h.consumed.fatalJob

theorem State.Keeps.requestCopy (h : s.Keeps t) {g : Nat} {resend : Bool} : s.Keeps (t.requestCopy g resend) :=
  .ite h (.ite h.poisonFatal h.frameMem.askCopy)

theorem State.Keeps.meetPoison (h : s.Keeps t) {point b : Nat} {resend : Bool} : s.Keeps (t.meetPoison point b resend) := by
  unfold State.meetPoison
  extract_lets _ _ u _
  have hu : s.Keeps u := h.consumed.requestCopy
  split
  · extract_lets _
    exact .ite h h.frameMem.consumed
  · exact hu.frameMem

theorem State.Keeps.consumePoison (h : s.Keeps t) {a : Nat} : s.Keeps (t.consumePoison a) := by
  rw [show State.consumePoison = _ from by delta State.consumePoison; rfl]
  split
  · split
    · exact h.meetPoison
    · extract_lets +onlyGivenNames u _ _ v
      have hu : s.Keeps u := h.consumed
      have hv : s.Keeps v := .ite hu hu.frame.wr
      exact hv.failStep
    · split
      · exact h.meetPoison
      · split
        · exact h.consumed.failStep
        · exact h.consumed.raise.failStep
  · split
    · exact h.consumed.raise.failStep
    · exact h.consumed.raise.failStep
  · exact h.consumed.raise.failStep
  · exact h.consumed.raise
  · exact h

/-! #### The operations of Machine/LinkRx.lean -/

theorem State.Keeps.startRetrain (h : s.Keeps t) {o lanes : Nat} {tell : Bool} : s.Keeps (t.startRetrain o lanes tell) :=
  .ite h.wrAt.addSatAt.setPortState.setPort.showTopo.sendLink h.wrAt.addSatAt.setPortState.setPort.showTopo

theorem State.Keeps.crcFails (h : s.Keeps t) {o : Nat} {fec : Bool} : s.Keeps (t.crcFails o fec) :=
  .ite (.startRetrain (.sendLink (.setPort (.ite h.addAt h.addSatAt)))) (.sendLink (.setPort (.ite h.addAt h.addSatAt)))

theorem State.Keeps.linkTake (h : s.Keeps t) {o : Nat} : s.Keeps (t.linkTake o) := .ite h.setPort.sendLink h.setPort

theorem State.Keeps.linkCheck (h : s.Keeps t) {f : Flit} {take : State → State} (htake : ∀ u, s.Keeps u → s.Keeps (take u)) :
    s.Keeps (t.linkCheck f take) :=
  .ite (htake _ h.linkTake) h.crcFails

/-! #### The operations of Machine/Recv.lean -/

theorem State.Keeps.sendAck (h : s.Keeps t) {src : Nat} {ordered : Bool} {x : RxSpace} {epoch step replay : Nat} :
    s.Keeps (t.sendAck src ordered x epoch step replay) :=
  h.emit

theorem State.Keeps.putRx (h : s.Keeps t) {isLater : Bool} {src : Nat} {ordered : Bool} {x : RxSpace} {epoch step replay : Nat} :
    s.Keeps (t.putRx isLater src ordered x epoch step replay) :=
  .ite (.sendAck (.ite h.frame h.setRx)) (.ite h.frame h.setRx)

theorem State.Keeps.dropped (h : s.Keeps t) {f : Field} : s.Keeps (t.dropped f) := h.addSat

theorem State.Keeps.hear (h : s.Keeps t) {m : Nat} : s.Keeps (t.hear m) := .ite h.frame h

theorem State.Keeps.checkSeq (h : s.Keeps t) {f : Flit} {isLater : Bool} {x : RxSpace} {act : State → Verdict}
    (hact : ∀ u, s.Keeps u → s.KeepsVerdict (act u)) : s.KeepsVerdict (t.checkSeq f isLater x act) := by
  unfold State.checkSeq
  split
  · exact h
  · exact .ite h.putRx.dropped (hact _ h.putRx)

theorem State.Keeps.receive (h : s.Keeps t) {f : Flit} : s.KeepsVerdict (t.receive f) := by
  have hr : s.Keeps ((t.add F.FAB_RX_FLITS_count 1).hear f.srcModule) := h.add.hear
  refine .ite h (.ite h.add.route (.ite h.add.dropped (.ite hr.dropped (.ite hr.dropped (.ite (.ite hr (hr.checkSeq ?_))
    (hr.checkSeq fun _ hu => .ite hu hu))))))
  split
  · exact fun _ hu => .ite hu hu
  · exact fun _ hu => .ite hu hu

theorem State.Keeps.onFlit (h : s.Keeps t) {f : Flit} {ty : FlitType} {act : State → State}
    (hact : ∀ u, s.Keeps u → s.Keeps (act u)) : s.Keeps (t.onFlit f ty act) := by
  refine .ite h (.linkCheck h fun u hu => ?_)
  have hr := hu.receive (f := f)
  split <;> rename_i e <;> rw [e] at hr
  · exact hr
  · exact hr.frame
  · exact hact _ hr

theorem State.Keeps.releaseHeld (h : s.Keeps t) : s.Keeps t.releaseHeld.2 := h.frame

theorem State.Keeps.execAckTimer (h : s.Keeps t) {src : Nat} {ordered : Bool} : s.KeepsOut (execAckTimer src ordered t) :=
  .ite h (.ite h.setRx.sendAck (.ite h.frame.sendAck h))

/-! #### The operations of Machine/Chrys.lean -/

theorem State.Keeps.sendChrys (h : s.Keeps t) {dst kind flags slot code instar piece pieces digest : Nat} :
    s.Keeps (t.sendChrys dst kind flags slot code instar piece pieces digest) :=
  h.sendFlit

theorem State.Keeps.nvmeWrite (h : s.Keeps t) {f ctrl ns lba blocks what : Nat} {data : List Byte} :
    s.Keeps (t.nvmeWrite f ctrl ns lba blocks what data) :=
  h.send

theorem State.Keeps.sendCommand (h : s.Keeps t) {w : Writer} {f k : Nat} : s.Keeps (t.sendCommand w f k) :=
  .ite h.nvmeWrite (.ite h.nvmeWrite h.nvmeWrite)

theorem State.Keeps.issueWrite (h : s.Keeps t) {w : Writer} {k : Nat} : s.Keeps (t.issueWrite w k) := by
  rw [show State.issueWrite = _ from by delta State.issueWrite; rfl]
  extract_lets +onlyGivenNames u
  have hu : s.Keeps u := h.sendCommand
  split
  · exact hu.frame
  · exact hu

theorem State.Keeps.setWriter (h : s.Keeps t) {w : Option Writer} : s.Keeps (t.setWriter w) := h.frame

theorem State.Keeps.countDone (h : s.Keeps t) {instar rank piece pieces digest : Nat} {failed : Bool} :
    s.Keeps (t.countDone instar rank piece pieces digest failed) := by
  unfold State.countDone
  extract_lets _
  split
  · extract_lets _
    exact .ite h.frame.wr h
  · exact h

theorem State.Keeps.sendDone (h : s.Keeps t) {instar slot piece pieces digest : Nat} {failed : Bool} {code : Nat} :
    s.Keeps (t.sendDone instar slot piece pieces digest failed code) :=
  .ite h.countDone h.sendChrys

theorem State.Keeps.stopWriter (h : s.Keeps t) {code : Nat} : s.Keeps (t.stopWriter code) := by
  unfold State.stopWriter
  extract_lets u v
  have hu : s.Keeps u := h.setWriter.wr.wr.wr
  have hv : s.Keeps v := hu.raiseRec.settleSteps
  split
  · exact h
  · exact .ite hv hv.sendDone

theorem State.Keeps.issueAll (h : s.Keeps t) {w : Writer} : s.Keeps (t.issueAll w) := h.foldl fun _ _ hu => hu.issueWrite

theorem State.Keeps.takeCut (h : s.Keeps t) {instar slot : Nat} : s.Keeps (t.takeCut instar slot) := by
  unfold State.takeCut
  extract_lets _ _ _ _ _ _ u v
  have hu : s.Keeps u := h.setWriter.wr.wr.wr.wr.wr
  have hv : s.Keeps v := hu.finishDirectives
  exact .ite hv.stopWriter (.ite hv.wr hv.wr.issueAll)

theorem State.Keeps.onCut (h : s.Keeps t) {now : Bool} {instar slot : Nat} : s.Keeps (t.onCut now instar slot) :=
  .ite (.sendDone (.ite h h.wr)) (.ite h.takeCut h.frame)

theorem State.Keeps.cutAtMolt (h : s.Keeps t) : s.Keeps t.cutAtMolt := by
  unfold State.cutAtMolt
  extract_lets _ u
  have hu : s.Keeps u := h.frame
  split
  · exact .ite (.ite hu.sendDone hu.takeCut) h
  · exact h

theorem State.Keeps.issueCut (h : s.Keeps t) : s.Keeps t.issueCut := by
  unfold State.issueCut
  extract_lets _ _ _ _ u _ v w u'
  have hu : s.Keeps u := .ite h.nvmeWrite h
  have hv : s.Keeps v := hu.frame
  have hw : s.Keeps w := hv.wr.wr.wr
  have hu' : s.Keeps u' := hw.foldl fun _ _ hu' => hu'.sendChrys
  exact hu'.onCut

theorem State.Keeps.coordRequest (h : s.Keeps t) : s.Keeps t.coordRequest := .ite h (.ite h.wr h.issueCut)

theorem State.Keeps.servePending (h : s.Keeps t) : s.Keeps t.servePending := .ite h.issueCut h

theorem State.Keeps.scheduledCut (h : s.Keeps t) : s.Keeps t.scheduledCut := .ite (.ite h.addSat h.issueCut) h.servePending

theorem State.Keeps.commitChrys (h : s.Keeps t) {g : Gather} : s.Keeps (t.commitChrys g) :=
  h.nvmeWrite.nvmeWrite.frame.wr.wr.wr.servePending

theorem State.Keeps.tryCommit (h : s.Keeps t) : s.Keeps t.tryCommit := by
  unfold State.tryCommit
  split
  · exact .ite h.commitChrys h
  · exact h

theorem State.Keeps.warn (h : s.Keeps t) : s.Keeps t.warn := .ite (.ite h.frame.raise.coordRequest h.frame.raise.sendChrys) h

theorem State.Keeps.directedChrys (h : s.Keeps t) : s.Keeps t.directedChrys := .ite h.coordRequest h.sendChrys

theorem State.Keeps.chrysEpoch (h : s.Keeps t) : s.Keeps t.chrysEpoch := .ite h.stopWriter.frame.wr.wr h.stopWriter.frame.wr

theorem State.Keeps.execCut (h : s.Keeps t) {f : Flit} : s.KeepsOut (execCut f t) :=
  h.onFlit fun _ hu => .ite hu (.onCut (hu.foldl (fun _ _ hu' => hu'.sendChrys)))

theorem State.Keeps.execDone (h : s.Keeps t) {f : Flit} : s.KeepsOut (execDone f t) :=
  h.onFlit fun _ hu => .ite hu hu.countDone.tryCommit

theorem State.Keeps.execRequest (h : s.Keeps t) {f : Flit} : s.KeepsOut (execRequest f t) :=
  h.onFlit fun _ hu => .ite hu hu.coordRequest

theorem State.Keeps.writerPoison (h : s.Keeps t) {w : Writer} {g : Nat} : s.Keeps (t.writerPoison w g) :=
  .ite h.stopWriter (.ite h.meetPoison (.ite h.consumed.stopWriter (.ite h h.consumed.setWriter.askPartner)))

theorem State.Keeps.execStagingCopyDone (h : s.Keeps t) : s.KeepsOut (execStagingCopyDone t) := by
  unfold Machine.execStagingCopyDone
  split
  · exact h
  · extract_lets u _
    have hu : s.Keeps u := h.foldl fun _ _ hu => hu.storeN
    split
    · split
      · exact h.writerPoison
      · exact hu.setWriter.wr.wr.issueAll
    · exact h

theorem State.Keeps.writerPatch (h : s.Keeps t) {w : Writer} {g : Nat} {data : List Byte} {poison : Bool} :
    s.Keeps (t.writerPatch w g data poison) :=
  .ite h.stopWriter h.setWriter

theorem State.Keeps.endWriter (h : s.Keeps t) {w : Writer} : s.Keeps (t.endWriter w) :=
  h.setWriter.wr.wr.frame.sendDone.tryCommit.settleSteps

theorem State.Keeps.writeDone (h : s.Keeps t) {w : Writer} {k : Nat} : s.Keeps (t.writeDone w k) :=
  .ite (.ite h.setWriter.add.issueWrite h.setWriter.add) (.ite h.setWriter.issueWrite h.setWriter.endWriter)

theorem State.Keeps.writeFailed (h : s.Keeps t) {w : Writer} {k : Nat} : s.Keeps (t.writeFailed w k) :=
  .ite h.stopWriter h.setWriter.sendCommand

theorem State.Keeps.execWriteCommandComplete (h : s.Keeps t) {index : Nat} {ok : Bool} :
    s.KeepsOut (execWriteCommandComplete index ok t) := by
  unfold Machine.execWriteCommandComplete
  split
  · exact h
  · split
    · split
      · exact h.writeFailed
      · split
        · exact h.writerPoison
        · exact h.writeDone
    · exact h

theorem State.Keeps.execChrysalisDoneTimeout (h : s.Keeps t) : s.KeepsOut (execChrysalisDoneTimeout t) := by
  unfold Machine.execChrysalisDoneTimeout
  extract_lets _ u
  have hu : s.Keeps u := h.frame.wr
  split
  · exact h
  · exact .ite hu.wr.raiseRec.servePending h

/-! #### The operations of Machine/Queue.lean -/

theorem State.Keeps.setQueue (h : s.Keeps t) {q : Nat} {x : Queue} : s.Keeps (t.setQueue q x) := h.frame

theorem State.Keeps.noteQueue (h : s.Keeps t) {q : Nat} {was : State} : s.Keeps (t.noteQueue q was) :=
  .ite (.ite h.setQueue h) (.setQueue (.ite h.setQueue h))

theorem State.Keeps.storeItem (h : s.Keeps t) {q : Nat} {i : Item} : s.Keeps (t.storeItem q i) := h.storeN.setQueue

theorem State.Keeps.pushItem (h : s.Keeps t) {p : Producer} {q : Nat} {i : Item} : s.Keeps (t.pushItem p q i) :=
  .ite (.setQueue (.storeItem (.ite h.setQueue.wrAt h))) (.ite (.setQueue (.storeItem (.ite h.wrAt h))) (.ite h.storeItem.wrAt h.storeItem))

theorem State.Keeps.waitFull (h : s.Keeps t) {p : Producer} {q : Nat} : s.Keeps (t.waitFull p q) := .ite h h.setQueue

theorem State.Keeps.endFull (h : s.Keeps t) {p : Producer} {q : Nat} : s.Keeps (t.endFull p q) := .ite h.setQueue h

theorem State.Keeps.hwPush (h : s.Keeps t) {p : Producer} {q : Nat} {i : Item} (e : t.hwPush p q i = some u) : s.Keeps u := by
  unfold State.hwPush at e
  split at e
  · cases e
  · exact Option.some.inj e ▸ h.pushItem.noteQueue.endFull

theorem State.Keeps.tryPush (h : s.Keeps t) {p : Producer} {q : Nat} {i : Item} : s.Keeps (t.tryPush p q i) :=
  .ite h.wrAt.addSatAt h.pushItem.noteQueue

theorem State.Keeps.routerAbort (h : s.Keeps t) {q : Nat} : s.Keeps (t.routerAbort q) := by
  unfold State.routerAbort
  extract_lets _ r _ v
  have hr : s.Keeps r.2 := Keeps.foldl_snd h fun _ _ hu => hu.draw
  have hv : s.Keeps v := hr.setQueue
  exact .ite (.ite h.setQueue hv.pushItem.noteQueue) h

theorem State.Keeps.pushAll {p : Producer} {q : Nat} (h : s.Keeps t) {is : List Item} {n : Nat} : s.Keeps (State.pushAll p q t is n).1 := by
  induction is generalizing t n with
  | nil => exact h
  | cons i is ih =>
    unfold State.pushAll
    split
    · rename_i e
      exact ih (h.hwPush e)
    · exact h.waitFull

theorem State.Keeps.deliverBacklog {q n : Nat} (h : s.Keeps t) : s.Keeps (State.deliverBacklog q n t) := by
  induction n generalizing t with
  | zero => exact h
  | succ n ih =>
    unfold State.deliverBacklog
    split
    · exact h
    · split
      · rename_i e
        exact ih (h.setQueue.hwPush e)
      · exact h.waitFull

theorem State.Keeps.routerPush (h : s.Keeps t) {q : Nat} {i : Item} : s.Keeps (t.routerPush q i) := h.setQueue.deliverBacklog

theorem State.Keeps.returnCredits (h : s.Keeps t) {q : Nat} : s.Keeps (t.returnCredits q) := .ite h (.ite h.setQueue.send h)

theorem State.Keeps.ackBridge (h : s.Keeps t) {feed : Nat} : s.Keeps (t.ackBridge feed) := .ite h.send h

theorem State.Keeps.popFront (h : s.Keeps t) {q : Nat} : s.Keeps (t.popFront q).2 := by
  unfold State.popFront
  extract_lets _ _
  split
  · exact h
  · exact .deliverBacklog (.noteQueue (.ackBridge (.returnCredits (.ite h.setQueue.addAt.routerAbort h.setQueue.addAt))))

theorem State.Keeps.tryPop (h : s.Keeps t) {q : Nat} : s.Keeps (t.tryPop q).2.2 := by
  unfold State.tryPop
  split
  · exact h.popFront
  · exact h.wrAt.addSatAt

theorem State.Keeps.openQueue (h : s.Keeps t) {q : Nat} : s.Keeps (t.openQueue q) := h.setQueue.foldl fun _ _ hu => hu.pushItem

theorem State.Keeps.openQueues (h : s.Keeps t) : s.Keeps t.openQueues := h.foldl fun _ _ hu => hu.openQueue

theorem State.Keeps.writeQueCfg (h : s.Keeps t) {q v : Nat} : s.Keeps (t.writeQueCfg q v) := by
  unfold State.writeQueCfg
  extract_lets u _ _ w
  have hu : s.Keeps u := h.wrAt.wrAt.wrAt.wrAt.wrAt.wrAt
  have hw : s.Keeps w := hu.wrAt.setQueue
  exact .ite h (.ite hu.wrAt (.ite (.ite hw.wrAt hw) hu.wrAt.wrAt.raise))

theorem State.Keeps.execQueueEnable (h : s.Keeps t) {queue value : Nat} : s.KeepsOut (execQueueEnable queue value t) :=
  .ite h.writeQueCfg h

theorem State.Keeps.execCreditReturn (h : s.Keeps t) {queue count : Nat} : s.KeepsOut (execCreditReturn queue count t) := .ite h.wrAt h

theorem State.Keeps.queueStalls (h : s.Keeps t) {q : Nat} : s.Keeps (t.queueStalls q) := .ite h.wrAt h.wrAt.setQueue.raise

/-! #### The operations of Machine/Counter.lean -/

theorem State.Keeps.setVec (h : s.Keeps t) {p : Nat} {v : VecSt} : s.Keeps (t.setVec p v) := h.frame

theorem State.Keeps.wake (h : s.Keeps t) {w : Waiter} {ok : Bool} {value : Nat} : s.Keeps (t.wake w ok value) := by
  unfold State.wake
  extract_lets _
  split
  · extract_lets _ _ _
    exact h.setVec
  · extract_lets _ _
    exact h.frame
  · extract_lets _ _
    exact h.frame
  · exact h

theorem State.Keeps.register (h : s.Keeps t) {counter target timeout : Nat} {w : Waiter} : s.Keeps (t.register counter target timeout w) :=
  .ite h.wake (.ite h.wake h.frame.wr)

theorem State.Keeps.waitGe (h : s.Keeps t) {counter target timeout : Nat} {w : Waiter} : s.Keeps (t.waitGe counter target timeout w) :=
  .ite h.register h.frame.addSat

theorem State.Keeps.admitStalled {n : Nat} (h : s.Keeps t) : s.Keeps (State.admitStalled n t) := by
  induction n generalizing t with
  | zero => exact h
  | succ n ih =>
    unfold State.admitStalled
    split
    · exact h
    · exact .ite (ih (.register h.frame)) h

theorem State.Keeps.freePlaces (h : s.Keeps t) : s.Keeps t.freePlaces := h.admitStalled

theorem State.Keeps.satisfy (h : s.Keeps t) {n : Nat} : s.Keeps (t.satisfy n) :=
  .ite h (.freePlaces (h.frame.foldl (fun _ _ hu => hu.wake)))

theorem State.Keeps.syncAdd (h : s.Keeps t) {n v : Nat} : s.Keeps (t.syncAdd n v) := .satisfy (.wrAt (.ite h.wrAt h))

theorem State.Keeps.syncSet (h : s.Keeps t) {n v : Nat} : s.Keeps (t.syncSet n v) := h.wrAt.satisfy

theorem State.Keeps.execSynValueWrite (h : s.Keeps t) {counter value : Nat} : s.KeepsOut (execSynValueWrite counter value t) :=
  Keeps.ite h.syncSet h

theorem State.Keeps.execSynAddWrite (h : s.Keeps t) {counter value : Nat} : s.KeepsOut (execSynAddWrite counter value t) :=
  Keeps.ite h.syncAdd h

theorem State.Keeps.readSynWaits (h : s.Keeps t) : s.Keeps t.readSynWaits := h.send.wr

theorem State.Keeps.execSynWaitsRead (h : s.Keeps t) : s.KeepsOut (execSynWaitsRead t) := Keeps.ite h.readSynWaits h

theorem State.Keeps.execWaitTimeout (h : s.Keeps t) {who : Waiter} : s.KeepsOut (execWaitTimeout who t) := by
  unfold Machine.execWaitTimeout
  split
  · exact h
  · split
    · exact h
    · exact .ite h.frame.wake.freePlaces h

/-! #### The operations of Machine/Dma.lean -/

theorem State.Keeps.storeMarked (h : s.Keeps t) {a : Nat} {bs : List (Byte × Bool)} : s.Keeps (t.storeMarked a bs) :=
  .foldl (h.storeRaw.foldl (fun _ _ hu => .ite hu.setPoison hu)) fun _ _ hu => .ite hu.setPoison hu

theorem State.Keeps.sendWrites {m addr tag k : Nat} (h : s.Keeps t) {bs : List (Byte × Bool)} {off : Nat} :
    s.Keeps (State.sendWrites m addr tag k t bs off) := by
  induction k generalizing t bs off with
  | zero => exact h
  | succ k ih => exact .ite h (ih h.sendFlit)

theorem State.Keeps.sendReads (h : s.Keeps t) {m id addr len place : Nat} : s.Keeps (State.sendReads m id addr len place t) :=
  h.foldl fun _ _ hu => hu.sendFlit

theorem State.Keeps.startXfer (h : s.Keeps t) {x : Xfer} : s.Keeps (t.startXfer x) := by
  unfold State.startXfer
  extract_lets _ _ _
  exact .ite h.consumePoison (.ite (.frame (h.foldl (fun _ _ hu => hu.sendReads))) (.ite (.frame (h.foldl (fun _ _ hu => hu.sendWrites)))
      h.frame))

theorem State.Keeps.issueXfer (h : s.Keeps t) {x : Xfer} : s.Keeps (t.issueXfer x) := h.frame

theorem State.Keeps.ringResult (h : s.Keeps t) {r seq status value : Nat} : s.Keeps (t.ringResult r seq status value) := h.frame

theorem State.Keeps.setWing (h : s.Keeps t) {n : Nat} {hw : Bool} {w : WingSt} : s.Keeps (t.setWing n hw w) := h.frame

theorem State.Keeps.schReject (h : s.Keeps t) {atRun : Bool} {reason core mb seg : Nat} {hw : Bool} :
    s.Keeps (t.schReject atRun reason core mb seg hw) :=
  h.wr.wr.wr.wr.wr.wr.wr

theorem State.Keeps.epilogueFails (h : s.Keeps t) {n : Nat} {hw : Bool} : s.Keeps (t.epilogueFails n hw) :=
  h.setWing.schReject.raiseRec.failStep

theorem State.Keeps.epilogueStep (h : s.Keeps t) {n : Nat} {hw : Bool} : s.Keeps (t.epilogueStep n hw) := by
  unfold State.epilogueStep
  extract_lets _
  split
  · exact h.setWing
  · exact h

theorem State.Keeps.vecFault (h : s.Keeps t) {p cause scalar slot : Nat} {gang : Bool} {lanes pc code : Nat} :
    s.Keeps (t.vecFault p cause scalar slot gang lanes pc code) :=
  .ite h h.wrAt.wrAt.wrAt.wrAt.wrAt.wrAt.wrAt.wrAt

theorem State.Keeps.dropXfer (h : s.Keeps t) {x : Xfer} : s.Keeps (t.dropXfer x) := h.frame

theorem State.Keeps.failXfer (h : s.Keeps t) {x : Xfer} : s.Keeps (t.failXfer x) := by
  unfold State.failXfer
  extract_lets _ u
  have hu : s.Keeps u := h.dropXfer
  split
  · extract_lets v
    have hv : s.Keeps v := hu.vecFault
    exact hv.raise.failStep
  · exact hu.epilogueFails
  · exact hu.ringResult

theorem State.Keeps.finishXfer (h : s.Keeps t) {x : Xfer} : s.Keeps (t.finishXfer x) := by
  unfold State.finishXfer
  extract_lets _ _ u v w u'
  have hu : s.Keeps u := .ite h (h.foldl (fun _ _ hu => hu.storeMarked))
  have hv : s.Keeps v := .ite hu hu.frameDrawn
  have hw : s.Keeps w := hv.dropXfer
  have hu' : s.Keeps u' := .ite hw.syncAdd hw
  split
  · exact hu'
  · exact hu'.epilogueStep
  · exact hu'.ringResult

theorem State.Keeps.sendAdd (h : s.Keeps t) {m counter v tag : Nat} : s.Keeps (t.sendAdd m counter v tag) := h.sendFlit

theorem State.Keeps.tagRing (h : s.Keeps t) {r seq tag : Nat} : s.Keeps (t.tagRing r seq tag) := h.frame

theorem State.Keeps.applyOp (h : s.Keeps t) {o : CounterOp} : s.Keeps (t.applyOp o) := by
  unfold State.applyOp
  extract_lets u _ v
  have hu : s.Keeps u := .ite h.syncSet h.syncAdd
  have hv : s.Keeps v := h.frame
  split
  · split
    · exact hu
    · exact hu.epilogueStep
    · exact hu.ringResult
  · split
    · exact h.sendAdd
    · extract_lets _ w
      have hw : s.Keeps w := by unfold w; split; exacts [hv.setWing, hv]
      exact hw.sendAdd
    · exact hv.tagRing.sendAdd

theorem State.Keeps.settleOps (h : s.Keeps t) : s.Keeps t.settleOps := h.foldl fun _ _ hu => .ite hu.frame.applyOp hu

theorem State.Keeps.counterOp (h : s.Keeps t) {o : XferOwner} {m counter v : Nat} {sets : Bool} :
    s.Keeps (t.counterOp o m counter v sets) :=
  h.frame.settleOps

theorem State.Keeps.takeXfer (h : s.Keeps t) {x : Xfer} : s.Keeps (t.takeXfer x) := .ite h h.startXfer.settleOps

theorem State.Keeps.execDmaTransferComplete (h : s.Keeps t) {xfer : Nat} {fail : Bool} :
    s.KeepsOut (execDmaTransferComplete xfer fail t) := by
  unfold Machine.execDmaTransferComplete
  split
  · exact h
  · extract_lets u
    have hu : s.Keeps u := h.takeXfer
    split
    · exact h
    · split
      · exact h.failXfer.settleOps
      · split
        · exact hu
        · split
          · exact hu
          · split
            · exact hu.consumePoison
            · exact .ite hu.finishXfer.settleOps hu

theorem State.Keeps.execRouterForwardItem (h : s.Keeps t) {queue : Nat} : s.KeepsOut (execRouterForwardItem queue t) :=
  .ite h.popFront.wrAt.sendFlit.settleOps h

/-! #### The operations of Machine/Upd.lean -/

theorem State.Keeps.mirror_ (h : s.Keeps t) {a : Nat} {bs : List (Byte × Bool)} : s.Keeps (t.mirror_ a bs) := .ite h h.sendWrites

theorem State.Keeps.writeBank (h : s.Keeps t) {a : Nat} {bs : List (Byte × Bool)} : s.Keeps (t.writeBank a bs) := h.storeMarked.mirror_

theorem State.Keeps.showEngines (h : s.Keeps t) : s.Keeps t.showEngines := h.wr

theorem State.Keeps.dropEngine (h : s.Keeps t) {q : Nat} : s.Keeps (t.dropEngine q) :=
  .ite h.wrAt.showEngines.raise.raise h.wrAt.showEngines.raise

theorem State.Keeps.lockstep (h : s.Keeps t) {q key : Nat} : s.Keeps (t.lockstep q key) :=
  .ite h.addSatAt.dropEngine.failStep h.frame.addSatAt

theorem State.Keeps.writeWork (h : s.Keeps t) {e : List Nat} {b first : Nat} {r : List Nat × List Nat × Flags} {bad : List Bool} :
    s.Keeps (t.writeWork e b first r bad) :=
  .ite h.storeMarked.storeMarked h.storeMarked

theorem State.Keeps.engineNans (h : s.Keeps t) {q ei : Nat} {l : List (Nat × Nat)} : s.Keeps (t.engineNans q ei l) := by
  unfold State.engineNans
  split
  · exact h
  · extract_lets _
    exact h.nanEvents

theorem State.Keeps.leaveStripe (h : s.Keeps t) {q g ei : Nat} {e : List Nat} {k : Nat} {us : List (Sparse Nat)} {f : Flags} {nf : Bool} :
    s.Keeps (t.leaveStripe q g ei e k us f nf) := by
  unfold State.leaveStripe
  extract_lets _ _ u v w _ u'
  have hu : s.Keeps u := h.writeBank.writeWork
  have hv : s.Keeps v := hu.updFlags.engineNans
  have hw : s.Keeps w := .ite hv.wr hv
  have hu' : s.Keeps u' := hw.frame
  exact hu'.add.add.wr

theorem State.Keeps.runStripe (h : s.Keeps t) {q g ei : Nat} {e : List Nat} {k : Nat} : s.Keeps (t.runStripe q g ei e k) := h.leaveStripe

theorem State.Keeps.execStripeUpdate (h : s.Keeps t) {engine stripe : Nat} {mismatch : Bool} :
    s.KeepsOut (execStripeUpdate engine stripe mismatch t) := by
  unfold Machine.execStripeUpdate
  split
  · exact h
  · split
    · split
      · exact h.consumePoison
      · exact .ite h (.ite h.lockstep h.runStripe)
    · exact h

theorem State.Keeps.runFactors (h : s.Keeps t) {q ei : Nat} {e : List Nat} : s.Keeps (t.runFactors q ei e) := by
  unfold State.runFactors
  extract_lets _ _ _ _ _ _ _ _ _ _ _ u v w _
  have hu : s.Keeps u := h.writeBank.writeBank
  have hv : s.Keeps v := hu.updFlags.engineNans
  have hw : s.Keeps w := .ite hv.wr hv
  exact hw.frame.wr

theorem State.Keeps.execFactorPass (h : s.Keeps t) {entry : Nat} {mismatch : Bool} : s.KeepsOut (execFactorPass entry mismatch t) := by
  unfold Machine.execFactorPass
  extract_lets _ _
  split
  · split
    · exact h.consumePoison
    · exact .ite h (.ite h.lockstep h.runFactors)
  · exact h

theorem State.Keeps.settleDigest (h : s.Keeps t) : s.Keeps t.settleDigest := by
  unfold State.settleDigest
  extract_lets _ _ _ _ u
  have hu : s.Keeps u := h.frame
  split
  · exact h
  · split
    · exact h.frame
    · extract_lets v w
      have hv : s.Keeps v := hu.wr.wr.raiseRec
      have hw : s.Keeps w := .ite hv.wr.raiseRec hv
      exact hw.failStep

theorem State.Keeps.formDigest (h : s.Keeps t) : s.Keeps t.formDigest := by
  unfold State.formDigest
  extract_lets _ u _ v w
  have hu : s.Keeps u := h.foldl fun _ _ hu => hu.wrAt
  have hv : s.Keeps v := hu.frame
  have hw : s.Keeps w := hv.foldl fun _ _ hu' => hu'.sendBarrier
  split
  · exact h.consumed.failStep
  · exact hw.settleDigest

theorem State.Keeps.settleFence (h : s.Keeps t) : s.Keeps t.settleFence := .ite h.wr h

theorem State.Keeps.execHeaderWrite (h : s.Keeps t) {mismatch : Bool} : s.KeepsOut (execHeaderWrite mismatch t) := by
  rw [show Machine.execHeaderWrite = _ from by delta Machine.execHeaderWrite; rfl]
  extract_lets +onlyGivenNames _
  split
  · split
    · exact h.consumePoison
    · split
      · exact h
      · split
        · exact h.lockstep
        · extract_lets +onlyGivenNames u _
          have hu : s.Keeps u := h.writeBank
          extract_lets +onlyGivenNames v
          have hv : s.Keeps v := hu.frame.wr
          exact hv.formDigest.settleFence
  · exact h

theorem State.Keeps.copyMarked (h : s.Keeps t) {a b n : Nat} : s.Keeps (t.copyMarked a b n) := h.storeMarked

theorem State.Keeps.copyStripe (h : s.Keeps t) {g ei : Nat} {e : List Nat} {k : Nat} : s.Keeps (t.copyStripe g ei e k) := by
  unfold State.copyStripe
  extract_lets _ _ _ _ _ _ u v _ w
  have hu : s.Keeps u := h.engineNans.writeBank.copyMarked
  have hv : s.Keeps v := .ite hu.copyMarked hu
  have hw : s.Keeps w := hv.frame
  exact hw.add.add.wr

theorem State.Keeps.copyFactors (h : s.Keeps t) {ei : Nat} {e : List Nat} : s.Keeps (t.copyFactors ei e) :=
  h.writeBank.engineNans.frame.wr

theorem State.Keeps.execCopyPass (h : s.Keeps t) {work : CopyWork} : s.KeepsOut (execCopyPass work t) := by
  unfold Machine.execCopyPass
  extract_lets _ _ _
  split
  · split
    · split
      · exact h
      · split
        · exact h.consumePoison
        · exact Keeps.ite h.lockstep h.copyStripe
    · split
      · exact h
      · split
        · exact h.consumePoison
        · exact Keeps.ite h.lockstep h.copyFactors
  · exact h

theorem State.Keeps.regenPair (h : s.Keeps t) {g : Nat} : s.Keeps (t.regenPair g) :=
  .ite (.dropEngine (.addSatAt (.ite h.frameDrawn.addSatAt h.frameDrawn))) (.ite h.frameDrawn.addSatAt h.frameDrawn)

theorem State.Keeps.regenStripe (h : s.Keeps t) {p : (Nat × List Nat) × Nat} : s.Keeps (t.regenStripe p) :=
  .ite h.regenPair h.regenPair.writeWork.add.updFlags.engineNans

theorem State.Keeps.execRegenerationPass (h : s.Keeps t) : s.KeepsOut (execRegenerationPass t) := by
  unfold Machine.execRegenerationPass
  extract_lets u _
  have hu : s.Keeps u := h.foldl fun _ _ hu => hu.regenStripe
  split
  · split
    · exact h.consumePoison
    · exact Keeps.ite hu.frame hu
  · exact h

/-! #### The operations of Machine/Coll.lean -/

theorem State.Keeps.noteColl (h : s.Keeps t) {mismatch : Bool} {reason member seq : Nat} :
    s.Keeps (t.noteColl mismatch reason member seq) :=
  h.wr.wr.wr.wr.wr

theorem State.Keeps.rejectColl (h : s.Keeps t) {code seq : Nat} : s.Keeps (t.rejectColl code seq) := h.noteColl.raiseRec.failStep

theorem State.Keeps.collMismatch (h : s.Keeps t) {m seq : Nat} : s.Keeps (t.collMismatch m seq) := h.noteColl.raiseRec.failStep

theorem State.Keeps.collFlags (h : s.Keeps t) {f : Flags} : s.Keeps (t.collFlags f) := h.wr.wr.wr

theorem State.Keeps.collNans (h : s.Keeps t) {w : List Nat} {n : Nat} : s.Keeps (t.collNans w n) := h.nanEvents

theorem State.Keeps.sendColl {m : Nat} {c : Coll} {kind level idx total k : Nat} (h : s.Keeps t) {bs : List (Byte × Bool)} {off : Nat} :
    s.Keeps (State.sendColl m c kind level idx total k t bs off) := by
  induction k generalizing t bs off with
  | zero => exact h
  | succ k ih => exact .ite h (ih h.sendFlit)

theorem State.Keeps.sendTo (h : s.Keeps t) {rank : Nat} {c : Coll} {kind level idx : Nat} {bs : List (Byte × Bool)} :
    s.Keeps (t.sendTo rank c kind level idx bs) :=
  h.sendColl

theorem State.Keeps.setColl (h : s.Keeps t) {c : Coll} : s.Keeps (t.setColl c) := h.frame

theorem State.Keeps.normReturn (h : s.Keeps t) {x : Nat} {nf bad : Bool} : s.Keeps (t.normReturn x nf bad) :=
  .ite (.ite h.frame h.frame.wr) (.updFlags (.wr (.wr (.ite h.frame h.frame.wr))))

theorem State.Keeps.placeChunk (h : s.Keeps t) {c : Coll} {k : Nat} {bs : List (Byte × Bool)} : s.Keeps (t.placeChunk c k bs).1 :=
  .ite_fst h.normReturn (.ite h.storeMarked.storeMarked h.storeMarked)

theorem State.Keeps.rootChunk (h : s.Keeps t) {c : Coll} {k act : Nat} {vals : List (Nat × Bool)} : s.Keeps (t.rootChunk c k act vals).1 :=
  .ite_fst (h.collFlags.collNans.placeChunk.foldl (fun _ _ hu => hu.sendTo)) h.collFlags.collNans.placeChunk

theorem State.Keeps.climb {k n : Nat} (h : s.Keeps t) {c : Coll} : s.Keeps (State.climb k n t c).1 := by
  induction n generalizing t c with
  | zero => exact h
  | succ n ih =>
    exact .ite_fst h (.ite_fst h.rootChunk (.ite_fst h.sendTo (.ite_fst (ih h) (.ite_fst (ih h.collFlags.collNans.add) h))))

theorem State.Keeps.leaf (h : s.Keeps t) {c : Coll} {k : Nat} {xs : List ((Nat × Flags) × Bool)} : s.Keeps (t.leaf c k xs).1 :=
  h.collFlags.collNans.climb

theorem State.Keeps.placeMoved (h : s.Keeps t) {c : Coll} : s.Keeps (t.placeMoved c).1 := .ite_fst h.storeMarked h

theorem State.Keeps.startMove (h : s.Keeps t) {c : Coll} : s.Keeps (t.startMove c).1 :=
  .ite_fst h (.placeMoved (h.foldl (fun _ _ hu => .ite hu hu.sendTo)))

theorem State.Keeps.checkDigest (h : s.Keeps t) {c : Coll} {f : Flit} : s.Keeps (t.checkDigest c f) := .ite h.setColl h.collMismatch

theorem State.Keeps.collTake (h : s.Keeps t) {c : Coll} {f : Flit} : s.Keeps (t.collTake c f) :=
  .ite h.checkDigest (.setColl (.ite_fst h.climb (.ite_fst (.ite_fst h.placeChunk h) h.placeMoved)))

theorem State.Keeps.startColl (h : s.Keeps t) {c : Coll} {own : Nat → List ((Nat × Flags) × Bool)} : s.Keeps (t.startColl c own) := by
  unfold State.startColl
  extract_lets _ _ _ u v w u' _ _ v' _ w'
  have hu : s.Keeps u := h.frame
  have hv : s.Keeps v := .ite hu hu.sendFlit
  have hw : s.Keeps w.1 := .ite_fst (hv.foldl_fst (fun _ _ hu' => hu'.leaf)) hv.startMove
  have hu' : s.Keeps u' := hw.setColl
  have hv' : s.Keeps v' := hu'.frame
  have hw' : s.Keeps w' := hv'.foldl fun _ _ hu'' => by split; exacts [hu''.collTake, hu'']
  exact hw'.foldl fun _ _ hu'' => by split; exacts [.ite hu''.checkDigest hu'', hu'']

theorem State.Keeps.startNorm (h : s.Keeps t) : s.Keeps t.startNorm := h.updFlags.wr.startColl

theorem State.Keeps.tryNorm (h : s.Keeps t) : s.Keeps t.tryNorm := .ite h h.startNorm

theorem State.Keeps.popColl (h : s.Keeps t) {op : Nat} : s.Keeps (t.popColl op) := by
  unfold State.popColl
  extract_lets _ _ u _ v
  have hu : s.Keeps u.2 := h.popFront
  have hv : s.Keeps v := hu.startColl
  split
  · exact h
  · split
    · exact h
    · split
      · exact hu.consumed.raise.failStep
      · split
        · exact hu.rejectColl
        · split
          · exact h.consumePoison
          · exact hv.wr

theorem State.Keeps.execAllReduce (h : s.Keeps t) : s.KeepsOut (execAllReduce t) := h.popColl

theorem State.Keeps.execReduceScatter (h : s.Keeps t) : s.KeepsOut (execReduceScatter t) := h.popColl

theorem State.Keeps.execAllGather (h : s.Keeps t) : s.KeepsOut (execAllGather t) := h.popColl

theorem State.Keeps.execAllToAll (h : s.Keeps t) : s.KeepsOut (execAllToAll t) := h.popColl

theorem State.Keeps.execBroadcast (h : s.Keeps t) : s.KeepsOut (execBroadcast t) := h.popColl

theorem State.Keeps.onCollData (h : s.Keeps t) {f : Flit} : s.Keeps (t.onCollData f) := by
  unfold State.onCollData
  extract_lets _
  split
  · exact h.collTake
  · split
    · exact h.checkDigest
    · exact h.frame

theorem State.Keeps.execCollData (h : s.Keeps t) {f : Flit} : s.KeepsOut (execCollData f t) := h.onFlit fun _ hu => hu.onCollData

theorem State.Keeps.addSquares (h : s.Keeps t) {e : List Nat} {first n : Nat} : s.Keeps (t.addSquares e first n) := by
  refine h.foldl fun u _ hu => ?_
  extract_lets _ v
  have hv : s.Keeps v := .ite hu.frame hu
  split
  · exact hv.frame.wr
  · exact hv.frame.wr
  · exact hv.frame

theorem State.Keeps.reportRange (h : s.Keeps t) {a b : Nat} : s.Keeps (t.reportRange a b) :=
  h.foldl fun _ _ hu => .ite hu (.ite hu.frame.addSquares hu.frame)

theorem State.Keeps.reportChunk (h : s.Keeps t) {w : List Nat} {j : Nat} : s.Keeps (t.reportChunk w j) :=
  h.foldl fun _ _ hu => hu.reportRange

theorem State.Keeps.execCollComplete (h : s.Keeps t) {collSeq : Nat} : s.KeepsOut (execCollComplete collSeq t) := by
  unfold Machine.execCollComplete
  split
  · exact h
  · extract_lets _ u v w
    have hu : s.Keeps u := h.setColl
    have hv : s.Keeps v := hu.wr.wr
    have hw : s.Keeps w := .ite hv.syncAdd hv
    exact .ite (Keeps.ite hw.reportChunk.tryNorm hw) h

/-! #### The operations of Machine/VecRun.lean -/

theorem State.Keeps.putThread (h : s.Keeps t) {x : Issue} {x' : Thread} : s.Keeps (t.putThread x x') := h.setVec

theorem State.Keeps.threadFaults (h : s.Keeps t) {x : Issue} {cause lanes code : Nat} : s.Keeps (t.threadFaults x cause lanes code) :=
  h.putThread.vecFault

theorem State.Keeps.vecException (h : s.Keeps t) {x : Issue} {cause lanes code : Nat} : s.Keeps (t.vecException x cause lanes code) :=
  h.threadFaults.raise.failStep

theorem State.Keeps.vecPoison (h : s.Keeps t) {x : Issue} {lanes : Nat} {addr : Option Nat} : s.Keeps (t.vecPoison x lanes addr) :=
  .failStep (.raise (by split; exacts [h.threadFaults.consumed, h.threadFaults.draw.consumed]))

theorem State.Keeps.cacheWord (h : s.Keeps t) {p pc w : Nat} : s.Keeps (t.cacheWord p pc w) := h.setVec

theorem State.Keeps.issueWhen (h : s.Keeps t) {o : VOp} {th : ThreadRef} {may : Issue → Bool} {body : Issue → State → State}
    (hbody : ∀ x u, s.Keeps u → s.Keeps (body x u)) :
    s.Keeps (t.issueWhen o th may body) := by
  unfold State.issueWhen
  split
  · exact h
  · extract_lets _
    split
    · exact h.vecException
    · exact .ite h.consumePoison h.threadFaults.consumePoison
    · extract_lets _ u _
      have hu : s.Keeps u := h.cacheWord
      exact .ite (.ite (hbody _ _ (.ite hu hu.addAt)) hu.vecPoison) h

theorem State.Keeps.issue (h : s.Keeps t) {o : VOp} {th : ThreadRef} {body : Issue → State → State}
    (hbody : ∀ x u, s.Keeps u → s.Keeps (body x u)) :
    s.Keeps (t.issue o th body) :=
  h.issueWhen fun _ _ hu => hbody _ _ hu

theorem State.Keeps.vecFlags (h : s.Keeps t) {p : Nat} {f : Flags} : s.Keeps (t.vecFlags p f) := by
  unfold State.vecFlags
  extract_lets set
  have hset (u : State) (r : Field) (b : Bool) (hu : s.Keeps u) : s.Keeps (set u r b) := .ite hu.wrAt hu
  exact hset _ _ _ (hset _ _ _ (hset _ _ _ (hset _ _ _ (hset _ _ _ h))))

theorem State.Keeps.touch (h : s.Keeps t) {a n : Nat} {store : Bool} : s.Keeps (t.touch a n store) := h.frame

theorem State.Keeps.runLanes (h : s.Keeps t) {x : Issue} {o : VOp} : s.Keeps (t.runLanes x o) := h.putThread.vecFlags.nanEvents

theorem State.Keeps.runAlu (h : s.Keeps t) {o : VOp} {x : Issue} : s.Keeps (State.runAlu o x t) := h.runLanes

theorem State.Keeps.runMem (h : s.Keeps t) {o : VOp} {x : Issue} : s.Keeps (State.runMem o x t) :=
  .ite h.vecPoison (h.runLanes.addAt.foldl (fun _ _ hu => hu.touch))

theorem State.Keeps.runStore (h : s.Keeps t) {x : Issue} : s.Keeps (State.runStore x t) :=
  .ite h.vecPoison (.putThread (.addAt (h.foldl (fun _ _ hu => hu.touch.storeN))))

theorem State.Keeps.gangOnly (h : s.Keeps t) {body : Issue → State → State} {x : Issue} (hbody : ∀ x u, s.Keeps u → s.Keeps (body x u)) :
    s.Keeps (State.gangOnly body x t) :=
  .ite h.putThread (.ite (hbody _ _ h) h.vecException)

theorem State.Keeps.runBr (h : s.Keeps t) {x : Issue} : s.Keeps (State.runBr x t) := h.putThread

theorem State.Keeps.runCall (h : s.Keeps t) {x : Issue} : s.Keeps (State.runCall x t) :=
  .ite (.ite h.vecException h.putThread) h.putThread

theorem State.Keeps.runRet (h : s.Keeps t) {x : Issue} : s.Keeps (State.runRet x t) := by
  unfold State.runRet
  extract_lets _
  split
  · exact h.putThread
  · split
    · exact h.vecException
    · exact h.putThread

theorem State.Keeps.runNop (h : s.Keeps t) {x : Issue} : s.Keeps (State.runNop x t) := h.putThread

theorem State.Keeps.runExit (h : s.Keeps t) {x : Issue} : s.Keeps (State.runExit x t) := .ite h.setVec h.putThread

theorem State.Keeps.runMaskp (h : s.Keeps t) {x : Issue} : s.Keeps (State.runMaskp x t) := .ite h.vecPoison h.putThread

theorem State.Keeps.runPush (h : s.Keeps t) {x : Issue} : s.Keeps (State.runPush x t) := .ite h.vecException h.putThread

theorem State.Keeps.runPop (h : s.Keeps t) {x : Issue} : s.Keeps (State.runPop x t) := by
  unfold State.runPop
  extract_lets _
  split
  · exact h.vecException
  · exact h.putThread

theorem State.Keeps.runBcast (h : s.Keeps t) {x : Issue} : s.Keeps (State.runBcast x t) := h.putThread

theorem State.Keeps.runVote (h : s.Keeps t) {x : Issue} : s.Keeps (State.runVote x t) := h.putThread

theorem State.Keeps.runLred (h : s.Keeps t) {x : Issue} : s.Keeps (State.runLred x t) := h.putThread.vecFlags.nanEvents

theorem State.Keeps.runTrap (h : s.Keeps t) {x : Issue} : s.Keeps (State.runTrap x t) :=
  .ite h.putThread (.ite h.vecException h.putThread.raise)

theorem State.Keeps.lanesChecked (h : s.Keeps t) {x : Issue} {poison addr : Lane → Bool} {at_ : Lane → Option Nat} {body : State → State}
    (hbody : ∀ u, s.Keeps u → s.Keeps (body u)) : s.Keeps (State.lanesChecked x t poison addr at_ body) := by
  unfold State.lanesChecked
  extract_lets pz az where_
  clear_value pz az where_
  split
  · exact hbody _ h
  · exact h.vecException
  · exact h.vecPoison
  · exact .ite h.vecPoison h.vecException

theorem State.Keeps.checked (h : s.Keeps t) {x : Issue} {poison addr : Lane → Bool} {body : State → State}
    (hbody : ∀ u, s.Keeps u → s.Keeps (body u)) :
    s.Keeps (State.checked x t poison addr body) :=
  .ite (hbody _ h) (h.lanesChecked (fun _ hu => (hbody _ hu)))

theorem State.Keeps.settle (h : s.Keeps t) {x : Issue} {x' : Thread} {left : List Nat} : s.Keeps (State.settle x t x' left) :=
  .ite h (.ite h.putThread h.putThread)

theorem State.Keeps.pushOne {x : Issue} {acc : State × Thread × List Nat} (h : s.Keeps acc.1) {i : Nat} :
    s.Keeps (State.pushOne x acc i).1 :=
  .ite_fst h h.tryPush.touch

theorem State.Keeps.runSqPush (h : s.Keeps t) {x : Issue} : s.Keeps (State.runSqPush x t) :=
  h.checked fun _ hu => .settle (hu.foldl_fst (fun _ _ hu' => hu'.pushOne))

theorem State.Keeps.popOne {x : Issue} {acc : State × Thread × List Nat} (h : s.Keeps acc.1) {i : Nat} :
    s.Keeps (State.popOne x acc i).1 :=
  .ite_fst h h.tryPop.touch.storeN

theorem State.Keeps.runSqPop (h : s.Keeps t) {x : Issue} : s.Keeps (State.runSqPop x t) :=
  h.checked fun _ hu => .settle (hu.foldl_fst (fun _ _ hu' => hu'.popOne))

theorem State.Keeps.runSqStat (h : s.Keeps t) {x : Issue} : s.Keeps (State.runSqStat x t) := h.checked fun _ hu => hu.putThread

theorem State.Keeps.runSyncAdd (h : s.Keeps t) {x : Issue} : s.Keeps (State.runSyncAdd x t) :=
  h.checked fun _ hu => hu.putThread.foldl (fun _ _ hu' => hu'.counterOp)

theorem State.Keeps.runSyncAddr (h : s.Keeps t) {x : Issue} : s.Keeps (State.runSyncAddr x t) :=
  h.checked fun _ hu => hu.putThread.foldl (fun _ _ hu' => hu'.counterOp)

theorem State.Keeps.runSyncSet (h : s.Keeps t) {x : Issue} : s.Keeps (State.runSyncSet x t) :=
  h.checked fun _ hu => hu.putThread.foldl (fun _ _ hu' => hu'.counterOp)

theorem State.Keeps.runSyncRead (h : s.Keeps t) {high : Bool} {x : Issue} : s.Keeps (State.runSyncRead high x t) :=
  h.checked fun _ hu => hu.putThread

theorem State.Keeps.runSyncWait (h : s.Keeps t) {x : Issue} : s.Keeps (State.runSyncWait x t) :=
  h.checked fun _ hu => .ite hu.putThread (hu.putThread.foldl (fun _ _ hu' => hu'.waitGe))

theorem State.Keeps.issueOne {x : Issue} {acc : State × List Nat} (h : s.Keeps acc.1) {i : Nat} : s.Keeps (State.issueOne x acc i).1 :=
  .ite_fst h h.issueXfer

theorem State.Keeps.runDmaIssue (h : s.Keeps t) {x : Issue} : s.Keeps (State.runDmaIssue x t) :=
  .ite h.settle (h.lanesChecked (fun _ hu => .settle (hu.foldl_fst (fun _ _ hu' => hu'.issueOne))))

theorem State.Keeps.runFenceDma (h : s.Keeps t) {x : Issue} : s.Keeps (State.runFenceDma x t) := h.settle

theorem State.Keeps.vecAlu (h : s.Keeps t) {o : VOp} {th : ThreadRef} : s.Keeps (t.vecAlu o th) := h.issue fun _ _ hu => hu.runAlu

theorem State.Keeps.vecMem (h : s.Keeps t) {o : VOp} {th : ThreadRef} : s.Keeps (t.vecMem o th) := h.issue fun _ _ hu => hu.runMem

/-! #### The operations of Machine/Ring.lean -/

theorem State.Keeps.setRing (h : s.Keeps t) {r : Nat} {x : Ring} : s.Keeps (t.setRing r x) := h.frame

theorem State.Keeps.takeOne (h : s.Keeps t) {r : Nat} : s.Keeps (t.takeOne r) :=
  .ite h.consumed.raiseRec.setRing.wrAt.wrAt (.ite h.wrAt.raise (.ite h.setRing.wrAt.wrAt h.setRing.wrAt.wrAt))

theorem State.Keeps.takeRing {r n : Nat} (h : s.Keeps t) : s.Keeps (State.takeRing r n t) := by
  induction n generalizing t with
  | zero => exact h
  | succ n ih => exact .ite (ih h.takeOne) h

theorem State.Keeps.take (h : s.Keeps t) {r : Nat} : s.Keeps (t.take r) := h.takeRing

theorem State.Keeps.doorbell (h : s.Keeps t) {r v : Nat} : s.Keeps (t.doorbell r v) := .ite h.wrAt (.ite h (.ite h.raise h.wrAt.take))

theorem State.Keeps.execRingDoorbell (h : s.Keeps t) {ring value : Nat} : s.KeepsOut (execRingDoorbell ring value t) :=
  Keeps.ite h.doorbell h

theorem State.Keeps.enableRing (h : s.Keeps t) {r : Nat} : s.Keeps (t.enableRing r) :=
  .ite h (.ite h.setRing.wrAt.wrAt.wrAt.wrAt.wrAt.wrAt.wrAt h.wrAt)

theorem State.Keeps.execRingEnable (h : s.Keeps t) {ring : Nat} : s.KeepsOut (execRingEnable ring t) := Keeps.ite h.enableRing h

theorem State.Keeps.disableRing (h : s.Keeps t) {r : Nat} : s.Keeps (t.disableRing r) := .ite (.ite h.setRing.wrAt h.setRing) h

theorem State.Keeps.execRingDisable (h : s.Keeps t) {ring : Nat} : s.KeepsOut (execRingDisable ring t) := Keeps.ite h.disableRing h

theorem State.Keeps.abortRing (h : s.Keeps t) {r : Nat} : s.Keeps (t.abortRing r) := .ite h h.frame.wrAt

theorem State.Keeps.execRingAbort (h : s.Keeps t) {ring : Nat} : s.KeepsOut (execRingAbort ring t) := Keeps.ite h.abortRing h

theorem State.Keeps.restartRing (h : s.Keeps t) {r : Nat} : s.Keeps (t.restartRing r) := .ite h.wrAt.take h

theorem State.Keeps.execRingRestart (h : s.Keeps t) {ring : Nat} : s.KeepsOut (execRingRestart ring t) := Keeps.ite h.restartRing h

theorem State.Keeps.cplAck (h : s.Keeps t) {r v : Nat} : s.Keeps (t.cplAck r v) := h.wrAt.take

theorem State.Keeps.execRingCplAck (h : s.Keeps t) {ring value : Nat} : s.KeepsOut (execRingCplAck ring value t) := Keeps.ite h.cplAck h

theorem State.Keeps.postCompletion (h : s.Keeps t) {r : Nat} {c : RingCmd} {status value : Nat} :
    s.Keeps (t.postCompletion r c status value) := by
  unfold State.postCompletion
  extract_lets _ _ _ _ _ u v w
  have hu : s.Keeps u := h.storeN.wrAt.wrAt.wrAt
  have hv : s.Keeps v := hu.setRing
  have hw : s.Keeps w := .ite hv.wrAt hv
  exact .ite hw.setRing.wrAt hw.take

theorem State.Keeps.execCommandComplete (h : s.Keeps t) {ring : Nat} : s.KeepsOut (execCommandComplete ring t) := by
  unfold Machine.execCommandComplete
  split
  · exact h
  · split
    · exact h
    · exact Keeps.ite h.postCompletion h

theorem State.Keeps.markStarted (h : s.Keeps t) {r seq moved tag : Nat} : s.Keeps (t.markStarted r seq moved tag) := h.setRing

theorem State.Keeps.onStart (h : s.Keeps t) {r seq op : Nat} {body : List Nat → State → State}
    (hbody : ∀ (a : List Nat) (a_1 : State), s.Keeps a_1 → s.Keeps (body a a_1)) :
    s.Keeps (t.onStart r seq op body) := by
  unfold State.onStart
  split
  · exact .ite h (hbody _ _ h)
  · exact h

theorem State.Keeps.execCmdNop (h : s.Keeps t) {ring seq : Nat} : s.KeepsOut (execCmdNop ring seq t) :=
  h.onStart fun _ _ hu => hu.ringResult

theorem State.Keeps.ringPush (h : s.Keeps t) {r seq : Nat} {c : RingCmd} : s.Keeps (t.ringPush r seq c) :=
  .ite h.ringResult (.ite h.pushAll.ringResult h.pushAll.markStarted)

theorem State.Keeps.execQueuePush (h : s.Keeps t) {ring seq : Nat} : s.KeepsOut (execQueuePush ring seq t) := by
  unfold Machine.execQueuePush
  split
  · exact h.ringPush
  · exact h

theorem State.Keeps.ringAdd (h : s.Keeps t) {r seq : Nat} {ws : List Nat} : s.Keeps (t.ringAdd r seq ws) :=
  .ite h.ringResult h.markStarted.counterOp

theorem State.Keeps.onCounter (h : s.Keeps t) {r seq op : Nat} {body : List Nat → State → State}
    (hbody : ∀ (a : List Nat) (a_1 : State), s.Keeps a_1 → s.Keeps (body a a_1)) :
    s.Keeps (t.onCounter r seq op body) :=
  h.onStart fun _ _ hu => .ite hu (hbody _ _ hu)

theorem State.Keeps.execCmdSyncAdd (h : s.Keeps t) {ring seq : Nat} : s.KeepsOut (execCmdSyncAdd ring seq t) :=
  h.onStart fun _ _ hu => hu.ringAdd

theorem State.Keeps.execCmdSyncSet (h : s.Keeps t) {ring seq : Nat} : s.KeepsOut (execCmdSyncSet ring seq t) :=
  h.onCounter fun _ _ hu => hu.syncSet.ringResult

theorem State.Keeps.execCmdSyncRead (h : s.Keeps t) {ring seq : Nat} : s.KeepsOut (execCmdSyncRead ring seq t) :=
  h.onCounter fun _ _ hu => hu.ringResult

theorem State.Keeps.execCmdSyncWait (h : s.Keeps t) {ring seq : Nat} : s.KeepsOut (execCmdSyncWait ring seq t) :=
  h.onCounter fun _ _ hu => hu.markStarted.waitGe

theorem State.Keeps.ringDma (h : s.Keeps t) {r seq : Nat} {ws : List Nat} : s.Keeps (t.ringDma r seq ws) :=
  .ite h.ringResult (.ite h.consumed.raiseRec.ringResult (.ite h.ringResult h.markStarted.issueXfer))

theorem State.Keeps.execCmdDma (h : s.Keeps t) {ring seq : Nat} : s.KeepsOut (execCmdDma ring seq t) :=
  h.onStart fun _ _ hu => hu.ringDma

theorem State.Keeps.settleRingTags (h : s.Keeps t) : s.Keeps t.settleRingTags := h.frame

theorem State.Keeps.failRingTag (h : s.Keeps t) {tag : Nat} : s.Keeps (t.failRingTag tag) := h.frame

theorem State.Keeps.resendRingTags (h : s.Keeps t) : s.Keeps t.resendRingTags := h.frame.foldl fun _ _ hu => .ite hu.sendFlit hu

/-! #### The operations of Machine/Sched.lean -/

theorem State.Keeps.stepLoad (h : s.Keeps t) {r seq : Nat} {ws : List Nat} : s.Keeps (t.stepLoad r seq ws) := by
  unfold State.stepLoad
  extract_lets _ _
  split
  · exact h.ringResult
  · split
    · exact h.schReject.ringResult
    · exact h.wr.wr.wr.wr.ringResult

theorem State.Keeps.execStepLoad (h : s.Keeps t) {ring seq : Nat} : s.KeepsOut (execStepLoad ring seq t) :=
  h.onStart fun _ _ hu => hu.stepLoad

theorem State.Keeps.setPass (h : s.Keeps t) {m : Nat} {b : Bool} {p : Pass} : s.Keeps (t.setPass m b p) := h.frame

theorem State.Keeps.endPass (h : s.Keeps t) {m : Nat} {b : Bool} : s.Keeps (t.endPass m b) := by
  unfold State.endPass
  split
  · exact h.setPass
  · exact h

theorem State.Keeps.setResv (h : s.Keeps t) {m v : Nat} : s.Keeps (t.setResv m v) := h.frame.wr

theorem State.Keeps.endForward (h : s.Keeps t) {m : Nat} : s.Keeps (t.endForward m) := .ite h.endPass.setResv.wr h

theorem State.Keeps.toChecking (h : s.Keeps t) : s.Keeps t.toChecking := .ite h.frame.tryNorm h

theorem State.Keeps.execMbAdmit (h : s.Keeps t) : s.KeepsOut (execMbAdmit t) := .ite h.add.add.setResv.setPass.endForward h

theorem State.Keeps.noteLate (h : s.Keeps t) {m : Nat} {backward hard : Bool} {e : Nat} : s.Keeps (t.noteLate m backward hard e) :=
  .ite (.ite h.wr h) h.wr.wr.wr.wr.wr

theorem State.Keeps.execMbDeadlineExpiry (h : s.Keeps t) {mb : Nat} {backward : Bool} : s.KeepsOut (execMbDeadlineExpiry mb backward t) := by
  unfold Machine.execMbDeadlineExpiry
  extract_lets _
  split
  · exact h
  · exact .ite h.setPass.noteLate.raiseRec h

theorem State.Keeps.execMbHardLimitExpiry (h : s.Keeps t) {mb : Nat} {backward : Bool} :
    s.KeepsOut (execMbHardLimitExpiry mb backward t) := by
  unfold Machine.execMbHardLimitExpiry
  extract_lets _
  split
  · exact h
  · exact .ite h.setPass.noteLate.raiseRec h

theorem State.Keeps.setEntries (h : s.Keeps t) {es : List CocoonEntry} : s.Keeps (t.setEntries es) := h.frame

theorem State.Keeps.mapEntry (h : s.Keeps t) {m e : Nat} {f : CocoonEntry → CocoonEntry} : s.Keeps (t.mapEntry m e f) := h.setEntries

theorem State.Keeps.freeEntry (h : s.Keeps t) {m e : Nat} : s.Keeps (t.freeEntry m e) := by
  unfold State.freeEntry
  split
  · exact .ite h.add h
  · exact h

theorem State.Keeps.putEntry (h : s.Keeps t) {c : CocoonEntry} : s.Keeps (t.putEntry c) := h.frame

theorem State.Keeps.grantAt (h : s.Keeps t) {q : CocoonReq} {first : Nat} : s.Keeps (t.grantAt q first) :=
  .store64 (.ite h.putEntry.wr.setResv h.putEntry.wr)

theorem State.Keeps.tryGrant (h : s.Keeps t) {q : CocoonReq} (e : t.tryGrant q = some u) : s.Keeps u := by
  unfold State.tryGrant at e
  extract_lets room at e
  split at e
  · obtain ⟨first, -, rfl⟩ := Option.map_eq_some_iff.1 e
    exact h.grantAt
  · cases e

theorem State.Keeps.notStored (h : s.Keeps t) {q : CocoonReq} : s.Keeps (t.notStored q) := h.putEntry.addSat.store64

theorem State.Keeps.evict (h : s.Keeps t) {c : CocoonEntry} : s.Keeps (t.evict c) := h.freeEntry.mapEntry.addSat.store64

theorem State.Keeps.evictFor {n : Nat} (h : s.Keeps t) {q : CocoonReq} : s.Keeps (State.evictFor n t q).1 := by
  induction n generalizing t with
  | zero =>
    unfold State.evictFor
    split
    · rename_i e
      exact h.tryGrant e
    · exact h
  | succ n ih =>
    unfold State.evictFor
    split
    · rename_i e
      exact h.tryGrant e
    · split
      · exact ih h.evict
      · exact h

theorem State.Keeps.noteStalled (h : s.Keeps t) : s.Keeps t.noteStalled := h.wr.wr

theorem State.Keeps.serve (h : s.Keeps t) {q : CocoonReq} : s.Keeps (t.serve q).1 := by
  unfold State.serve
  split
  · split
    · rename_i e
      exact h.tryGrant e
    · exact h
  · split
    · exact h.evictFor
    · split
      · rename_i e
        exact h.tryGrant e
      · exact h.notStored

theorem State.Keeps.segInvalid (h : s.Keeps t) {n : Nat} {hw : Bool} {code mb : Nat} : s.Keeps (t.segInvalid n hw code mb) :=
  .ite h h.frame.schReject.raiseRec.failStep

theorem State.Keeps.readHead (h : s.Keeps t) {n : Nat} {hw : Bool} : s.Keeps (t.readHead n hw) := .ite h.setWing h.setWing

theorem State.Keeps.readHeads (h : s.Keeps t) : s.Keeps t.readHeads :=
  h.foldl fun _ _ hu => .ite (.ite hu hu.readHead) (.readHead (.ite hu hu.readHead))

theorem State.Keeps.segWaits (h : s.Keeps t) {n : Nat} {hw : Bool} {ws : List Nat} : s.Keeps (t.segWaits n hw ws) :=
  .ite h.setWing (.ite h h.setWing.waitGe)

theorem State.Keeps.readyForAlloc (h : s.Keeps t) {n : Nat} {hw : Bool} {ws : List Nat} : s.Keeps (t.readyForAlloc n hw ws).1 :=
  .ite_fst h.segWaits h

theorem State.Keeps.setWingQueue (h : s.Keeps t) {n : Nat} {hw : Bool} {q : List (List Nat)} : s.Keeps (t.setWingQueue n hw q) := h.frame

theorem State.Keeps.feedTiles {n : Nat} {hw : Bool} {k : Nat} (h : s.Keeps t) : s.Keeps (State.feedTiles n hw k t) := by
  induction k generalizing t with
  | zero => exact h
  | succ k ih =>
    unfold State.feedTiles
    split
    · exact h
    · extract_lets
      split
      · exact h
      · exact .ite h (ih h.setWingQueue.setWing)

theorem State.Keeps.feedItems {n : Nat} {hw : Bool} {queue : Nat} {bs : List (List Byte)} (h : s.Keeps t) {k : Nat} :
    s.Keeps (State.feedItems n hw queue bs t k).1 := by
  induction bs generalizing t k with
  | nil => exact h
  | cons b bs ih =>
    unfold State.feedItems
    split
    · exact h
    · split
      · rename_i e
        exact ih (h.hwPush e)
      · exact h.waitFull

theorem State.Keeps.feed (h : s.Keeps t) {n : Nat} {hw : Bool} : s.Keeps (t.feed n hw) := by
  unfold State.feed
  extract_lets u _
  have hu : s.Keeps u := h.feedTiles
  split
  · exact hu
  · extract_lets v u' _
    have hv : s.Keeps v.1 := hu.feedItems
    have hu' : s.Keeps u'.1 := hv.feedItems
    exact .ite hu hu'.setWing

theorem State.Keeps.feedBoth (h : s.Keeps t) {n : Nat} : s.Keeps (t.feedBoth n) := h.feed.feed

theorem State.Keeps.feedAll (h : s.Keeps t) : s.Keeps t.feedAll := h.foldl fun _ _ hu => hu.feed

theorem State.Keeps.startSeg (h : s.Keeps t) {n : Nat} {hw : Bool} {x : SegWork} : s.Keeps (t.startSeg n hw x) := by
  unfold State.startSeg
  extract_lets _ _ _ u v u' _ _
  have hu : s.Keeps u := .ite h (h.foldl (fun _ _ hu => hu.syncSet))
  have hv : s.Keeps v := .ite hu.setPass hu
  have hu' : s.Keeps u' := .ite hv.mapEntry hv
  exact hu'.setWing.feed

theorem State.Keeps.execSegmentStart (h : s.Keeps t) {core : Nat} {hw : Bool} : s.KeepsOut (execSegmentStart core hw t) := by
  unfold Machine.execSegmentStart
  split
  · exact h
  · extract_lets u
    have hu : s.Keeps u.1 := h.readyForAlloc
    exact .ite h.segInvalid (.ite hu.startSeg hu)

theorem State.Keeps.request (h : s.Keeps t) {n : Nat} {hw : Bool} {ws : List Nat} : s.Keeps (t.request n hw ws) := by
  unfold State.request
  extract_lets _ _ _ _
  split
  · exact h
  · split
    · exact h.segInvalid
    · extract_lets _ u v _
      have hu : s.Keeps u.1 := .ite_fst h h.serve
      have hv : s.Keeps v := hu
      exact .ite hu.noteStalled hv.frame.addSat.noteStalled

theorem State.Keeps.execCocoonAllocRequest (h : s.Keeps t) {core : Nat} {hw : Bool} : s.KeepsOut (execCocoonAllocRequest core hw t) := by
  unfold Machine.execCocoonAllocRequest
  split
  · exact h
  · extract_lets u
    have hu : s.Keeps u.1 := h.readyForAlloc
    exact .ite h.segInvalid (.ite hu.request hu)

theorem State.Keeps.execCocoonAllocGrant (h : s.Keeps t) : s.KeepsOut (execCocoonAllocGrant t) := by
  unfold Machine.execCocoonAllocGrant
  extract_lets again bw
  have hagain (u : State) (b : Bool) (hu : s.Keeps u) : s.Keeps (again u b).1 := by
    simp only [again]
    split
    · exact .ite hu.serve.frame.noteStalled hu.serve
    · exact hu
  exact Keeps.ite (hagain t true h) (hagain _ false (hagain t true h))

theorem State.Keeps.execCocoonStallTimeout (h : s.Keeps t) {core : Nat} {hw : Bool} : s.KeepsOut (execCocoonStallTimeout core hw t) := by
  unfold Machine.execCocoonStallTimeout
  split
  · exact h
  · exact .ite h.raise.failStep h

theorem State.Keeps.setRun (h : s.Keeps t) {n : Nat} {hw : Bool} {r : RunSeg} : s.Keeps (t.setRun n hw r) := h.setWing

theorem State.Keeps.epiPush (h : s.Keeps t) {n : Nat} {hw : Bool} {r : RunSeg} {ws : List Nat} : s.Keeps (t.epiPush n hw r ws) :=
  .ite h.epilogueFails (.ite h.pushAll.setRun h.pushAll.setRun)

theorem State.Keeps.epiEntry (h : s.Keeps t) {n : Nat} {hw : Bool} {r : RunSeg} : s.Keeps (t.epiEntry n hw r) := by
  unfold State.epiEntry
  extract_lets _ _ _ _ _ _ _
  exact .ite h.setRun (.ite h.epiPush (.ite (.ite h.epilogueFails h.setRun.counterOp) (.ite (.ite h.epilogueFails (.ite h.epilogueFails
      h.setRun.issueXfer)) h.epilogueFails)))

theorem State.Keeps.execEpilogueEntry (h : s.Keeps t) {core : Nat} {hw : Bool} : s.KeepsOut (execEpilogueEntry core hw t) := by
  unfold Machine.execEpilogueEntry
  split
  · exact h
  · exact .ite h.epiEntry h

theorem State.Keeps.settleEpiTags (h : s.Keeps t) : s.Keeps t.settleEpiTags := h.frame

theorem State.Keeps.readerDone (h : s.Keeps t) {m e : Nat} : s.Keeps (t.readerDone m e) := by
  unfold State.readerDone
  split
  · exact h
  · exact .ite h.freeEntry.mapEntry h.mapEntry

theorem State.Keeps.completeSeg (h : s.Keeps t) {n : Nat} {hw : Bool} {r : RunSeg} : s.Keeps (t.completeSeg n hw r) := by
  unfold State.completeSeg
  extract_lets _ _ _ u _ v u' v' w'
  have hu : s.Keeps u := h.setWing.readHead
  have hv : s.Keeps v := .ite hu.addAt hu.addAt
  have hu' : s.Keeps u' := .ite hv.mapEntry hv
  have hv' : s.Keeps v' := .ite hu'.readerDone hu'
  have hw' : s.Keeps w' := .ite hv'.endForward (.ite hv'.endPass hv')
  exact hw'.toChecking

theorem State.Keeps.execSegmentComplete (h : s.Keeps t) {core : Nat} {hw : Bool} : s.KeepsOut (execSegmentComplete core hw t) := by
  unfold Machine.execSegmentComplete
  split
  · exact h
  · exact .ite h.completeSeg h

theorem State.Keeps.abandonWing (h : s.Keeps t) {n : Nat} {hw : Bool} : s.Keeps (t.abandonWing n hw) := by
  unfold State.abandonWing
  extract_lets _ u
  have hu : s.Keeps u := h.setWingQueue
  split
  · exact .ite hu hu.setWing
  · exact hu

theorem State.Keeps.fenceCore (h : s.Keeps t) {n : Nat} : s.Keeps (t.fenceCore n) := h.abandonWing.abandonWing.setVec.frame

theorem State.Keeps.copyConfig (h : s.Keeps t) {p q : Nat} : s.Keeps (t.copyConfig p q) := h.foldl fun _ _ hu => hu.wrAt

theorem State.Keeps.noSpare (h : s.Keeps t) {n : Nat} : s.Keeps (t.noSpare n) := h.frame.raise.failStep

theorem State.Keeps.execStandinTakeover (h : s.Keeps t) {core : Nat} : s.KeepsOut (execStandinTakeover core t) := by
  unfold Machine.execStandinTakeover
  split
  · split
    · exact Keeps.ite h.noSpare h
    · rename_i q v e
      extract_lets p reruns again a _ sc b c
      have hv : s.Keeps v := h.takeSpare e
      have hagain (u : State) (hw : Bool) (hu : s.Keeps u) : s.Keeps (again u hw) := .ite hu.setWing.readHead hu
      have ha : s.Keeps a := hv.loseStores.copyResidents.copyConfig
      have hb : s.Keeps b := ha.frame
      have hc : s.Keeps c := hb.foldl fun _ _ hu => .ite hu.resetQueue hu
      exact hagain _ true (hagain _ false hc.addSatAt)
  · exact h

/-! #### The operations of Machine/RowCtx.lean -/

theorem State.Keeps.writeBlock (h : s.Keeps t) {n slot : Nat} {f : Fmt} {half : Nat} {rows : List (List Nat)} {poison : Bool} :
    s.Keeps (t.writeBlock n slot f half rows poison) :=
  .ite (h.foldl (fun _ _ hu => hu.storeN)) (h.foldl (fun _ _ hu => .ite hu.storeN (hu.foldl (fun _ _ hu' => hu'.storeN))))

theorem State.Keeps.setRow (h : s.Keeps t) {p : Nat} {r : RowSt} : s.Keeps (t.setRow p r) := h.frame

theorem State.Keeps.cacheCtx (h : s.Keeps t) {n i : Nat} {ws : List Nat} : s.Keeps (t.cacheCtx n i ws) := .ite h h.setRow

theorem State.Keeps.rowReject (h : s.Keeps t) {core reason source ctx : Nat} : s.Keeps (t.rowReject core reason source ctx) :=
  h.setRow.wrAt.wrAt.wrAt.wrAt.raiseRec.failStep

theorem State.Keeps.rowFlags (h : s.Keeps t) {p : Nat} {f : Flags} : s.Keeps (t.rowFlags p f) := by
  unfold State.rowFlags
  extract_lets set
  have hset (u : State) (r : Field) (b : Bool) (hu : s.Keeps u) : s.Keeps (set u r b) := .ite hu.wrAt hu
  exact hset _ _ _ (hset _ _ _ (hset _ _ _ h))

theorem State.Keeps.writeOut (h : s.Keeps t) {core slot entry half : Nat} {f : Fmt} {axis : Nat} {b : OutBlock} {m n : Nat} {poison : Bool}
    {tag : Nat → NanTag} {live : Nat → Nat → Bool} : s.Keeps (t.writeOut core slot entry half f axis b m n poison tag live) := by
  unfold State.writeOut
  extract_lets u v ns
  have hu : s.Keeps u := h.writeBlock
  have hv : s.Keeps v := .ite hu.storeN hu
  clear_value ns
  split
  · exact hv
  · exact hv.nanEvents

theorem State.Keeps.segTileDone (h : s.Keeps t) {n : Nat} {hw : Bool} : s.Keeps (t.segTileDone n hw) := by
  unfold State.segTileDone
  extract_lets _
  split
  · exact h.setWing
  · exact h

theorem State.Keeps.segRowDone (h : s.Keeps t) {n feed : Nat} : s.Keeps (t.segRowDone n feed) := by
  unfold State.segRowDone
  extract_lets _ _
  split
  · exact h
  · split
    · exact h.setWing
    · exact h

/-! #### The operations of Machine/Array.lean -/

theorem State.Keeps.countClocks (h : s.Keeps t) {p : Nat} {now chain : List (List Nat)} {m n : Nat} :
    s.Keeps (t.countClocks p now chain m n) :=
  h.addAt.addAt.addAt

theorem State.Keeps.setArr (h : s.Keeps t) {p : Nat} {a : ArrSt} : s.Keeps (t.setArr p a) := h.frame

theorem State.Keeps.markSuspect (h : s.Keeps t) {n : Nat} : s.Keeps (t.markSuspect n) := by
  unfold State.markSuspect
  extract_lets _ u _ v w
  have hu : s.Keeps u := h.fenceCore
  have hv : s.Keeps v := by unfold v; split; exacts [hu.frame, hu]
  have hw : s.Keeps w := hv.wrAt.raiseRec
  exact .ite hw.noSpare hw

theorem State.Keeps.recordMismatch (h : s.Keeps t) {p : Nat} {x : Tile} {checkers : Nat} : s.Keeps (t.recordMismatch p x checkers) :=
  h.wrAt.wrAt.wrAt.wrAt.wrAt.wrAt.wrAt.wrAt.wrAt.wrAt

theorem State.Keeps.mismatch (h : s.Keeps t) {n checkers : Nat} : s.Keeps (t.mismatch n checkers) := by
  unfold State.mismatch
  extract_lets _ _ _ _
  split
  · exact h
  · extract_lets u _ v _ _
    have hu : s.Keeps u := h.recordMismatch
    have hv : s.Keeps v := hu.setArr
    exact .ite hu (.ite hv.frame.raiseRec hu.markSuspect)

theorem State.Keeps.execCheckMismatch (h : s.Keeps t) {core checkers : Nat} : s.KeepsOut (execCheckMismatch core checkers t) :=
  Keeps.ite h.mismatch h

theorem State.Keeps.execInjectMismatch (h : s.Keeps t) {core : Nat} : s.KeepsOut (execInjectMismatch core t) := Keeps.ite h.wrAt h

theorem State.Keeps.tileStart (h : s.Keeps t) {n : Nat} : s.Keeps (t.tileStart n) := .ite h.addAt.wrAt.mismatch h.addAt

theorem State.Keeps.rejectTile (h : s.Keeps t) {n : Nat} {hw : Bool} {code : Nat} : s.Keeps (t.rejectTile n hw code) :=
  h.setArr.wrAt.wrAt.wrAt.raiseRec.failStep

theorem State.Keeps.placeTile (h : s.Keeps t) {p : Nat} {a : ArrSt} {x : Tile} {clocks : Nat} : s.Keeps (t.placeTile p a x clocks) :=
  .ite h.setArr (.ite h.setArr.addAt h.setArr)

theorem State.Keeps.startTile (h : s.Keeps t) {n : Nat} {hw : Bool} {w : WingDesc} : s.Keeps (t.startTile n hw w) := by
  unfold State.startTile
  extract_lets _ _ _ _ _ u _ _ _
  have hu : s.Keeps u := .ite h.addAt h.addAt
  split
  · extract_lets _ v
    have hv : s.Keeps v := hu.placeTile
    exact .ite hv (.ite hv.countClocks.tileStart hv.countClocks)
  · exact .ite hu.placeTile hu.placeTile.countClocks.tileStart

theorem State.Keeps.serveWing (h : s.Keeps t) {n : Nat} {hw : Bool} : s.Keeps (t.serveWing n hw) := by
  unfold State.serveWing
  extract_lets _ _
  split
  · exact h.startTile
  · split
    · exact h
    · extract_lets u _
      have hu : s.Keeps u := h.setWingQueue
      exact .ite hu.rejectTile hu.feedBoth.startTile

theorem State.Keeps.startPrepass (h : s.Keeps t) {n : Nat} {hw : Bool} : s.Keeps (t.startPrepass n hw) := by
  unfold State.startPrepass
  extract_lets _ _
  split
  · exact .ite h.setWingQueue.setArr.feedBoth h
  · exact h

theorem State.Keeps.execArbiterGrant (h : s.Keeps t) {core : Nat} : s.KeepsOut (execArbiterGrant core t) := by
  unfold Machine.execArbiterGrant
  extract_lets u _ _ _ v
  have hu : s.Keeps u := h.startPrepass.startPrepass
  have hv : s.Keeps v := hu.frame
  split
  · split
    · exact hv.serveWing
    · exact hu.serveWing
    · exact hu.serveWing
    · exact hu
  · exact h

theorem State.Keeps.execRetryRestart (h : s.Keeps t) {core : Nat} : s.KeepsOut (execRetryRestart core t) := by
  unfold Machine.execRetryRestart
  extract_lets _ _ _
  split
  · split
    · exact .ite h.setArr.countClocks.tileStart h
    · split
      · split
        · exact h.setArr.countClocks.tileStart
        · split
          · exact .ite h.setArr.countClocks.tileStart h
          · exact h
      · exact .ite h.setArr.countClocks.tileStart h
      · exact h
    · exact h
  · exact h

theorem State.Keeps.requantBlock (h : s.Keeps t) {core : Nat} {d : List Nat} {b : Bool} {o k : Nat} : s.Keeps (t.requantBlock core d b o k) :=
  h.writeOut.rowFlags

theorem State.Keeps.requant (h : s.Keeps t) {core : Nat} {d : List Nat} {b : Bool} : s.Keeps (t.requant core d b) :=
  .ite (h.foldl (fun _ _ hu => hu.foldl (fun _ _ hu' => hu'.requantBlock))) h

theorem State.Keeps.execRequantPrepassDone (h : s.Keeps t) {core : Nat} {hw : Bool} : s.KeepsOut (execRequantPrepassDone core hw t) := by
  unfold Machine.execRequantPrepassDone
  extract_lets _
  split
  · extract_lets u _
    have hu : s.Keeps u := h.requant.requant
    exact .ite hu.addAt.addAt.setArr h
  · exact h

theorem State.Keeps.arrFlags (h : s.Keeps t) {p : Nat} {f : Flags} : s.Keeps (t.arrFlags p f) := by
  unfold State.arrFlags
  extract_lets set
  have hset (u : State) (r : Field) (b : Bool) (hu : s.Keeps u) : s.Keeps (set u r b) := .ite hu.wrAt hu
  exact hset _ _ _ (hset _ _ _ (hset _ _ _ (hset _ _ _ (hset _ _ _ (hset _ _ _ h)))))

theorem State.Keeps.descsDone (h : s.Keeps t) {n : Nat} {x : Tile} {f : Flags} : s.Keeps (t.descsDone n x f) := by
  refine h.foldl fun u _ hu => ?_
  extract_lets v w
  have hv : s.Keeps v := .ite hu.addAt.wrAt hu.addAt.wrAt
  have hw : s.Keeps w := .ite hv.syncAdd hv
  exact hw.segTileDone

theorem State.Keeps.correctedRetry (h : s.Keeps t) {n : Nat} : s.Keeps (t.correctedRetry n) :=
  .ite h.addSatAt.addSatAt.setArr.markSuspect h.addSatAt.addSatAt.setArr

theorem State.Keeps.retireTile (h : s.Keeps t) {n : Nat} {x : Tile} {f : Flags} : s.Keeps (t.retireTile n x f) := by
  unfold State.retireTile
  extract_lets +onlyGivenNames p a f g d lastTile tiles _ b u v
  have hu : s.Keeps u := h.setArr.arrFlags
  have hv : s.Keeps v := .ite hu.descsDone hu
  exact .ite hv.correctedRetry hv

theorem State.Keeps.tileToStore (h : s.Keeps t) {n : Nat} {x : Tile} : s.Keeps (t.tileToStore n x).1 := by
  unfold State.tileToStore
  extract_lets _ _ _ one r q
  have hone (u : State) (w axis : Nat) (hu : s.Keeps u) : s.Keeps (one u w axis).1 := by
    dsimp only [one]
    exact hu.writeOut
  have hr : s.Keeps r.1 := hone _ _ _ h
  exact .ite_fst (hone _ _ _ hr) hr

theorem State.Keeps.tileNans (h : s.Keeps t) {n : Nat} {x : Tile} {b : OutBlock} : s.Keeps (t.tileNans n x b) := by
  unfold State.tileNans
  extract_lets d ns
  clear_value ns
  split
  · exact h
  · exact h.nanEvents

theorem State.Keeps.execTileComplete (h : s.Keeps t) {core : Nat} {hw : Bool} : s.KeepsOut (execTileComplete core hw t) := by
  unfold Machine.execTileComplete
  extract_lets
  split
  · exact h
  · refine .ite h (.ite (.ite h.retireTile h) ?_)
    extract_lets
    split
    · exact h.tileToStore.retireTile
    · exact .ite h.tileNans.retireTile h
    · exact .ite h (.ite h.pushAll.setArr.tileNans.retireTile h.pushAll.setArr)

/-! #### The operations of Machine/MemUnit.lean -/

theorem State.Keeps.uncorrectable (h : s.Keeps t) {a : Nat} : s.Keeps (t.uncorrectable a) := by
  unfold State.uncorrectable
  extract_lets _ _ u v
  have hu : s.Keeps u := h.setPoison.addAt.raise
  have hv : s.Keeps v := .ite hu.raise.warn hu
  split
  · exact h
  · split
    · exact .ite hv.requestCopy (.ite hv.requestCopy hv)
    · exact hv

theorem State.Keeps.scrubOn (h : s.Keeps t) : s.Keeps t.scrubOn := .ite h.frameMem.wr h.frameMem.wr.add

theorem State.Keeps.storeRaw_drew (h : s.Keeps t) {a : Nat} {bs : List Byte} :
    s.Keeps { t.storeRaw a bs with drawn := t.drawn + 1 } :=
  t.storeRaw_drawn bs a ▸ h.storeRaw.drew

theorem State.Keeps.miscorrect (h : s.Keeps t) {a : Nat} : s.Keeps (t.miscorrect a) := by
  unfold State.miscorrect
  exact h.storeRaw_drew.addAt

theorem State.Keeps.checkCode (h : s.Keeps t) {a : Nat} {c : CodeCheck} : s.Keeps (t.checkCode a c) :=
  .ite h.uncorrectable (.ite h (.ite h.addAt (.ite h.miscorrect h.uncorrectable)))

theorem State.Keeps.execPatrolScrub (h : s.Keeps t) {check : CodeCheck} : s.KeepsOut (execPatrolScrub check t) := by
  unfold Machine.execPatrolScrub
  split
  · exact h
  · split
    · exact Keeps.ite h.checkCode h
    · exact Keeps.ite h.checkCode.scrubOn h

theorem State.Keeps.execSramScrub (h : s.Keeps t) {core : Nat} {ocache corrected uncorrectable : Bool} {offset : Nat} :
    s.KeepsOut (execSramScrub core ocache corrected uncorrectable offset t) := by
  refine .ite (Keeps.withMem (.ite (.ite h.addSat h.addSat) h) fun c => ?_) h
  cases uncorrectable <;> cases ocache <;> exact c

theorem State.Keeps.ceTrend (h : s.Keeps t) {k : Nat} : s.Keeps (t.ceTrend k) := .ite h.frameMem.frameMem.raise.warn h.frameMem

theorem State.Keeps.execMemCeHourly (h : s.Keeps t) : s.KeepsOut (execMemCeHourly t) :=
  .ite (h.frameMem.each (fun _ _ hu => hu.ceTrend)) h

theorem State.Keeps.execImbalanceWindow (h : s.Keeps t) {depths : List Nat} : s.KeepsOut (execImbalanceWindow depths t) := by
  unfold Machine.execImbalanceWindow
  extract_lets _ _ _ _ u _ v
  have hu : s.Keeps u := h.frameMem
  have hv : s.Keeps v := hu.frameMem
  split
  · split
    · exact .ite hu hv.wr.wr.wr.raiseRec
    · exact hu
  · exact h

theorem State.Keeps.copyReply (h : s.Keeps t) {g instar : Nat} {resend : Bool} {data : List Byte} {poison : Bool} :
    s.Keeps (t.copyReply g instar resend data poison) := by
  unfold State.copyReply
  extract_lets _ u _
  have hu : s.Keeps u := by unfold u; split; exacts [.ite h.writerPatch h, h]
  split
  · exact hu
  · extract_lets v _ w
    have hv : s.Keeps v := hu.frameMem
    have hw : s.Keeps w := hv.storeN
    exact .ite hv (.ite (.ite hv hv.poisonFatal) (.ite hw hw.addSat.raise))

theorem State.Keeps.execRefetchReply (h : s.Keeps t) {granule instar : Nat} {data : List Byte} {poison : Bool} :
    s.KeepsOut (execRefetchReply granule instar data poison t) :=
  Keeps.ite h.copyReply h

theorem State.Keeps.resendGranule (h : s.Keeps t) {a instar src : Nat} : s.Keeps (t.resendGranule a instar src) :=
  .ite (.ite h.poisonFatal h.sendFlit) h

theorem State.Keeps.execResendRequest (h : s.Keeps t) {granule instar src : Nat} : s.KeepsOut (execResendRequest granule instar src t) :=
  Keeps.ite h.resendGranule h

theorem State.Keeps.execCarveOutPoisonRead (h : s.Keeps t) {read : CarveRead} : s.KeepsOut (execCarveOutPoisonRead read t) := by
  unfold Machine.execCarveOutPoisonRead
  extract_lets u
  have hu : s.Keeps u := h.consumePoison
  split
  · exact .ite (Keeps.ite hu hu.raise) h
  · exact h

theorem State.Keeps.writeResident (h : s.Keeps t) {i v : Nat} : s.Keeps (t.writeResident i v) := .ite h h.wrAt.wrAt.wrAt.wrAt.wrAt

theorem State.Keeps.execTsResidentWrite (h : s.Keeps t) {index value : Nat} : s.KeepsOut (execTsResidentWrite index value t) :=
  Keeps.ite h.writeResident h

/-! #### The operations of Machine/Fabric.lean -/

theorem State.Keeps.onFlitOr (h : s.Keeps t) {f : Flit} {ty : FlitType} {wait : State → Option State} {act : State → State}
    (hwait : ∀ u v, s.Keeps u → wait u = some v → s.Keeps v) (hact : ∀ u, s.Keeps u → s.Keeps (act u)) :
    s.Keeps (t.onFlitOr f ty wait act) := by
  refine .ite h (.linkCheck h fun u hu => ?_)
  have hr := hu.receive (f := f)
  split <;> rename_i e <;> rw [e] at hr
  · exact hr
  · exact hr.frame
  · split
    · rename_i ew
      exact hwait _ _ hu ew
    · exact hact _ hr

theorem State.Keeps.mirrorWait (h : s.Keeps t) {f : Flit} (e : t.mirrorWait f = some u) : s.Keeps u := by
  unfold State.mirrorWait at e
  extract_lets a gs v w at e
  split at e
  · cases e
  · split at e
    · split at e
      · exact Option.some.inj e ▸ h
      · cases e
    · exact Option.some.inj e ▸ h.storeMarked.frame.foldl fun _ _ hu => hu.consumed.requestCopy

theorem State.Keeps.sendError (h : s.Keeps t) {dst ctx : Nat} : s.Keeps (t.sendError dst ctx) := h.sendFlit

theorem State.Keeps.refuseWrite (h : s.Keeps t) {src seq : Nat} : s.Keeps (t.refuseWrite src seq) := h.sendError

theorem State.Keeps.onWrite (h : s.Keeps t) {f : Flit} : s.Keeps (t.onWrite f) :=
  .ite (.ite h.storeMarked h) (.ite h.storeMarked h.refuseWrite)

theorem State.Keeps.execWrite (h : s.Keeps t) {f : Flit} : s.KeepsOut (execWrite f t) :=
  h.onFlitOr (fun _ _ hu e => hu.mirrorWait e) fun _ hu => hu.onWrite

theorem State.Keeps.readWait (h : s.Keeps t) {f : Flit} (e : t.readWait f = some u) : s.Keeps u := by
  unfold State.readWait at e
  split at e
  · cases e
  · obtain ⟨g, -, rfl⟩ := Option.map_eq_some_iff.1 e
    exact h.consumePoison

theorem State.Keeps.sendData (h : s.Keeps t) {dst ctx : Nat} {bs : List (Byte × Bool)} : s.Keeps (t.sendData dst ctx bs) := h.sendFlit

theorem State.Keeps.onReadReq (h : s.Keeps t) {f : Flit} : s.Keeps (t.onReadReq f) := by
  unfold State.onReadReq
  extract_lets _ _
  split
  · exact .ite h.sendData h.sendError
  · exact .ite h.sendData h
  · exact h.resendGranule
  · exact .ite h.sendData h

theorem State.Keeps.execReadReq (h : s.Keeps t) {f : Flit} : s.KeepsOut (execReadReq f t) :=
  h.onFlitOr (fun _ _ hu e => hu.readWait e) fun _ hu => hu.onReadReq

theorem State.Keeps.markFailed (h : s.Keeps t) {p : Xfer → Bool} : s.Keeps (t.markFailed p) := h.frame

theorem State.Keeps.xferData (h : s.Keeps t) {ctx : Nat} {bs : List (Byte × Bool)} : s.Keeps (t.xferData ctx bs) := h.frame

theorem State.Keeps.pullData (h : s.Keeps t) {place : Nat} {bs : List (Byte × Bool)} : s.Keeps (t.pullData place bs) :=
  .ite h.storeMarked h

theorem State.Keeps.onReadData (h : s.Keeps t) {f : Flit} : s.Keeps (t.onReadData f) := by
  unfold State.onReadData
  extract_lets _ _ _ _ _
  split
  · exact h.xferData
  · split
    · split
      · exact h.markFailed
      · split
        · exact h.markFailed
        · exact h
    · exact .ite h.copyReply (.ite h.copyReply h.pullData)

theorem State.Keeps.execReadData (h : s.Keeps t) {f : Flit} : s.KeepsOut (execReadData f t) := h.onFlit fun _ hu => hu.onReadData

theorem State.Keeps.foreignItem (h : s.Keeps t) {q : Nat} : s.Keeps (t.foreignItem q) := h.addSatAt

theorem State.Keeps.onItem (h : s.Keeps t) {f : Flit} {now : Bool} : s.Keeps (t.onItem f now) :=
  .ite h.foreignItem (.ite h.routerPush h.setQueue)

theorem State.Keeps.execQueueItem (h : s.Keeps t) {f : Flit} : s.KeepsOut (execQueueItem f t) := by
  refine .ite h (Keeps.linkCheck h fun u hu => ?_)
  have hr := hu.receive (f := f)
  extract_lets
  split <;> rename_i e <;> rw [e] at hr
  · exact .ite (Keeps.foreignItem hr).send hr
  · exact Keeps.onItem hr
  · exact Keeps.onItem hr

theorem State.Keeps.onSyncAdd (h : s.Keeps t) {f : Flit} : s.Keeps (t.onSyncAdd f) := .ite h.syncAdd h

theorem State.Keeps.execSyncAddFlit (h : s.Keeps t) {f : Flit} : s.KeepsOut (execSyncAddFlit f t) :=
  h.onFlit fun _ hu => hu.onSyncAdd

theorem State.Keeps.onAck (h : s.Keeps t) {f : Flit} : s.Keeps (t.onAck f) :=
  .settleFence (.settleEpiTags (.settleRingTags (.ite h.setTx.add.drainTx h.setTx.add.drainTx.drainTx)))

theorem State.Keeps.ackTaken (h : s.Keeps t) {f : Flit} : s.Keeps (t.ackTaken f) :=
  .ite h (.ite h.add.route (.ite h.add.dropped (.ite h.add.hear.dropped (.ite h.add.hear.onAck (.ite h.add.hear.dropped h.add.hear)))))

theorem State.Keeps.execAck (h : s.Keeps t) {f : Flit} : s.KeepsOut (execAck f t) :=
  Keeps.ite (h.linkCheck (fun _ hu => hu.ackTaken)) h

/-! #### The operations of Machine/VecCtl.lean -/

theorem State.Keeps.execLd (h : s.Keeps t) {th : ThreadRef} : s.KeepsOut (execLd th t) := h.issue fun _ _ hu => hu.runMem

theorem State.Keeps.execSt (h : s.Keeps t) {th : ThreadRef} : s.KeepsOut (execSt th t) := h.issue fun _ _ hu => hu.runStore

theorem State.Keeps.execDmaIssue (h : s.Keeps t) {th : ThreadRef} : s.KeepsOut (execDmaIssue th t) :=
  h.issue fun _ _ hu => hu.runDmaIssue

theorem State.Keeps.execSqPush (h : s.Keeps t) {th : ThreadRef} : s.KeepsOut (execSqPush th t) := h.issue fun _ _ hu => hu.runSqPush

theorem State.Keeps.execSqPop (h : s.Keeps t) {th : ThreadRef} : s.KeepsOut (execSqPop th t) := h.issue fun _ _ hu => hu.runSqPop

theorem State.Keeps.execSqStat (h : s.Keeps t) {th : ThreadRef} : s.KeepsOut (execSqStat th t) := h.issue fun _ _ hu => hu.runSqStat

theorem State.Keeps.execSyncAdd (h : s.Keeps t) {th : ThreadRef} : s.KeepsOut (execSyncAdd th t) :=
  h.issue fun _ _ hu => hu.runSyncAdd

theorem State.Keeps.execSyncAddr (h : s.Keeps t) {th : ThreadRef} : s.KeepsOut (execSyncAddr th t) :=
  h.issue fun _ _ hu => hu.runSyncAddr

theorem State.Keeps.execSyncSet (h : s.Keeps t) {th : ThreadRef} : s.KeepsOut (execSyncSet th t) :=
  h.issue fun _ _ hu => hu.runSyncSet

theorem State.Keeps.execSyncReadlo (h : s.Keeps t) {th : ThreadRef} : s.KeepsOut (execSyncReadlo th t) :=
  h.issueWhen fun _ _ hu => hu.runSyncRead

theorem State.Keeps.execSyncReadhi (h : s.Keeps t) {th : ThreadRef} : s.KeepsOut (execSyncReadhi th t) :=
  h.issueWhen fun _ _ hu => hu.runSyncRead

theorem State.Keeps.execSyncWait (h : s.Keeps t) {th : ThreadRef} : s.KeepsOut (execSyncWait th t) :=
  h.issueWhen fun _ _ hu => hu.runSyncWait

theorem State.Keeps.execBr (h : s.Keeps t) {th : ThreadRef} : s.KeepsOut (execBr th t) := h.issue fun _ _ hu => hu.runBr

theorem State.Keeps.execCall (h : s.Keeps t) {th : ThreadRef} : s.KeepsOut (execCall th t) := h.issue fun _ _ hu => hu.runCall

theorem State.Keeps.execNop (h : s.Keeps t) {th : ThreadRef} : s.KeepsOut (execNop th t) := h.issue fun _ _ hu => hu.runNop

theorem State.Keeps.execExit (h : s.Keeps t) {th : ThreadRef} : s.KeepsOut (execExit th t) := h.issue fun _ _ hu => hu.runExit

theorem State.Keeps.execRet (h : s.Keeps t) {th : ThreadRef} : s.KeepsOut (execRet th t) := h.issue fun _ _ hu => hu.runRet

theorem State.Keeps.execFenceOc (h : s.Keeps t) {th : ThreadRef} : s.KeepsOut (execFenceOc th t) := h.issue fun _ _ hu => hu.runNop

theorem State.Keeps.execFenceDma (h : s.Keeps t) {th : ThreadRef} : s.KeepsOut (execFenceDma th t) :=
  h.issue fun _ _ hu => hu.runFenceDma

theorem State.Keeps.execGangMaskp (h : s.Keeps t) {th : ThreadRef} : s.KeepsOut (execGangMaskp th t) :=
  h.issue fun _ _ hu => hu.gangOnly (fun _ _ hu' => hu'.runMaskp)

theorem State.Keeps.execGangPush (h : s.Keeps t) {th : ThreadRef} : s.KeepsOut (execGangPush th t) :=
  h.issue fun _ _ hu => hu.gangOnly (fun _ _ hu' => hu'.runPush)

theorem State.Keeps.execGangPop (h : s.Keeps t) {th : ThreadRef} : s.KeepsOut (execGangPop th t) :=
  h.issue fun _ _ hu => hu.gangOnly (fun _ _ hu' => hu'.runPop)

theorem State.Keeps.execLaneid (h : s.Keeps t) {th : ThreadRef} : s.KeepsOut (execLaneid th t) :=
  h.issue fun _ _ hu => hu.gangOnly (fun _ _ hu' => hu'.runAlu)

theorem State.Keeps.execBcast (h : s.Keeps t) {th : ThreadRef} : s.KeepsOut (execBcast th t) :=
  h.issue fun _ _ hu => hu.gangOnly (fun _ _ hu' => hu'.runBcast)

theorem State.Keeps.execGangVote (h : s.Keeps t) {th : ThreadRef} : s.KeepsOut (execGangVote th t) :=
  h.issue fun _ _ hu => hu.gangOnly (fun _ _ hu' => hu'.runVote)

theorem State.Keeps.execMaskrd (h : s.Keeps t) {th : ThreadRef} : s.KeepsOut (execMaskrd th t) :=
  h.issue fun _ _ hu => hu.gangOnly (fun _ _ hu' => hu'.runAlu)

theorem State.Keeps.execLred (h : s.Keeps t) {th : ThreadRef} : s.KeepsOut (execLred th t) :=
  h.issue fun _ _ hu => hu.gangOnly (fun _ _ hu' => hu'.runLred)

theorem State.Keeps.execTrap (h : s.Keeps t) {th : ThreadRef} : s.KeepsOut (execTrap th t) := h.issue fun _ _ hu => hu.runTrap

theorem State.Keeps.execIllegal (h : s.Keeps t) {th : ThreadRef} : s.KeepsOut (execIllegal th t) :=
  h.issue fun _ _ hu => .ite hu.putThread hu.vecException

theorem State.Keeps.rejectLaunch (h : s.Keeps t) {n p reason : Nat} : s.Keeps (t.rejectLaunch n p reason) :=
  h.setVec.wrAt.wrAt.raiseRec.failStep

theorem State.Keeps.itemPoison (h : s.Keeps t) {n q : Nat} : s.Keeps (t.itemPoison n q) := by
  unfold State.itemPoison
  extract_lets u
  have hu : s.Keeps u := h.consumed
  exact hu.raise.failStep

theorem State.Keeps.tryLaunch (h : s.Keeps t) {n p : Nat} {ws : List Nat} {feed : Nat} : s.Keeps (t.tryLaunch n p ws feed) :=
  .ite h.rejectLaunch (.ite h.setVec h.setVec)

theorem State.Keeps.execVecLaunch (h : s.Keeps t) {core : Nat} : s.KeepsOut (execVecLaunch core t) := by
  unfold Machine.execVecLaunch
  extract_lets _ _ _ u
  have hu : s.Keeps u.2 := h.popFront
  split
  · split
    · exact h.tryLaunch
    · exact .ite (.ite hu.itemPoison hu.tryLaunch.feedBoth) h
  · exact h

theorem State.Keeps.segLaunchDone (h : s.Keeps t) {n feed : Nat} : s.Keeps (t.segLaunchDone n feed) := by
  unfold State.segLaunchDone
  extract_lets _ _
  split
  · exact h
  · split
    · exact h.setWing
    · exact h

theorem State.Keeps.flushIcache (h : s.Keeps t) {p : Nat} : s.Keeps (t.flushIcache p) := .ite h.wrAt h.setVec.wrAt

theorem State.Keeps.execVecLaunchComplete (h : s.Keeps t) {core : Nat} : s.KeepsOut (execVecLaunchComplete core t) := by
  unfold Machine.execVecLaunchComplete
  extract_lets _ _
  split
  · exact h
  · extract_lets u v w u'
    have hu : s.Keeps u := h.setVec
    have hv : s.Keeps v := hu.addAt.wrAt
    have hw : s.Keeps w := .ite hv.syncAdd hv
    have hu' : s.Keeps u' := .ite hw.flushIcache hw
    exact hu'.segLaunchDone.toChecking

theorem State.Keeps.execFlushIcache (h : s.Keeps t) {core : Nat} : s.KeepsOut (execFlushIcache core t) := Keeps.ite h.flushIcache h

theorem State.Keeps.resumeThread (h : s.Keeps t) {p : Nat} : s.Keeps (t.resumeThread p) := .ite h.setVec h

theorem State.Keeps.execThreadResume (h : s.Keeps t) {core : Nat} : s.KeepsOut (execThreadResume core t) := Keeps.ite h.resumeThread h

theorem State.Keeps.execQueueWaitTimeout (h : s.Keeps t) {queue : Nat} {thread : Option ThreadRef} :
    s.KeepsOut (execQueueWaitTimeout queue thread t) := by
  unfold Machine.execQueueWaitTimeout
  extract_lets _
  split
  · exact h
  · split
    · exact Keeps.ite h.queueStalls h
    · extract_lets _ _ _ _ _ _ _ _
      exact .ite (.ite h h.setVec.queueStalls) h

/-! #### The operations of Machine/Row.lean -/

theorem State.Keeps.wordNans (h : s.Keeps t) {core : Nat} {c : List Nat} {m n : Nat} {vs : List Nat} {place : Nat → Nat × Nat} :
    s.Keeps (t.wordNans core c m n vs place) := by
  unfold State.wordNans
  split
  · exact h
  · exact h.nanEvents

theorem State.Keeps.setRecReg (h : s.Keeps t) {core : Nat} {c : List Nat} {m r : Nat} {vs : List Nat} {poison : Bool} :
    s.Keeps (t.setRecReg core c m r vs poison) :=
  h.storeN.wordNans

theorem State.Keeps.setHeader (h : s.Keeps t) {core : Nat} {c : List Nat} {m act : Nat} {poison : Bool} :
    s.Keeps (t.setHeader core c m act poison) :=
  h.storeN

theorem State.Keeps.ctxWrite (h : s.Keeps t) {core : Nat} {c : List Nat} {k : Nat} {f : Fmt} {axis m n : Nat} {vals : List (List Nat)}
    {posZero poison : Bool} {live : Nat → Nat → Bool} :
    s.Keeps (t.ctxWrite core c k f axis m n vals posZero poison live) :=
  h.writeOut.rowFlags

theorem State.Keeps.taken (h : s.Keeps t) {p : Nat} {x : Tile} : s.Keeps (t.taken p x) := h.setArr

theorem State.Keeps.poisonRow (h : s.Keeps t) {core : Nat} {c : List Nat} {m : Nat} : s.Keeps (t.poisonRow core c m) :=
  h.foldl fun _ _ hu => hu.setPoison

theorem State.Keeps.endChunk (h : s.Keeps t) {p : Nat} {k : RowChunk} {f : Flags} : s.Keeps (t.endChunk p k f) := h.setRow

theorem State.Keeps.dpTile (h : s.Keeps t) {core : Nat} {k : RowChunk} {x : RowTile} : s.Keeps (t.dpTile core k x) := by
  unfold State.dpTile
  extract_lets _ _ _ _ _ _ _ _ _ _ _ _ u v w u' _ v'
  have hu : s.Keeps u := .ite h.ctxWrite h
  have hv : s.Keeps v := .ite hu.ctxWrite hu
  have hw : s.Keeps w := .ite hv.poisonRow hv
  have hu' : s.Keeps u' := hw.rowFlags
  have hv' : s.Keeps v' := hu'.setRow
  exact .ite hv'.endChunk hv'

theorem State.Keeps.acceptTile (h : s.Keeps t) {core i : Nat} {hw : Bool} {c ext : List Nat} {x : RowTile}
    (e : t.acceptTile core i hw c ext x = some u) : s.Keeps u := by
  unfold State.acceptTile at e
  extract_lets p r src idx room done q k at e
  split at e
  · split at e
    · cases e
    · split at e
      · exact Option.some.inj e ▸ h.rowReject
      · exact Option.some.inj e ▸ h.setRow
  · split at e
    · split at e
      · cases e
      · split at e
        · cases e
        · split at e
          · exact Option.some.inj e ▸ h.rowReject
          · split at e
            · exact Option.some.inj e ▸ h.rowReject
            · exact Option.some.inj e ▸ h.dpTile
    · split at e
      · split at e
        · exact Option.some.inj e ▸ h.rowReject
        · split at e
          · exact Option.some.inj e ▸ h.setRow
          · cases e
      · split at e
        · exact Option.some.inj e ▸ h.rowReject
        · split at e
          · exact Option.some.inj e ▸ h.setRow
          · cases e

theorem State.Keeps.execRowTileAccept (h : s.Keeps t) {core : Nat} {hw : Bool} : s.KeepsOut (execRowTileAccept core hw t) := by
  unfold Machine.execRowTileAccept
  extract_lets p
  split
  · exact h
  · refine .ite h ?_
    split
    · exact h.rowReject
    · extract_lets a v x code
      have hv : s.Keeps v := h.cacheCtx
      refine .ite h.consumePoison (.ite hv.rowReject ?_)
      split
      · rename_i e
        have hu := hv.acceptTile e
        exact Keeps.ite hu hu.frameDrawn.taken
      · exact hv

theorem State.Keeps.writeProbs (h : s.Keeps t) {core : Nat} {k : RowChunk} {m op axis : Nat} {f : Fmt} {rows : List SoftRow} {poison : Bool} :
    s.Keeps (t.writeProbs core k m op axis f rows poison).1 :=
  .ite_fst (h.foldl_fst (fun _ _ hu => hu.ctxWrite)) h

theorem State.Keeps.passBlock (h : s.Keeps t) {core : Nat} {k : RowChunk} {m : Nat} : s.Keeps (t.passBlock core k m).1 := by
  unfold State.passBlock
  extract_lets _ _ _ _ _ _ _ u v w _ _ u'
  have hu : s.Keeps u.1 := h.writeProbs
  have hv : s.Keeps v := hu.rowFlags.addAt
  have hw : s.Keeps w := hv.setRecReg.setRecReg.setRecReg
  have hu' : s.Keeps u' := .ite hv hw.setHeader
  exact .ite hu'.poisonRow hu'

theorem State.Keeps.runPass (h : s.Keeps t) {core : Nat} {k : RowChunk} {ms : List Nat} : s.Keeps (t.runPass core k ms) := by
  unfold State.runPass
  extract_lets c p r k2 u
  have hr : s.Keeps r.1 := Keeps.foldl_fst h fun _ _ hu => hu.passBlock
  have hu : s.Keeps u := hr.setRow
  exact .ite hu.endChunk hu

theorem State.Keeps.execSoftmaxExpPass (h : s.Keeps t) {core ctx : Nat} : s.KeepsOut (execSoftmaxExpPass core ctx t) := by
  unfold Machine.execSoftmaxExpPass
  extract_lets _
  split
  · exact h
  · extract_lets _
    exact .ite h.runPass h

theorem State.Keeps.mergeTile (h : s.Keeps t) {core : Nat} {q : RowMerge} : s.Keeps (t.mergeTile core q) := by
  unfold State.mergeTile
  extract_lets _ _ _ _ _ _ _ _ _ u v w _ _ _ _ _ _
  have hu : s.Keeps u := h.writeOut.rowFlags
  have hv : s.Keeps v := .ite hu.setHeader hu
  have hw : s.Keeps w := .ite hv.poisonRow hv
  exact .ite hw.setRow hw.setRow

theorem State.Keeps.execAttnMergeTile (h : s.Keeps t) {core : Nat} : s.KeepsOut (execAttnMergeTile core t) := by
  unfold Machine.execAttnMergeTile
  extract_lets _
  split
  · exact h
  · extract_lets _
    exact .ite h.mergeTile h

theorem State.Keeps.finalBlock (h : s.Keeps t) {core : Nat} {c : List Nat} {m : Nat} : s.Keeps (t.finalBlock core c m).1 :=
  .rowFlags (.setHeader (.setRecReg (.setRecReg (h.foldl_fst (fun _ _ hu => hu.ctxWrite.rowFlags)))))

theorem State.Keeps.dotBlock (h : s.Keeps t) {core : Nat} {c : List Nat} {m : Nat} : s.Keeps (t.dotBlock core c m).1 := h.setRecReg.rowFlags

theorem State.Keeps.normWork (h : s.Keeps t) {core : Nat} {c : List Nat} {m : Nat} {poison : Bool} : s.Keeps (t.normWork core c m poison) :=
  h.storeN.frameDrawn

theorem State.Keeps.normBlock (h : s.Keeps t) {core : Nat} {c : List Nat} {m : Nat} : s.Keeps (t.normBlock core c m).1 :=
  .rowFlags (.normWork (.setRecReg (.setRecReg (h.foldl_fst (fun _ _ hu => hu.ctxWrite.rowFlags)))))

theorem State.Keeps.addVec (h : s.Keeps t) {core : Nat} {c : List Nat} {second : Bool} {vs : List (List (Nat × Flags))} {poison : Bool} :
    s.Keeps (t.addVec core c second vs poison).1 :=
  h.foldl_fst fun _ _ hu => hu.storeN.wordNans

theorem State.Keeps.normBwdBlock (h : s.Keeps t) {core : Nat} {c : List Nat} {m : Nat} : s.Keeps (t.normBwdBlock core c m).1 := by
  unfold State.normBwdBlock
  extract_lets _ _ _ _ _ _ _ _ u v
  have hu : s.Keeps u.1 := h.foldl_fst fun _ _ hu => .ite_fst hu.addVec hu.addVec.addVec
  have hv : s.Keeps v.1 := hu.foldl_fst fun _ _ hu' => hu'.ctxWrite.rowFlags
  exact .rowFlags (.ite hv.poisonRow hv)

theorem State.Keeps.runOp (h : s.Keeps t) {core : Nat} {c : List Nat} : s.Keeps (t.runOp core c).1 := by
  refine Keeps.foldl_fst h fun x m hx => ?_
  extract_lets r
  have hr : s.Keeps r.1 := by
    unfold r
    split
    · exact hx.finalBlock
    · exact hx.dotBlock
    · exact hx.normBlock
    · exact hx.normBwdBlock
  exact hr

theorem State.Keeps.rowStart (h : s.Keeps t) {core : Nat} {c : List Nat} : s.Keeps (t.rowStart core c) := by
  unfold State.rowStart
  extract_lets u v _ _ _
  have hu : s.Keeps u := h.foldl fun _ _ hu => hu.storeN
  have hv : s.Keeps v := .ite (hu.foldl (fun _ _ hu' => hu'.foldl (fun _ _ hu'' => hu''.foldl (fun _ _ hu''' => hu'''.storeN)))) hu
  exact hv.setRow

theorem State.Keeps.rowCommand (h : s.Keeps t) {core act : Nat} : s.Keeps (t.rowCommand core act) := by
  unfold State.rowCommand
  extract_lets _ _ u
  have hu : s.Keeps u.2 := h.popFront
  split
  · exact h
  · split
    · exact h
    · extract_lets _ _ _ _
      split
      · exact hu.itemPoison
      · split
        · exact hu.rowReject
        · split
          · exact h
          · split
            · exact hu.rowReject
            · extract_lets v _ _ w _ _
              have hv : s.Keeps v := hu.cacheCtx
              have hw : s.Keeps w.1 := hv.runOp
              exact .ite hu.consumePoison (.ite h (.ite hv.rowReject (.ite hv.rowStart.segRowDone hw.setRow)))

theorem State.Keeps.execRowCmdStart (h : s.Keeps t) {core : Nat} : s.KeepsOut (execRowCmdStart core t) := h.rowCommand

theorem State.Keeps.execRowCmdRun (h : s.Keeps t) {core : Nat} : s.KeepsOut (execRowCmdRun core t) := h.rowCommand

theorem State.Keeps.settleFlush (h : s.Keeps t) {p : Nat} : s.Keeps (t.settleFlush p) := .ite h.setRow.wrAt h

theorem State.Keeps.execRowContextComplete (h : s.Keeps t) {core : Nat} : s.KeepsOut (execRowContextComplete core t) := by
  unfold Machine.execRowContextComplete
  extract_lets _ _
  split
  · exact h
  · extract_lets u v w
    have hu : s.Keeps u := h.setRow
    have hv : s.Keeps v := hu.addAt.wrAt.wrAt
    have hw : s.Keeps w := .ite hv.syncAdd hv
    exact .ite hw.segRowDone.settleFlush h

theorem State.Keeps.flushRow (h : s.Keeps t) {p : Nat} : s.Keeps (t.flushRow p) := h.wrAt.settleFlush

theorem State.Keeps.execRowFlushCtx (h : s.Keeps t) {core : Nat} : s.KeepsOut (execRowFlushCtx core t) := Keeps.ite h.flushRow h

/-! #### The operations of Machine/Molt.lean -/

theorem State.Keeps.moveCore (h : s.Keeps t) {n q : Nat} : s.Keeps (t.moveCore n q) :=
  .wrAt (.ite h h.loseStores.copyResidents.copyConfig)

theorem State.Keeps.retireCore (h : s.Keeps t) {p : Nat} : s.Keeps (t.retireCore p) := h.frame

theorem State.Keeps.swapSuspect (h : s.Keeps t) {n : Nat} : s.Keeps (t.swapSuspect n) := by
  unfold State.swapSuspect
  extract_lets
  split
  · exact h
  · rename_i p u e
    have hu : s.Keeps u := by
      split at e
      · cases e
        exact h
      · exact h.takeSpare e
    exact hu.moveCore.wrAt.frame.retireCore

theorem State.Keeps.beginTest (h : s.Keeps t) {p : Nat} : s.Keeps (t.beginTest p) := h.wrAt

theorem State.Keeps.rotate (h : s.Keeps t) {q : Nat} : s.Keeps (t.rotate q) := by
  unfold State.rotate
  split
  · extract_lets u _
    have hu : s.Keeps u := h.moveCore.beginTest
    exact hu.frame
  · exact h

theorem State.Keeps.coreChange (h : s.Keeps t) {q : Nat} : s.Keeps (t.coreChange q) := by
  unfold State.coreChange
  split
  · exact h.swapSuspect
  · exact .ite h.rotate h

theorem State.Keeps.coreChanges (h : s.Keeps t) : s.Keeps t.coreChanges :=
  .ite (.wr (h.each (fun _ _ hu => hu.coreChange))) (h.each (fun _ _ hu => hu.coreChange))

theorem State.Keeps.releaseInputs (h : s.Keeps t) : s.Keeps t.releaseInputs := h.frame.clear

theorem State.Keeps.repairCommitted (h : s.Keeps t) : s.Keeps t.repairCommitted := h.foldl fun _ _ hu => hu.consumed.requestCopy

theorem State.Keeps.moltMirror (h : s.Keeps t) : s.Keeps t.moltMirror := h.frame

theorem State.Keeps.flipBank (h : s.Keeps t) : s.Keeps t.flipBank :=
  .ite h.wr.wr.add.wr.wr.showScale.wr.wr.wr.wr.wr.wr.addSat h.wr.wr.add.wr.wr.showScale.wr.wr.wr.wr.wr

theorem State.Keeps.settleRun (h : s.Keeps t) : s.Keeps t.settleRun := .ite h.clear h

theorem State.Keeps.flip (h : s.Keeps t) : s.Keeps t.flip := by
  unfold State.flip
  extract_lets u v _ _ w u'
  have hu : s.Keeps u := h.wr.flipBank.releaseInputs
  have hv : s.Keeps v := hu.moltMirror.endAttempt
  have hw : s.Keeps w := hv.frame.promoteRx.askAgain
  have hu' : s.Keeps u' := hw.coreChanges.cutAtMolt.settleRun.settleLoads.repairCommitted
  exact .settleSteps (.atBoundary (.ite hu'.enterHeld hu'))

theorem State.Keeps.skipStep (h : s.Keeps t) : s.Keeps t.skipStep := h.frame.wr.wr.wr

theorem State.Keeps.onNonfinite (h : s.Keeps t) : s.Keeps t.onNonfinite :=
  .ite h.wr.skipStep (.ite h.wr.discardStep.add h.wr.discardStep)

theorem State.Keeps.sendDecision (h : s.Keeps t) {code cause flags count origin : Nat} :
    s.Keeps (t.sendDecision code cause flags count origin) :=
  h.foldl fun _ _ hu => hu.sendBarrier

theorem State.Keeps.sendMoltRecord (h : s.Keeps t) : s.Keeps t.sendMoltRecord := h.sendBarrier.frame

theorem State.Keeps.decideTree (h : s.Keeps t) {nf : Bool} : s.Keeps (t.decideTree nf) :=
  .ite h.sendDecision.onNonfinite (.ite h.flip h.sendMoltRecord)

theorem State.Keeps.decideDue (h : s.Keeps t) : s.Keeps t.decideDue := .ite h.frame.decideTree h

theorem State.Keeps.tryUp (h : s.Keeps t) : s.Keeps t.tryUp := .ite h (.ite (.ite h.decideTree h.frame) h.frame.sendBarrier)

theorem State.Keeps.childFails (h : s.Keeps t) {k cause origin : Nat} : s.Keeps (t.childFails k cause origin) := h.frame.passFail

theorem State.Keeps.onVote (h : s.Keeps t) {f : Flit} : s.Keeps (t.onVote f) := by
  unfold State.onVote
  extract_lets _ _
  split
  · exact h
  · extract_lets _
    exact .ite h (.ite (.ite h h.childFails) (.ite h.frame.tryUp h))

theorem State.Keeps.execVote (h : s.Keeps t) {f : Flit} : s.KeepsOut (execVote f t) := h.onFlit fun _ hu => hu.onVote

theorem State.Keeps.actOn (h : s.Keeps t) {code cause flags count origin : Nat} : s.Keeps (t.actOn code cause flags count origin) :=
  .ite (.ite h.flip h) (.ite (.ite h.onNonfinite h) (.ite h.wr.wr.discardStep h))

theorem State.Keeps.sayDecision (h : s.Keeps t) {ks : List Nat} {n code cause count : Nat} : s.Keeps (t.sayDecision ks n code cause count) :=
  h.foldl fun _ _ hu => hu.sendFlit

theorem State.Keeps.onDecision (h : s.Keeps t) {f : Flit} : s.Keeps (t.onDecision f) :=
  .ite h.sayDecision (.ite h h.sendDecision.actOn)

theorem State.Keeps.execDecision (h : s.Keeps t) {f : Flit} : s.KeepsOut (execDecision f t) := h.onFlit fun _ hu => hu.onDecision

theorem State.Keeps.onRecord (h : s.Keeps t) {f : Flit} : s.Keeps (t.onRecord f) := .ite h.frame.sendBarrier h

theorem State.Keeps.execRecord (h : s.Keeps t) {f : Flit} : s.KeepsOut (execRecord f t) := h.onFlit fun _ hu => hu.onRecord

theorem State.Keeps.onRecordAck (h : s.Keeps t) {f : Flit} : s.Keeps (t.onRecordAck f) := .ite h.sendDecision.flip h

theorem State.Keeps.execRecordAck (h : s.Keeps t) {f : Flit} : s.KeepsOut (execRecordAck f t) := h.onFlit fun _ hu => hu.onRecordAck

theorem State.Keeps.onDigest (h : s.Keeps t) {f : Flit} : s.Keeps (t.onDigest f) := .ite h.frame.settleDigest h

theorem State.Keeps.execDigest (h : s.Keeps t) {f : Flit} : s.KeepsOut (execDigest f t) := h.onFlit fun _ hu => hu.onDigest

theorem State.Keeps.execVoteTimeout (h : s.Keeps t) : s.KeepsOut (execVoteTimeout t) := by
  unfold Machine.execVoteTimeout
  split
  · exact h
  · exact .ite h.decideDiscard h

theorem State.Keeps.execCanaryStart (h : s.Keeps t) {entry unit : Nat} : s.KeepsOut (execCanaryStart entry unit t) :=
  .ite (.ite (Keeps.feed (.setWing (h.frame.wr.loseStores.foldl (fun _ _ hu => hu.syncSet)))) h.frame.wr) h

theorem State.Keeps.canaryPass (h : s.Keeps t) {e u : Nat} : s.Keeps (t.canaryPass e u) := .ite h.frame.wr h.frame

theorem State.Keeps.canaryFail (h : s.Keeps t) {e u : Nat} : s.Keeps (t.canaryFail e u) := by
  unfold State.canaryFail
  extract_lets _ v _ w u'
  have hv : s.Keeps v := h.wr.wr.wr
  have hw : s.Keeps w := .ite h hv.frame
  have hu' : s.Keeps u' := hw.failStep
  exact .ite (.ite hu' hu'.markSuspect) (.ite hu'.dropEngine hu')

theorem State.Keeps.canaryRerun (h : s.Keeps t) {ok : Bool} : s.Keeps (t.canaryRerun ok) := h.frame.wr.wr.fatalJob

theorem State.Keeps.execCanaryComplete (h : s.Keeps t) {entry unit : Nat} {ok : Bool} : s.KeepsOut (execCanaryComplete entry unit ok t) := by
  unfold Machine.execCanaryComplete
  extract_lets _
  split
  · exact h
  · split
    · exact h.canaryRerun
    · split
      · exact h
      · split
        · split
          · exact h
          · extract_lets _ u
            have hu : s.Keeps u := h.setWing
            exact .ite (Keeps.ite hu.canaryPass hu.canaryFail) h
        · exact Keeps.ite h.canaryPass h.canaryFail

theorem State.Keeps.castVote (h : s.Keeps t) {v : Nat} : s.Keeps (t.castVote v) := h.frame.tryUp

theorem State.Keeps.execModuleVote (h : s.Keeps t) : s.KeepsOut (execModuleVote t) := by
  unfold Machine.execModuleVote
  extract_lets _
  split
  · split
    · exact h.consumed.failStep
    · exact Keeps.castVote (.ite h.wr h)
  · exact h

theorem State.Keeps.startBuild (h : s.Keeps t) : s.Keeps t.startBuild := .ite h h.frame.wr.wr.wr

theorem State.Keeps.buildCopy (h : s.Keeps t) {a n : Nat} : s.Keeps (t.buildCopy a n) := h.sendWrites

theorem State.Keeps.buildWrites (h : s.Keeps t) : s.Keeps t.buildWrites := by
  unfold State.buildWrites
  extract_lets u _ v _
  have hu : s.Keeps u := h.foldl fun _ _ hu => hu.buildCopy.buildCopy
  have hv : s.Keeps v := .ite hu.buildCopy hu
  exact hv.frame.wr.wr

theorem State.Keeps.execMirrorBuildEnd (h : s.Keeps t) {held : Bool} : s.KeepsOut (execMirrorBuildEnd held t) := by
  unfold Machine.execMirrorBuildEnd
  split
  · exact h
  · split
    · split
      · exact h
      · exact h.wr.sendBarrier
    · split
      · exact h
      · split
        · exact h.consumePoison
        · exact h.buildWrites

theorem State.Keeps.onMirrorDone (h : s.Keeps t) {f : Flit} : s.Keeps (t.onMirrorDone f) := .ite h.frame.wr.wr h

theorem State.Keeps.execMirrorDone (h : s.Keeps t) {f : Flit} : s.KeepsOut (execMirrorDone f t) :=
  h.onFlit fun _ hu => hu.onMirrorDone

theorem State.Keeps.takePulled (h : s.Keeps t) {b instar : Nat} {complete : Bool} : s.Keeps (t.takePulled b instar complete) :=
  h.wr.wr.wrBit.showScale.foldl fun _ _ hu => hu.copyMarked

theorem State.Keeps.rootAfterPull (h : s.Keeps t) {instar : Nat} {record : Bool} : s.Keeps (t.rootAfterPull instar record) :=
  .ite h (.ite h.sayDecision h.sayDecision)

theorem State.Keeps.execStatePullDone (h : s.Keeps t) {instar : Nat} {record heldComplete : Bool} :
    s.KeepsOut (execStatePullDone instar record heldComplete t) := by
  rw [show Machine.execStatePullDone = _ from by delta Machine.execStatePullDone; rfl]
  generalize { t.mirror with pulling := false } = m
  extract_lets +onlyGivenNames u
  have hu : s.Keeps u := h.frame
  split
  · exact h
  · split
    · exact hu.fatalJob
    · exact .ite hu.fatalJob hu.takePulled.rootAfterPull

/-! #### The operations of Machine/InField.lean -/

theorem State.Keeps.execRotationDue (h : s.Keeps t) {quadrant : Nat} : s.KeepsOut (execRotationDue quadrant t) := .ite h.frame h

theorem State.Keeps.execCoreTestComplete (h : s.Keeps t) {phys : Nat} {passed : Bool} : s.KeepsOut (execCoreTestComplete phys passed t) :=
  .ite (.ite h.wrAt.wrAt.wrAt h.wrAt.wrAt.retireCore.raiseRec.warn) h

theorem State.Keeps.execSpareTestDue (h : s.Keeps t) {phys : Nat} : s.KeepsOut (execSpareTestDue phys t) := .ite h.beginTest h

theorem State.Keeps.execTestDeferTimer (h : s.Keeps t) : s.KeepsOut (execTestDeferTimer t) := .ite h.frame.wr.raise h

theorem State.Keeps.execTestOverdueTimer (h : s.Keeps t) : s.KeepsOut (execTestOverdueTimer t) := .ite h.wr.raise h

theorem State.Keeps.testNow (h : s.Keeps t) : s.Keeps t.testNow := h.frame.foldl fun _ _ hu => hu.beginTest

theorem State.Keeps.execChkTestNow (h : s.Keeps t) : s.KeepsOut (execChkTestNow t) := Keeps.ite h.wr.testNow h

theorem State.Keeps.retryTrend (h : s.Keeps t) {n : Nat} : s.Keeps (t.retryTrend n) := .ite h.frame.raise.warn h

theorem State.Keeps.execCoreRetryHourly (h : s.Keeps t) : s.KeepsOut (execCoreRetryHourly t) := by
  unfold Machine.execCoreRetryHourly
  extract_lets u _
  have hu : s.Keeps u := h.each fun _ _ hu => hu.retryTrend
  exact .ite hu.frame h

/-! #### The operations of Machine/Steps.lean -/

theorem State.Keeps.deliver (h : s.Keeps t) {f : Flit} : s.Keeps (t.deliver f) := by
  unfold State.deliver
  split
  · split
    · rename_i e
      exact h.mirrorWait e
    · exact h.onWrite
  · cases e : t.readWait f with
    | none => exact h.onReadReq
    | some u => exact (h.readWait e).onReadReq
  · exact h.onReadData
  · exact h.onItem
  · exact h.onSyncAdd
  · exact h.onCollData
  · exact h.onVote.onRecord.onRecordAck.onDigest.onMirrorDone
  · exact h

theorem State.Keeps.deliverHeld (h : s.Keeps t) : s.Keeps t.deliverHeld := h.releaseHeld.foldl fun _ _ hu => hu.deliver

theorem State.Keeps.endOfTick (h : s.Keeps t) : s.Keeps t.endOfTick := h.decideDue.deliverHeld.feedAll.settleOps

theorem State.Keeps.zeroAll (h : s.Keeps t) {fs : List Field} : s.Keeps (t.zeroAll fs) := h.withRegs fun c => ssorted_skeep c _

theorem State.Keeps.initCounters (h : s.Keeps t) : s.Keeps t.initCounters := h.foldl fun _ _ hu => hu.syncSet

theorem State.Keeps.restartEngines (h : s.Keeps t) : s.Keeps t.restartEngines := h.frame

theorem State.Keeps.beginAttempt (h : s.Keeps t) {st : StepState} : s.Keeps (t.beginAttempt st) := by
  unfold State.beginAttempt
  extract_lets u v _ _ w u' v' _ _ _ _ _ w' u''
  have hu : s.Keeps u := h.openUpd
  have hv : s.Keeps v := hu.initCounters
  have hw : s.Keeps w := hv.frame
  have hu' : s.Keeps u' := hw.zeroAll.clear
  have hv' : s.Keeps v' := hu'.restartEngines
  have hw' : s.Keeps w' := hv'.frame
  have hu'' : s.Keeps u'' := hw'.wr.openQueues.resendRingTags
  exact .toChecking (.deliverHeld (.readHeads (.ite hu''.scheduledCut hu''.servePending)))

theorem State.Keeps.openDone (h : s.Keeps t) : s.Keeps t.openDone := h.frame

theorem State.Keeps.latchInputs (h : s.Keeps t) : s.Keeps t.latchInputs := h.frame.wr.wr.wr

theorem State.Keeps.countStep (h : s.Keeps t) : s.Keeps t.countStep := .ite h (.ite h.clear h.wr)

theorem State.Keeps.execStepOpen (h : s.Keeps t) : s.KeepsOut (execStepOpen t) := by
  rw [show Machine.execStepOpen = _ from by delta Machine.execStepOpen; rfl]
  split
  · exact h
  · split
    · exact h.frame
    · split
      · exact h.consumePoison
      · extract_lets +onlyGivenNames u
        have hu : s.Keeps u := h.endInputWait.wr
        split
        · exact hu.frame.raise.enterHeld
        · extract_lets +onlyGivenNames v
          have hv : s.Keeps v := hu.latchInputs.countStep
          exact hv.beginAttempt.openDone.finishDirectives

theorem State.Keeps.execStepReplay (h : s.Keeps t) : s.KeepsOut (execStepReplay t) := by
  unfold Machine.execStepReplay
  split
  · split
    · exact h.consumePoison
    · exact h.wr.beginAttempt.finishDirectives
  · exact h

theorem State.Keeps.stepRun (h : s.Keeps t) {r seq : Nat} {ws : List Nat} : s.Keeps (t.stepRun r seq ws) := by
  unfold State.stepRun
  extract_lets _ u v _
  have hu : s.Keeps u := h.markStarted.wr
  have hv : s.Keeps v := hu.wr.wr.wr
  split
  · exact h.ringResult
  · split
    · exact h.rejectTable.ringResult
    · exact .ite h.raise.ringResult hv.frame

theorem State.Keeps.execStepRun (h : s.Keeps t) {ring seq : Nat} : s.KeepsOut (execStepRun ring seq t) :=
  h.onStart fun _ _ hu => hu.stepRun

theorem State.Keeps.stepStop (h : s.Keeps t) : s.Keeps t.stepStop := .ite (.ite h.wr h) h.clear

theorem State.Keeps.execStepStop (h : s.Keeps t) {ring seq : Nat} : s.KeepsOut (execStepStop ring seq t) :=
  h.onStart fun _ _ hu => hu.markStarted.stepStop.settleSteps

theorem State.Keeps.execStepWait (h : s.Keeps t) {ring seq : Nat} : s.KeepsOut (execStepWait ring seq t) :=
  h.onStart fun _ _ hu => hu.markStarted.settleSteps

theorem State.Keeps.drainAt (h : s.Keeps t) {b : Boundary} : s.Keeps (t.drainAt b) := .ite h.frame h.frame.atBoundary

theorem State.Keeps.execJobEnd (h : s.Keeps t) {ring seq : Nat} : s.KeepsOut (execJobEnd ring seq t) :=
  h.onStart fun _ _ hu => .ite hu.markStarted.drainAt.settleSteps hu.ringResult

theorem State.Keeps.cancelJob (h : s.Keeps t) : s.Keeps t.cancelJob := h.discardStep.stopWriter.enterDraining

theorem State.Keeps.execJobCancel (h : s.Keeps t) {ring seq : Nat} : s.KeepsOut (execJobCancel ring seq t) :=
  h.onStart fun _ _ hu => .ite hu.markStarted.cancelJob.settleSteps hu.ringResult

theorem State.Keeps.writeKeptNext (h : s.Keeps t) {v : Nat} : s.Keeps (t.writeKeptNext v) := .ite h.wr.wr.wr.endInputWait h.wr.wr.wr

theorem State.Keeps.execKeptNextReady (h : s.Keeps t) {value : Nat} : s.KeepsOut (execKeptNextReady value t) :=
  Keeps.ite h.writeKeptNext h

theorem State.Keeps.repairDone (h : s.Keeps t) : s.Keeps t.repairDone := .ite h.frame.wr.wr h

theorem State.Keeps.execKeptRepairDone (h : s.Keeps t) : s.KeepsOut (execKeptRepairDone t) := Keeps.ite h.repairDone h

/-! #### The operations of Machine/Loss.lean -/

theorem State.Keeps.watchFrom (h : s.Keeps t) : s.Keeps t.watchFrom := h.frame

theorem State.Keeps.execJobHeartbeatTimer (h : s.Keeps t) : s.KeepsOut (execJobHeartbeatTimer t) :=
  .ite (h.frame.foldl (fun _ _ hu => hu.sendNotice)) h

theorem State.Keeps.execJobHeartbeat (h : s.Keeps t) {f : Flit} : s.KeepsOut (execJobHeartbeat f t) := h.onFlit fun _ hu => hu

theorem State.Keeps.failLost (h : s.Keeps t) {r : Nat} {hold : Bool} : s.Keeps (t.failLost r hold) := by
  unfold State.failLost
  extract_lets _ u _ _ _
  have hu : s.Keeps u := .ite h.frame h
  exact .ite (.ite hu hu.frame.passFail) (.ite hu.enterHeld hu)

theorem State.Keeps.noteLoss (h : s.Keeps t) {r m : Nat} {declared : Bool} : s.Keeps (t.noteLoss r m declared) :=
  .ite h h.wr.wrBit.wr.wr

theorem State.Keeps.abortInbound (h : s.Keeps t) {m : Nat} : s.Keeps (t.abortInbound m) :=
  h.foldl fun _ _ hu => .ite hu.routerAbort hu

theorem State.Keeps.loseRank (h : s.Keeps t) {r by_ sender : Nat} {declared : Bool} : s.Keeps (t.loseRank r by_ sender declared) := by
  unfold State.loseRank
  extract_lets _ _ u _ v w u' _ v' w'
  have hu : s.Keeps u := h.noteLoss
  have hv : s.Keeps v := hu.frame
  have hw : s.Keeps w := .ite hv.wr hv
  have hu' : s.Keeps u' := hw.abortInbound
  have hv' : s.Keeps v' := hu'.foldl fun _ _ hu'' => hu''.sendNotice
  have hw' : s.Keeps w' := hv'.failLost
  exact .ite h (.ite hw'.fatalJob hw')

theorem State.Keeps.declareLost (h : s.Keeps t) {m : Nat} : s.Keeps (t.declareLost m) := by
  unfold State.declareLost
  split
  · exact h
  · exact .ite h h.noteLoss.raiseRec.loseRank

theorem State.Keeps.execJobHbTimeout (h : s.Keeps t) {module : Nat} : s.KeepsOut (execJobHbTimeout module t) := .ite h.declareLost h

theorem State.Keeps.execLossNotice (h : s.Keeps t) {f : Flit} : s.KeepsOut (execLossNotice f t) :=
  h.onFlit fun _ hu => .ite hu hu.loseRank

theorem State.Keeps.holdNow (h : s.Keeps t) : s.Keeps t.holdNow := .ite h.frame h.enterHeld

theorem State.Keeps.execRemapWaitTimeout (h : s.Keeps t) : s.KeepsOut (execRemapWaitTimeout t) := .ite h.holdNow h

theorem State.Keeps.flitFails (h : s.Keeps t) {x : TxFlit} : s.Keeps (t.flitFails x) := by
  unfold State.flitFails
  extract_lets _ u _ v
  have hu : s.Keeps u := .foldl (.ite h h.failRingTag) fun _ _ hu => hu.epilogueFails
  have hv : s.Keeps v := hu.frame
  split
  · exact h.failXfer
  · split
    · exact h.failStep
    · split
      · exact hu.failStep
      · exact hu.failStep
      · exact .ite hv.decideDiscard hu
      · exact hu

theorem State.Keeps.unreachable (h : s.Keeps t) {k : Nat} {x : TxFlit} : s.Keeps (t.unreachable k x) := by
  unfold State.unreachable
  extract_lets _ _ u v w
  have hu : s.Keeps u := h.setTx
  have hv : s.Keeps v := hu.wr.wr.wr.addSat
  have hw : s.Keeps w := hv.raiseRec.flitFails
  exact .ite hw.declareLost hw

theorem State.Keeps.execRetransmitTimeout (h : s.Keeps t) {dst : Nat} {ordered : Bool} {seq : Nat} :
    s.KeepsOut (execRetransmitTimeout dst ordered seq t) := by
  unfold Machine.execRetransmitTimeout
  extract_lets _ _ _
  split
  · exact h
  · exact .ite h (.ite h.unreachable h.setTx.emit.addSat)

theorem State.Keeps.execHubWatchdogExpiry (h : s.Keeps t) {unit : Nat} : s.KeepsOut (execHubWatchdogExpiry unit t) :=
  Keeps.ite h.raise h

theorem State.Keeps.hearFm (h : s.Keeps t) : s.Keeps t.hearFm := h.frame.wr

theorem State.Keeps.execFmSilenceTimeout (h : s.Keeps t) : s.KeepsOut (execFmSilenceTimeout t) :=
  .ite (Keeps.ite h.frame.wr.raise h.frame.wr.raise.holdNow) h

theorem State.Keeps.execCoalesceWindowClose (h : s.Keeps t) {code unit : Nat} : s.KeepsOut (execCoalesceWindowClose code unit t) := by
  unfold Machine.execCoalesceWindowClose
  split
  · exact Keeps.ite h.closeWindow h
  · exact h

/-! #### The operations of Machine/Mgmt.lean -/

theorem State.Keeps.sendEvents {id n : Nat} (h : s.Keeps t) {rs : List (List Nat)} {gap : Bool} :
    s.Keeps (State.sendEvents id n t rs gap) := by
  induction n generalizing t rs gap with
  | zero => exact h
  | succ n ih => exact .ite h (ih h.mgmtTo)

theorem State.Keeps.sendFrom (h : s.Keeps t) {id first count : Nat} : s.Keeps (t.sendFrom id first count) := h.sendEvents

theorem State.Keeps.acceptSession (h : s.Keeps t) {m : SessionInit} {role : Nat} : s.Keeps (t.acceptSession m role) := by
  unfold State.acceptSession
  extract_lets u _ _ _ _ v w _ u' v'
  have hu : s.Keeps u := .ite (by split; exacts [h.endSession, h]) h
  have hv : s.Keeps v := hu.frame.wr
  have hw : s.Keeps w.2 := hv.draw
  have hu' : s.Keeps u' := hw.send
  have hv' : s.Keeps v' := .ite hu'.hearFm hu'
  exact hv'.sendFrom

theorem State.Keeps.execSessionInit (h : s.Keeps t) {m : SessionInit} : s.KeepsOut (execSessionInit m t) := by
  unfold Machine.execSessionInit
  split
  · exact h
  · split
    · exact h
    · exact Keeps.ite h.addAt.acceptSession h

theorem State.Keeps.replyTo (h : s.Keeps t) {x : Session} {m : Mgmt} {status : Nat} : s.Keeps (t.replyTo x m status) := h.mgmtTo

theorem State.Keeps.onMgmt (h : s.Keeps t) {m : Mgmt} {roles : List Nat} {ackOnly : Bool} {act : Session → State → State}
    (hact : ∀ x u, s.Keeps u → s.Keeps (act x u)) :
    s.Keeps (t.onMgmt m roles ackOnly act) := by
  unfold State.onMgmt
  extract_lets _
  split
  · exact h
  · split
    · exact h.send
    · extract_lets _ _ u v
      have hu : s.Keeps u := h.setSession.addAt.mgmtDrain
      have hv : s.Keeps v := .ite hu.hearFm hu
      exact .ite h.addSatAt (.ite h (.ite h.endSession (.ite (hact _ _ hv) hv.replyTo)))

theorem State.Keeps.execMgmtAck (h : s.Keeps t) {m : Mgmt} {last : Nat} : s.KeepsOut (execMgmtAck m last t) :=
  h.onMgmt fun _ _ hu => by split; exacts [hu, .ite hu.setSession hu.setSession.sendFrom]

theorem State.Keeps.execMgmtAckTimer (h : s.Keeps t) {session : Nat} : s.KeepsOut (execMgmtAckTimer session t) := by
  unfold Machine.execMgmtAckTimer
  split
  · exact h
  · extract_lets _
    exact .ite h.setSession.mgmtEmit h

theorem State.Keeps.execMgmtRetransmit (h : s.Keeps t) {session seq : Nat} : s.KeepsOut (execMgmtRetransmit session seq t) := by
  unfold Machine.execMgmtRetransmit
  split
  · exact h
  · extract_lets _
    split
    · exact h
    · exact .ite h.setSession.mgmtEmit h

theorem State.Keeps.execSessionTimeout (h : s.Keeps t) {session : Nat} : s.KeepsOut (execSessionTimeout session t) := by
  unfold Machine.execSessionTimeout
  split
  · exact h
  · exact Keeps.ite h.endSession h

theorem State.Keeps.execJournalRead (h : s.Keeps t) {m : Mgmt} {first count : Nat} : s.KeepsOut (execJournalRead m first count t) :=
  h.onMgmt fun _ _ hu => .ite hu.replyTo (.ite hu.replyTo hu.sendFrom)

theorem State.Keeps.execStatusTimer (h : s.Keeps t) : s.KeepsOut (execStatusTimer t) := .ite h.frame.mgmtAll.send h

/-! #### The operations of Machine/Ports.lean -/

theorem State.Keeps.checkWiring (h : s.Keeps t) : s.Keeps t.checkWiring := .ite h.showTopo h.showTopo.raise

theorem State.Keeps.setMinLanes (h : s.Keeps t) {o v : Nat} : s.Keeps (t.setMinLanes o v) := .ite h.wrAt h.wrAt

theorem State.Keeps.finishPort (h : s.Keeps t) {o : Nat} : s.Keeps (t.finishPort o) := h.frame.foldl fun _ _ hu => hu.answer

theorem State.Keeps.bringupDone (h : s.Keeps t) {o : Nat} : s.Keeps (t.bringupDone o) := h.wrAt.finishPort

theorem State.Keeps.sendHello (h : s.Keeps t) {o : Nat} : s.Keeps (t.sendHello o) := .ite h.setPort h.setPort.sendLink

theorem State.Keeps.retireLink (h : s.Keeps t) {o : Nat} : s.Keeps (t.retireLink o) :=
  h.setPort.noteHot.showTopo.frame.foldl fun _ _ hu => hu.foldl (fun _ _ hu' => hu'.emit.addSat)

theorem State.Keeps.rehello (h : s.Keeps t) {peer : Nat} : s.Keeps (t.rehello peer) := by
  unfold State.rehello
  split
  · exact h
  · extract_lets u _
    have hu : s.Keeps u := h.setPortState.wrAt
    exact hu.setPort.sendHello

theorem State.Keeps.setFe (h : s.Keeps t) {f o : Nat} {x : FrontSt} : s.Keeps (t.setFe f o x) := h.frame.wrAt.wrAt.wrAt

theorem State.Keeps.endTransfers (h : s.Keeps t) {f : Nat} : s.Keeps (t.endTransfers f) := by
  unfold State.endTransfers
  split
  · exact h
  · exact h.foldl fun _ _ hu => by split; exacts [hu.writeFailed, hu]

theorem State.Keeps.frontLeaves (h : s.Keeps t) {o : Nat} : s.Keeps (t.frontLeaves o) := .ite h.setFe.endTransfers h.setFe.stopWriter

theorem State.Keeps.portLeave (h : s.Keeps t) {o st : Nat} : s.Keeps (t.portLeave o st) :=
  .ite h.setPortState.wrAt.wrAt.setPort.retireLink.rehello (.ite h.setPortState.wrAt.wrAt.setPort.frontLeaves
      h.setPortState.wrAt.wrAt.setPort)

theorem State.Keeps.portDown (h : s.Keeps t) {o : Nat} : s.Keeps (t.portDown o) := h.portLeave.wrAt

theorem State.Keeps.startBringup (h : s.Keeps t) {o : Nat} : s.Keeps (t.startBringup o) := .setPort (.ite h.setPortState h.portLeave)

theorem State.Keeps.holdPort (h : s.Keeps t) {o cause : Nat} : s.Keeps (t.holdPort o cause) := by
  unfold State.holdPort
  extract_lets u _ v w _ u' v'
  have hu : s.Keeps u := .ite h.portLeave h.setPortState
  have hv : s.Keeps v := hu.setPort
  have hw : s.Keeps w := hv.wrAt
  have hu' : s.Keeps u' := .ite hw hw.setPort.raise
  have hv' : s.Keeps v' := .ite hu'.raise hu'
  exact hv'.wrAt.sendHello.bringupDone

theorem State.Keeps.learnPeer (h : s.Keeps t) {o : Nat} {b : List Byte} : s.Keeps (t.learnPeer o b) := h.wrAt.wrAt.wrAt.wrAt.wrAt

theorem State.Keeps.wiringEvent (h : s.Keeps t) {o : Nat} {b : List Byte} : s.Keeps (t.wiringEvent o b) := .ite h.raise (.ite h.raise h)

theorem State.Keeps.portUp (h : s.Keeps t) {o : Nat} {b : List Byte} : s.Keeps (t.portUp o b) := by
  unfold State.portUp
  extract_lets _ _ u _ v w u' _ v'
  have hu : s.Keeps u := h.setPortState.wrAt.wrAt
  have hv : s.Keeps v := hu.setPort.wrAt
  have hw : s.Keeps w := .ite hv.raise hv
  have hu' : s.Keeps u' := hw.wiringEvent
  have hv' : s.Keeps v' := hu'.foldl fun _ _ hu'' => hu''.holdPort
  exact .ite h.portDown hv'.checkWiring.bringupDone

theorem State.Keeps.settlePort (h : s.Keeps t) {o : Nat} : s.Keeps (t.settlePort o) :=
  .ite h (.ite h.learnPeer.portUp h.learnPeer.holdPort)

theorem State.Keeps.bridgeHello (h : s.Keeps t) {o : Nat} {b : List Byte} : s.Keeps (t.bridgeHello o b) :=
  .ite h.wrAt.setPortState.wrAt.wrAt.bringupDone h.wrAt.holdPort

theorem State.Keeps.retrained (h : s.Keeps t) {o : Nat} : s.Keeps (t.retrained o) := by
  unfold State.retrained
  extract_lets _ _ _ u v w u' _ v' _ w'
  have hu : s.Keeps u := h.setPort
  have hv : s.Keeps v := .ite hu.raise hu
  have hw : s.Keeps w := hv.setPortState.showTopo
  have hu' : s.Keeps u' := hw.foldl fun _ _ hu' => hu'.send
  have hv' : s.Keeps v' := h.retireLink
  have hw' : s.Keeps w' := hv'.setPort
  exact .ite h (.ite (.ite h (.ite hv.setPortState hu'.drainPort)) hw'.setPortState.wrAt.sendHello.rehello)

theorem State.Keeps.hearPort (h : s.Keeps t) {o : Nat} : s.Keeps (t.hearPort o) := h.setPort

theorem State.Keeps.execPortBringup (h : s.Keeps t) {port : Nat} : s.KeepsOut (execPortBringup port t) := Keeps.ite h.startBringup h

theorem State.Keeps.execBringupRetryTimer (h : s.Keeps t) {port : Nat} : s.KeepsOut (execBringupRetryTimer port t) :=
  Keeps.ite h.startBringup h

theorem State.Keeps.execBringupTimeout (h : s.Keeps t) {port : Nat} : s.KeepsOut (execBringupTimeout port t) := Keeps.ite h.portDown h

theorem State.Keeps.showPower (h : s.Keeps t) {o : Nat} {p : List Nat} : s.Keeps (t.showPower o p) := h.wrAt.wrAt.wrAt.wrAt

theorem State.Keeps.execFecAligned (h : s.Keeps t) {port lanes : Nat} {power : List Nat} : s.KeepsOut (execFecAligned port lanes power t) := by
  unfold Machine.execFecAligned
  extract_lets _ _ u v _
  have hu : s.Keeps u := .ite h.showPower h
  have hv : s.Keeps v := hu.wrAt.hearPort
  exact .ite h (.ite hv.setPort.sendHello.retrained (.ite hv.setPortState.bringupDone hv.setPort.setPortState.sendHello))

theorem State.Keeps.execHelloResend (h : s.Keeps t) {port : Nat} : s.KeepsOut (execHelloResend port t) := Keeps.ite h.sendHello h

theorem State.Keeps.onLink (h : s.Keeps t) {o kind : Nat} {b : List Byte} {act : State → State} (hact : ∀ u, s.Keeps u → s.Keeps (act u)) :
    s.Keeps (t.onLink o kind b act) :=
  .ite h (.ite h.hearPort.frame (.ite (hact _ h.hearPort) h))

theorem State.Keeps.helloInHold (h : s.Keeps t) {o : Nat} {b : List Byte} : s.Keeps (t.helloInHold o b) :=
  .ite h (.ite h.setPort h.setPort.sendHello)

theorem State.Keeps.execHello (h : s.Keeps t) {port : Nat} {body : List Byte} : s.KeepsOut (execHello port body t) :=
  .ite (Keeps.ite h.bridgeHello h) (h.onLink (fun _ hu => .ite hu.sendLink.setPort.settlePort (.ite hu.sendLink.setPort.retrained (.ite
      hu.sendLink.helloInHold (.ite hu.sendLink.holdPort hu.sendLink)))))

theorem State.Keeps.execHelloAck (h : s.Keeps t) {port : Nat} {body : List Byte} : s.KeepsOut (execHelloAck port body t) :=
  h.onLink fun _ hu => .ite hu hu.setPort.wrAt.settlePort

theorem State.Keeps.enablePort (h : s.Keeps t) {o : Nat} {on : Bool} : s.Keeps (t.enablePort o on) :=
  .ite h.wrAt.portLeave.wrAt.finishPort (.ite h.wrAt.startBringup h.wrAt)

theorem State.Keeps.execPortEnable (h : s.Keeps t) {port : Nat} {enable : Bool} : s.KeepsOut (execPortEnable port enable t) :=
  Keeps.ite h.enablePort h

theorem State.Keeps.retrainPort (h : s.Keeps t) {o : Nat} : s.Keeps (t.retrainPort o) := .ite h.startBringup.wrAt h

theorem State.Keeps.execPortRetrain (h : s.Keeps t) {port : Nat} : s.KeepsOut (execPortRetrain port t) := Keeps.ite h.retrainPort h

theorem State.Keeps.execLossOfLight (h : s.Keeps t) {port : Nat} : s.KeepsOut (execLossOfLight port t) :=
  Keeps.ite h.portDown.showPower h

theorem State.Keeps.execHeartbeatTimer (h : s.Keeps t) {port : Nat} : s.KeepsOut (execHeartbeatTimer port t) := Keeps.ite h.sendLink h

theorem State.Keeps.execHeartbeat (h : s.Keeps t) {port : Nat} {body : List Byte} : s.KeepsOut (execHeartbeat port body t) :=
  Keeps.onLink h fun _ hu => hu

theorem State.Keeps.execLinkSilence (h : s.Keeps t) {port : Nat} : s.KeepsOut (execLinkSilence port t) := Keeps.ite h.portDown h

theorem State.Keeps.linkAck (h : s.Keeps t) {o c : Nat} : s.Keeps (t.linkAck o c) := h.setPort.drainPort

theorem State.Keeps.execLinkAck (h : s.Keeps t) {port : Nat} {body : List Byte} : s.KeepsOut (execLinkAck port body t) :=
  h.onLink fun _ hu => hu.linkAck

theorem State.Keeps.execRetryReq (h : s.Keeps t) {port : Nat} {body : List Byte} : s.KeepsOut (execRetryReq port body t) :=
  h.onLink fun _ hu => .ite (.startRetrain (hu.setPort.foldl (fun _ _ hu' => hu'.send))) (hu.setPort.foldl (fun _ _ hu' => hu'.send))

theorem State.Keeps.execFlitCrcFail (h : s.Keeps t) {port : Nat} {fec : Bool} : s.KeepsOut (execFlitCrcFail port fec t) :=
  .ite (Keeps.ite h.crcFails (.ite h.addAt h)) h

theorem State.Keeps.execRetrain (h : s.Keeps t) {port : Nat} {body : List Byte} : s.KeepsOut (execRetrain port body t) :=
  h.onLink fun _ hu => .ite hu.startRetrain hu

theorem State.Keeps.failLanes (h : s.Keeps t) {o lanes : Nat} : s.Keeps (t.failLanes o lanes) := by
  unfold State.failLanes
  extract_lets _ _ u _ v _ _
  have hu : s.Keeps u := h.addSatAt
  have hv : s.Keeps v := hu.setPort
  exact .ite h (.ite hv.startRetrain (.ite hv.portDown (.ite hv.setPort.wrAt.sendHello hv.wrAt.raise)))

theorem State.Keeps.execLaneFail (h : s.Keeps t) {port lanes : Nat} : s.KeepsOut (execLaneFail port lanes t) := Keeps.ite h.failLanes h

theorem State.Keeps.execFecAlignmentLoss (h : s.Keeps t) {port : Nat} : s.KeepsOut (execFecAlignmentLoss port t) :=
  Keeps.ite h.startRetrain h

theorem State.Keeps.execRetrainTimeout (h : s.Keeps t) {port : Nat} : s.KeepsOut (execRetrainTimeout port t) := Keeps.ite h.portDown h

theorem State.Keeps.execLightSourceFail (h : s.Keeps t) {engine source wavelengths : Nat} :
    s.KeepsOut (execLightSourceFail engine source wavelengths t) :=
  .ite (h.frame.wr.raise.foldl (fun _ _ hu => hu.failLanes)) h

theorem State.Keeps.execKeepaliveIdleTimer (h : s.Keeps t) {port : Nat} : s.KeepsOut (execKeepaliveIdleTimer port t) :=
  Keeps.ite h.sendLink.setPortState.wrAt h

theorem State.Keeps.execKeepalive (h : s.Keeps t) {port : Nat} {body : List Byte} : s.KeepsOut (execKeepalive port body t) :=
  h.onLink fun _ hu => .ite hu.setPortState.wrAt hu

theorem State.Keeps.execWake (h : s.Keeps t) {port : Nat} {body : List Byte} : s.KeepsOut (execWake port body t) :=
  h.onLink fun _ hu => .ite hu.leaveKeepalive.drainPort hu

theorem State.Keeps.announceHot (h : s.Keeps t) : s.Keeps t.announceHot := h.foldl fun _ _ hu => hu.sendLink

theorem State.Keeps.setHot (h : s.Keeps t) {o : Nat} {act : HotSt} {hot : Bool} : s.Keeps (t.setHot o act hot) :=
  .ite (.announceHot (.wr (.ite h.frame.frame (.ite h.frame.add h.frame)))) (.wr (.ite h.frame.frame (.ite h.frame.add h.frame)))

theorem State.Keeps.execHotLinkTimer (h : s.Keeps t) {output depth : Nat} : s.KeepsOut (execHotLinkTimer output depth t) :=
  .ite (.ite h.frame.noteHot.setHot.noteHot h.frame.noteHot) h

theorem State.Keeps.execHotspotTimer (h : s.Keeps t) {output : Nat} : s.KeepsOut (execHotspotTimer output t) :=
  .ite h.wr.wr.wr.wr.raiseRec h

theorem State.Keeps.execHotSet (h : s.Keeps t) {port : Nat} {body : List Byte} : s.KeepsOut (execHotSet port body t) :=
  h.onLink fun _ hu => .ite hu.frame hu

theorem State.Keeps.berPort (h : s.Keeps t) {o corrected : Nat} : s.Keeps (t.berPort o corrected) := .ite h.setPort.raise.warn h.setPort

theorem State.Keeps.execPortBerHourly (h : s.Keeps t) {corrected : List Nat} : s.KeepsOut (execPortBerHourly corrected t) :=
  .ite (Keeps.foldl (h.frame.foldl (fun _ _ hu => hu.addAt)) (fun _ _ hu => hu.berPort)) h

/-! #### The operations of Machine/Direct.lean -/

theorem State.Keeps.duplicateAnswer (h : s.Keeps t) {code : Nat} {d : Directive} : s.Keeps (t.duplicateAnswer code d) := h.wr.mgmtAll

theorem State.Keeps.applied (h : s.Keeps t) {code : Nat} {d : Directive} {waits : Bool} {act : State → State}
    (hact : ∀ u, s.Keeps u → s.Keeps (act u)) :
    s.Keeps (t.applied code d waits act) :=
  .ite (hact _ h.wr.wr.wr.frame) (hact _ h.wr.wr.wr).answer

theorem State.Keeps.onDirective (h : s.Keeps t) {code : Nat} {d : Directive} {waits : Bool} {act : State → State}
    (hact : ∀ u, s.Keeps u → s.Keeps (act u)) :
    s.Keeps (t.onDirective code d waits act) := by
  unfold State.onDirective
  split
  · exact h.applied fun _ hu => hact _ hu
  · exact h.duplicateAnswer
  · exact h.answer.raiseRec

theorem State.Keeps.renewSpaces (h : s.Keeps t) : s.Keeps t.renewSpaces := h.resetSpaces.promoteRx.askAgain

theorem State.Keeps.epochRise (h : s.Keeps t) {r : Nat} {partnerNew : Bool} : s.Keeps (t.epochRise r partnerNew) := by
  unfold State.epochRise
  extract_lets u _ v
  have hu : s.Keeps u := h.renewSpaces
  have hv : s.Keeps v := .ite h.discardStep h.renewSpaces
  exact .ite (.ite hu.frame (.ite hu.sendMoltRecord hu.decideDiscard)) (.ite hv.sayDecision hv)

theorem State.Keeps.remapMember (h : s.Keeps t) {d : Directive} : s.Keeps (t.remapMember d) := by
  unfold State.remapMember
  extract_lets _ _ _ _ _ _ u _ v w u'
  have hu : s.Keeps u := h.frame.wr
  have hv : s.Keeps v := hu.chrysEpoch.epochRise
  have hw : s.Keeps w := .ite hv.startBuild hv
  have hu' : s.Keeps u' := hw.watchFrom
  exact .ite hu.discardStep.stopWriter.enterDraining (.ite hu'.holdNow hu')

theorem State.Keeps.remapSpare (h : s.Keeps t) {d : Directive} : s.Keeps (t.remapSpare d) := h.frame

theorem State.Keeps.execRemap (h : s.Keeps t) {m : Mgmt} {d : Directive} : s.KeepsOut (execRemap m d t) :=
  h.onMgmt fun _ _ hu => hu.onDirective (fun _ hu' => .ite hu'.remapSpare hu'.remapMember)

theorem State.Keeps.execDiscardStep (h : s.Keeps t) {m : Mgmt} {d : Directive} : s.KeepsOut (execDiscardStep m d t) :=
  h.onMgmt fun _ _ hu => hu.onDirective (fun _ hu' => hu'.directedFail)

theorem State.Keeps.execReplay (h : s.Keeps t) {m : Mgmt} {d : Directive} : s.KeepsOut (execReplay m d t) :=
  h.onMgmt fun _ _ hu => hu.onDirective (fun _ hu' => hu'.frame)

theorem State.Keeps.execHold (h : s.Keeps t) {m : Mgmt} {d : Directive} : s.KeepsOut (execHold m d t) :=
  h.onMgmt fun _ _ hu => hu.onDirective (fun _ hu' => hu'.drainAt)

theorem State.Keeps.execResume (h : s.Keeps t) {m : Mgmt} {d : Directive} : s.KeepsOut (execResume m d t) :=
  h.onMgmt fun _ _ hu => hu.onDirective (fun _ hu' => hu'.frame)

theorem State.Keeps.execChrysalis (h : s.Keeps t) {m : Mgmt} {d : Directive} : s.KeepsOut (execChrysalis m d t) :=
  h.onMgmt fun _ _ hu => hu.onDirective (fun _ hu' => hu'.directedChrys)

theorem State.Keeps.retirePort (h : s.Keeps t) {o : Nat} {restore : Bool} : s.Keeps (t.retirePort o restore) :=
  .ite h.enablePort (.ite h.wrAt.finishPort (.ite h.wrAt.startBringup h.wrAt))

theorem State.Keeps.execRetirePort (h : s.Keeps t) {m : Mgmt} {d : Directive} : s.KeepsOut (execRetirePort m d t) :=
  h.onMgmt fun _ _ hu => hu.onDirective (fun _ hu' => hu'.retirePort)

theorem State.Keeps.execTestNow (h : s.Keeps t) {m : Mgmt} {d : Directive} : s.KeepsOut (execTestNow m d t) :=
  h.onMgmt fun _ _ hu => hu.onDirective (fun _ hu' => .ite hu'.frame hu'.testNow)

theorem State.Keeps.execDrain (h : s.Keeps t) {m : Mgmt} {d : Directive} : s.KeepsOut (execDrain m d t) :=
  h.onMgmt fun _ _ hu => hu.onDirective (fun _ hu' => hu'.drainAt)

theorem State.Keeps.goDormant (h : s.Keeps t) : s.Keeps t.goDormant := h.frameBoot.wr.finishDirectives

theorem State.Keeps.eclose (h : s.Keeps t) : s.Keeps t.eclose := h.frame.foldl fun _ _ hu => hu.beginTest

theorem State.Keeps.execWakeSpare (h : s.Keeps t) {m : Mgmt} {d : Directive} : s.KeepsOut (execWakeSpare m d t) :=
  h.onMgmt fun _ _ hu => hu.onDirective (fun _ hu' => .ite hu'.eclose hu'.goDormant)

theorem State.Keeps.execEclosionComplete (h : s.Keeps t) {ok : Bool} : s.KeepsOut (execEclosionComplete ok t) :=
  .ite h (.ite h.frame.enterFailed (.ite h (Keeps.ite h.frameBoot.wr.raise.finishDirectives.testNow h.frameBoot.wr.raise.finishDirectives)))

theorem State.Keeps.execPupaReturnTimeout (h : s.Keeps t) : s.KeepsOut (execPupaReturnTimeout t) := by
  unfold Machine.execPupaReturnTimeout
  split
  · exact h
  · exact Keeps.ite h.goDormant h

/-! #### The operations of Machine/Boot.lean -/

theorem State.Keeps.setFlash (h : s.Keeps t) {f : Nat} {x : Flash} (hx : (t.flash f).image.wf = true → x.image.wf = true) :
    s.Keeps (t.setFlash f x) := by
  unfold State.setFlash
  unfold State.flash at hx
  split <;> rename_i hf
  · rw [if_pos hf] at hx
    exact h.withBoot hx id
  · rw [if_neg hf] at hx
    exact h.withBoot id hx

theorem State.Keeps.applyConfig (h : s.Keeps t) : s.Keeps t.applyConfig := by
  unfold State.applyConfig
  split
  · exact h
  · extract_lets _ _ u v w u' v'
    have hu : s.Keeps u := h.wr.wr
    have hv : s.Keeps v := hu.wr
    have hw : s.Keeps w := hv.wr
    have hu' : s.Keeps u' := hw.wr.wr.wr.wr
    have hv' : s.Keeps v' := hu'.wr.wr.wr
    exact hv'.wrBit

theorem lostImage_wf (gen : Nat) : (lostImage gen).wf = true := Image.discardOutside_wf _ _ _ Image.wf_empty

theorem State.Keeps.freshHub (h : s.Keeps t) : s.Keeps t.freshHub := by
  refine .applyConfig (.wr (h.rebuilt (fun c => ?_) (Nat.le_add_right _ 1)))
  rw [State.canonical_iff] at c ⊢
  have hl := lostImage_wf t.drawn
  exact ⟨ssorted_skeep c.1 _, ⟨hl, hl, hl⟩, c.2.2⟩

theorem State.Keeps.mainOff (h : s.Keeps t) : s.Keeps t.mainOff := .ite h.frame h.frame.freshHub.frame

theorem State.Keeps.setRoles (h : s.Keeps t) : s.Keeps t.setRoles := by
  unfold State.setRoles
  extract_lets put u v fe
  have hput (role : Nat → Nat × Nat) : s.Keeps (put role t) := h.foldl fun _ _ hu => hu.wrAt.wrAt
  have hu : s.Keeps u := by
    unfold u
    split
    · exact (hput _).wr
    · exact .ite (hput _).wr (hput _).wr.wr.raise
  have hv : s.Keeps v := hu.foldl fun _ _ hu => hu.wrAt.wrAt
  exact hv.foldl fun _ _ hu => .ite hu hu.wrAt.wrAt.wrAt

theorem State.Keeps.measure (h : s.Keeps t) {kind release ver digest : Nat} : s.Keeps (t.measure kind release ver digest) :=
  .ite h (.wr (.foldl (h.foldl (fun _ _ hu => hu.wrAt)) (fun _ _ hu => hu.wrAt)))

theorem State.Keeps.emptyLog (h : s.Keeps t) : s.Keeps t.emptyLog :=
  .wr (.foldl (h.foldl (fun _ _ hu => hu.wrAt)) (fun _ _ hu => hu.wrAt))

theorem State.Keeps.measureImage (h : s.Keeps t) {f kind logKind : Nat} : s.Keeps (t.measureImage f kind logKind) := h.measure

theorem State.Keeps.latchStraps (h : s.Keeps t) {v : Nat} : s.Keeps (t.latchStraps v) := h.wr.wr.wr.wr.wr.wr

theorem State.Keeps.setClass (h : s.Keeps t) : s.Keeps t.setClass := h.wr.wr

theorem State.Keeps.setIdentity (h : s.Keeps t) : s.Keeps t.setIdentity := h.wr.foldl fun _ _ hu => hu.wrAt

theorem State.Keeps.fallback (h : s.Keeps t) {f stage check : Nat} : s.Keeps (t.fallback f stage check) := h.addSat.raise

theorem State.Keeps.stage1 (h : s.Keeps t) : s.Keeps t.stage1 := by
  unfold State.stage1
  extract_lets _ u _ _ _ v w u' v' w' u''
  have hu : s.Keeps u := h.frameBoot
  have hv : s.Keeps v := hu.setClass
  have hw : s.Keeps w := hv.wr.wr.wr.wr
  have hu' : s.Keeps u' := hw.wr.wr
  have hv' : s.Keeps v' := hu'.wr.wr.wr
  have hw' : s.Keeps w' := hv'.send
  have hu'' : s.Keeps u'' := .ite hw'.fallback hw'
  exact .ite hu''.raise hu''.setIdentity

theorem State.Keeps.showSettings (h : s.Keeps t) : s.Keeps t.showSettings := h.wr.wr.wr.wr.wr.wrBit

theorem State.Keeps.stage2 (h : s.Keeps t) {f : Nat} {same : Bool} : s.Keeps (t.stage2 f same) :=
  .send (.showSettings (.wr (.wr (.wr (.ite h h.measureImage.measure)))))

theorem State.Keeps.stage3 (h : s.Keeps t) {c : ConfigSt} {same : Bool} : s.Keeps (t.stage3 c same) :=
  .send (.wr (.ite h.frameBoot.applyConfig h.frameBoot.applyConfig.measureImage))

theorem State.Keeps.bothFailed (h : s.Keeps t) : s.Keeps t.bothFailed := .ite (.ite h.frameBoot h.raise) h.frameBoot

theorem State.Keeps.bootFrom {restart : Bool} {n : Nat} (h : s.Keeps t) {f : Nat} : s.Keeps (State.bootFrom restart n t f) := by
  induction n generalizing t f with
  | zero => exact h
  | succ n ih =>
    unfold State.bootFrom
    extract_lets fail e same v
    have hfail (u : State) (stage check : Nat) (hu : s.Keeps u) : s.Keeps (fail u stage check) :=
      .ite hu.fallback.mainOff.frameBoot.bothFailed (ih hu.fallback.mainOff.frameBoot)
    have hv : s.Keeps v := h.stage2
    split
    · exact hfail t 2 e h
    · split
      · exact hv
      · split
        · exact hfail v 3 _ hv
        · exact hv.stage3

theorem State.Keeps.bootChain (h : s.Keeps t) {restart : Bool} : s.Keeps (t.bootChain restart) := .ite h (.ite h.frameBoot h.bootFrom)

theorem State.Keeps.tryConvert (h : s.Keeps t) : s.Keeps t.tryConvert := by
  unfold State.tryConvert
  extract_lets _ u _
  have hu : s.Keeps u := .ite h.frame.stage1.bootChain h
  exact .ite (.ite hu.frame hu) h

theorem State.Keeps.stage4 (h : s.Keeps t) {f : Nat} {failed : List Nat} : s.Keeps (t.stage4 f failed) := by
  unfold State.stage4
  extract_lets out m a b c d x e g light k
  have ha : s.Keeps a := .frame (h.withMem (m := { t.mem with hbm := {}, hbmPoison := [] }) fun w => by
    rw [Memory.wf_iff] at w ⊢
    exact ⟨Image.wf_empty, w.2⟩)
  have hb : s.Keeps b := ha.foldl fun _ _ hu => hu.wrAt
  have hc : s.Keeps c := hb.foldl fun _ _ hu => hu.wrAt.wrAt
  have hd : s.Keeps d := .showEngines (hc.foldl fun _ _ hu => hu.wrAt)
  have he : s.Keeps e := hd.frame
  have hg : s.Keeps g := he.wr.measureImage
  have hk : s.Keeps k := hg.setRoles.wr
  exact .send (.wr (hk.foldl fun _ _ hu => hu.startBringup))

theorem State.Keeps.lateFallback (h : s.Keeps t) {f stage check : Nat} : s.Keeps (t.lateFallback f stage check) :=
  .ite h.fallback.mainOff.frameBoot.bothFailed h.fallback.mainOff.frameBoot.bootFrom.tryConvert

theorem State.Keeps.execBootStart (h : s.Keeps t) {failed : List Nat} : s.KeepsOut (execBootStart failed t) :=
  .ite h (.ite h.lateFallback (.ite h.stage4.lateFallback h.stage4.measureImage.wr.send))

theorem State.Keeps.execBootComplete (h : s.Keeps t) : s.KeepsOut (execBootComplete t) :=
  .ite h (Keeps.ite h.frameBoot.wr.wr.checkWiring.send.goDormant h.frameBoot.wr.wr.checkWiring.send)

theorem State.Keeps.execRecoveryReqTimer (h : s.Keeps t) : s.KeepsOut (execRecoveryReqTimer t) := by
  unfold Machine.execRecoveryReqTimer
  extract_lets _
  split
  · exact h
  · exact .ite h.frameBoot.send h

theorem Image.foldl_writeN_wf (chunks : List (Nat × List Byte)) : ∀ m : Image, m.wf = true →
    (chunks.foldl (fun (m : Image) c => if c.1 + c.2.length ≤ 0xC000000 then m.writeN c.1 c.2 else m) m).wf = true := by
  induction chunks with
  | nil => exact fun _ h => h
  | cons c chunks ih =>
    intro m h
    refine ih _ ?_
    dsimp only
    split
    · exact Image.writeN_wf _ _ _ h
    · exact h

theorem State.Keeps.execRecoveryImage (h : s.Keeps t) {chunks : List (Nat × List Byte)} : s.KeepsOut (execRecoveryImage chunks t) := by
  unfold Machine.execRecoveryImage
  split
  · exact h
  · refine .ite h ?_
    extract_lets x im v _ w
    have hv : s.Keeps v := h.setFlash fun c => Image.foldl_writeN_wf chunks _ c
    have hw : s.Keeps w := hv.frameBoot
    exact hw.bootFrom.tryConvert

theorem State.Keeps.restartSteward (h : s.Keeps t) {emptied : Bool} : s.Keeps (t.restartSteward emptied) := by
  unfold State.restartSteward
  extract_lets u v _ w u'
  have hu : s.Keeps u := .ite h.emptyLog h
  have hv : s.Keeps v := hu.foldl fun _ _ hu' => hu'.endSession
  have hw : s.Keeps w := hv.stage1.bootChain.tryConvert
  have hu' : s.Keeps u' := .ite hw.wr hw
  exact hu'.send.send

theorem State.Keeps.execStewardWatchdog (h : s.Keeps t) : s.KeepsOut (execStewardWatchdog t) := Keeps.ite h.restartSteward h

/-! #### The operations of Machine/Bridge.lean -/

theorem State.Keeps.bridgeFails (h : s.Keeps t) {code : Nat} : s.Keeps (t.bridgeFails code) := h.wr.wr

theorem State.Keeps.bridgePump {n : Nat} (h : s.Keeps t) : s.Keeps (State.bridgePump n t) := by
  induction n generalizing t with
  | zero => exact h
  | succ n ih => exact .ite h (.ite (.bridgeFails h.frame) (ih h.frame))

theorem State.Keeps.bridgeDoorbell (h : s.Keeps t) {v : Nat} : s.Keeps (t.bridgeDoorbell v) := h.wr.bridgePump

theorem State.Keeps.execBridgeDoorbell (h : s.Keeps t) {value : Nat} : s.KeepsOut (execBridgeDoorbell value t) :=
  Keeps.ite h.bridgeDoorbell h

theorem State.Keeps.bridgeMove (h : s.Keeps t) {x : BridgeXfer} {data : List Byte} : s.Keeps (t.bridgeMove x data) :=
  .ite (.syncAdd (.wr (.ite h.send h.storeN))) (.wr (.ite h.send h.storeN))

theorem State.Keeps.execBridgeTransferComplete (h : s.Keeps t) {peerError : Bool} {data : List Byte} :
    s.KeepsOut (execBridgeTransferComplete peerError data t) := by
  unfold Machine.execBridgeTransferComplete
  extract_lets _
  split
  · exact h
  · extract_lets _ u
    have hu : s.Keeps u := h.frame
    exact .ite h (.ite hu.bridgeFails (.ite hu.bridgeFails hu.bridgeMove.bridgePump))

theorem State.Keeps.bridgeResume (h : s.Keeps t) : s.Keeps t.bridgeResume := h.wr.bridgePump

theorem State.Keeps.execBridgeRingResume (h : s.Keeps t) : s.KeepsOut (execBridgeRingResume t) := Keeps.ite h.bridgeResume h

theorem State.Keeps.execBridgePeerWrite (h : s.Keeps t) {port addr : Nat} {data : List Byte} :
    s.KeepsOut (execBridgePeerWrite port addr data t) :=
  .ite (Keeps.ite h.storeN h.send) h

theorem State.Keeps.execBridgePeerMessage (h : s.Keeps t) {port : Nat} {data : List Byte} :
    s.KeepsOut (execBridgePeerMessage port data t) := by
  unfold Machine.execBridgePeerMessage
  extract_lets q i
  refine .ite ?_ h
  cases e : t.hwPush (.bridge port) q i with
  | none => exact h.waitFull
  | some u => exact h.hwPush e

/-! #### The operations of Machine/Power.lean -/

theorem State.Keeps.released (h : s.Keeps t) {straps : Nat} : s.Keeps (t.released straps) := h.latchStraps.setClass.frame.tryConvert

theorem State.Keeps.loseMain (h : s.Keeps t) {mark : Bool} : s.Keeps (t.loseMain mark) := .ite h.mainOff.frame.wr h.mainOff.frame

theorem State.Keeps.setMain (h : s.Keeps t) {on : Bool} : s.Keeps (t.setMain on) := h.frame

theorem State.Keeps.wantBack (h : s.Keeps t) : s.Keeps t.wantBack := h.frame

theorem State.Keeps.unpowered (h : s.Keeps t) : s.Keeps t.unpowered := by
  refine h.rebuilt (fun c => ?_) (Nat.le_refl _)
  rw [State.canonical_iff] at c ⊢
  exact ⟨rfl, ⟨rfl, rfl, rfl⟩, c.2.2⟩

theorem State.Keeps.execAuxPowerUp (h : s.Keeps t) {straps : Nat} {resetHigh present mainGood : Bool} :
    s.KeepsOut (execAuxPowerUp straps resetHigh present mainGood t) :=
  .ite h h.unpowered.frame.wrBit.latchStraps.stage1.wr.bootChain.tryConvert

theorem State.Keeps.execAuxRemoved (h : s.Keeps t) : s.KeepsOut (execAuxRemoved t) := h.unpowered

theorem State.Keeps.execMainRemoved (h : s.Keeps t) : s.KeepsOut (execMainRemoved t) := Keeps.ite h.loseMain.wr.setMain.wantBack h

theorem State.Keeps.execMainOvervoltage (h : s.Keeps t) : s.KeepsOut (execMainOvervoltage t) :=
  Keeps.ite h.loseMain.wr.wr.setMain.wantBack h

theorem State.Keeps.execMainGood (h : s.Keeps t) : s.KeepsOut (execMainGood t) := Keeps.ite h.wr.setMain.tryConvert h

theorem State.Keeps.held (h : s.Keeps t) : s.Keeps t.held := h.loseMain.frame

theorem State.Keeps.execResetNAssert (h : s.Keeps t) : s.KeepsOut (execResetNAssert t) := Keeps.ite h.held.frame h

theorem State.Keeps.execResetNRelease (h : s.Keeps t) {straps : Nat} : s.KeepsOut (execResetNRelease straps t) :=
  .ite (Keeps.ite h.frame h.frame.released) h

theorem State.Keeps.execPrsntNLoss (h : s.Keeps t) : s.KeepsOut (execPrsntNLoss t) := Keeps.ite h.held.frame h

theorem State.Keeps.execPrsntNReturn (h : s.Keeps t) {straps : Nat} : s.KeepsOut (execPrsntNReturn straps t) :=
  .ite (Keeps.ite h.frame h.frame.released) h

theorem State.Keeps.execWakeN (h : s.Keeps t) : s.KeepsOut (execWakeN t) := Keeps.ite h.frame h

theorem State.Keeps.enterBooting (h : s.Keeps t) : s.Keeps t.enterBooting := h.freshHub.frameDrawn.wr.wr

theorem State.Keeps.execRailsGood (h : s.Keeps t) : s.KeepsOut (execRailsGood t) := .ite h.frame.enterBooting h

theorem State.Keeps.retarget (h : s.Keeps t) : s.Keeps t.retarget := h.frame.wrBit

theorem State.Keeps.limitCompute (h : s.Keeps t) {beyond : Bool} : s.Keeps (t.limitCompute beyond) :=
  .ite (.ite h.frameDrawn.frame h.frameDrawn.wr) (.ite h.frameDrawn.wr h.frameDrawn.frame)

theorem State.Keeps.execPowerLoop (h : s.Keeps t) {sample : PowerSample} : s.KeepsOut (execPowerLoop sample t) := by
  unfold Machine.execPowerLoop
  extract_lets _ _ _ _ _ u v w u' _ _ _ v'
  have hu : s.Keeps u := h.wr.wr.wr
  have hv : s.Keeps v := hu.wr.wr
  have hw : s.Keeps w := hv.wrBit.wrBit
  have hu' : s.Keeps u' := hw.foldl fun _ _ hu' => hu'.wrAt.wrAt
  have hv' : s.Keeps v' := hu'.wrBit.wrBit.wrBit.wrBit.wrBit
  exact .ite h (.ite hu' hv'.limitCompute.retarget)

theorem State.Keeps.execFreqHandoff (h : s.Keeps t) {quadrant : Nat} : s.KeepsOut (execFreqHandoff quadrant t) :=
  .ite h (.ite (.ite h h.frame.addSat) h.frame.wr)

theorem State.Keeps.execDroopAssert (h : s.Keeps t) {phys : Nat} : s.KeepsOut (execDroopAssert phys t) := .ite h.frame.addSat h

theorem State.Keeps.execDroopRelease (h : s.Keeps t) {phys : Nat} : s.KeepsOut (execDroopRelease phys t) := .ite h.frame h

theorem State.Keeps.runHint (h : s.Keeps t) {heavy : Bool} {x : Issue} : s.Keeps (State.runHint heavy x t) :=
  .putThread (.ite h h.frame)

theorem State.Keeps.execHintHeavy (h : s.Keeps t) {th : ThreadRef} : s.KeepsOut (execHintHeavy th t) :=
  h.issue fun _ _ hu => hu.runHint

theorem State.Keeps.execHintLight (h : s.Keeps t) {th : ThreadRef} : s.KeepsOut (execHintLight th t) :=
  h.issue fun _ _ hu => hu.runHint

theorem State.Keeps.execHintExpiry (h : s.Keeps t) {phys x : Nat} : s.KeepsOut (execHintExpiry phys x t) := h.frame

theorem State.Keeps.execEnergyIntegrate (h : s.Keeps t) {mj : Nat} : s.KeepsOut (execEnergyIntegrate mj t) := .ite h h.frame.add.add

theorem State.Keeps.findHottest (h : s.Keeps t) : s.Keeps t.findHottest := h.wr

theorem State.Keeps.trip (h : s.Keeps t) : s.Keeps t.trip := by
  refine .ite h (.rebuilt h.wr.raise (fun c => ?_) (Nat.le_add_right _ 1))
  rw [State.canonical_iff] at c ⊢
  have hl := lostImage_wf ((t.wr F.PWR_THERM_STATUS_tripped 1).raise .THERM_TRIP).drawn
  exact ⟨c.1, ⟨hl, hl, hl⟩, c.2.2⟩

theorem State.Keeps.clearTrip (h : s.Keeps t) : s.Keeps t.clearTrip := .ite h.wr.frame.tryConvert h

theorem State.Keeps.throttleDown (h : s.Keeps t) {n : Nat} : s.Keeps (t.throttleDown n) := .ite h.frame.wr h.frame

theorem State.Keeps.throttleUp (h : s.Keeps t) {n : Nat} : s.Keeps (t.throttleUp n) := .ite h.frame.wr.frame.wr.wr h.frame.wr

theorem State.Keeps.countThrottle (h : s.Keeps t) : s.Keeps t.countThrottle := .ite h.frame.addSat h

theorem State.Keeps.throttle (h : s.Keeps t) {hot cool : Bool} : s.Keeps (t.throttle hot cool) := by
  unfold State.throttle
  extract_lets u _ _ v _ w _ u'
  have hu : s.Keeps u := h.countThrottle
  have hv : s.Keeps v := hu.frame
  have hw : s.Keeps w := hu.frame.wr.wr
  have hu' : s.Keeps u' := hu.frame
  split
  · exact .ite hv.throttleDown hw.raise.warn
  · split
    · exact hu
    · split
      · exact hu.frame
      · split
        · exact hu.frame
        · exact hu'.throttleUp

theorem State.Keeps.execThermalSample (h : s.Keeps t) {dies : List (List Int)} {package : Int} :
    s.KeepsOut (execThermalSample dies package t) := by
  unfold Machine.execThermalSample
  extract_lets _ _ _ _ _ u _ _ _ _ v
  have hu : s.Keeps u := h.foldl fun _ _ hu => hu.wrAt.wrAt.wrAt
  have hv : s.Keeps v := hu.frame.findHottest
  exact .ite h (.ite h.frame.clearTrip (.ite hv.trip hv.throttle.retarget.clearTrip))

theorem State.Keeps.execStackTemperatureReport (h : s.Keeps t) {temps : List Int} : s.KeepsOut (execStackTemperatureReport temps t) := by
  unfold Machine.execStackTemperatureReport
  extract_lets _ u _ _ v
  have hu : s.Keeps u := h.foldl fun _ _ hu => hu.wrAt
  have hv : s.Keeps v := hu.frame.findHottest
  exact .ite h (.ite hv.trip hv.clearTrip)

theorem State.Keeps.execCoreClockGate (h : s.Keeps t) {phys : Nat} : s.KeepsOut (execCoreClockGate phys t) := .ite h.frame h

/-! #### The operations of Machine/Csr.lean -/

theorem State.Keeps.csrRead (h : s.Keeps t) {a : Nat} : s.Keeps (t.csrRead a).2 := by
  unfold State.csrRead
  split
  · exact h.draw
  · split
    · exact h
    · exact .ite h.wr h

theorem State.Keeps.csrReads {n a : Nat} (h : s.Keeps t) : s.Keeps (State.csrReads n a t).2 := by
  induction n generalizing t a with
  | zero => exact h
  | succ n ih => exact ih h.csrRead

theorem State.Keeps.writeField (h : s.Keeps t) {r : RegDesc} {i v : Nat} {p : Field × Acc} : s.Keeps (t.writeField r i v p) := by
  unfold State.writeField
  extract_lets _ _
  split
  · exact h
  · split
    · split
      · exact h.wrAt
      · exact h
    · exact .ite h.wrAt h
    · exact .ite h.wrAt h
    · exact h

theorem State.Keeps.writeFields (h : s.Keeps t) {r : RegDesc} {i v : Nat} : s.Keeps (t.writeFields r i v) :=
  h.foldl fun _ _ hu => hu.writeField

theorem State.Keeps.writeRingCtrl (h : s.Keeps t) {r v : Nat} : s.Keeps (t.writeRingCtrl r v) := by
  unfold State.writeRingCtrl
  extract_lets put u v w
  have hput (x : State) (f : Field) (n : Nat) (hx : s.Keeps x) : s.Keeps (put x f n) := by
    simp only [put]
    split
    · exact hx.wrAt
    · exact hx
  have hu : s.Keeps u := .ite h (hput _ _ _ (hput _ _ _ h))
  have hv : s.Keeps v := .ite hu.abortRing hu
  have hw : s.Keeps w := .ite hv.restartRing hv
  exact .ite hw.enableRing hw.disableRing

theorem State.Keeps.mboxSend (h : s.Keeps t) : s.Keeps t.mboxSend := h.send

theorem State.Keeps.writePortCtrl (h : s.Keeps t) {o v : Nat} : s.Keeps (t.writePortCtrl o v) := by
  unfold State.writePortCtrl
  extract_lets u _ w
  have hu : s.Keeps u := by unfold u; split; exacts [h.setMinLanes, h]
  have hw : s.Keeps w := .ite hu hu.enablePort
  exact .ite hw.retrainPort hw

theorem State.Keeps.clearNan (h : s.Keeps t) : s.Keeps t.clearNan := h.clear

theorem State.Keeps.regOps (h : s.Keeps t) {o : Nat × (State → Nat → Nat → State)} (ho : o ∈ regOps) {i v : Nat} :
    s.Keeps (o.2 t i v) := by
  simp only [Machine.regOps, List.mem_cons, List.not_mem_nil, or_false] at ho
  rcases ho with rfl | rfl | rfl | rfl | rfl | rfl | rfl | rfl | rfl | rfl | rfl | rfl | rfl
  · exact h.syncSet
  · exact h.syncAdd
  · exact h.writeResident
  · exact h.writeQueCfg
  · exact h.writeRingCtrl
  · exact h.doorbell
  · exact h.cplAck
  · exact .settleLoads (.ite (.wr (.ite h.wr h)) (.ite h.wr h))
  · exact h.writePortCtrl
  · exact h.bridgeDoorbell
  · exact .ite h.bridgeResume h
  · exact h.writeKeptNext
  · exact .ite h.repairDone h

theorem State.Keeps.regAfter (h : s.Keeps t) {o : Nat × (State → Nat → Nat → State)} (ho : o ∈ regAfter) {i v : Nat} :
    s.Keeps (o.2 t i v) := by
  simp only [Machine.regAfter, List.mem_cons, List.not_mem_nil, or_false] at ho
  rcases ho with rfl | rfl | rfl | rfl | rfl | rfl
  · exact .ite h.testNow h
  · exact .ite h.flushRow h
  · exact .ite h.flushIcache h
  · exact .ite h.wrAt.resumeThread h
  · exact .ite h.clearNan h
  · exact .ite h.mboxSend.wr h

theorem State.Keeps.csrWrite (h : s.Keeps t) {a v : Nat} : s.Keeps (t.csrWrite a v) := by
  unfold State.csrWrite
  split
  · exact h
  · split
    · exact h
    · split
      · rename_i e
        exact h.regOps (List.mem_of_find?_eq_some e)
      · extract_lets
        split
        · rename_i e
          exact h.writeFields.regAfter (List.mem_of_find?_eq_some e)
        · exact h.writeFields

theorem State.Keeps.execRegisterWrite (h : s.Keeps t) {addr : CsrRef} {value : Nat} : s.KeepsOut (execRegisterWrite addr value t) :=
  Keeps.ite h.csrWrite h

theorem State.Keeps.execSecRngRead (h : s.Keeps t) : s.KeepsOut (execSecRngRead t) := Keeps.ite h.csrRead.send h

theorem State.Keeps.execMboxSend (h : s.Keeps t) : s.KeepsOut (execMboxSend t) := Keeps.ite h.mboxSend h

/-! #### The operations of Machine/FrontEnd.lean -/

theorem State.Keeps.feSend (h : s.Keeps t) {f o kind : Nat} {body : List Nat} : s.Keeps (t.feSend f o kind body) := .send (.ite h.frame h)

theorem State.Keeps.feTake (h : s.Keeps t) {f o : Nat} {b : FeBody} : s.Keeps (t.feTake f o b) := by
  unfold State.feTake
  extract_lets _
  split
  · exact h.setFe
  · exact h.setFe
  · exact h.setFe
  · exact h.setFe
  · exact h.setFe
  · exact h.setFe
  · exact .ite h.storeN h.feSend
  · exact .ite h.feSend h.feSend
  · exact h

theorem State.Keeps.feNotify (h : s.Keeps t) {f o : Nat} {x : FeFrame} : s.Keeps (t.feNotify f o x) := by
  unfold State.feNotify
  split
  · exact .ite h.feSend h
  · exact h

theorem State.Keeps.feNumber (h : s.Keeps t) {f : Nat} {x : FeFrame} : s.Keeps (t.feNumber f x) := by
  unfold State.feNumber
  extract_lets _ _
  split
  · exact h.frame
  · exact h

theorem State.Keeps.feCount (h : s.Keeps t) {f : Nat} {taken : Bool} : s.Keeps (t.feCount f taken) := h.frame

theorem State.Keeps.execFrontEndFrame (h : s.Keeps t) {front : Nat} {frame : FeFrame} : s.KeepsOut (execFrontEndFrame front frame t) := by
  unfold Machine.execFrontEndFrame
  split
  · exact h
  · exact .ite h (.ite h.feCount h.feCount.feNumber.feNotify.feTake)

theorem State.Keeps.execFrontEndPortDown (h : s.Keeps t) {front : Nat} : s.KeepsOut (execFrontEndPortDown front t) := by
  unfold Machine.execFrontEndPortDown
  split
  · exact h
  · exact Keeps.ite h.portDown h

/-! #### The operations of Machine/Jobs.lean -/

theorem State.Keeps.layRegions (h : s.Keeps t) {sizes : List Nat} : s.Keeps (t.layRegions sizes) := h.foldl fun _ _ hu => hu.wrAt.wrAt

theorem State.Keeps.drawKey (h : s.Keeps t) {x seed : Nat} : s.Keeps (t.drawKey x seed) := h.frameMem.add

theorem State.Keeps.clearForJob (h : s.Keeps t) : s.Keeps t.clearForJob := by
  unfold State.clearForJob
  extract_lets a b u
  have hu : s.Keeps u := h.zeroAll.clear.foldl fun _ _ hu => hu.wrAt
  clear_value u
  refine hu.rebuilt (fun c => ?_) (Nat.le_add_right _ 1)
  rw [State.canonical_iff] at c ⊢
  obtain ⟨hregs, ⟨hhbm, htile, hoc⟩, hflash⟩ := c
  exact ⟨hregs, ⟨hhbm, htile, Image.discardOutside_wf _ _ _ hoc⟩, hflash⟩

theorem State.Keeps.loadJob (h : s.Keeps t) {j : JobDesc} {epoch : Nat} : s.Keeps (t.loadJob j epoch) :=
  h.clearForJob.frame.layRegions.wr.wr.wr.wr.wr.wr.wrBit.frame.drawKey.watchFrom

theorem State.Keeps.startPull (h : s.Keeps t) : s.Keeps t.startPull := h.frame.foldl fun _ _ hu => hu.sendFlit

theorem State.Keeps.takeOver (h : s.Keeps t) {j : JobDesc} {x : Takeover} : s.Keeps (t.takeOver j x) :=
  .finishDirectives (.ite h.loadJob.wr.wr h.loadJob.wr.wr.startPull)

theorem State.Keeps.refuseTakeover (h : s.Keeps t) : s.Keeps t.refuseTakeover := h.frame.foldl fun _ _ hu => hu.answer.raiseRec

theorem State.Keeps.refuseJob (h : s.Keeps t) {e : Event} : s.Keeps (t.refuseJob e) := .ite h.raise.refuseTakeover h.raise

theorem State.Keeps.execJobStart (h : s.Keeps t) {j : JobDesc} : s.KeepsOut (execJobStart j t) := by
  unfold Machine.execJobStart
  extract_lets _
  split
  · exact h
  · split
    · exact h.refuseJob
    · split
      · exact h.refuseJob
      · split
        · exact h.takeOver
        · exact Keeps.ite h.loadJob h.loadJob.startBuild

theorem State.Keeps.scrub (h : s.Keeps t) : s.Keeps t.scrub := by
  refine h.rebuilt (fun c => ?_) (Nat.le_refl _)
  rw [State.canonical_iff] at c ⊢
  obtain ⟨hregs, ⟨hhbm, -, -⟩, hflash⟩ := c
  exact ⟨ssorted_skeep hregs _, ⟨Image.scrubOutside_wf _ _ hhbm, rfl, rfl⟩, hflash⟩

theorem State.Keeps.execScrubComplete (h : s.Keeps t) : s.KeepsOut (execScrubComplete t) :=
  .ite h.scrub.endAttempt.frame.clear.settleSteps h

/-! #### The operations of Machine/MgmtOps.lean -/

theorem State.Keeps.execAttestReq (h : s.Keeps t) {m : Mgmt} {nonce : List Byte} : s.KeepsOut (execAttestReq m nonce t) :=
  h.onMgmt fun _ _ hu => .ite hu.replyTo hu.mgmtTo

theorem State.Keeps.execMgmtRead (h : s.Keeps t) {m : Mgmt} {chain : Bool} {addr count : Nat} :
    s.KeepsOut (execMgmtRead m chain addr count t) :=
  Keeps.onMgmt h fun _ _ hu => .ite (.ite hu.replyTo hu.mgmtTo) (.ite hu.replyTo hu.csrReads.mgmtTo)

theorem State.Keeps.execCsrWrite (h : s.Keeps t) {m : Mgmt} {addr value : Nat} : s.KeepsOut (execCsrWrite m addr value t) :=
  h.onMgmt fun _ _ hu => .ite hu.csrWrite.replyTo hu.replyTo

theorem State.Keeps.cycle (h : s.Keeps t) : s.Keeps t.cycle := h.mainOff.frame.tryConvert

theorem State.Keeps.moduleReset (h : s.Keeps t) : s.Keeps t.moduleReset := .ite h.frame.enterBooting h.cycle

theorem State.Keeps.onReset (h : s.Keeps t) {m : Mgmt} {ok : State → Bool} {act : State → State} (hact : ∀ u, s.Keeps u → s.Keeps (act u)) :
    s.Keeps (t.onReset m ok act) :=
  h.onMgmt fun _ _ hu => .ite (hact _ hu.replyTo) hu.replyTo

theorem State.Keeps.execModuleReset (h : s.Keeps t) {m : Mgmt} : s.KeepsOut (execModuleReset m t) :=
  h.onReset fun _ hu => hu.moduleReset

theorem State.Keeps.execStewardRestart (h : s.Keeps t) {m : Mgmt} : s.KeepsOut (execStewardRestart m t) :=
  h.onReset fun _ hu => hu.restartSteward

theorem State.Keeps.execPowerCycle (h : s.Keeps t) {m : Mgmt} : s.KeepsOut (execPowerCycle m t) := h.onReset fun _ hu => hu.cycle

theorem State.Keeps.restartComplex (h : s.Keeps t) : s.Keeps t.restartComplex := .ite h.frameBoot.send h

theorem State.Keeps.execControlComplexRestart (h : s.Keeps t) {m : Mgmt} : s.KeepsOut (execControlComplexRestart m t) :=
  h.onReset fun _ hu => hu.restartComplex

theorem State.Keeps.execFlashWrite (h : s.Keeps t) {m : Mgmt} {flash offset : Nat} {data : List Byte} :
    s.KeepsOut (execFlashWrite m flash offset data t) :=
  Keeps.onMgmt h fun _ _ hu => .ite hu.replyTo (.ite hu.replyTo (.replyTo (hu.setFlash fun c => Image.writeN_wf _ _ _ c)))

theorem State.Keeps.execFlashCommit (h : s.Keeps t) {m : Mgmt} {flash : Nat} : s.KeepsOut (execFlashCommit m flash t) := by
  refine Keeps.onMgmt h fun x u hu => .ite hu.replyTo ?_
  extract_lets y v cfg
  have hv : s.Keeps v := hu.setFlash fun c => c
  exact hv.replyTo

theorem State.compact_image (t : State) (x : Flash) : (t.compact x).image = x.image := by
  unfold State.compact
  split <;> rfl

theorem State.Keeps.writeSetting (h : s.Keeps t) {key : Nat} {delete : Bool} {data : List Byte} {failA failB : Bool} :
    s.Keeps (t.writeSetting key delete data failA failB) := by
  unfold State.writeSetting
  extract_lets r put _ v a b
  have hput (x : Flash) (fail : Bool) : (put x fail).image = x.image := by cases fail <;> rfl
  have ha : a.image = t.boot.flashA.image := (v.compact_image _).trans (hput _ _)
  have hb : b.image = t.boot.flashB.image := (v.compact_image _).trans (hput _ _)
  exact .showSettings (h.withBoot (b := { v.boot with flashA := a, flashB := b }) (fun c => ha ▸ c) (fun c => hb ▸ c))

theorem State.Keeps.execSettingsWrite (h : s.Keeps t) {m : Mgmt} {key : Nat} {delete : Bool} {data : List Byte} {failA failB : Bool} :
    s.KeepsOut (execSettingsWrite m key delete data failA failB t) :=
  h.onMgmt fun _ _ hu => .ite hu.replyTo (.ite hu.replyTo hu.writeSetting.replyTo)

theorem State.Keeps.execConsoleOperatorKey (h : s.Keeps t) {key : List Byte} : s.KeepsOut (execConsoleOperatorKey key t) := by
  unfold Machine.execConsoleOperatorKey
  split
  · exact h
  · split
    · exact h
    · exact h.writeSetting

theorem State.Keeps.execOtpBurn (h : s.Keeps t) {m : Mgmt} {field : Nat} {data readBack : List Byte} :
    s.KeepsOut (execOtpBurn m field data readBack t) := by
  refine Keeps.onMgmt h fun x u hu => .ite hu.replyTo ?_
  split
  · exact hu.replyTo
  · refine .ite hu.replyTo ?_
    split
    · exact hu.replyTo
    · exact .ite hu.replyTo hu.frameBoot.replyTo

theorem State.Keeps.execI3cStatusRead (h : s.Keeps t) : s.KeepsOut (execI3cStatusRead t) := Keeps.ite h.send h

theorem State.Keeps.execI3cAckWrite (h : s.Keeps t) {value : Nat} : s.KeepsOut (execI3cAckWrite value t) := Keeps.ite h.frame h

theorem State.Keeps.execI3cAddressAssign (h : s.Keeps t) {addr : Nat} : s.KeepsOut (execI3cAddressAssign addr t) := Keeps.ite h.frame h

theorem State.Keeps.jtag (h : s.Keeps t) {i : JtagIr} : s.Keeps (t.jtag i) := .ite h.frame h

theorem State.Keeps.execJtagBypass (h : s.Keeps t) : s.KeepsOut (execJtagBypass t) := h.jtag

theorem State.Keeps.execJtagSamplePreload (h : s.Keeps t) : s.KeepsOut (execJtagSamplePreload t) := Keeps.ite h.jtag.send h

theorem State.Keeps.execJtagExtest (h : s.Keeps t) : s.KeepsOut (execJtagExtest t) := h.jtag

theorem State.Keeps.execJtagIdcode (h : s.Keeps t) : s.KeepsOut (execJtagIdcode t) := Keeps.ite h.jtag.send h

theorem State.Keeps.execDebugInstruction (h : s.Keeps t) : s.KeepsOut (execDebugInstruction t) := .ite trivial h.jtag

/-! #### The operations of Machine/UcOps.lean -/

theorem State.Keeps.ucEndStripe (h : s.Keeps t) {u : UcSt} : s.Keeps (t.ucEndStripe u) := h.leaveStripe

theorem State.Keeps.ucStep (h : s.Keeps t) {op rd ra rb rc sel : Nat} : s.Keeps (t.ucStep op rd ra rb rc sel) := by
  unfold State.ucStep
  extract_lets _ _ _ _ u v
  have hu : s.Keeps u := h.frame.updFlags
  have hv : s.Keeps v := .ite hu.wr hu
  split
  · split
    · exact h.consumePoison
    · exact .ite hv.ucEndStripe hv
  · exact h

theorem State.Keeps.execUcEnd (h : s.Keeps t) : s.KeepsOut (execUcEnd t) := h.ucStep

theorem State.Keeps.execUcLd (h : s.Keeps t) {rd sel : Nat} : s.KeepsOut (execUcLd rd sel t) := h.ucStep

theorem State.Keeps.execUcLdk (h : s.Keeps t) {rd sel : Nat} : s.KeepsOut (execUcLdk rd sel t) := h.ucStep

theorem State.Keeps.execUcSt (h : s.Keeps t) {ra sel : Nat} : s.KeepsOut (execUcSt ra sel t) := h.ucStep

theorem State.Keeps.execUcAdd (h : s.Keeps t) {rd ra rb : Nat} : s.KeepsOut (execUcAdd rd ra rb t) := h.ucStep

theorem State.Keeps.execUcSub (h : s.Keeps t) {rd ra rb : Nat} : s.KeepsOut (execUcSub rd ra rb t) := h.ucStep

theorem State.Keeps.execUcFma (h : s.Keeps t) {rd ra rb rc : Nat} : s.KeepsOut (execUcFma rd ra rb rc t) := h.ucStep

theorem State.Keeps.execUcMul (h : s.Keeps t) {rd ra rb : Nat} : s.KeepsOut (execUcMul rd ra rb t) := h.ucStep

theorem State.Keeps.execUcDiv (h : s.Keeps t) {rd ra rb : Nat} : s.KeepsOut (execUcDiv rd ra rb t) := h.ucStep

theorem State.Keeps.execUcSqrt (h : s.Keeps t) {rd ra : Nat} : s.KeepsOut (execUcSqrt rd ra t) := h.ucStep

theorem State.Keeps.execUcMax (h : s.Keeps t) {rd ra rb : Nat} : s.KeepsOut (execUcMax rd ra rb t) := h.ucStep

theorem State.Keeps.execUcMin (h : s.Keeps t) {rd ra rb : Nat} : s.KeepsOut (execUcMin rd ra rb t) := h.ucStep

theorem State.Keeps.execUcAbs (h : s.Keeps t) {rd ra : Nat} : s.KeepsOut (execUcAbs rd ra t) := h.ucStep

theorem State.Keeps.execUcNeg (h : s.Keeps t) {rd ra : Nat} : s.KeepsOut (execUcNeg rd ra t) := h.ucStep

theorem State.Keeps.execUcSign (h : s.Keeps t) {rd ra : Nat} : s.KeepsOut (execUcSign rd ra t) := h.ucStep

/-! #### The operations of Machine/VecFp.lean -/

theorem State.Keeps.execFadd (h : s.Keeps t) {th : ThreadRef} : s.KeepsOut (execFadd th t) := h.vecAlu

theorem State.Keeps.execFsub (h : s.Keeps t) {th : ThreadRef} : s.KeepsOut (execFsub th t) := h.vecAlu

theorem State.Keeps.execFmul (h : s.Keeps t) {th : ThreadRef} : s.KeepsOut (execFmul th t) := h.vecAlu

theorem State.Keeps.execFfma (h : s.Keeps t) {th : ThreadRef} : s.KeepsOut (execFfma th t) := h.vecAlu

theorem State.Keeps.execFfms (h : s.Keeps t) {th : ThreadRef} : s.KeepsOut (execFfms th t) := h.vecAlu

theorem State.Keeps.execFnma (h : s.Keeps t) {th : ThreadRef} : s.KeepsOut (execFnma th t) := h.vecAlu

theorem State.Keeps.execFmin (h : s.Keeps t) {th : ThreadRef} : s.KeepsOut (execFmin th t) := h.vecAlu

theorem State.Keeps.execFmax (h : s.Keeps t) {th : ThreadRef} : s.KeepsOut (execFmax th t) := h.vecAlu

theorem State.Keeps.execFabs (h : s.Keeps t) {th : ThreadRef} : s.KeepsOut (execFabs th t) := h.vecAlu

theorem State.Keeps.execFneg (h : s.Keeps t) {th : ThreadRef} : s.KeepsOut (execFneg th t) := h.vecAlu

theorem State.Keeps.execFsqrt (h : s.Keeps t) {th : ThreadRef} : s.KeepsOut (execFsqrt th t) := h.vecAlu

theorem State.Keeps.execFrcpe (h : s.Keeps t) {th : ThreadRef} : s.KeepsOut (execFrcpe th t) := h.vecAlu

theorem State.Keeps.execFrsqe (h : s.Keeps t) {th : ThreadRef} : s.KeepsOut (execFrsqe th t) := h.vecAlu

theorem State.Keeps.execFexp2 (h : s.Keeps t) {th : ThreadRef} : s.KeepsOut (execFexp2 th t) := h.vecAlu

theorem State.Keeps.execFscale (h : s.Keeps t) {th : ThreadRef} : s.KeepsOut (execFscale th t) := h.vecAlu

theorem State.Keeps.execFexpo (h : s.Keeps t) {th : ThreadRef} : s.KeepsOut (execFexpo th t) := h.vecAlu

theorem State.Keeps.execFpEq (h : s.Keeps t) {th : ThreadRef} : s.KeepsOut (execFpEq th t) := h.vecAlu

theorem State.Keeps.execFpLt (h : s.Keeps t) {th : ThreadRef} : s.KeepsOut (execFpLt th t) := h.vecAlu

theorem State.Keeps.execFpLe (h : s.Keeps t) {th : ThreadRef} : s.KeepsOut (execFpLe th t) := h.vecAlu

theorem State.Keeps.execFpUn (h : s.Keeps t) {th : ThreadRef} : s.KeepsOut (execFpUn th t) := h.vecAlu

theorem State.Keeps.execHadd2 (h : s.Keeps t) {th : ThreadRef} : s.KeepsOut (execHadd2 th t) := h.vecAlu

theorem State.Keeps.execHmul2 (h : s.Keeps t) {th : ThreadRef} : s.KeepsOut (execHmul2 th t) := h.vecAlu

theorem State.Keeps.execHfma2 (h : s.Keeps t) {th : ThreadRef} : s.KeepsOut (execHfma2 th t) := h.vecAlu

theorem State.Keeps.execHmin2 (h : s.Keeps t) {th : ThreadRef} : s.KeepsOut (execHmin2 th t) := h.vecAlu

theorem State.Keeps.execHmax2 (h : s.Keeps t) {th : ThreadRef} : s.KeepsOut (execHmax2 th t) := h.vecAlu

theorem State.Keeps.execHdot2 (h : s.Keeps t) {th : ThreadRef} : s.KeepsOut (execHdot2 th t) := h.vecAlu

theorem State.Keeps.execCvt (h : s.Keeps t) {th : ThreadRef} : s.KeepsOut (execCvt th t) := h.vecAlu

theorem State.Keeps.execFaddM (h : s.Keeps t) {th : ThreadRef} : s.KeepsOut (execFaddM th t) := h.vecMem

theorem State.Keeps.execFmulM (h : s.Keeps t) {th : ThreadRef} : s.KeepsOut (execFmulM th t) := h.vecMem

theorem State.Keeps.execFfmaM (h : s.Keeps t) {th : ThreadRef} : s.KeepsOut (execFfmaM th t) := h.vecMem

theorem State.Keeps.execHfma2M (h : s.Keeps t) {th : ThreadRef} : s.KeepsOut (execHfma2M th t) := h.vecMem

theorem State.Keeps.execHdot2M (h : s.Keeps t) {th : ThreadRef} : s.KeepsOut (execHdot2M th t) := h.vecMem

/-! #### The operations of Machine/VecInt.lean -/

theorem State.Keeps.execAdd (h : s.Keeps t) {th : ThreadRef} : s.KeepsOut (execAdd th t) := h.vecAlu

theorem State.Keeps.execSub (h : s.Keeps t) {th : ThreadRef} : s.KeepsOut (execSub th t) := h.vecAlu

theorem State.Keeps.execMul (h : s.Keeps t) {th : ThreadRef} : s.KeepsOut (execMul th t) := h.vecAlu

theorem State.Keeps.execMulhi (h : s.Keeps t) {th : ThreadRef} : s.KeepsOut (execMulhi th t) := h.vecAlu

theorem State.Keeps.execMulhu (h : s.Keeps t) {th : ThreadRef} : s.KeepsOut (execMulhu th t) := h.vecAlu

theorem State.Keeps.execAnd (h : s.Keeps t) {th : ThreadRef} : s.KeepsOut (execAnd th t) := h.vecAlu

theorem State.Keeps.execOr (h : s.Keeps t) {th : ThreadRef} : s.KeepsOut (execOr th t) := h.vecAlu

theorem State.Keeps.execXor (h : s.Keeps t) {th : ThreadRef} : s.KeepsOut (execXor th t) := h.vecAlu

theorem State.Keeps.execShl (h : s.Keeps t) {th : ThreadRef} : s.KeepsOut (execShl th t) := h.vecAlu

theorem State.Keeps.execShr (h : s.Keeps t) {th : ThreadRef} : s.KeepsOut (execShr th t) := h.vecAlu

theorem State.Keeps.execSra (h : s.Keeps t) {th : ThreadRef} : s.KeepsOut (execSra th t) := h.vecAlu

theorem State.Keeps.execMin (h : s.Keeps t) {th : ThreadRef} : s.KeepsOut (execMin th t) := h.vecAlu

theorem State.Keeps.execMax (h : s.Keeps t) {th : ThreadRef} : s.KeepsOut (execMax th t) := h.vecAlu

theorem State.Keeps.execMinu (h : s.Keeps t) {th : ThreadRef} : s.KeepsOut (execMinu th t) := h.vecAlu

theorem State.Keeps.execMaxu (h : s.Keeps t) {th : ThreadRef} : s.KeepsOut (execMaxu th t) := h.vecAlu

theorem State.Keeps.execAdds (h : s.Keeps t) {th : ThreadRef} : s.KeepsOut (execAdds th t) := h.vecAlu

theorem State.Keeps.execSubs (h : s.Keeps t) {th : ThreadRef} : s.KeepsOut (execSubs th t) := h.vecAlu

theorem State.Keeps.execMad (h : s.Keeps t) {th : ThreadRef} : s.KeepsOut (execMad th t) := h.vecAlu

theorem State.Keeps.execSel (h : s.Keeps t) {th : ThreadRef} : s.KeepsOut (execSel th t) := h.vecAlu

theorem State.Keeps.execMov (h : s.Keeps t) {th : ThreadRef} : s.KeepsOut (execMov th t) := h.vecAlu

theorem State.Keeps.execIntEq (h : s.Keeps t) {th : ThreadRef} : s.KeepsOut (execIntEq th t) := h.vecAlu

theorem State.Keeps.execIntNe (h : s.Keeps t) {th : ThreadRef} : s.KeepsOut (execIntNe th t) := h.vecAlu

theorem State.Keeps.execIntLt (h : s.Keeps t) {th : ThreadRef} : s.KeepsOut (execIntLt th t) := h.vecAlu

theorem State.Keeps.execIntLe (h : s.Keeps t) {th : ThreadRef} : s.KeepsOut (execIntLe th t) := h.vecAlu

theorem State.Keeps.execIntLtu (h : s.Keeps t) {th : ThreadRef} : s.KeepsOut (execIntLtu th t) := h.vecAlu

theorem State.Keeps.execIntLeu (h : s.Keeps t) {th : ThreadRef} : s.KeepsOut (execIntLeu th t) := h.vecAlu

theorem State.Keeps.execPand (h : s.Keeps t) {th : ThreadRef} : s.KeepsOut (execPand th t) := h.vecAlu

theorem State.Keeps.execPor (h : s.Keeps t) {th : ThreadRef} : s.KeepsOut (execPor th t) := h.vecAlu

theorem State.Keeps.execPxor (h : s.Keeps t) {th : ThreadRef} : s.KeepsOut (execPxor th t) := h.vecAlu

theorem State.Keeps.execPnot (h : s.Keeps t) {th : ThreadRef} : s.KeepsOut (execPnot th t) := h.vecAlu

theorem State.Keeps.execPmov (h : s.Keeps t) {th : ThreadRef} : s.KeepsOut (execPmov th t) := h.vecAlu

theorem State.Keeps.execMovi (h : s.Keeps t) {th : ThreadRef} : s.KeepsOut (execMovi th t) := h.vecAlu

theorem State.Keeps.execMovhi (h : s.Keeps t) {th : ThreadRef} : s.KeepsOut (execMovhi th t) := h.vecAlu

theorem State.Keeps.execAddi (h : s.Keeps t) {th : ThreadRef} : s.KeepsOut (execAddi th t) := h.vecAlu

theorem State.Keeps.execTick (h : s.Keeps t) {th : ThreadRef} : s.KeepsOut (execTick th t) := h.vecAlu

theorem State.Keeps.execTickh (h : s.Keeps t) {th : ThreadRef} : s.KeepsOut (execTickh th t) := h.vecAlu

theorem State.Keeps.execTid (h : s.Keeps t) {th : ThreadRef} : s.KeepsOut (execTid th t) := h.vecAlu

theorem State.Keeps.execFlags (h : s.Keeps t) {th : ThreadRef} : s.KeepsOut (execFlags th t) := h.vecAlu

theorem State.Keeps.execClrf (h : s.Keeps t) {th : ThreadRef} : s.KeepsOut (execClrf th t) := h.vecAlu

theorem State.Keeps.execFtz (h : s.Keeps t) {th : ThreadRef} : s.KeepsOut (execFtz th t) := h.vecAlu

theorem State.Keeps.execSrt (h : s.Keeps t) {th : ThreadRef} : s.KeepsOut (execSrt th t) := h.vecAlu

theorem State.Keeps.execSri (h : s.Keeps t) {th : ThreadRef} : s.KeepsOut (execSri th t) := h.vecAlu

theorem State.Keeps.execIaddM (h : s.Keeps t) {th : ThreadRef} : s.KeepsOut (execIaddM th t) := h.vecMem

/-! #### The operations of Machine/Dispatch.lean -/

/-- Every command keeps it: each by the rule of its meaning. -/
theorem State.Keeps.exec (h : s.Keeps t) (c : Instr) : s.KeepsOut (exec c t) := by
  cases c with
  | auxPowerUp => exact h.execAuxPowerUp
  | auxRemoved => exact h.execAuxRemoved
  | mainRemoved => exact h.execMainRemoved
  | mainOvervoltage => exact h.execMainOvervoltage
  | mainGood => exact h.execMainGood
  | resetNAssert => exact h.execResetNAssert
  | resetNRelease => exact h.execResetNRelease
  | prsntNLoss => exact h.execPrsntNLoss
  | wakeN => exact h.execWakeN
  | railsGood => exact h.execRailsGood
  | bootStart => exact h.execBootStart
  | bootComplete => exact h.execBootComplete
  | recoveryReqTimer => exact h.execRecoveryReqTimer
  | recoveryImage => exact h.execRecoveryImage
  | stewardWatchdog => exact h.execStewardWatchdog
  | jobStart => exact h.execJobStart
  | scrubComplete => exact h.execScrubComplete
  | stepOpen => exact h.execStepOpen
  | stepReplay => exact h.execStepReplay
  | mbAdmit => exact h.execMbAdmit
  | segmentStart => exact h.execSegmentStart
  | epilogueEntry => exact h.execEpilogueEntry
  | segmentComplete => exact h.execSegmentComplete
  | cocoonAllocRequest => exact h.execCocoonAllocRequest
  | cocoonAllocGrant => exact h.execCocoonAllocGrant
  | cocoonStallTimeout => exact h.execCocoonStallTimeout
  | mbDeadlineExpiry => exact h.execMbDeadlineExpiry
  | mbHardLimitExpiry => exact h.execMbHardLimitExpiry
  | standinTakeover => exact h.execStandinTakeover
  | arbiterGrant => exact h.execArbiterGrant
  | checkMismatch => exact h.execCheckMismatch
  | retryRestart => exact h.execRetryRestart
  | injectMismatch => exact h.execInjectMismatch
  | tileComplete => exact h.execTileComplete
  | requantPrepassDone => exact h.execRequantPrepassDone
  | rowTileAccept => exact h.execRowTileAccept
  | softmaxExpPass => exact h.execSoftmaxExpPass
  | attnMergeTile => exact h.execAttnMergeTile
  | rowCmdStart => exact h.execRowCmdStart
  | rowCmdRun => exact h.execRowCmdRun
  | rowContextComplete => exact h.execRowContextComplete
  | rowFlushCtx => exact h.execRowFlushCtx
  | vecLaunch => exact h.execVecLaunch
  | vecLaunchComplete => exact h.execVecLaunchComplete
  | flushIcache => exact h.execFlushIcache
  | threadResume => exact h.execThreadResume
  | add => exact h.execAdd
  | sub => exact h.execSub
  | mul => exact h.execMul
  | mulhi => exact h.execMulhi
  | mulhu => exact h.execMulhu
  | and => exact h.execAnd
  | or => exact h.execOr
  | xor => exact h.execXor
  | shl => exact h.execShl
  | shr => exact h.execShr
  | sra => exact h.execSra
  | min => exact h.execMin
  | max => exact h.execMax
  | minu => exact h.execMinu
  | maxu => exact h.execMaxu
  | adds => exact h.execAdds
  | subs => exact h.execSubs
  | mad => exact h.execMad
  | sel => exact h.execSel
  | mov => exact h.execMov
  | intEq => exact h.execIntEq
  | intNe => exact h.execIntNe
  | intLt => exact h.execIntLt
  | intLe => exact h.execIntLe
  | intLtu => exact h.execIntLtu
  | intLeu => exact h.execIntLeu
  | fadd => exact h.execFadd
  | fsub => exact h.execFsub
  | fmul => exact h.execFmul
  | ffma => exact h.execFfma
  | ffms => exact h.execFfms
  | fnma => exact h.execFnma
  | fmin => exact h.execFmin
  | fmax => exact h.execFmax
  | fabs => exact h.execFabs
  | fneg => exact h.execFneg
  | fsqrt => exact h.execFsqrt
  | frcpe => exact h.execFrcpe
  | frsqe => exact h.execFrsqe
  | fexp2 => exact h.execFexp2
  | fscale => exact h.execFscale
  | fexpo => exact h.execFexpo
  | fpEq => exact h.execFpEq
  | fpLt => exact h.execFpLt
  | fpLe => exact h.execFpLe
  | fpUn => exact h.execFpUn
  | hadd2 => exact h.execHadd2
  | hmul2 => exact h.execHmul2
  | hfma2 => exact h.execHfma2
  | hmin2 => exact h.execHmin2
  | hmax2 => exact h.execHmax2
  | hdot2 => exact h.execHdot2
  | cvt => exact h.execCvt
  | pand => exact h.execPand
  | por => exact h.execPor
  | pxor => exact h.execPxor
  | pnot => exact h.execPnot
  | pmov => exact h.execPmov
  | movi => exact h.execMovi
  | movhi => exact h.execMovhi
  | addi => exact h.execAddi
  | ld => exact h.execLd
  | st => exact h.execSt
  | faddM => exact h.execFaddM
  | fmulM => exact h.execFmulM
  | ffmaM => exact h.execFfmaM
  | hfma2M => exact h.execHfma2M
  | hdot2M => exact h.execHdot2M
  | iaddM => exact h.execIaddM
  | dmaIssue => exact h.execDmaIssue
  | dmaTransferComplete => exact h.execDmaTransferComplete
  | sqPush => exact h.execSqPush
  | sqPop => exact h.execSqPop
  | sqStat => exact h.execSqStat
  | syncAdd => exact h.execSyncAdd
  | syncAddr => exact h.execSyncAddr
  | syncSet => exact h.execSyncSet
  | syncReadlo => exact h.execSyncReadlo
  | syncReadhi => exact h.execSyncReadhi
  | syncWait => exact h.execSyncWait
  | br => exact h.execBr
  | call => exact h.execCall
  | nop => exact h.execNop
  | exit => exact h.execExit
  | ret => exact h.execRet
  | fenceOc => exact h.execFenceOc
  | fenceDma => exact h.execFenceDma
  | gangMaskp => exact h.execGangMaskp
  | gangPush => exact h.execGangPush
  | gangPop => exact h.execGangPop
  | laneid => exact h.execLaneid
  | bcast => exact h.execBcast
  | gangVote => exact h.execGangVote
  | maskrd => exact h.execMaskrd
  | lred => exact h.execLred
  | hintHeavy => exact h.execHintHeavy
  | hintLight => exact h.execHintLight
  | trap => exact h.execTrap
  | tick => exact h.execTick
  | tickh => exact h.execTickh
  | tid => exact h.execTid
  | flags => exact h.execFlags
  | clrf => exact h.execClrf
  | ftz => exact h.execFtz
  | srt => exact h.execSrt
  | sri => exact h.execSri
  | illegal => exact h.execIllegal
  | patrolScrub => exact h.execPatrolScrub
  | sramScrub => exact h.execSramScrub
  | memCeHourly => exact h.execMemCeHourly
  | imbalanceWindow => exact h.execImbalanceWindow
  | refetchReply => exact h.execRefetchReply
  | resendRequest => exact h.execResendRequest
  | tsResidentWrite => exact h.execTsResidentWrite
  | queueEnable => exact h.execQueueEnable
  | queueWaitTimeout => exact h.execQueueWaitTimeout
  | routerForwardItem => exact h.execRouterForwardItem
  | creditReturn => exact h.execCreditReturn
  | waitTimeout => exact h.execWaitTimeout
  | synValueWrite => exact h.execSynValueWrite
  | synAddWrite => exact h.execSynAddWrite
  | synWaitsRead => exact h.execSynWaitsRead
  | ringDoorbell => exact h.execRingDoorbell
  | commandComplete => exact h.execCommandComplete
  | ringEnable => exact h.execRingEnable
  | ringDisable => exact h.execRingDisable
  | ringAbort => exact h.execRingAbort
  | ringRestart => exact h.execRingRestart
  | ringCplAck => exact h.execRingCplAck
  | cmdNop => exact h.execCmdNop
  | queuePush => exact h.execQueuePush
  | cmdSyncAdd => exact h.execCmdSyncAdd
  | cmdSyncSet => exact h.execCmdSyncSet
  | cmdSyncRead => exact h.execCmdSyncRead
  | cmdSyncWait => exact h.execCmdSyncWait
  | cmdDma => exact h.execCmdDma
  | stepLoad => exact h.execStepLoad
  | stepRun => exact h.execStepRun
  | stepStop => exact h.execStepStop
  | stepWait => exact h.execStepWait
  | jobEnd => exact h.execJobEnd
  | jobCancel => exact h.execJobCancel
  | stripeUpdate => exact h.execStripeUpdate
  | factorPass => exact h.execFactorPass
  | headerWrite => exact h.execHeaderWrite
  | copyPass => exact h.execCopyPass
  | regenerationPass => exact h.execRegenerationPass
  | loadTable => exact h.execLoadTable
  | loadUcode => exact h.execLoadUcode
  | ucEnd => exact h.execUcEnd
  | ucLd => exact h.execUcLd
  | ucLdk => exact h.execUcLdk
  | ucSt => exact h.execUcSt
  | ucAdd => exact h.execUcAdd
  | ucSub => exact h.execUcSub
  | ucFma => exact h.execUcFma
  | ucMul => exact h.execUcMul
  | ucDiv => exact h.execUcDiv
  | ucSqrt => exact h.execUcSqrt
  | ucMax => exact h.execUcMax
  | ucMin => exact h.execUcMin
  | ucAbs => exact h.execUcAbs
  | ucNeg => exact h.execUcNeg
  | ucSign => exact h.execUcSign
  | write => exact h.execWrite
  | readReq => exact h.execReadReq
  | readData => exact h.execReadData
  | queueItem => exact h.execQueueItem
  | syncAddFlit => exact h.execSyncAddFlit
  | collData => exact h.execCollData
  | ack => exact h.execAck
  | ackTimer => exact h.execAckTimer
  | retransmitTimeout => exact h.execRetransmitTimeout
  | hotLinkTimer => exact h.execHotLinkTimer
  | hotspotTimer => exact h.execHotspotTimer
  | heartbeatTimer => exact h.execHeartbeatTimer
  | linkSilence => exact h.execLinkSilence
  | allReduce => exact h.execAllReduce
  | reduceScatter => exact h.execReduceScatter
  | allGather => exact h.execAllGather
  | allToAll => exact h.execAllToAll
  | broadcast => exact h.execBroadcast
  | collComplete => exact h.execCollComplete
  | portBringup => exact h.execPortBringup
  | bringupRetryTimer => exact h.execBringupRetryTimer
  | bringupTimeout => exact h.execBringupTimeout
  | hello => exact h.execHello
  | helloAck => exact h.execHelloAck
  | heartbeat => exact h.execHeartbeat
  | linkAck => exact h.execLinkAck
  | retryReq => exact h.execRetryReq
  | retrain => exact h.execRetrain
  | hotSet => exact h.execHotSet
  | keepalive => exact h.execKeepalive
  | wake => exact h.execWake
  | keepaliveIdleTimer => exact h.execKeepaliveIdleTimer
  | laneFail => exact h.execLaneFail
  | retrainTimeout => exact h.execRetrainTimeout
  | lightSourceFail => exact h.execLightSourceFail
  | portBerHourly => exact h.execPortBerHourly
  | portRetrain => exact h.execPortRetrain
  | portEnable => exact h.execPortEnable
  | bridgeDoorbell => exact h.execBridgeDoorbell
  | bridgeTransferComplete => exact h.execBridgeTransferComplete
  | bridgeRingResume => exact h.execBridgeRingResume
  | bridgePeerWrite => exact h.execBridgePeerWrite
  | bridgePeerMessage => exact h.execBridgePeerMessage
  | keptNextReady => exact h.execKeptNextReady
  | keptRepairDone => exact h.execKeptRepairDone
  | moduleVote => exact h.execModuleVote
  | vote => exact h.execVote
  | decision => exact h.execDecision
  | record => exact h.execRecord
  | recordAck => exact h.execRecordAck
  | digest => exact h.execDigest
  | mirrorDone => exact h.execMirrorDone
  | voteTimeout => exact h.execVoteTimeout
  | canaryStart => exact h.execCanaryStart
  | canaryComplete => exact h.execCanaryComplete
  | mirrorBuildEnd => exact h.execMirrorBuildEnd
  | statePullDone =>
    unfold Machine.exec
    exact h.execStatePullDone
  | rotationDue => exact h.execRotationDue
  | coreTestComplete => exact h.execCoreTestComplete
  | spareTestDue => exact h.execSpareTestDue
  | testDeferTimer => exact h.execTestDeferTimer
  | testOverdueTimer => exact h.execTestOverdueTimer
  | chkTestNow => exact h.execChkTestNow
  | jobHeartbeatTimer => exact h.execJobHeartbeatTimer
  | jobHeartbeat => exact h.execJobHeartbeat
  | jobHbTimeout => exact h.execJobHbTimeout
  | lossNotice => exact h.execLossNotice
  | remapWaitTimeout => exact h.execRemapWaitTimeout
  | statusTimer => exact h.execStatusTimer
  | fmSilenceTimeout => exact h.execFmSilenceTimeout
  | remap => exact h.execRemap
  | discardStep => exact h.execDiscardStep
  | replay => exact h.execReplay
  | hold => exact h.execHold
  | resume => exact h.execResume
  | chrysalis => exact h.execChrysalis
  | retirePort => exact h.execRetirePort
  | testNow => exact h.execTestNow
  | drain => exact h.execDrain
  | wakeSpare => exact h.execWakeSpare
  | eclosionComplete => exact h.execEclosionComplete
  | pupaReturnTimeout => exact h.execPupaReturnTimeout
  | coreRetryHourly => exact h.execCoreRetryHourly
  | hubWatchdogExpiry => exact h.execHubWatchdogExpiry
  | coalesceWindowClose => exact h.execCoalesceWindowClose
  | cut => exact h.execCut
  | done => exact h.execDone
  | request => exact h.execRequest
  | stagingCopyDone => exact h.execStagingCopyDone
  | writeCommandComplete => exact h.execWriteCommandComplete
  | chrysalisDoneTimeout => exact h.execChrysalisDoneTimeout
  | powerLoop => exact h.execPowerLoop
  | freqHandoff => exact h.execFreqHandoff
  | droopAssert => exact h.execDroopAssert
  | droopRelease => exact h.execDroopRelease
  | hintExpiry => exact h.execHintExpiry
  | energyIntegrate => exact h.execEnergyIntegrate
  | thermalSample => exact h.execThermalSample
  | coreClockGate => exact h.execCoreClockGate
  | sessionInit => exact h.execSessionInit
  | mgmtAck => exact h.execMgmtAck
  | mgmtAckTimer => exact h.execMgmtAckTimer
  | mgmtRetransmit => exact h.execMgmtRetransmit
  | sessionTimeout => exact h.execSessionTimeout
  | journalRead => exact h.execJournalRead
  | attestReq => exact h.execAttestReq
  | mgmtRead => exact h.execMgmtRead
  | csrWrite => exact h.execCsrWrite
  | moduleReset => exact h.execModuleReset
  | stewardRestart => exact h.execStewardRestart
  | powerCycle => exact h.execPowerCycle
  | controlComplexRestart => exact h.execControlComplexRestart
  | flashWrite => exact h.execFlashWrite
  | flashCommit => exact h.execFlashCommit
  | settingsWrite => exact h.execSettingsWrite
  | otpBurn => exact h.execOtpBurn
  | consoleOperatorKey => exact h.execConsoleOperatorKey
  | mboxSend => exact h.execMboxSend
  | secRngRead => exact h.execSecRngRead
  | i3cStatusRead => exact h.execI3cStatusRead
  | i3cAckWrite => exact h.execI3cAckWrite
  | i3cAddressAssign => exact h.execI3cAddressAssign
  | jtagBypass => exact h.execJtagBypass
  | jtagSamplePreload => exact h.execJtagSamplePreload
  | jtagExtest => exact h.execJtagExtest
  | jtagIdcode => exact h.execJtagIdcode
  | registerWrite => exact h.execRegisterWrite
  | prsntNReturn => exact h.execPrsntNReturn
  | carveOutPoisonRead => exact h.execCarveOutPoisonRead
  | flitCrcFail => exact h.execFlitCrcFail
  | fecAlignmentLoss => exact h.execFecAlignmentLoss
  | lossOfLight => exact h.execLossOfLight
  | fecAligned => exact h.execFecAligned
  | helloResend => exact h.execHelloResend
  | frontEndPortDown => exact h.execFrontEndPortDown
  | frontEndFrame => exact h.execFrontEndFrame
  | stackTemperatureReport => exact h.execStackTemperatureReport
  | debugInstruction => exact h.execDebugInstruction

theorem State.keeps_of_exec (c : Instr) (h : exec c s = .next t) : s.Keeps t := by
  have hout : s.KeepsOut (exec c s) := State.Keeps.exec (.refl s) c
  rwa [h] at hout

end

/-! ### A tick with nothing due (R5, R37, log entry 2) -/

theorem sget_run_eq_none (m : Sparse WingSt) (i : Nat) (h : ∀ w ∈ m, w.2.run = none) : (sget {} m i).run = none := by
  induction m with
  | nil => rfl
  | cons w m ih =>
    rw [List.forall_mem_cons] at h
    simp only [sget, sget?] at ih ⊢
    split
    · exact h.1
    · exact ih h.2

/-- A tick feeds no wing whose segment runs no more. -/
theorem State.feed_of_run_eq_none (s : State) (n : Nat) (hw : Bool) (h : (s.wing n hw).run = none) : s.feed n hw = s := by
  have htiles : State.feedTiles n hw 64 s = s := by simp only [State.feedTiles, h]
  simp only [State.feed, htiles, h]

theorem State.feedAll_of_run_eq_none (s : State) (h : ∀ w ∈ s.sched.wings, w.2.run = none) : s.feedAll = s := by
  have hfeed (n : Nat) (hw : Bool) : s.feed n hw = s := s.feed_of_run_eq_none n hw (sget_run_eq_none _ _ h)
  unfold State.feedAll
  generalize s.sched.wings = ws
  induction ws with
  | nil => rfl
  | cons w ws ih => rw [List.foldl_cons, hfeed, ih]

theorem State.decideDue_of_due_eq_zero (s : State) (h : s.barrier.due = 0) : s.decideDue = s := by
  simp [State.decideDue, h]

theorem State.releaseHeld_of_held_eq_nil (s : State) (h : s.fab.held = []) : s.releaseHeld = ([], s) := by
  have hs : { s with fab := { s.fab with held := [] } } = s := by rw [← h]
  simp only [State.releaseHeld, h, List.filter_nil, hs]

theorem State.deliverHeld_of_held_eq_nil (s : State) (h : s.fab.held = []) : s.deliverHeld = s := by
  rw [State.deliverHeld, s.releaseHeld_of_held_eq_nil h, List.foldl_nil]

theorem State.settleOps_of_ops_eq_nil (s : State) (h : s.ops = []) : s.settleOps = s := by
  rw [State.settleOps, h, List.foldl_nil]

/-- With nothing due, the work at the end of a tick changes nothing. -/
theorem State.endOfTick_of_nothing_due (s : State) (hdue : s.barrier.due = 0) (hheld : s.fab.held = [])
    (hrun : ∀ w ∈ s.sched.wings, w.2.run = none) (hops : s.ops = []) : s.endOfTick = s := by
  rw [State.endOfTick, s.decideDue_of_due_eq_zero hdue, s.deliverHeld_of_held_eq_nil hheld, s.feedAll_of_run_eq_none hrun,
    s.settleOps_of_ops_eq_nil hops]

/-- On an empty queue a step is the work at the end of a tick, then the tick (log entry 2). -/
theorem step_of_pending_eq_nil (s : State) (h : s.pending = []) : step s = .next s.endOfTick.idle := by
  rw [step, h]

/-- A step takes the first waiting command off the queue and does it. -/
theorem step_of_pending_eq_cons (s : State) (c : Instr) (rest : List Instr) (h : s.pending = c :: rest) :
    step s = exec c { s with pending := rest } := by
  rw [step, h]

/-! ### The state after reset (R5, log entry 3) -/

/-- After reset every field of every register reads the value the manual gives it. -/
theorem State.rdAt_reset (f : Field) (i : Nat) : State.reset.rdAt f i = f.reset % 2 ^ f.width := rfl

end Sys2Proof.Machine
end

section
/-! PROOFS. The statements on the scope. -/

open Sys2Proof Sys2Proof.Machine

/-- Settles O2: what a tick works off is empty, so the step is the counter's step alone. -/
theorem idleStepPassesOneTick : Obligations.IdleStepPassesOneTick := by
  intro s hpending hdue hheld hrun hops
  rw [step_of_pending_eq_nil s hpending, s.endOfTick_of_nothing_due hdue hheld hrun hops]
  by_cases hoff : s.mode = .off
  · simp [State.idle, State.powered, hoff]
  · simp [State.idle, State.powered, hoff]

/-- Settles O56: after reset the register map is empty, so every field reads its reset value. -/
theorem resetState : Obligations.ResetState :=
  ⟨rfl, rfl, rfl, rfl, rfl, rfl, State.rdAt_reset, reset_canonical, rfl, rfl, rfl, rfl, rfl, rfl⟩

/-- Settles O57: the work at the end of a tick keeps canonical form, and so does each command. -/
theorem everyStepKeepsCanonicalForm : Obligations.EveryStepKeepsCanonicalForm := by
  intro s t hs hstep
  cases hp : s.pending with
  | nil =>
    rw [step_of_pending_eq_nil s hp] at hstep
    obtain rfl := Host.Outcome.next.inj hstep
    exact (State.Keeps.refl s).endOfTick.idle.canonical hs
  | cons c rest =>
    rw [step_of_pending_eq_cons s c rest hp] at hstep
    have hkeeps : ({ s with pending := rest } : State).Keeps t := State.keeps_of_exec c hstep
    exact hkeeps.canonical hs

/-- Settles O58: a command touches the queue, the record of outputs and the count of draws only by sending and by drawing. -/
theorem commandsKeepQueueAndRecord : Obligations.CommandsKeepQueueAndRecord := by
  intro c s t hexec
  obtain ⟨hpending, houtbox, hdrawn, -⟩ := State.keeps_of_exec c hexec
  exact ⟨hpending, houtbox, hdrawn⟩

end

section
/-! PROOFS. Frames: what carrying, sending and receiving a flit, and waking a waiter, leave as it was.

`State.SameBut e l s t` says that `s` and `t` are alike once `e` has erased what may differ, and that their registers differ only at the
places of the fields `l`. As with `State.Keeps`, the rule of an operation reads `SameBut e l s t → SameBut e l s (t.op …)`. -/

namespace Sys2Proof.Machine

/-! ### States alike but for what is erased -/

/-- The registers of `s` and `t` differ only at the places of the fields `l`. -/
def State.RegsBut (l : List Field) (s t : State) : Prop :=
  ∀ k, k % 2 ^ 64 ∉ l.map Field.slot → sget? t.regs k = sget? s.regs k

/-- `s` and `t` are alike once `e` has erased what may differ, and their registers differ only at the places of the fields `l`. -/
structure State.SameBut (e : State → State) (l : List Field) (s t : State) : Prop where
  rest : e t = e s
  regs : State.RegsBut l s t

theorem Field.key_mod (f : Field) (i : Nat) : f.key i % 2 ^ 64 = f.slot % 2 ^ 64 := by
  simp [Field.key]

theorem sget?_sset_other {α : Type} [DecidableEq α] (d : α) (m : Sparse α) {i j : Nat} (v : α) (h : j ≠ i) :
    sget? (sset d m i v) j = sget? m j := by
  unfold sset
  split
  · simp [sget?_sdel, h]
  · simp [sget?_sput, h]

theorem State.RegsBut.rdAt_eq {l : List Field} {s t : State} (h : State.RegsBut l s t) (f : Field) (i : Nat)
    (hf : f.slot % 2 ^ 64 ∉ l.map Field.slot := by decide) : t.rdAt f i = s.rdAt f i := by
  rw [State.rdAt, State.rdAt, sget, sget, h _ (by rwa [Field.key_mod])]

section
variable {e : State → State} {l : List Field} {s t u : State}

theorem State.SameBut.refl (e : State → State) (l : List Field) (s : State) : State.SameBut e l s s := ⟨rfl, fun _ _ => rfl⟩

/-- A change that `e` erases and that is none of the registers. -/
theorem State.SameBut.frame (h : State.SameBut e l s t) (he : e u = e t := by rfl) (hr : u.regs = t.regs := by rfl) :
    State.SameBut e l s u :=
  ⟨he.trans h.rest, fun k hk => hr ▸ h.regs k hk⟩

theorem State.SameBut.wrAt (h : State.SameBut e l s t) {f : Field} {i v : Nat} (he : e (t.wrAt f i v) = e t := by rfl)
    (hf : f.slot % 2 ^ 64 ∈ l.map Field.slot := by decide) : State.SameBut e l s (t.wrAt f i v) := by
  refine ⟨he.trans h.rest, fun k hk => ?_⟩
  have hkey : k ≠ f.key i := by
    rintro rfl
    exact hk (by rwa [Field.key_mod])
  exact (sget?_sset_other _ _ _ hkey).trans (h.regs k hk)

theorem State.SameBut.ite {c : Prop} [Decidable c] (h : State.SameBut e l s t) (k : State.SameBut e l s u) :
    State.SameBut e l s (if c then t else u) := by
  split <;> assumption

theorem State.SameBut.foldl {α : Type} {xs : List α} {f : State → α → State} (h : State.SameBut e l s t)
    (hf : ∀ u x, State.SameBut e l s u → State.SameBut e l s (f u x)) : State.SameBut e l s (xs.foldl f t) := by
  induction xs generalizing t with
  | nil => exact h
  | cons x xs ih => exact ih (hf t x h)

/-- A relation that erases more, and whose registers may differ at more places. -/
theorem State.SameBut.mono {e' : State → State} {l' : List Field} (h : State.SameBut e l s t) (he : ∀ a b, e a = e b → e' a = e' b)
    (hl : ∀ k ∈ l.map Field.slot, k ∈ l'.map Field.slot := by decide) : State.SameBut e' l' s t :=
  ⟨he _ _ h.rest, fun k hk => h.regs k fun hm => hk (hl _ hm)⟩

theorem State.SameBut.trans (h : State.SameBut e l s t) (k : State.SameBut e l t u) : State.SameBut e l s u :=
  ⟨k.rest.trans h.rest, fun x hx => (k.regs x hx).trans (h.regs x hx)⟩

end

/-! ### Memory as any engine reaches it -/

/-- What a byte of memory reads follows from the memories, the stand-ins and the core map. -/
theorem sameMemory_of_eq {s t : State} (hm : t.mem = s.mem) (hs : t.sched.standin = s.sched.standin)
    (hp : ∀ n, t.rdAt F.MOD_CORE_MAP_phys_core n = s.rdAt F.MOD_CORE_MAP_phys_core n) : sameMemory s t := by
  intro a
  simp only [State.peek, State.phys, hm, hs, hp]

theorem sameMemory.refl (s : State) : sameMemory s s := fun _ => rfl

theorem sameMemory.trans {s t u : State} (h : sameMemory s t) (k : sameMemory t u) : sameMemory s u := fun a => (k a).trans (h a)

theorem sameMemory.foldl {α : Type} {s t : State} {xs : List α} {f : State → α → State} (h : sameMemory s t)
    (hf : ∀ u x, sameMemory s u → sameMemory s (f u x)) : sameMemory s (xs.foldl f t) := by
  induction xs generalizing t with
  | nil => exact h
  | cons x xs ih => exact ih (hf t x h)

theorem sameMemory_wrAt (s : State) (f : Field) (i v : Nat) (hf : f.slot < 2 ^ 64 := by decide)
    (hne : F.MOD_CORE_MAP_phys_core.slot ≠ f.slot := by decide) : sameMemory s (s.wrAt f i v) :=
  sameMemory_of_eq rfl rfl fun n => s.rdAt_wrAt_other f _ i n v (Field.key_ne_of_slot _ _ _ _ (by decide) hf hne)

theorem sameMemory.ite {c : Prop} [Decidable c] {s t u : State} (h : sameMemory s t) (k : sameMemory s u) :
    sameMemory s (if c then t else u) := by
  split <;> assumption

/-- Where neither memories nor stand-ins are erased, nor the core map is written, every byte of memory reads as before. -/
theorem State.SameBut.memory {e : State → State} {l : List Field} {s t : State} (h : State.SameBut e l s t)
    (he : ∀ a b, e a = e b → a.mem = b.mem ∧ a.sched.standin = b.sched.standin := by
      exact fun _ _ hab => ⟨(congrArg State.mem hab :), (congrArg (fun x : State => x.sched.standin) hab :)⟩)
    (hl : F.MOD_CORE_MAP_phys_core.slot % 2 ^ 64 ∉ l.map Field.slot := by decide) : sameMemory s t :=
  sameMemory_of_eq (he _ _ h.rest).1 (he _ _ h.rest).2 fun n => h.regs.rdAt_eq _ n hl

/-! ### Carrying a flit (R263 to R267, R292, R294) -/

/-- The state without what carrying a flit changes beside registers: the outbox, draws, the links, and the router's flows and hot outputs. -/
def State.sansCarry (s : State) : State :=
  { s with regs := [], outbox := [], drawn := 0, links := {}, fab := { s.fab with flows := [], hot := [] } }

def carryFields : List Field := [F.PORT_STATUS_state, F.PORT_STATUS_lanes_up, F.FAB_NONMIN_FLITS_count, F.FAB_TX_FLITS_count]

/-- From `s` to `t` flits have been carried, and nothing else has happened. -/
abbrev State.Carries : State → State → Prop := State.SameBut State.sansCarry carryFields

section
variable {s t u : State}

theorem State.Carries.setPort (h : s.Carries t) {o : Nat} {p : PortSt} : s.Carries (t.setPort o p) := h.frame

theorem State.Carries.withLinks (h : s.Carries t) {links : LinksSt} : s.Carries { t with links } := h.frame

theorem State.Carries.noteHot (h : s.Carries t) {o : Nat} : s.Carries (t.noteHot o) := h.frame

theorem State.Carries.sendLink (h : s.Carries t) {o : Nat} {b : List Byte} : s.Carries (t.sendLink o b) := h.frame

theorem State.Carries.linkPut (h : s.Carries t) {o : Nat} {f : Flit} : s.Carries (t.linkPut o f) := h.frame

theorem State.Carries.leaveKeepalive (h : s.Carries t) {o : Nat} : s.Carries (t.leaveKeepalive o) := State.SameBut.wrAt (State.SameBut.wrAt h)

theorem State.Carries.grantPort {n o : Nat} (h : s.Carries t) : s.Carries (State.grantPort n t o) := by
  induction n generalizing t with
  | zero => exact h
  | succ n ih =>
    unfold State.grantPort
    split
    · split
      · exact ih (.linkPut (.setPort h))
      · exact h
    · exact h

theorem State.Carries.drainPort (h : s.Carries t) {o : Nat} : s.Carries (t.drainPort o) :=
  .noteHot (.grantPort h)

theorem State.Carries.portSend (h : s.Carries t) {o : Nat} {f : Flit} : s.Carries (t.portSend o f) :=
  .drainPort (.withLinks (.setPort (.ite (State.Carries.leaveKeepalive (.sendLink h)) h)))

theorem State.Carries.route (h : s.Carries t) {f : Flit} : s.Carries (t.route f) := by
  unfold State.route
  split
  · split
    · exact h.portSend
    · exact h
  · split
    · split
      · exact State.Carries.portSend h.frame
      · exact h
    · split
      · exact h
      · exact State.Carries.portSend (.ite (State.SameBut.wrAt h.frame) h.frame)

theorem State.Carries.emit (h : s.Carries t) {f : Flit} : s.Carries (t.emit f) := .route (.wrAt h)

theorem State.Carries.sendAck (h : s.Carries t) {src : Nat} {o : Bool} {x : RxSpace} {e n r : Nat} :
    s.Carries (t.sendAck src o x e n r) := .emit h

theorem State.Carries.rxSpace_eq (h : s.Carries t) (k : Nat) : t.rxSpace k = s.rxSpace k :=
  (congrArg (fun x : State => x.rxSpace k) h.rest :)

theorem State.Carries.later_eq (h : s.Carries t) : t.fab.later = s.fab.later := (congrArg (fun x : State => x.fab.later) h.rest :)

theorem State.Carries.txSpace_eq (h : s.Carries t) (k : Nat) : t.txSpace k = s.txSpace k :=
  (congrArg (fun x : State => x.txSpace k) h.rest :)

end

end Sys2Proof.Machine
end

section
/-! PROOFS. Reception (R19, R187, R261, R262, R265): what becomes of an arriving flit, one equation per case. -/

namespace Sys2Proof.Machine

/-! ### Numbers and the order of attempts (R6, R261, R262) -/

theorem newer32_self (a : Nat) : newer32 a a = false := by
  have h : (a + 2 ^ 32 - a % 2 ^ 32) % 2 ^ 32 = 0 := by omega
  simp only [newer32, h]
  rfl

theorem newer16_iff (b a : Nat) :
    newer16 b a = true ↔ 1 ≤ (b + 2 ^ 16 - a % 2 ^ 16) % 2 ^ 16 ∧ (b + 2 ^ 16 - a % 2 ^ 16) % 2 ^ 16 < 2 ^ 15 := by
  simp only [newer16, Bool.and_eq_true, decide_eq_true_eq]

theorem RxSpace.has_iff (x : RxSpace) (q : Nat) : x.has q = true ↔ newer16 x.next q = true ∨ q ∈ x.above := by
  simp only [RxSpace.has, Bool.or_eq_true, List.contains_iff_mem]

theorem Attempt.before_self (a : Attempt) : a.before a = false := by
  simp [Attempt.before, newer32_self]

/-- `n` is at least 1 and at most `bound` past `q`, modulo 2^16. -/
def pastBy (n q bound : Nat) : Prop := 1 ≤ (n + 2 ^ 16 - q % 2 ^ 16) % 2 ^ 16 ∧ (n + 2 ^ 16 - q % 2 ^ 16) % 2 ^ 16 ≤ bound

/-- A number that is kept above, or that the space has just passed, is still accepted after any advance of fewer than 2^14 numbers. -/
theorem RxSpace.has_advance {q : Nat} : ∀ (n : Nat) (x : RxSpace), n < 2 ^ 14 → (q ∈ x.above ∨ pastBy x.next q (2 ^ 14 - n)) →
    (RxSpace.advance n x).has q = true := by
  intro n
  induction n with
  | zero =>
    rintro x - (habove | ⟨hlow, hhigh⟩)
    · exact (x.has_iff q).2 (.inr habove)
    · exact (x.has_iff q).2 (.inl ((newer16_iff _ _).2 ⟨hlow, by omega⟩))
  | succ n ih =>
    intro x hn hx
    unfold RxSpace.advance
    split
    next =>
      refine ih _ (by omega) ?_
      by_cases hq : x.next = q
      · refine .inr ?_
        simp only [pastBy, hq]
        omega
      · rcases hx with habove | ⟨hlow, hhigh⟩
        · exact .inl ((List.mem_erase_of_ne (Ne.symm hq)).2 habove)
        · refine .inr ?_
          simp only [pastBy]
          omega
    next =>
      rcases hx with habove | ⟨hlow, hhigh⟩
      · exact (x.has_iff q).2 (.inr habove)
      · exact (x.has_iff q).2 (.inl ((newer16_iff _ _).2 ⟨hlow, by omega⟩))

/-! ### Accepting a number (R262, R265) -/

/-- A space that owes one acknowledgement more. -/
def RxSpace.owing (x : RxSpace) (tick : Nat) : RxSpace :=
  { x with owed := x.owed + 1, owedSince := if x.owed = 0 then tick else x.owedSince }

theorem RxSpace.accept_of_has {x : RxSpace} {q : Nat} (ordered : Bool) (tick : Nat) (h : x.has q = true) :
    x.accept ordered q tick = some (x.owing tick, true) := by
  simp [RxSpace.accept, h, RxSpace.owing]

theorem RxSpace.accept_out_of_order {x : RxSpace} {q : Nat} (tick : Nat) (h : x.has q = false) (hq : q ≠ x.next) :
    x.accept true q tick = none := by
  simp [RxSpace.accept, h, hq]

theorem RxSpace.accept_in_order {x : RxSpace} {q : Nat} (tick : Nat) (h : x.has q = false) (hq : q = x.next) :
    x.accept true q tick = some (RxSpace.owing { x with next := (q + 1) % 2 ^ 16 } tick, false) := by
  simp only [RxSpace.accept, h, ← hq]
  rfl

theorem RxSpace.accept_unordered {x : RxSpace} {q : Nat} (tick : Nat) (h : x.has q = false) :
    x.accept false q tick = some ((RxSpace.advance 4096 { x with above := x.above ++ [q] }).owing tick, false) := by
  simp only [RxSpace.accept, h]
  rfl

/-! ### The state in which a flit of the job is looked at -/

/-- The flit is counted, and its source has been heard (R352). -/
abbrev State.hearFlit (s : State) (f : Flit) : State := (s.add F.FAB_RX_FLITS_count 1).hear f.srcModule

/-- The state without what receiving a flit changes beside registers. -/
def State.sansReceive (s : State) : State :=
  { s.sansCarry with job := { s.job with heard := [] }, fab := { s.sansCarry.fab with rx := [], later := [] } }

def receiveFields : List Field := F.FAB_RX_FLITS_count :: carryFields

/-- From `s` to `t` a flit has been looked at. -/
abbrev State.Receives : State → State → Prop := State.SameBut State.sansReceive receiveFields

theorem State.Carries.receives {s t : State} (h : s.Carries t) : s.Receives t :=
  h.mono fun a b hab => (congrArg (fun x : State =>
    { x with job := { x.job with heard := [] }, fab := { x.fab with rx := [], later := [] } }) hab :)

section
variable {s t : State}

theorem State.Receives.hear (h : s.Receives t) {m : Nat} : s.Receives (t.hear m) := .ite h.frame h

theorem State.Receives.setRx (h : s.Receives t) {k : Nat} {x : RxSpace} : s.Receives (t.setRx k x) := h.frame

theorem State.Receives.sendAck (h : s.Receives t) {m : Nat} {o : Bool} {x : RxSpace} {e n r : Nat} :
    s.Receives (t.sendAck m o x e n r) :=
  h.trans (State.Carries.receives (.sendAck (.refl _ _ _)))

theorem State.Receives.putRx (h : s.Receives t) {later : Bool} {m : Nat} {o : Bool} {x : RxSpace} {e n r : Nat} :
    s.Receives (t.putRx later m o x e n r) :=
  .ite (State.Receives.sendAck (.ite h.frame h.setRx)) (.ite h.frame h.setRx)

theorem State.Receives.attempt_eq (h : s.Receives t) : t.attempt = s.attempt := by
  simp only [State.attempt, State.nextInstar, State.instar, State.replay, State.rd]
  rw [h.regs.rdAt_eq F.MOD_INSTAR_instar, h.regs.rdAt_eq F.MOD_STEP_replay_count]

theorem State.Receives.flitAttempt_eq (h : s.Receives t) (f : Flit) : t.flitAttempt f = s.flitAttempt f := by
  simp only [State.flitAttempt, State.nextInstar, State.instar, State.rd]
  rw [h.regs.rdAt_eq F.MOD_INSTAR_instar]

theorem State.Receives.epoch_eq (h : s.Receives t) : t.epoch = s.epoch := h.regs.rdAt_eq _ _

theorem State.Receives.live_eq (h : s.Receives t) : t.live = s.live := (congrArg State.live h.rest :)

theorem State.Receives.inJob_eq (h : s.Receives t) (f : Flit) : t.inJob f = s.inJob f := by
  have hactive : t.job.active = s.job.active := (congrArg (fun x : State => x.job.active) h.rest :)
  have hid : t.jobId = s.jobId := h.regs.rdAt_eq _ _
  simp only [State.inJob, hactive, hid]

end

theorem State.add_receives (s : State) : s.Receives (s.add F.FAB_RX_FLITS_count 1) := .wrAt (.refl _ _ _)

theorem State.hearFlit_receives (s : State) (f : Flit) : s.Receives (s.hearFlit f) := s.add_receives.hear

theorem State.hearFlit_fab (s : State) (f : Flit) : (s.hearFlit f).fab = s.fab := by
  unfold State.hearFlit State.hear
  split <;> rfl

/-! What is asked of a flit's job, epoch, attempt and number has the same answer in the state in which it has been counted. -/

@[simp] theorem State.inJob_add (s : State) (f : Flit) : (s.add F.FAB_RX_FLITS_count 1).inJob f = s.inJob f :=
  s.add_receives.inJob_eq f

@[simp] theorem State.epoch_add (s : State) : (s.add F.FAB_RX_FLITS_count 1).epoch = s.epoch := s.add_receives.epoch_eq

@[simp] theorem State.epoch_hearFlit (s : State) (f : Flit) : (s.hearFlit f).epoch = s.epoch := (s.hearFlit_receives f).epoch_eq

@[simp] theorem State.attempt_hearFlit (s : State) (f : Flit) : (s.hearFlit f).attempt = s.attempt :=
  (s.hearFlit_receives f).attempt_eq

@[simp] theorem State.flitAttempt_hearFlit (s : State) (f : Flit) : (s.hearFlit f).flitAttempt f = s.flitAttempt f :=
  (s.hearFlit_receives f).flitAttempt_eq f

@[simp] theorem State.live_hearFlit (s : State) (f : Flit) : (s.hearFlit f).live = s.live := (s.hearFlit_receives f).live_eq

@[simp] theorem State.rxSpace_hearFlit (s : State) (f : Flit) (k : Nat) : (s.hearFlit f).rxSpace k = s.rxSpace k := by
  rw [State.rxSpace, s.hearFlit_fab, State.rxSpace]

@[simp] theorem State.laterRx_hearFlit (s : State) (f : Flit) (k e : Nat) (a : Attempt) :
    (s.hearFlit f).laterRx k e a = s.laterRx k e a := by
  rw [State.laterRx, s.hearFlit_fab]
  rfl

@[simp] theorem State.ended_hearFlit (s : State) (f : Flit) (k e : Nat) (a : Attempt) :
    (s.hearFlit f).ended k e a = s.ended k e a := by
  rw [State.ended, s.hearFlit_fab]
  rfl

theorem State.rd_dropped (s : State) (f : Field) : (s.dropped f).rd f = min (s.rd f + 1) (2 ^ f.width - 1) :=
  s.rdAt_addSatAt_same f 0 1

/-- The number of drops of a kind, one of FAB_DROP, after a flit has been looked at and dropped. -/
theorem State.Receives.dropped {s t : State} (h : s.Receives t) (f : Field) (hf : f.slot % 2 ^ 64 ∉ receiveFields.map Field.slot := by decide)
    (hlt : f.slot < 2 ^ 64 := by decide) (hne : F.MOD_CORE_MAP_phys_core.slot ≠ f.slot := by decide) :
    sameMemory s (t.dropped f) ∧ (t.dropped f).rd f = min (s.rd f + 1) (2 ^ f.width - 1) :=
  ⟨h.memory.trans (sameMemory_wrAt _ _ _ _ hlt hne), by rw [State.rd_dropped, State.rd, h.regs.rdAt_eq f 0 hf, State.rd]⟩

/-! ### The cases of reception -/

section
variable {s : State} {f : Flit}

theorem State.receive_of_not_alive (h : s.alive = false) : s.receive f = .drop s := by
  simp [State.receive, h]

theorem State.receive_transit (h : s.alive = true) (hdst : f.dstModule ≠ s.self) :
    s.receive f = .drop ((s.add F.FAB_TRANSIT_FLITS_count 1).route { f with hops := f.hops + 1 }) := by
  simp [State.receive, h, hdst]

theorem State.receive_foreign (h : s.alive = true) (hdst : f.dstModule = s.self) (hjob : s.inJob f = false) :
    s.receive f = .drop ((s.add F.FAB_RX_FLITS_count 1).dropped F.FAB_DROP_foreign_job) := by
  simp [State.receive, h, hdst, s.add_receives.inJob_eq f, hjob]

theorem State.receive_oldEpoch (h : s.alive = true) (hdst : f.dstModule = s.self) (hjob : s.inJob f = true)
    (hepoch : newer32 s.epoch (extend16 32 s.epoch f.epoch) = true) :
    s.receive f = .drop ((s.hearFlit f).dropped F.FAB_DROP_old_epoch) := by
  simp [State.receive, h, hdst, hjob, hepoch]

theorem State.receive_oldAttempt (h : ofJob s f) (hold : (s.flitAttempt f).before s.attempt = true) :
    s.receive f = .drop ((s.hearFlit f).dropped F.FAB_DROP_old_attempt) := by
  obtain ⟨halive, hdst, hjob, hepoch⟩ := h
  simp [State.receive, halive, hdst, hjob, hepoch, hold]

theorem State.receive_current (h : ofAttempt s f) :
    s.receive f = (s.hearFlit f).checkSeq f false (s.rxSpace (spaceKey f.srcModule f.ordered))
      (fun t => if s.live || !waitsOpen f then .take t else .hold t) := by
  obtain ⟨⟨halive, hdst, hjob, hepoch⟩, hnew, hattempt⟩ := h
  simp [State.receive, halive, hdst, hjob, hepoch, hnew, hattempt, Attempt.before_self]

theorem State.receive_later (h : ofJob s f) (hold : (s.flitAttempt f).before s.attempt = false)
    (hlater : s.attempt.before (s.flitAttempt f) = true)
    (hended : s.ended (spaceKey f.srcModule f.ordered) (extend16 32 s.epoch f.epoch) (s.flitAttempt f) = false) :
    s.receive f = (s.hearFlit f).checkSeq f true
      (s.laterRx (spaceKey f.srcModule f.ordered) (extend16 32 s.epoch f.epoch) (s.flitAttempt f))
      (fun t => if attemptFree f then .take t else .hold t) := by
  obtain ⟨halive, hdst, hjob, hepoch⟩ := h
  simp [State.receive, halive, hdst, hjob, hepoch, hold, hlater, hended]

end

/-! ### Checking a number -/

section
variable {s t : State} {f : Flit} {x : RxSpace} {later : Bool} {next : State → Verdict}

theorem State.checkSeq_duplicate (hx : x.has f.seq = true) : s.checkSeq f later x next =
    .drop ((s.putRx later f.srcModule f.ordered (x.owing s.tick) f.epoch f.step f.replay).dropped F.FAB_DROP_duplicate) := by
  rw [State.checkSeq, RxSpace.accept_of_has f.ordered s.tick hx]
  rfl

theorem State.checkSeq_out_of_order (ho : f.ordered = true) (hx : x.has f.seq = false) (hq : f.seq ≠ x.next) :
    s.checkSeq f later x next = .drop s := by
  rw [State.checkSeq, ho, RxSpace.accept_out_of_order s.tick hx hq]

/-- The space put back reads as it was put, but for the acknowledgements owed. -/
theorem State.rxSpace_putRx (s : State) (m : Nat) (o : Bool) (x : RxSpace) (e n r : Nat) :
    ∃ owed, (s.putRx false m o x e n r).rxSpace (spaceKey m o) = { x with owed := owed } := by
  by_cases hfull : 16 ≤ x.owed
  · refine ⟨0, ?_⟩
    simp only [State.putRx, hfull, decide_true, if_true, Bool.false_eq_true, if_false]
    rw [State.Carries.rxSpace_eq (.sendAck (.refl _ _ _))]
    simp [State.rxSpace, State.setRx]
  · refine ⟨x.owed, ?_⟩
    simp [State.putRx, hfull, State.rxSpace, State.setRx]

/-- So does the space of a later attempt, and the spaces of the current one stay. -/
theorem State.later_putRx (s : State) (m : Nat) (o : Bool) (x : RxSpace) (e n r : Nat) :
    (∃ owed, sget {} (s.putRx true m o x e n r).fab.later (spaceKey m o) = { x with owed := owed }) ∧
      ∀ k, (s.putRx true m o x e n r).rxSpace k = s.rxSpace k := by
  by_cases hfull : 16 ≤ x.owed
  · simp only [State.putRx, hfull, decide_true, if_true]
    refine ⟨⟨0, ?_⟩, fun k => ?_⟩
    · rw [State.Carries.later_eq (.sendAck (.refl _ _ _))]
      simp
    · rw [State.Carries.rxSpace_eq (.sendAck (.refl _ _ _))]
      rfl
  · simp only [State.putRx, hfull, decide_false, Bool.false_eq_true, if_false, if_true]
    exact ⟨⟨x.owed, by simp⟩, fun k => rfl⟩

/-- The next number in order is accepted: the space expects the one after it. -/
theorem State.checkSeq_in_order (ho : f.ordered = true) (hx : x.has f.seq = false) (hq : f.seq = x.next) :
    ∃ t, s.Receives t ∧ s.checkSeq f false x next = next t ∧
      (t.rxSpace (spaceKey f.srcModule true)).next = (f.seq + 1) % 2 ^ 16 := by
  obtain ⟨owed, hput⟩ := s.rxSpace_putRx f.srcModule true (RxSpace.owing { x with next := (f.seq + 1) % 2 ^ 16 } s.tick)
    f.epoch f.step f.replay
  refine ⟨_, .putRx (.refl _ _ s), ?_, congrArg RxSpace.next hput⟩
  rw [State.checkSeq, ho, RxSpace.accept_in_order s.tick hx hq]
  rfl

/-- An unordered number not yet accepted is accepted. -/
theorem State.checkSeq_unordered (ho : f.ordered = false) (hx : x.has f.seq = false) :
    ∃ t, s.Receives t ∧ s.checkSeq f false x next = next t ∧ (t.rxSpace (spaceKey f.srcModule false)).has f.seq = true := by
  obtain ⟨owed, hput⟩ := s.rxSpace_putRx f.srcModule false
    ((RxSpace.advance 4096 { x with above := x.above ++ [f.seq] }).owing s.tick) f.epoch f.step f.replay
  refine ⟨_, .putRx (.refl _ _ s), ?_, (congrArg (fun y => RxSpace.has y f.seq) hput).trans ?_⟩
  · rw [State.checkSeq, ho, RxSpace.accept_unordered s.tick hx]
    rfl
  · exact RxSpace.has_advance 4096 { x with above := x.above ++ [f.seq] } (by norm_num) (.inl (by simp))

/-- The next number in order of a later attempt is accepted in that attempt's space, and the spaces of the current attempt stay. -/
theorem State.checkSeq_later_in_order (ho : f.ordered = true) (hx : x.has f.seq = false) (hq : f.seq = x.next) :
    ∃ t, s.Receives t ∧ s.checkSeq f true x next = next t ∧ (∀ k, t.rxSpace k = s.rxSpace k) ∧
      (sget {} t.fab.later (spaceKey f.srcModule true)).next = (f.seq + 1) % 2 ^ 16 := by
  obtain ⟨⟨owed, hput⟩, hrx⟩ := s.later_putRx f.srcModule true (RxSpace.owing { x with next := (f.seq + 1) % 2 ^ 16 } s.tick)
    f.epoch f.step f.replay
  refine ⟨_, .putRx (.refl _ _ s), ?_, hrx, congrArg RxSpace.next hput⟩
  rw [State.checkSeq, ho, RxSpace.accept_in_order s.tick hx hq]
  rfl

end

end Sys2Proof.Machine
end

section
/-! PROOFS. What taken flits do (R18, R164, R185 to R187, R192, R262): rules of storing, sending, the queues and the counters. -/

namespace Sys2Proof.Machine

/-! ### Taking a flit -/

theorem takes.onFlit {s u : State} {f : Flit} {ty : FlitType} (h : takes s f ty u) (act : State → State) :
    s.onFlit f ty act = act u := by
  obtain ⟨harrives, hcrc, hreceive⟩ := h
  simp [State.onFlit, harrives, State.linkCheck, hcrc, hreceive]

theorem takes.onFlitOr {s u : State} {f : Flit} {ty : FlitType} (h : takes s f ty u) {wait : State → Option State}
    (hwait : wait (s.linkTake f.port) = none) (act : State → State) : s.onFlitOr f ty wait act = act u := by
  obtain ⟨harrives, hcrc, hreceive⟩ := h
  simp [State.onFlitOr, harrives, State.linkCheck, hcrc, hreceive, hwait]

/-! ### Storing bytes in HBM (R170) -/

theorem State.peek_setPoison (s : State) (a : Nat) (v : Bool) : sameMemory s (s.setPoison a v) := by
  intro b
  unfold State.setPoison
  split <;> rfl

theorem State.peek_of_hbm (s : State) {a : Nat} (h : a < 0xB800000000) : s.peek a = s.mem.hbm.read a := by
  simp [State.peek, place, h]

theorem State.poke_of_hbm (s : State) {a : Nat} (b : Byte) (h : a < 0xB800000000) :
    s.poke a b = { s with mem := { s.mem with hbm := s.mem.hbm.write a b } } := by
  simp [State.poke, place, h]

theorem State.peek_poke_same (s : State) {a : Nat} (b : Byte) (h : a < 0xB800000000) : (s.poke a b).peek a = b := by
  rw [State.peek_of_hbm _ h, s.poke_of_hbm b h, Image.read_write_same]

/-- A place of the HBM image is read at its own address alone. -/
theorem place_eq_hbm_iff {c x : Nat} (h : place c = .hbm x ∨ place c = .carve x) : x = c := by
  unfold place at h
  split_ifs at h <;> simp_all

theorem State.peek_poke_other (s : State) {a c : Nat} (b : Byte) (h : a < 0xB800000000) (hc : c ≠ a) :
    (s.poke a b).peek c = s.peek c := by
  rw [s.poke_of_hbm b h]
  unfold State.peek
  split
  next x hx =>
    obtain rfl := place_eq_hbm_iff (.inl hx)
    exact Image.read_write_other _ b hc
  next x hx =>
    obtain rfl := place_eq_hbm_iff (.inr hx)
    exact Image.read_write_other _ b hc
  all_goals rfl

theorem State.peek_storeRaw_outside (bs : List Byte) : ∀ (s : State) (a c : Nat), a + bs.length ≤ 0xB800000000 →
    (c < a ∨ a + bs.length ≤ c) → (s.storeRaw a bs).peek c = s.peek c := by
  induction bs with
  | nil => intro s a c _ _; rfl
  | cons b bs ih =>
    intro s a c hlen hc
    simp only [List.length_cons] at hlen hc
    rw [State.storeRaw, ih _ _ _ (by omega) (by omega), State.peek_poke_other s b (by omega) (by omega)]

theorem State.peek_storeRaw_inside (bs : List Byte) : ∀ (s : State) (a k : Nat), a + bs.length ≤ 0xB800000000 →
    (hk : k < bs.length) → (s.storeRaw a bs).peek (a + k) = bs[k] := by
  induction bs with
  | nil => intro s a k _ hk; exact absurd hk (Nat.not_lt_zero k)
  | cons b bs ih =>
    intro s a k hlen hk
    simp only [List.length_cons] at hlen hk
    rw [State.storeRaw]
    cases k with
    | zero =>
      have hrest := State.peek_storeRaw_outside bs (s.poke a b) (a + 1) a (by omega) (by omega)
      exact hrest.trans (s.peek_poke_same b (by omega))
    | succ k =>
      have hstep := ih (s.poke a b) (a + 1) k (by omega) (by omega)
      rwa [Nat.add_assoc, Nat.add_comm 1 k] at hstep

/-- Poison marks aside, marked bytes are stored as they are. -/
theorem State.storeMarked_memory (s : State) (a : Nat) (bs : List (Byte × Bool)) :
    sameMemory (s.storeRaw a (bs.map Prod.fst)) (s.storeMarked a bs) :=
  .foldl (.foldl (.refl _) fun u _ hu => .ite (hu.trans (u.peek_setPoison _ _)) hu)
    fun u _ hu => .ite (hu.trans (u.peek_setPoison _ _)) hu

theorem State.loadN_storeMarked (s : State) {a : Nat} {bs : List (Byte × Bool)} (h : a + bs.length ≤ 0xB800000000) :
    (s.storeMarked a bs).loadN a bs.length = bs.map Prod.fst := by
  refine List.ext_getElem (by simp [State.loadN]) fun k hk hk' => ?_
  have hlen : (bs.map Prod.fst).length = bs.length := List.length_map ..
  simp only [State.loadN, List.getElem_map, List.getElem_range]
  rw [s.storeMarked_memory a bs, State.peek_storeRaw_inside _ _ _ _ (by omega) hk', List.getElem_map]

theorem State.peek_storeMarked_outside (s : State) {a c : Nat} {bs : List (Byte × Bool)} (h : a + bs.length ≤ 0xB800000000)
    (hc : c < a ∨ a + bs.length ≤ c) : (s.storeMarked a bs).peek c = s.peek c := by
  have hlen : (bs.map Prod.fst).length = bs.length := List.length_map ..
  rw [s.storeMarked_memory a bs, State.peek_storeRaw_outside _ _ _ _ (by omega) (by omega)]

/-! ### The bytes of a flit -/

theorem flitBytes_fst (f : Flit) : (flitBytes f).map Prod.fst = f.payload := by
  simp only [flitBytes, List.map_map, Function.comp_def]
  exact List.zipIdx_map_fst ..

theorem flitBytes_length (f : Flit) : (flitBytes f).length = f.payload.length := by
  rw [← flitBytes_fst f, List.length_map]

theorem writeBytes_fst (f : Flit) : (writeBytes f).map Prod.fst = f.payload.take (wroteBytes f) := by
  rw [writeBytes, List.map_take, flitBytes_fst]

theorem writeBytes_length (f : Flit) : (writeBytes f).length = wroteBytes f := by
  simp only [writeBytes, List.length_take, flitBytes_length, wroteBytes]
  omega

theorem State.loadMarked_fst (s : State) (a n : Nat) : (s.loadMarked a n).map Prod.fst = s.loadN a n := by
  simp [State.loadMarked, State.loadN]

theorem State.mayWriteHbm_le {s : State} {g : Agent} {a n : Nat} (h : s.mayWriteHbm g a n = true) : a + n ≤ 0xB800000000 := by
  simp only [State.mayWriteHbm, inHbm, Bool.and_eq_true, decide_eq_true_eq] at h
  exact h.1.1

/-! ### Sending a flit (R262) -/

/-- The state without what sending a flit changes beside registers. -/
def State.sansSend (s : State) : State := { s.sansCarry with fab := { s.sansCarry.fab with tx := [] } }

/-- From `s` to `t` flits have been given to their sequence spaces and carried. -/
abbrev State.Sends : State → State → Prop := State.SameBut State.sansSend carryFields

theorem State.Carries.sends {s t : State} (h : s.Carries t) : s.Sends t :=
  h.mono fun _ _ hab => (congrArg (fun x : State => { x with fab := { x.fab with tx := [] } }) hab :)

theorem State.Sends.launch {s t : State} (h : s.Sends t) {k : Nat} {f : Flit} {tag : Nat} : s.Sends (t.launch k f tag) :=
  .trans (.frame h) (State.Carries.sends (.emit (.refl _ _ _)))

theorem State.Sends.sendFlit {s t : State} (h : s.Sends t) {f : Flit} {tag : Nat} : s.Sends (t.sendFlit f tag) :=
  .ite h.frame h.launch

/-- A flit sent is on its way, under whatever number. -/
theorem State.sendFlit_onItsWay (s : State) (f : Flit) (tag : Nat) (p : Flit → Prop) (hp : ∀ q, p { f with seq := q }) :
    onItsWay (s.sendFlit f tag) f.dstModule f.ordered p := by
  unfold onItsWay State.sendFlit
  split
  · exact ⟨⟨f, s.tick, 0, tag⟩, by simp [State.txSpace, State.setTx], hp f.seq⟩
  · unfold State.launch
    refine ⟨⟨{ f with seq := (s.txSpace (spaceKey f.dstModule f.ordered)).next }, s.tick, 1, tag⟩, ?_, hp _⟩
    rw [State.Carries.txSpace_eq (.emit (.refl _ _ _))]
    simp [State.txSpace, State.setTx]

/-- Data and error completions leave as READ_DATA under the context given (R18). -/
theorem State.sendData_onItsWay (s : State) (dst ctx : Nat) (bs : List (Byte × Bool)) : sameMemory s (s.sendData dst ctx bs) ∧
    onItsWay (s.sendData dst ctx bs) dst false
      (fun g => g.type = .readData ∧ g.dstAddr = ctx ∧ g.payload = granulePad (bs.map Prod.fst)) :=
  ⟨(State.Sends.sendFlit (.refl _ _ s)).memory, s.sendFlit_onItsWay _ 0 _ fun _ => ⟨rfl, rfl, rfl⟩⟩

theorem State.sendError_onItsWay (s : State) (dst ctx : Nat) : sameMemory s (s.sendError dst ctx) ∧
    onItsWay (s.sendError dst ctx) dst false
      (fun g => g.type = .readData ∧ g.dstAddr = 2 ^ 46 + ctx ∧ g.payload = granulePad []) :=
  ⟨(State.Sends.sendFlit (.refl _ _ s)).memory, s.sendFlit_onItsWay _ 0 _ fun _ => ⟨rfl, rfl, rfl⟩⟩

/-! ### WRITE and READ_REQ (R18, R164) -/

theorem State.onWrite_allowed {s : State} {f : Flit} (hmirror : s.toMirror f = false)
    (hmay : s.mayWriteHbm .dma (writeAddr f) (wroteBytes f) = true) : s.onWrite f = s.storeMarked (writeAddr f) (writeBytes f) := by
  simp [State.onWrite, hmirror, hmay]

theorem State.onWrite_refused {s : State} {f : Flit} (hmirror : s.toMirror f = false)
    (hmay : s.mayWriteHbm .dma (writeAddr f) (wroteBytes f) = false) (htiles : inTiles (writeAddr f) (wroteBytes f) = false) :
    s.onWrite f = s.sendError f.srcModule f.seq := by
  simp [State.onWrite, hmirror, hmay, htiles, State.refuseWrite]

theorem State.onReadReq_allowed {s : State} {f : Flit} (hkind : flitReadKind f = 0)
    (hmay : s.mayReadHbm .dma f.dstAddr (reqCount f) = true ∨ inTiles f.dstAddr (reqCount f) = true) :
    s.onReadReq f = s.sendData f.srcModule (reqContext f) (s.loadMarked f.dstAddr (reqCount f)) := by
  simp [State.onReadReq, hkind, hmay]

theorem State.onReadReq_refused {s : State} {f : Flit} (hkind : flitReadKind f = 0)
    (hmay : s.mayReadHbm .dma f.dstAddr (reqCount f) = false) (htiles : inTiles f.dstAddr (reqCount f) = false) :
    s.onReadReq f = s.sendError f.srcModule (2 ^ 16 + reqContext f / 2 ^ 36) := by
  simp [State.onReadReq, hkind, hmay, htiles]

/-- A write that the region rules allow stores its bytes and leaves every other byte. -/
theorem State.storeMarked_writeBytes {s : State} {f : Flit} (hmay : s.mayWriteHbm .dma (writeAddr f) (wroteBytes f) = true) :
    (s.storeMarked (writeAddr f) (writeBytes f)).loadN (writeAddr f) (wroteBytes f) = f.payload.take (wroteBytes f) ∧
      ∀ a, (a < writeAddr f ∨ writeAddr f + wroteBytes f ≤ a) → (s.storeMarked (writeAddr f) (writeBytes f)).peek a = s.peek a := by
  have hlen := writeBytes_length f
  have hhbm : writeAddr f + (writeBytes f).length ≤ 0xB800000000 := hlen ▸ State.mayWriteHbm_le hmay
  refine ⟨?_, fun a ha => s.peek_storeMarked_outside hhbm (hlen ▸ ha)⟩
  rw [← writeBytes_fst f, ← s.loadN_storeMarked hhbm, hlen]

/-! ### Data of a transfer (R144) -/

/-- One byte of a transfer's data arrives. -/
def Xfer.arrive (place : Nat) (y : Xfer) (p : (Byte × Bool) × Nat) : Xfer :=
  { y with got := sput y.got (place + p.2) p.1.1, gotPoison := sset false y.gotPoison (place + p.2) p.1.2 }

/-- Bytes that arrive one after the other from place `place + n` on are kept there, and what lies before them stays. -/
theorem Xfer.foldl_arrive (place : Nat) (bs : List (Byte × Bool)) : ∀ (n : Nat) (x : Xfer),
    ((bs.zipIdx n).foldl (Xfer.arrive place) x).id = x.id ∧ ((bs.zipIdx n).foldl (Xfer.arrive place) x).failed = x.failed ∧
      (∀ j, j < place + n → sget? ((bs.zipIdx n).foldl (Xfer.arrive place) x).got j = sget? x.got j) ∧
      ∀ k, (hk : k < bs.length) → sget? ((bs.zipIdx n).foldl (Xfer.arrive place) x).got (place + (n + k)) = some bs[k].1 := by
  induction bs with
  | nil => exact fun n x => ⟨rfl, rfl, fun _ _ => rfl, fun k hk => absurd hk (Nat.not_lt_zero k)⟩
  | cons b bs ih =>
    intro n x
    obtain ⟨hid, hfailed, hbefore, hat⟩ := ih (n + 1) (Xfer.arrive place x (b, n))
    simp only [List.zipIdx_cons, List.foldl_cons]
    refine ⟨hid, hfailed, fun j hj => ?_, fun k hk => ?_⟩
    · rw [hbefore j (by omega), Xfer.arrive, sget?_sput, if_neg (by omega)]
    · cases k with
      | zero => exact (hbefore (place + n) (by omega)).trans ((sget?_sput _ _ _ _).trans (if_pos rfl))
      | succ k =>
        have hnext := hat k (by simpa using hk)
        rwa [show n + 1 + k = n + (k + 1) by omega] at hnext

theorem State.xferData_memory (s : State) (ctx : Nat) (bs : List (Byte × Bool)) : sameMemory s (s.xferData ctx bs) := fun _ => rfl

/-- Each transfer that reads under the context holds the bytes that fall into its run, and is otherwise what it was. -/
theorem State.xferData_got (s : State) (f : Flit) {x : Xfer} (hx : x ∈ s.xfers) (hreads : s.readsUnder (f.dstAddr / 2 ^ 36) x = true) :
    ∃ y ∈ (s.xferData f.dstAddr (flitBytes f)).xfers, y.id = x.id ∧ y.failed = x.failed ∧
      ∀ k, k < f.payload.length →
        k < max 1 ((srcRuns x.words).headD (0, 1)).2 - f.dstAddr % 2 ^ 36 % max 1 ((srcRuns x.words).headD (0, 1)).2 →
        sget? y.got (f.dstAddr % 2 ^ 36 + k) = f.payload[k]? := by
  refine ⟨_, List.mem_map_of_mem hx, ?_⟩
  simp only [hreads, if_true]
  obtain ⟨hid, hfailed, -, hat⟩ := Xfer.foldl_arrive (f.dstAddr % 2 ^ 36) ((flitBytes f).take
    (max 1 ((srcRuns x.words).headD (0, 1)).2 - f.dstAddr % 2 ^ 36 % max 1 ((srcRuns x.words).headD (0, 1)).2)) 0 x
  refine ⟨hid, hfailed, fun k hk hrun => ?_⟩
  have hlen : k < ((flitBytes f).take
      (max 1 ((srcRuns x.words).headD (0, 1)).2 - f.dstAddr % 2 ^ 36 % max 1 ((srcRuns x.words).headD (0, 1)).2)).length := by
    rw [List.length_take, flitBytes_length]
    omega
  have hbyte : f.payload[k]? = some (((flitBytes f).map Prod.fst)[k]'(by rwa [flitBytes_fst])) := by
    simp only [flitBytes_fst, List.getElem?_eq_getElem hk]
  have hgot := hat k hlen
  rw [Nat.zero_add] at hgot
  rw [hbyte, List.getElem_map]
  exact hgot.trans (by rw [List.getElem_take])

theorem State.onReadData_xfer {s : State} {f : Flit} (h : f.dstAddr < 2 ^ 46) : s.onReadData f = s.xferData f.dstAddr (flitBytes f) := by
  simp only [State.onReadData, h, if_true]

/-- An error completion of a read names its transfer (R18). -/
theorem State.onReadData_readError {s : State} {f : Flit} {c : Nat} (hc : 2 ^ 16 + c < 2 ^ 46) (h : f.dstAddr = 2 ^ 46 + (2 ^ 16 + c)) :
    s.onReadData f = s.markFailed (s.readsUnder c) := by
  have hhigh : ¬ f.dstAddr < 2 ^ 46 := by omega
  have herror : f.dstAddr < 2 ^ 47 := by omega
  have hread : 2 ^ 16 ≤ f.dstAddr - 2 ^ 46 := by omega
  have hctx : f.dstAddr - 2 ^ 46 - 2 ^ 16 = c := by omega
  simp only [State.onReadData, hhigh, herror, hread, hctx, if_true, if_false]

/-- One of a write names the flit by its number, and the flit its transfer. -/
theorem State.onReadData_writeError {s : State} {f : Flit} {k : Nat} {w : TxFlit} (hk : k < 2 ^ 16) (h : f.dstAddr = 2 ^ 46 + k)
    (hw : (s.txSpace (spaceKey f.srcModule false)).unacked.find? (fun t => t.flit.seq == k) = some w) :
    s.onReadData f = s.markFailed (fun x => x.id == w.tag) := by
  have hhigh : ¬ f.dstAddr < 2 ^ 46 := by omega
  have herror : f.dstAddr < 2 ^ 47 := by omega
  have hwrite : ¬ 2 ^ 16 ≤ f.dstAddr - 2 ^ 46 := by omega
  have hnumber : f.dstAddr - 2 ^ 46 = k := by omega
  simp only [State.onReadData, hhigh, herror, hwrite, if_true, if_false]
  rw [hnumber, hw]

/-- No error completion touches a byte of memory. -/
theorem State.onReadData_error_memory {s : State} {f : Flit} (hlow : 2 ^ 46 ≤ f.dstAddr) (hhigh : f.dstAddr < 2 ^ 47) :
    sameMemory s (s.onReadData f) := by
  simp only [State.onReadData, Nat.not_lt.2 hlow, hhigh, if_true, if_false]
  refine .ite (fun _ => rfl) ?_
  split <;> exact fun _ => rfl

theorem State.mem_markFailed {s : State} {p : Xfer → Bool} {x : Xfer} (hx : x ∈ s.xfers) (hp : p x = true) :
    { x with failed := true } ∈ (s.markFailed p).xfers :=
  List.mem_map.2 ⟨x, hx, if_pos hp⟩

end Sys2Proof.Machine
end

section
/-! PROOFS. The queue that a QUEUE_ITEM enters (R180 to R187). -/

namespace Sys2Proof.Machine

@[simp] theorem State.queue_setQueue_same (s : State) (q : Nat) (x : Queue) : (s.setQueue q x).queue q = x := by
  simp [State.queue, State.setQueue]

@[simp] theorem State.queue_wrAt (s : State) (f : Field) (i v q : Nat) : (s.wrAt f i v).queue q = s.queue q := rfl

theorem closeLast_length (is : List Item) : (closeLast is).length = is.length := by
  induction is using closeLast.induct <;> simp_all [closeLast]

/-- Poisoning the last items, where it is done at all, leaves their number. -/
theorem length_ite_poisonLast (c : Prop) [Decidable c] (n : Nat) (is : List Item) :
    (if c then poisonLast n is else is).length = is.length := by
  split <;> simp [poisonLast]

/-- Storing an item appends it; the rest of the queue stays. -/
theorem State.queue_storeItem (s : State) (q : Nat) (i : Item) :
    (s.storeItem q i).queue q = { s.queue q with items := (s.queue q).items ++ [i] } :=
  State.queue_setQueue_same _ _ _

/-- So a queue of which only marks have changed has one item more after a store, and what waits at the router stays. -/
theorem State.queue_storeItem_length {s t : State} {q : Nat} (i : Item) (hitems : (t.queue q).items.length = (s.queue q).items.length)
    (hback : (t.queue q).backlog = (s.queue q).backlog) :
    ((t.storeItem q i).queue q).items.length = (s.queue q).items.length + 1 ∧
      ((t.storeItem q i).queue q).backlog = (s.queue q).backlog := by
  rw [State.queue_storeItem]
  exact ⟨by rw [List.length_append, hitems]; rfl, hback⟩

/-- A push that has room adds one item, and what waits at the router stays. -/
theorem State.pushItem_queue (s : State) (p : Producer) (q : Nat) (i : Item) :
    ((s.pushItem p q i).queue q).items.length = (s.queue q).items.length + 1 ∧
      ((s.pushItem p q i).queue q).backlog = (s.queue q).backlog := by
  unfold State.pushItem
  extract_lets j x mine last closed atStart _ long _ framed pushed continued y items alone
  split
  case isTrue =>
    have hclosed : (closed.queue q).items.length = x.items.length ∧ (closed.queue q).backlog = x.backlog := by
      simp only [closed]
      split <;> simp [closeLast_length, x]
    rw [State.queue_setQueue_same]
    exact State.queue_storeItem_length _ hclosed.1 hclosed.2
  case isFalse =>
    split
    case isTrue =>
      have hframed : framed.queue q = s.queue q := by
        simp only [framed]
        split <;> simp
      obtain ⟨hlength, hback⟩ : y.items.length = x.items.length + 1 ∧ y.backlog = x.backlog :=
        State.queue_storeItem_length pushed (by rw [hframed]) (by rw [hframed])
      rw [State.queue_setQueue_same]
      exact ⟨(length_ite_poisonLast _ _ _).trans hlength, hback⟩
    case isFalse =>
      have halone := State.queue_storeItem_length (s := s) (t := s) (q := q) j rfl rfl
      split
      · rw [State.queue_wrAt]
        exact halone
      · exact halone

theorem State.noteQueue_queue (s was : State) (q : Nat) : ((s.noteQueue q was).queue q).items = (s.queue q).items ∧
    ((s.noteQueue q was).queue q).backlog = (s.queue q).backlog := by
  unfold State.noteQueue
  dsimp only
  constructor <;> split_ifs <;> simp

theorem State.endFull_queue (s : State) (p : Producer) (q : Nat) : ((s.endFull p q).queue q).items = (s.queue q).items ∧
    ((s.endFull p q).queue q).backlog = (s.queue q).backlog := by
  unfold State.endFull
  dsimp only
  split <;> simp

/-- While it stalls on FULL, a producer waits and the queue's items stay. -/
theorem State.waitFull_queue (s : State) (p : Producer) (q : Nat) : ((s.waitFull p q).queue q).items = (s.queue q).items ∧
    ((s.waitFull p q).queue q).backlog = (s.queue q).backlog ∧ (s.waitFull p q).regs = s.regs := by
  unfold State.waitFull
  dsimp only
  split <;> simp

/-- Whether the queue is FULL for a producer does not depend on what waits at the router. -/
theorem State.fullFor_setBacklog (s : State) (p : Producer) (q : Nat) (is : List Item) :
    (s.setQueue q { s.queue q with backlog := is }).fullFor p q = s.fullFor p q := by
  have hcount : (s.setQueue q { s.queue q with backlog := is }).itemCount q = s.itemCount q := by simp [State.itemCount]
  have hfull : (s.setQueue q { s.queue q with backlog := is }).queueFull q = s.queueFull q := by
    rw [State.queueFull, hcount]
    rfl
  rw [State.fullFor, hfull, State.queue_setQueue_same, State.fullFor]

theorem State.hwPush_of_full {s : State} {p : Producer} {q : Nat} {i : Item} (h : s.fullFor p q = true) : s.hwPush p q i = none := by
  simp [State.hwPush, h]

/-- A hardware producer's push that has room adds one item, and what waits at the router stays. -/
theorem State.hwPush_of_room {s : State} {p : Producer} {q : Nat} {i : Item} (h : s.fullFor p q = false) :
    ∃ t, s.hwPush p q i = some t ∧ (t.queue q).items.length = (s.queue q).items.length + 1 ∧
      (t.queue q).backlog = (s.queue q).backlog := by
  obtain ⟨hpush, hpushBack⟩ := s.pushItem_queue p q i
  obtain ⟨hnote, hnoteBack⟩ := (s.pushItem p q i).noteQueue_queue s q
  obtain ⟨hend, hendBack⟩ := ((s.pushItem p q i).noteQueue q s).endFull_queue p q
  refine ⟨((s.pushItem p q i).noteQueue q s).endFull p q, by simp [State.hwPush, h], ?_, ?_⟩
  · rw [hend, hnote, hpush]
  · rw [hendBack, hnoteBack, hpushBack]

theorem State.deliverBacklog_of_push {s t : State} {q n : Nat} {i : Item} {is : List Item} (hback : (s.queue q).backlog = i :: is)
    (h : (s.setQueue q { s.queue q with backlog := is }).hwPush .router q i = some t) :
    State.deliverBacklog q (n + 1) s = State.deliverBacklog q n t := by
  simp [State.deliverBacklog, hback, h]

theorem State.deliverBacklog_of_full {s : State} {q n : Nat} {i : Item} {is : List Item} (hback : (s.queue q).backlog = i :: is)
    (h : (s.setQueue q { s.queue q with backlog := is }).hwPush .router q i = none) :
    State.deliverBacklog q (n + 1) s = s.waitFull .router q := by
  simp [State.deliverBacklog, hback, h]

/-- The item `i` stands at the router before queue `q`. -/
def State.atRouter (s : State) (q : Nat) (i : Item) : State := s.setQueue q { s.queue q with backlog := [i] }

theorem State.routerPush_eq {s : State} {q : Nat} (i : Item) (hback : (s.queue q).backlog = []) :
    s.routerPush q i = State.deliverBacklog q 1 (s.atRouter q i) := by
  simp [State.routerPush, State.atRouter, hback]

theorem State.atRouter_backlog (s : State) (q : Nat) (i : Item) : ((s.atRouter q i).queue q).backlog = [i] := by
  simp [State.atRouter]

/-- Taken from the router, the item leaves the queue as FULL as it was. -/
theorem State.fullFor_atRouter (s : State) (q : Nat) (i : Item) (p : Producer) :
    ((s.atRouter q i).setQueue q { (s.atRouter q i).queue q with backlog := [] }).fullFor p q = s.fullFor p q := by
  rw [State.fullFor_setBacklog, State.atRouter, State.fullFor_setBacklog]

/-- An item that the router delivers to a queue with room enters it. -/
theorem State.routerPush_of_room {s : State} {q : Nat} (i : Item) (hback : (s.queue q).backlog = [])
    (hroom : s.fullFor .router q = false) :
    ((s.routerPush q i).queue q).items.length = (s.queue q).items.length + 1 ∧ ((s.routerPush q i).queue q).backlog = [] := by
  obtain ⟨t, hpush, hitems, htback⟩ := State.hwPush_of_room (i := i) ((s.fullFor_atRouter q i .router).trans hroom)
  rw [State.routerPush_eq i hback, State.deliverBacklog_of_push (s.atRouter_backlog q i) hpush]
  exact ⟨hitems.trans (by simp [State.atRouter]), htback.trans (by simp)⟩

/-- One that it brings to a FULL queue waits there, and nothing is counted as discarded. -/
theorem State.routerPush_of_full {s : State} {q : Nat} (i : Item) (hback : (s.queue q).backlog = [])
    (hfull : s.fullFor .router q = true) :
    ((s.routerPush q i).queue q).items = (s.queue q).items ∧ ((s.routerPush q i).queue q).backlog = [i] ∧
      (s.routerPush q i).regs = s.regs := by
  obtain ⟨hitems, hwback, hregs⟩ := (s.atRouter q i).waitFull_queue .router q
  rw [State.routerPush_eq i hback, State.deliverBacklog_of_full (s.atRouter_backlog q i)
    (State.hwPush_of_full ((s.fullFor_atRouter q i .router).trans hfull))]
  exact ⟨hitems.trans (by simp [State.atRouter]), hwback.trans (s.atRouter_backlog q i), hregs⟩

/-! ### An item that is taken or held (R185, R187) -/

theorem State.onItem_unbound {s : State} {f : Flit} (now : Bool) (h : s.itemBound f = false) :
    s.onItem f now = s.foreignItem (itemQueue f) := by
  simp [State.onItem, h]

theorem State.onItem_now {s : State} {f : Flit} (h : s.itemBound f = true) :
    s.onItem f true = s.routerPush (itemQueue f) (itemOf f) := by
  simp [State.onItem, h]

theorem State.onItem_later {s : State} {f : Flit} (h : s.itemBound f = true) :
    s.onItem f false = s.setQueue (itemQueue f) { s.queue (itemQueue f) with
      held := (s.queue (itemQueue f)).held ++ [{ itemOf f with att := some (s.flitAttempt f) }] } := by
  simp [State.onItem, h]

theorem takes.execQueueItem {s u : State} {f : Flit} (h : takes s f .queueItem u) : execQueueItem f s = .next (u.onItem f true) := by
  obtain ⟨harrives, hcrc, hreceive⟩ := h
  simp [Machine.execQueueItem, harrives, State.linkCheck, hcrc, hreceive]

theorem execQueueItem_of_hold {s u : State} {f : Flit} (harrives : s.arrives f .queueItem = true)
    (hcrc : f.crc = flitCrc (s.port f.port).rx f) (hreceive : (s.linkTake f.port).receive f = .hold u) :
    execQueueItem f s = .next (u.onItem f false) := by
  simp [execQueueItem, harrives, State.linkCheck, hcrc, hreceive]

end Sys2Proof.Machine
end

section
/-! PROOFS. An ADD to a sync counter, and the waits it satisfies (R191 to R196). -/

namespace Sys2Proof.Machine

/-- The state without what the end of waits changes beside registers: the waiters, and the waits themselves. -/
def State.sansWaits (s : State) : State :=
  { s with regs := [], vec := [], rings := [], waits := [], stalled := [], sched := { s.sched with wings := [] } }

def waitFields : List Field := [F.SYN_STATUS_wrap, F.SYN_WAITS_peak]

/-- From `s` to `t` waits have ended, or have been registered, and nothing else has happened. -/
abbrev State.Wakes : State → State → Prop := State.SameBut State.sansWaits waitFields

section
variable {s t : State}

theorem State.Wakes.wake (h : s.Wakes t) {w : Waiter} {ok : Bool} {v : Nat} : s.Wakes (t.wake w ok v) := by
  cases w with
  | thread p k => exact h.frame
  | ring r => exact h.frame
  | wing n hw => exact h.frame
  | molt => exact h

theorem State.Wakes.register (h : s.Wakes t) {c target timeout : Nat} {w : Waiter} : s.Wakes (t.register c target timeout w) :=
  .ite h.wake (.ite h.wake (.wrAt h.frame))

theorem State.Wakes.admitStalled {n : Nat} (h : s.Wakes t) : s.Wakes (State.admitStalled n t) := by
  induction n generalizing t with
  | zero => exact h
  | succ n ih =>
    unfold State.admitStalled
    split
    · exact h
    · exact .ite (ih (State.Wakes.register h.frame)) h

theorem State.Wakes.satisfy (h : s.Wakes t) {n : Nat} : s.Wakes (t.satisfy n) :=
  .ite h (State.Wakes.admitStalled (State.SameBut.foldl h.frame fun _ _ hu => State.Wakes.wake hu))

end

theorem State.Wakes.counter_eq {s t : State} (h : s.Wakes t) (c : Nat) : t.counter c = s.counter c := h.regs.rdAt_eq _ c

/-- Writing a counter changes that counter alone. -/
theorem State.counter_wrAt (s : State) (n v c : Nat) :
    (s.wrAt F.SYN_VALUE_value n v).counter c = if c = n then v % 2 ^ 64 else s.counter c := by
  split
  next h =>
    subst h
    exact s.rdAt_wrAt_same F.SYN_VALUE_value c v
  next h => exact s.rdAt_wrAt_other _ _ _ _ _ (Field.key_ne _ h)

/-- An ADD changes its own counter alone, modulo 2^64, and no byte of memory. -/
theorem State.syncAdd_counter (s : State) (n v : Nat) : sameMemory s (s.syncAdd n v) ∧
    ∀ c, (s.syncAdd n v).counter c = if c = n then (s.counter c + v) % 2 ^ 64 else s.counter c := by
  let w := if 2 ^ 64 ≤ s.counter n + v % 2 ^ 64 then s.wrAt F.SYN_STATUS_wrap n 1 else s
  have hwrap : s.Wakes w := .ite (.wrAt (.refl _ _ _)) (.refl _ _ _)
  have hsatisfy : (w.wrAt F.SYN_VALUE_value n (s.counter n + v % 2 ^ 64)).Wakes (s.syncAdd n v) := State.Wakes.satisfy (.refl _ _ _)
  refine ⟨hwrap.memory.trans ((sameMemory_wrAt w _ _ _).trans hsatisfy.memory), fun c => ?_⟩
  rw [hsatisfy.counter_eq, State.counter_wrAt, hwrap.counter_eq, Nat.add_mod_mod]
  split
  next h => rw [h]
  next => rfl

end Sys2Proof.Machine
end

section
/-! PROOFS. The statements on the fabric. -/

open Sys2Proof Sys2Proof.Machine

/-- Settles O30: each clause is a case of `receive`, and the number checks are those of `RxSpace.accept`. -/
theorem receptionOfFlits : Obligations.ReceptionOfFlits := by
  intro s f
  refine ⟨State.receive_of_not_alive, fun halive hdst => ?transit, fun halive hdst hjob => ?foreign,
    fun halive hdst hjob hepoch => ?oldEpoch, fun hof hold => ?oldAttempt, fun hof hhas => ?duplicate,
    fun hof hordered hhas hseq => ?outOfOrder, fun hof hordered hhas hseq => ?inOrder, fun hof hordered hhas => ?unordered,
    fun hof hold hlater hordered hended hhas hseq => ?laterAttempt⟩
  case transit =>
    have hcarry : (s.add F.FAB_TRANSIT_FLITS_count 1).Carries ((s.add F.FAB_TRANSIT_FLITS_count 1).route { f with hops := f.hops + 1 }) :=
      .route (.refl _ _ _)
    exact ⟨_, State.receive_transit halive hdst, (sameMemory_wrAt s _ _ _).trans hcarry.memory,
      (hcarry.regs.rdAt_eq _ 0).trans (s.rdAt_addAt_same _ 0 1)⟩
  case foreign => exact ⟨_, State.receive_foreign halive hdst hjob, s.add_receives.dropped _⟩
  case oldEpoch => exact ⟨_, State.receive_oldEpoch halive hdst hjob hepoch, (s.hearFlit_receives f).dropped _⟩
  case oldAttempt => exact ⟨_, State.receive_oldAttempt hof hold, (s.hearFlit_receives f).dropped _⟩
  case duplicate =>
    exact ⟨_, (State.receive_current hof).trans (State.checkSeq_duplicate hhas), (s.hearFlit_receives f).putRx.dropped _⟩
  case outOfOrder =>
    refine ⟨_, ?_, (s.hearFlit_receives f).memory, s.rxSpace_hearFlit f _⟩
    rw [State.receive_current hof, hordered, State.checkSeq_out_of_order hordered hhas hseq]
  case inOrder =>
    obtain ⟨t, ht, hcheck, hnext⟩ := State.checkSeq_in_order (s := s.hearFlit f)
      (next := fun t => if s.live || !waitsOpen f then .take t else .hold t) hordered hhas hseq
    exact ⟨t, ((s.hearFlit_receives f).trans ht).memory, by rw [State.receive_current hof, hordered, hcheck], hnext⟩
  case unordered =>
    obtain ⟨t, ht, hcheck, hacc⟩ := State.checkSeq_unordered (s := s.hearFlit f)
      (next := fun t => if s.live || !waitsOpen f then .take t else .hold t) hordered hhas
    exact ⟨t, ((s.hearFlit_receives f).trans ht).memory, by rw [State.receive_current hof, hordered, hcheck], hacc⟩
  case laterAttempt =>
    obtain ⟨t, ht, hcheck, hrx, hnext⟩ := State.checkSeq_later_in_order (s := s.hearFlit f)
      (next := fun t => if attemptFree f then .take t else .hold t) hordered hhas hseq
    refine ⟨t, ((s.hearFlit_receives f).trans ht).memory, ?_, (hrx _).trans (s.rxSpace_hearFlit f _), hnext⟩
    rw [State.receive_later hof hold hlater (by rwa [hordered]), hordered, hcheck]

/-- Settles O31: each clause is what its command's handler does in the state that reception leaves. -/
theorem flitsAct : Obligations.FlitsAct := by
  refine ⟨?write, ?readReq, ?readData, ?errorCompletion, ?queueItem, ?heldItem, ?syncAdd⟩
  case write =>
    intro s u f htakes hmirror hwait
    have hexec : exec (.write f) s = .next (u.onWrite f) := congrArg Host.Outcome.next (htakes.onFlitOr hwait fun t => t.onWrite f)
    refine ⟨fun hmay _ => ⟨_, hexec, ?_⟩, fun hmay htiles => ⟨_, hexec, ?_⟩⟩
    · rw [State.onWrite_allowed hmirror hmay]
      exact State.storeMarked_writeBytes hmay
    · rw [State.onWrite_refused hmirror hmay htiles]
      exact u.sendError_onItsWay f.srcModule f.seq
  case readReq =>
    intro s u f htakes hkind hwait
    have hexec : exec (.readReq f) s = .next (u.onReadReq f) := congrArg Host.Outcome.next (htakes.onFlitOr hwait fun t => t.onReadReq f)
    refine ⟨fun hmay => ⟨_, hexec, ?_⟩, fun hmay htiles => ⟨_, hexec, ?_⟩⟩
    · rw [State.onReadReq_allowed hkind hmay, ← u.loadMarked_fst]
      exact u.sendData_onItsWay f.srcModule (reqContext f) _
    · rw [State.onReadReq_refused hkind hmay htiles]
      exact u.sendError_onItsWay f.srcModule _
  case readData =>
    intro s u f htakes haddr
    have hexec : exec (.readData f) s = .next (u.onReadData f) := congrArg Host.Outcome.next (htakes.onFlit fun t => t.onReadData f)
    rw [State.onReadData_xfer haddr] at hexec
    exact ⟨_, hexec, u.xferData_memory _ _, List.length_map _, fun x hx hreads => u.xferData_got f hx hreads⟩
  case errorCompletion =>
    intro s u f k htakes hk haddr
    have hexec : exec (.readData f) s = .next (u.onReadData f) := congrArg Host.Outcome.next (htakes.onFlit fun t => t.onReadData f)
    refine ⟨_, hexec, State.onReadData_error_memory (by omega) (by omega), fun c x hc hx hreads => ?_, fun w x hlow hw hx hid => ?_⟩
    · subst hc
      rw [State.onReadData_readError hk haddr]
      exact State.mem_markFailed hx hreads
    · rw [State.onReadData_writeError hlow haddr hw]
      exact State.mem_markFailed hx (by simp [hid])
  case queueItem =>
    intro s u f htakes
    have hexec : exec (.queueItem f) s = .next (u.onItem f true) := htakes.execQueueItem
    refine ⟨fun hbound => ?_, fun hbound hback => ⟨_, hexec, fun hroom => ?_, fun hfull => ?_⟩⟩
    · rw [State.onItem_unbound true hbound] at hexec
      exact ⟨_, hexec, sameMemory_wrAt u _ _ _, rfl, u.rdAt_addSatAt_same _ _ 1⟩
    · rw [State.onItem_now hbound]
      exact State.routerPush_of_room _ hback hroom
    · rw [State.onItem_now hbound]
      obtain ⟨hitems, hwaits, hregs⟩ := State.routerPush_of_full (itemOf f) hback hfull
      exact ⟨hitems, hwaits, by rw [State.rdAt, hregs, State.rdAt]⟩
  case heldItem =>
    intro s u f harrives hcrc hreceive hbound
    refine ⟨_, execQueueItem_of_hold harrives hcrc hreceive, ?_⟩
    rw [State.onItem_later hbound]
    exact ⟨fun _ => rfl, by simp, by simp⟩
  case syncAdd =>
    intro s u f htakes hcounter
    have hexec : exec (.syncAddFlit f) s = .next (u.onSyncAdd f) := congrArg Host.Outcome.next (htakes.onFlit fun t => t.onSyncAdd f)
    rw [State.onSyncAdd, if_pos hcounter] at hexec
    exact ⟨_, hexec, u.syncAdd_counter _ _⟩

end

section
/-! PROOFS. Job start and stand-ins (R22, R217; SPEC, 01_module_and_jobs): a job start forgets the stand-ins, so a tile address of a
core that had one is served by another physical core afterwards. -/

namespace Sys2Proof.Machine

/-- A job of one rank on module 0, with two banks of one unit each. -/
def oneRankJob : JobDesc :=
  { jobId := 1, seed := 0, nanTrap := false, rank := 0, shapes := [⟨1, 1, 1, 1, 1⟩], map := [2 ^ 48 + 0xFFFF * 2 ^ 16],
    regions := [1, 1, 0, 0, 0, 0, 0], heldBank := 0, mirrorBase := 0, instar := 0, random := 0 }

/-- A READY module in which physical core 64, a spare, stands in for logical core 0 and holds a 1 in the first byte of its tile store. -/
def readyWithStandin : State :=
  { mode := .ready, boot := { os := true }, sched := { standin := [(0, 64)] },
    mem := { tile := { cells := [(64 * 0x400000, 1)] } } }

/-- Before the job starts, the first byte of logical core 0's tile store is the stand-in's. -/
theorem readyWithStandin_peek : readyWithStandin.peek (tileBase 0) = 1 := by decide

/-- The job passes the checks of R25, R162 and R163. -/
theorem oneRankJob_ok : jobShapeOk oneRankJob = true ∧ jobMapOk oneRankJob = true ∧
    entryModule (oneRankJob.map.getD oneRankJob.rank 0) = readyWithStandin.self ∧ jobMemOk oneRankJob = true := by decide

/-- So it is loaded. -/
theorem readyWithStandin_jobStart :
    exec (.jobStart oneRankJob) readyWithStandin = .next (readyWithStandin.loadJob oneRankJob 1) := rfl

/-- After it, that byte is physical core 0's, which the core map names and which holds nothing. -/
theorem readyWithStandin_loadJob_peek : (readyWithStandin.loadJob oneRankJob 1).peek (tileBase 0) = 0 := by decide +kernel

/-- The address lies in a tile store, not in an operand cache. -/
theorem place_tileBase_zero (n off : Nat) : place (tileBase 0) ≠ .ocache n off := by
  have h : place (tileBase 0) = .tile 0 0 := by decide
  simp [h]

end Sys2Proof.Machine
end

section
/-! PROOFS. The statements on the module and its jobs. -/

open Sys2Proof Sys2Proof.Machine

/-- Refutes O47: a good job need not leave the tile stores as they read. `loadJob` clears the schedule's state and with it the stand-ins
(R217), so the tile addresses of a logical core that had one read another physical core's store after the start. -/
theorem not_jobStartAndScrub : ¬ Obligations.JobStartAndScrub := by
  intro h
  obtain ⟨hshape, hmap, hself, hmem⟩ := oneRankJob_ok
  have hstart := (h.1 readyWithStandin oneRankJob rfl rfl rfl).2 hshape hmap hself
  obtain ⟨t, hexec, hsame, -⟩ := hstart.2 hmem
  obtain rfl := Host.Outcome.next.inj (readyWithStandin_jobStart.symm.trans hexec)
  have hpeek := hsame (tileBase 0) place_tileBase_zero
  rw [readyWithStandin_loadJob_peek, readyWithStandin_peek] at hpeek
  exact absurd hpeek (by decide)

end

section
/-! PROOFS. FP32 codes (R39, R50, R54, R59, R70): which word stands for which kind of value, and which words rounding can give. -/

namespace Sys2Proof.Machine

/-! ### Reading a word (R39) -/

theorem wNan_iff {c : Nat} : wNan c ↔ 2 ^ 23 * 255 < c % 2 ^ 31 := Iff.rfl
theorem wSnan_iff {c : Nat} : wSnan c ↔ wNan c ∧ c % 2 ^ 23 < 2 ^ 22 := Iff.rfl
theorem wInf_iff {c : Nat} : wInf c ↔ c % 2 ^ 31 = 2 ^ 23 * 255 := Iff.rfl
theorem wZero_iff {c : Nat} : wZero c ↔ c % 2 ^ 31 = 0 := Iff.rfl

/-- The sign of an FP32 word. -/
def f32Sign (c : Nat) : Bool := decide (c / 2 ^ 31 % 2 = 1)

theorem f32Sign_eq (c : Nat) : f32Sign c = decide (c / 2 ^ 31 % 2 = 1) := rfl

theorem f32Sign_toNat (c : Nat) : (f32Sign c).toNat = c / 2 ^ 31 % 2 := by
  rcases Nat.mod_two_eq_zero_or_one (c / 2 ^ 31) with h | h <;> rw [f32Sign_eq, h] <;> rfl

/-- The FP32 infinity of a sign. -/
def f32Inf (neg : Bool) : Nat := FpFmt.fp32.withSign neg (2 ^ 31 - 2 ^ 23)

theorem fp32_withSign (neg : Bool) (c : Nat) : FpFmt.fp32.withSign neg c = c + neg.toNat * 2 ^ 31 := by
  cases neg <;> simp [FpFmt.withSign, FpFmt.fp32]

theorem f32Inf_eq (neg : Bool) : f32Inf neg = 2 ^ 23 * 255 + neg.toNat * 2 ^ 31 := fp32_withSign neg _

theorem f32val_eq (c : Nat) : f32val c =
    if c % 2 ^ 31 / 2 ^ 23 = 255 then
      if c % 2 ^ 31 % 2 ^ 23 = 0 then .inf (f32Sign c) else .nan (decide (c % 2 ^ 31 % 2 ^ 23 < 2 ^ 22))
    else .fin (f32Sign c) (FpFmt.fp32.magnitude (c % 2 ^ 31)).1 (FpFmt.fp32.magnitude (c % 2 ^ 31)).2 := by
  simp [f32val, FpFmt.decode, FpFmt.fp32, f32Sign, beq_eq_decide]

theorem f32val_of_wInf {c : Nat} (h : wInf c) : f32val c = .inf (f32Sign c) := by
  rw [wInf_iff] at h
  rw [f32val_eq, if_pos (by omega), if_pos (by omega)]

theorem f32val_of_wNan {c : Nat} (h : wNan c) : ∃ sig, f32val c = .nan sig ∧ (sig = true ↔ wSnan c) := by
  have hexp : c % 2 ^ 31 / 2 ^ 23 = 255 := by rw [wNan_iff] at h; omega
  have hfrac : c % 2 ^ 31 % 2 ^ 23 ≠ 0 := by rw [wNan_iff] at h; omega
  refine ⟨_, by rw [f32val_eq, if_pos hexp, if_neg hfrac], ?_⟩
  rw [wSnan_iff, decide_eq_true_eq, and_iff_right h]
  omega

theorem fp32_magnitude_eq_zero {c : Nat} : (FpFmt.fp32.magnitude c).1 = 0 ↔ c = 0 := by
  have hval : (FpFmt.fp32.magnitude c).1 = if c / 2 ^ 23 = 0 then c % 2 ^ 23 else 2 ^ 23 + c % 2 ^ 23 :=
    apply_ite Prod.fst (c / 2 ^ 23 = 0) _ _
  rw [hval]
  split <;> omega

theorem f32val_of_finite {c : Nat} (hn : ¬ wNan c) (hi : ¬ wInf c) :
    ∃ m e, f32val c = .fin (f32Sign c) m e ∧ (m = 0 ↔ wZero c) := by
  have hexp : c % 2 ^ 31 / 2 ^ 23 ≠ 255 := by rw [wNan_iff] at hn; rw [wInf_iff] at hi; omega
  exact ⟨_, _, by rw [f32val_eq, if_neg hexp], fp32_magnitude_eq_zero⟩

theorem wZero.finite {c : Nat} (h : wZero c) : ¬ wNan c ∧ ¬ wInf c := by
  rw [wZero_iff] at h
  rw [wNan_iff, wInf_iff]
  omega

theorem f32val_of_wZero {c : Nat} (h : wZero c) : ∃ e, f32val c = .fin (f32Sign c) 0 e := by
  obtain ⟨m, e, hval, hm⟩ := f32val_of_finite h.finite.1 h.finite.2
  exact ⟨e, hm.2 h ▸ hval⟩

theorem f32val_of_not_wNan {c : Nat} (hn : ¬ wNan c) : (f32val c).isNan = false ∧ (f32val c).isSnan = false := by
  by_cases hi : wInf c
  · rw [f32val_of_wInf hi]
    exact ⟨rfl, rfl⟩
  · obtain ⟨m, e, hval, -⟩ := f32val_of_finite hn hi
    rw [hval]
    exact ⟨rfl, rfl⟩

theorem isNan_f32val {c : Nat} : (f32val c).isNan = true ↔ wNan c := by
  by_cases hn : wNan c
  · obtain ⟨sig, hval, -⟩ := f32val_of_wNan hn
    rw [hval]
    exact iff_of_true rfl hn
  · rw [(f32val_of_not_wNan hn).1]
    exact iff_of_false Bool.false_ne_true hn

theorem isSnan_f32val {c : Nat} : (f32val c).isSnan = true ↔ wSnan c := by
  by_cases hn : wNan c
  · obtain ⟨sig, hval, hsig⟩ := f32val_of_wNan hn
    rw [hval]
    exact hsig
  · rw [(f32val_of_not_wNan hn).2]
    exact iff_of_false Bool.false_ne_true fun h => hn h.1

/-- Inverting bit 31 of a word other than a NaN negates its value. -/
theorem f32val_flip {c : Nat} (hn : ¬ wNan c) : f32val ((c + 2 ^ 31) % 2 ^ 32) = (f32val c).neg := by
  have hmag : (c + 2 ^ 31) % 2 ^ 32 % 2 ^ 31 = c % 2 ^ 31 := by omega
  have hsign : f32Sign ((c + 2 ^ 31) % 2 ^ 32) = !f32Sign c := by
    rw [f32Sign_eq, f32Sign_eq, ← decide_not, decide_eq_decide]
    omega
  have hquiet : c % 2 ^ 31 / 2 ^ 23 = 255 → c % 2 ^ 31 % 2 ^ 23 = 0 := by rw [wNan_iff] at hn; omega
  rw [f32val_eq, f32val_eq, hmag, hsign]
  split
  · next hexp => simp only [hquiet hexp, if_true, FVal.neg]
  · rfl

theorem f32Inf_f32Sign {c : Nat} (hc : c < 2 ^ 32) (h : wInf c) : f32Inf (f32Sign c) = c := by
  rw [wInf_iff] at h
  rw [f32Inf_eq, f32Sign_toNat]
  omega

theorem f32Inf_xorSign (a b : Nat) : f32Inf (f32Sign a != f32Sign b) = 2 ^ 23 * 255 + xorSign a b := by
  have hxor : (f32Sign a != f32Sign b).toNat = ((f32Sign a).toNat + (f32Sign b).toNat) % 2 := by
    cases f32Sign a <;> cases f32Sign b <;> rfl
  rw [f32Inf_eq, hxor, f32Sign_toNat, f32Sign_toNat, ← Nat.add_mod, xorSign]

/-! ### Rounding to a number of bits (R54) -/

theorem flog2_eq (m : Nat) (e : Int) : flog2 m e = Nat.log2 m + e := rfl

theorem roundAt_of_le (md : Rnd) (m : Nat) {e u : Int} (h : u ≤ e) : (roundAt md m e u).1 = m * 2 ^ (e - u).toNat :=
  congrArg Prod.fst (if_pos h)

/-- What is cut off leaves the quotient or the next number. -/
theorem roundAt_of_lt (md : Rnd) (m : Nat) {e u : Int} (h : e < u) :
    (roundAt md m e u).1 = m / 2 ^ (u - e).toNat ∨ (roundAt md m e u).1 = m / 2 ^ (u - e).toNat + 1 := by
  rw [roundAt, if_neg (not_le.2 h)]
  extract_lets _ q _ up
  split
  · exact .inl rfl
  · simp only
    split
    · exact .inr rfl
    · exact .inl rfl

theorem two_pow_le_roundAt (md : Rnd) {m d : Nat} {e u : Int} (hm : m ≠ 0) (h : flog2 m e = u + d) : 2 ^ d ≤ (roundAt md m e u).1 := by
  have hlog : 2 ^ Nat.log2 m ≤ m := Nat.log2_self_le hm
  rw [flog2_eq] at h
  rcases le_or_gt u e with hu | hu
  · rw [roundAt_of_le md m hu, show d = Nat.log2 m + (e - u).toNat by omega, pow_add]
    exact Nat.mul_le_mul_right _ hlog
  · have hq : 2 ^ d ≤ m / 2 ^ (u - e).toNat := by
      rw [Nat.le_div_iff_mul_le (Nat.two_pow_pos _), ← pow_add, show d + (u - e).toNat = Nat.log2 m by omega]
      exact hlog
    have := roundAt_of_lt md m hu
    omega

theorem roundAt_le_two_pow (md : Rnd) {m d : Nat} {e u : Int} (h : flog2 m e < u + d) : (roundAt md m e u).1 ≤ 2 ^ d := by
  have hlog : m < 2 ^ (Nat.log2 m + 1) := Nat.lt_log2_self
  rw [flog2_eq] at h
  rcases le_or_gt u e with hu | hu
  · rw [roundAt_of_le md m hu]
    calc m * 2 ^ (e - u).toNat ≤ 2 ^ (Nat.log2 m + 1) * 2 ^ (e - u).toNat := Nat.mul_le_mul_right _ hlog.le
      _ = 2 ^ (Nat.log2 m + 1 + (e - u).toNat) := (pow_add ..).symm
      _ ≤ 2 ^ d := Nat.pow_le_pow_right two_pos (by omega)
  · have hq : m / 2 ^ (u - e).toNat < 2 ^ d := by
      rw [Nat.div_lt_iff_lt_mul (Nat.two_pow_pos _), ← pow_add]
      exact hlog.trans_le (Nat.pow_le_pow_right two_pos (by omega))
    have := roundAt_of_lt md m hu
    omega

/-- Rounding to significant bits never takes a magnitude below its power of two. -/
theorem flog2_le_roundSig (md : Rnd) (p : Nat) {m : Nat} (e : Int) (hm : m ≠ 0) :
    flog2 m e ≤ flog2 (roundSig md p m e).1 (roundSig md p m e).2.1 := by
  have hle := two_pow_le_roundAt md (e := e) (u := flog2 m e - (p - 1 : Nat)) (d := p - 1) hm (by omega)
  have hlog := (Nat.le_log2 (Nat.ne_of_gt (lt_of_lt_of_le (Nat.two_pow_pos _) hle))).2 hle
  change flog2 m e ≤ (Nat.log2 (roundAt md m e (flog2 m e - (p - 1 : Nat))).1 : Int) + (flog2 m e - (p - 1 : Nat))
  omega

/-! ### Writing a word (R39, R56, R59) -/

theorem fp32_maxMagnitude : FpFmt.fp32.magnitude FpFmt.fp32.maxCode = (2 ^ 24 - 1, 104) := by decide

/-- What does not exceed the largest finite value lies below 2^128. -/
theorem flog2_le_of_not_magLt_max {k : Nat} {u : Int} (hk : k ≠ 0) (h : ¬ magLt (2 ^ 24 - 1) 104 k u = true) : flog2 k u ≤ 127 := by
  have hlog : 2 ^ Nat.log2 k ≤ k := Nat.log2_self_le hk
  unfold magLt at h
  rw [flog2_eq]
  split at h
  · have hlt : 2 ^ (Nat.log2 k + (u - 104).toNat) < 2 ^ 24 := by
      rw [pow_add]
      have := Nat.mul_le_mul_right (2 ^ (u - 104).toNat) hlog
      simp only [decide_eq_true_eq] at h
      omega
    have := (Nat.pow_lt_pow_iff_right one_lt_two).1 hlt
    omega
  · have hlt : 2 ^ Nat.log2 k < 2 ^ (24 + (104 - u).toNat) := by
      have : (2 ^ 24 - 1) * 2 ^ (104 - u).toNat < 2 ^ 24 * 2 ^ (104 - u).toNat := Nat.mul_lt_mul_of_pos_right (by decide) (Nat.two_pow_pos _)
      simp only [decide_eq_true_eq] at h
      rw [pow_add]
      omega
    have := (Nat.pow_lt_pow_iff_right one_lt_two).1 hlt
    omega

theorem fp32_encodeMag {k : Nat} (hk : k ≠ 0) (u : Int) : FpFmt.fp32.encodeMag k u =
    if flog2 k u < -126 then k * 2 ^ (u - -149).toNat
    else (flog2 k u + 127).toNat * 2 ^ 23 +
      ((if Nat.log2 k ≤ 23 then k * 2 ^ (23 - Nat.log2 k) else k / 2 ^ (Nat.log2 k - 23)) - 2 ^ 23) :=
  if_neg hk

/-- A number moved to 24 bits. -/
theorem alignTo24_lt (k : Nat) : (if Nat.log2 k ≤ 23 then k * 2 ^ (23 - Nat.log2 k) else k / 2 ^ (Nat.log2 k - 23)) < 2 ^ 24 := by
  have hlog : k < 2 ^ (Nat.log2 k + 1) := Nat.lt_log2_self
  split
  · calc k * 2 ^ (23 - Nat.log2 k) < 2 ^ (Nat.log2 k + 1) * 2 ^ (23 - Nat.log2 k) := Nat.mul_lt_mul_of_pos_right hlog (Nat.two_pow_pos _)
      _ = 2 ^ 24 := by rw [← pow_add]; congr 1; omega
  · rw [Nat.div_lt_iff_lt_mul (Nat.two_pow_pos _), ← pow_add]
    exact hlog.trans_le (Nat.pow_le_pow_right two_pos (by omega))

/-- The code of a magnitude below 2^128 lies below that of the infinity. -/
theorem fp32_encodeMag_lt {k : Nat} {u : Int} (hl : flog2 k u ≤ 127) (hu : -149 ≤ u) : FpFmt.fp32.encodeMag k u < 2 ^ 31 - 2 ^ 23 := by
  by_cases hk : k = 0
  · subst hk
    exact (by decide : (0 : Nat) < 2 ^ 31 - 2 ^ 23)
  rw [fp32_encodeMag hk]
  split
  · next hsub =>
    rw [flog2_eq] at hsub
    calc k * 2 ^ (u - -149).toNat ≤ 2 ^ (Nat.log2 k + 1) * 2 ^ (u - -149).toNat := Nat.mul_le_mul_right _ Nat.lt_log2_self.le
      _ = 2 ^ (Nat.log2 k + 1 + (u - -149).toNat) := (pow_add ..).symm
      _ ≤ 2 ^ 23 := Nat.pow_le_pow_right two_pos (by omega)
      _ < 2 ^ 31 - 2 ^ 23 := by decide
  · have := alignTo24_lt k
    omega

/-- A magnitude below the smallest normal value, rounded to a multiple of 2^-149, stays far below 2^128. -/
theorem flog2_roundAt_subnormal_le {m : Nat} {e : Int} (h : flog2 m e < -126) : flog2 (roundAt .nearest m e (-149)).1 (-149) ≤ 127 := by
  have hle : (roundAt .nearest m e (-149)).1 ≤ 2 ^ 23 := roundAt_le_two_pow .nearest (by omega)
  have hlog := Nat.log_mono_right (b := 2) hle
  rw [Nat.log_pow one_lt_two, ← Nat.log2_eq_log_two] at hlog
  rw [flog2_eq]
  omega

theorem toF32_nan (sig : Bool) : toF32 (.nan sig) = (0x7FC00000, if sig then .NV else .none) := by cases sig <;> rfl
theorem toF32_inf (neg : Bool) : toF32 (.inf neg) = (f32Inf neg, .none) := by cases neg <;> rfl
theorem toF32_zero (neg : Bool) (e : Int) : toF32 (.fin neg 0 e) = (FpFmt.fp32.withSign neg 0, .none) := rfl

/-- The word, without its sign, that the number m × 2^e rounds to. -/
def f32Magnitude (m : Nat) (e : Int) : Nat :=
  let r := roundSig .nearest 24 m e
  if m = 0 then 0
  else if magLt (2 ^ 24 - 1) 104 r.1 r.2.1 then 2 ^ 31 - 2 ^ 23
  else if flog2 m e < -126 then FpFmt.fp32.encodeMag (roundAt .nearest m e (-149)).1 (-149)
  else FpFmt.fp32.encodeMag r.1 r.2.1

theorem toF32_fin (neg : Bool) (m : Nat) (e : Int) : (toF32 (.fin neg m e)).1 = FpFmt.fp32.withSign neg (f32Magnitude m e) := by
  delta f32Magnitude
  extract_lets r
  by_cases hm : m = 0
  · rw [hm, toF32_zero, if_pos rfl]
  have hup : flog2 m e ≤ flog2 r.1 r.2.1 := flog2_le_roundSig .nearest 24 e hm
  have hunit : r.2.1 = flog2 m e - 23 := rfl
  have hmost := fp32_maxMagnitude
  have hmin : FpFmt.fp32.emin = -126 := rfl
  have hbits : FpFmt.fp32.mbits = 23 := rfl
  simp only [toF32, FpFmt.convert, hmost, hm, if_false, hmin, hbits, decide_eq_true_eq]
  change Prod.fst (ite (magLt (2 ^ 24 - 1) 104 r.1 r.2.1 = true) _ (ite (flog2 r.1 r.2.1 < -126) _ (ite (r.2.1 < -149 ∧ _) _ _))) = _
  by_cases hmax : magLt (2 ^ 24 - 1) 104 r.1 r.2.1 = true
  · rw [if_pos hmax, if_pos hmax]
    rfl
  rw [if_neg hmax, if_neg hmax]
  by_cases hsub : flog2 m e < -126
  · rw [if_pos hsub, if_pos (c := r.2.1 < -149 ∧ _) ⟨by omega, by decide⟩, apply_ite Prod.fst]
    exact ite_self _
  · rw [if_neg hsub, if_neg (by omega), if_neg (fun h => by omega)]

theorem f32Magnitude_le (m : Nat) (e : Int) : f32Magnitude m e ≤ 2 ^ 31 - 2 ^ 23 := by
  delta f32Magnitude
  extract_lets r
  by_cases hm : m = 0
  · rw [if_pos hm]
    exact Nat.zero_le _
  have hr : r.1 ≠ 0 := fun h0 => by
    have := two_pow_le_roundAt .nearest (e := e) (u := flog2 m e - 23) (d := 23) hm (by omega)
    exact absurd (h0 ▸ this) (by decide)
  have hunit : r.2.1 = flog2 m e - 23 := rfl
  rw [if_neg hm]
  split
  · exact le_rfl
  next hmax =>
  split
  · next hsub => exact (fp32_encodeMag_lt (flog2_roundAt_subnormal_le hsub) le_rfl).le
  · exact (fp32_encodeMag_lt (flog2_le_of_not_magLt_max hr hmax) (by omega)).le

theorem fp32_withSign_not_wNan {c : Nat} (neg : Bool) (hc : c ≤ 2 ^ 31 - 2 ^ 23) :
    ¬ wNan (FpFmt.fp32.withSign neg c) ∧ FpFmt.fp32.withSign neg c < 2 ^ 32 := by
  have := neg.toNat_le
  rw [fp32_withSign, wNan_iff]
  omega

/-- Rounding gives no word of a NaN but the canonical one (R70). -/
theorem toF32_word (v : FVal) : (wNan (toF32 v).1 → (toF32 v).1 = 0x7FC00000) ∧ (toF32 v).1 < 2 ^ 32 := by
  cases v with
  | nan sig =>
    rw [toF32_nan]
    exact ⟨fun _ => rfl, (by decide : 0x7FC00000 < 2 ^ 32)⟩
  | inf neg =>
    rw [toF32_inf]
    exact (fp32_withSign_not_wNan neg le_rfl).imp_left fun hn h => absurd h hn
  | fin neg m e =>
    rw [toF32_fin]
    exact (fp32_withSign_not_wNan neg (f32Magnitude_le m e)).imp_left fun hn h => absurd h hn

end Sys2Proof.Machine
end

section
/-! PROOFS. FP32 operations on special values (R50, R66, R69, R70, R150): one equation per case of the exact operations, and what
rounding makes of each special result. -/

namespace Sys2Proof.Machine

/-! ### The operations, and the exact ones case by case -/

theorem fadd_eq (a b : Nat) : fadd a b = roundF32 (addVal (f32val a) (f32val b)) := rfl
theorem fmul_eq (a b : Nat) : fmul a b = roundF32 (mulVal (f32val a) (f32val b)) := rfl
theorem ffma_eq (a b c : Nat) : ffma a b c = roundF32 (fmaVal (f32val a) (f32val b) (f32val c)) := rfl
theorem fdiv_eq (a b : Nat) : fdiv a b = roundF32 (divVal (f32val a) (f32val b)) := rfl
theorem fsqrt_eq (a : Nat) : fsqrt a = roundF32 (sqrtVal (f32val a)) := rfl

/-- Subtraction adds the negated value; a NaN is not negated. -/
theorem fsub_eq (a b : Nat) : fsub a b = roundF32 (addVal (f32val a) (f32val b).neg) := by
  unfold fsub
  cases f32val b <;> rfl

theorem FVal.neg_fin (s : Bool) (m : Nat) (e : Int) : (FVal.fin s m e).neg = .fin (!s) m e := rfl

theorem addVal_inf_inf (s t : Bool) : addVal (.inf s) (.inf t) = if s = t then (.inf s, .none) else invalid := rfl

theorem addVal_fin_fin (s : Bool) (m : Nat) (e : Int) (t : Bool) (n : Nat) (f : Int) :
    addVal (.fin s m e) (.fin t n f) = (exactAdd s m e t n f, .none) := rfl

theorem mulVal_inf_inf (s t : Bool) : mulVal (.inf s) (.inf t) = (.inf (s != t), .none) := rfl

theorem mulVal_inf_fin (s t : Bool) (n : Nat) (f : Int) :
    mulVal (.inf s) (.fin t n f) = if n = 0 then invalid else (.inf (s != t), .none) := rfl

theorem mulVal_fin_inf (s t : Bool) (m : Nat) (e : Int) :
    mulVal (.fin s m e) (.inf t) = if m = 0 then invalid else (.inf (s != t), .none) := rfl

theorem mulVal_fin_fin (s : Bool) (m : Nat) (e : Int) (t : Bool) (n : Nat) (f : Int) :
    mulVal (.fin s m e) (.fin t n f) = (.fin (s != t) (m * n) (e + f), .none) := rfl

theorem divVal_fin_zero (s : Bool) (m : Nat) (e : Int) (t : Bool) (f : Int) :
    divVal (.fin s m e) (.fin t 0 f) = if m = 0 then invalid else (.inf (s != t), .none) := rfl

theorem sqrtVal_negative (m : Nat) (e : Int) : sqrtVal (.fin true m e) = if m = 0 then (.fin true 0 0, .none) else invalid := rfl

theorem sqrtVal_nan (sig : Bool) : sqrtVal (.nan sig) = nanOf [.nan sig] := rfl

/-! ### Rounding a special result -/

theorem roundF32_invalid : roundF32 invalid = (0x7FC00000, .NV) := rfl

theorem roundF32_inf (neg : Bool) : roundF32 (.inf neg, .none) = (f32Inf neg, .none) := by cases neg <;> rfl

theorem roundF32_nanOf (vs : List FVal) : roundF32 (nanOf vs) = (0x7FC00000, if vs.any FVal.isSnan then .NV else .none) := by
  change roundF32 (.nan false, if vs.any FVal.isSnan then .NV else .none) = _
  cases vs.any FVal.isSnan <;> rfl

/-- The NaN made of a list of operands has NV exactly if one of them is signalling (R69). -/
theorem roundF32_nanOf_nv (vs : List FVal) : (roundF32 (nanOf vs)).2.nv = vs.any FVal.isSnan := by
  rw [roundF32_nanOf]
  cases vs.any FVal.isSnan <;> rfl

/-! ### NaN operands -/

/-- An exact operation that answers every NaN operand with the NaN of both (R69, R70). -/
def NanRule (op : FVal → FVal → FVal × Flags) : Prop := ∀ x y, (x.isNan || y.isNan) = true → op x y = nanOf [x, y]

theorem nanRule_of {op : FVal → FVal → FVal × Flags} (left : ∀ sig y, op (.nan sig) y = nanOf [.nan sig, y])
    (right : ∀ x sig, op x (.nan sig) = nanOf [x, .nan sig]) : NanRule op := by
  intro x y h
  cases x with
  | nan sig => exact left sig y
  | inf s | fin s m e => cases y with
    | nan sig => exact right _ sig
    | inf t | fin t n f => exact absurd h Bool.false_ne_true

theorem addVal_nanRule : NanRule addVal := nanRule_of (fun _ _ => rfl) fun x _ => by cases x <;> rfl
theorem mulVal_nanRule : NanRule mulVal := nanRule_of (fun _ _ => rfl) fun x _ => by cases x <;> rfl
theorem divVal_nanRule : NanRule divVal := nanRule_of (fun _ _ => rfl) fun x _ => by cases x <;> rfl
theorem maxVal_nanRule : NanRule maxVal := fun _ _ h => if_pos h
theorem minVal_nanRule : NanRule minVal := fun _ _ h => if_pos h

/-- Negating an operand makes no NaN of it and no number of a NaN. -/
theorem subVal_nanRule : NanRule fun x y => addVal x y.neg :=
  nanRule_of (fun _ y => by cases y <;> rfl) fun x sig => addVal_nanRule x (.nan sig) (Bool.or_true _)

/-- The result `r` of an operation on the words `a` and `b` follows R69 and R70: a NaN operand gives the canonical NaN, with NV exactly
for a signalling one, and no other NaN is ever written. -/
def CanonicalNans (a b : Nat) (r : Nat × Flags) : Prop :=
  ((wNan a ∨ wNan b) → r.1 = 0x7FC00000 ∧ (r.2.nv = true ↔ wSnan a ∨ wSnan b)) ∧ (wNan r.1 → r.1 = 0x7FC00000) ∧ r.1 < 2 ^ 32

theorem NanRule.canonicalNans {op : FVal → FVal → FVal × Flags} (hop : NanRule op) (a b : Nat) :
    CanonicalNans a b (roundF32 (op (f32val a) (f32val b))) := by
  refine ⟨fun h => ?_, toF32_word _⟩
  rw [hop _ _ (Bool.or_eq_true_iff.2 (h.imp isNan_f32val.2 isNan_f32val.2)), roundF32_nanOf_nv]
  refine ⟨by rw [roundF32_nanOf], ?_⟩
  simp only [List.any_cons, List.any_nil, Bool.or_false, Bool.or_eq_true]
  exact or_congr isSnan_f32val isSnan_f32val

/-! ### The order of the operands, and subtraction -/

theorem nanOf_comm (x y : FVal) : nanOf [x, y] = nanOf [y, x] := by
  simp [nanOf, Bool.or_comm]

theorem exactAdd_comm (s : Bool) (m : Nat) (e : Int) (t : Bool) (n : Nat) (f : Int) : exactAdd s m e t n f = exactAdd t n f s m e := by
  simp only [exactAdd, min_comm e f, Bool.and_comm s t]
  rw [add_comm]

theorem addVal_comm (x y : FVal) : addVal x y = addVal y x := by
  by_cases h : (x.isNan || y.isNan) = true
  · rw [addVal_nanRule x y h, addVal_nanRule y x (Bool.or_comm .. ▸ h), nanOf_comm]
  cases x with
  | nan sig => exact absurd rfl h
  | inf s => cases y with
    | nan sig => exact absurd rfl h
    | inf t => cases s <;> cases t <;> rfl
    | fin t n f => rfl
  | fin s m e => cases y with
    | nan sig => exact absurd rfl h
    | inf t => rfl
    | fin t n f => rw [addVal_fin_fin, addVal_fin_fin, exactAdd_comm]

theorem mulVal_comm (x y : FVal) : mulVal x y = mulVal y x := by
  by_cases h : (x.isNan || y.isNan) = true
  · rw [mulVal_nanRule x y h, mulVal_nanRule y x (Bool.or_comm .. ▸ h), nanOf_comm]
  cases x with
  | nan sig => exact absurd rfl h
  | inf s => cases y with
    | nan sig => exact absurd rfl h
    | inf t => rw [mulVal_inf_inf, mulVal_inf_inf, bne_comm]
    | fin t n f => rw [mulVal_inf_fin, mulVal_fin_inf, bne_comm]
  | fin s m e => cases y with
    | nan sig => exact absurd rfl h
    | inf t => rw [mulVal_fin_inf, mulVal_inf_fin, bne_comm]
    | fin t n f => rw [mulVal_fin_fin, mulVal_fin_fin, bne_comm, Nat.mul_comm, Int.add_comm]

theorem fadd_comm (a b : Nat) : fadd a b = fadd b a := congrArg roundF32 (addVal_comm _ _)
theorem fmul_comm (a b : Nat) : fmul a b = fmul b a := congrArg roundF32 (mulVal_comm _ _)

theorem fsub_eq_fadd {a b : Nat} (hb : ¬ wNan b) : fsub a b = fadd a ((b + 2 ^ 31) % 2 ^ 32) := by
  rw [fsub_eq, fadd_eq, f32val_flip hb]

/-- A sum of opposite numbers is +0 (R50). -/
theorem exactAdd_neg (s : Bool) (m : Nat) (e : Int) : exactAdd s m e (!s) m e = .fin false 0 0 := by
  cases s <;> simp [exactAdd]

theorem fadd_flip {a : Nat} (hn : ¬ wNan a) (hi : ¬ wInf a) : fadd a ((a + 2 ^ 31) % 2 ^ 32) = (0, .none) := by
  obtain ⟨m, e, hval, -⟩ := f32val_of_finite hn hi
  rw [fadd_eq, f32val_flip hn, hval, FVal.neg_fin, addVal_fin_fin, exactAdd_neg]
  rfl

/-! ### Infinities -/

theorem wInf.eq_of_f32Sign_eq {a b : Nat} (ha : a < 2 ^ 32) (hb : b < 2 ^ 32) (hia : wInf a) (hib : wInf b) (h : f32Sign a = f32Sign b) :
    a = b := by
  rw [← f32Inf_f32Sign ha hia, ← f32Inf_f32Sign hb hib, h]

theorem fadd_inf_of_ne {a b : Nat} (ha : a < 2 ^ 32) (hb : b < 2 ^ 32) (hia : wInf a) (hib : wInf b) (h : a ≠ b) :
    fadd a b = (0x7FC00000, .NV) := by
  rw [fadd_eq, f32val_of_wInf hia, f32val_of_wInf hib, addVal_inf_inf, if_neg (mt (wInf.eq_of_f32Sign_eq ha hb hia hib) h), roundF32_invalid]

theorem fadd_inf_self {a : Nat} (ha : a < 2 ^ 32) (hia : wInf a) : fadd a a = (a, .none) := by
  rw [fadd_eq, f32val_of_wInf hia, addVal_inf_inf, if_pos rfl, roundF32_inf, f32Inf_f32Sign ha hia]

theorem fdiv_inf_inf {a b : Nat} (hia : wInf a) (hib : wInf b) : fdiv a b = (0x7FC00000, .NV) := by
  rw [fdiv_eq, f32val_of_wInf hia, f32val_of_wInf hib]
  rfl

theorem fmul_inf_zero {a b : Nat} (hia : wInf a) (hzb : wZero b) : fmul a b = (0x7FC00000, .NV) := by
  obtain ⟨e, hval⟩ := f32val_of_wZero hzb
  rw [fmul_eq, f32val_of_wInf hia, hval]
  rfl

/-- The product 0 × ∞ is invalid before the addend is looked at (R66). -/
theorem ffma_inf_zero {a b : Nat} (hia : wInf a) (hzb : wZero b) (c : Nat) : ffma a b c = (0x7FC00000, .NV) := by
  obtain ⟨e, hval⟩ := f32val_of_wZero hzb
  rw [ffma_eq, f32val_of_wInf hia, hval]
  rfl

theorem ffma_zero_inf {a b : Nat} (hia : wInf a) (hzb : wZero b) (c : Nat) : ffma b a c = (0x7FC00000, .NV) := by
  obtain ⟨e, hval⟩ := f32val_of_wZero hzb
  rw [ffma_eq, f32val_of_wInf hia, hval]
  rfl

/-! ### Division by zero -/

theorem fdiv_zero_zero {a b : Nat} (hza : wZero a) (hzb : wZero b) : fdiv a b = (0x7FC00000, .NV) := by
  obtain ⟨e, hvala⟩ := f32val_of_wZero hza
  obtain ⟨f, hvalb⟩ := f32val_of_wZero hzb
  rw [fdiv_eq, hvala, hvalb]
  rfl

theorem fdiv_finite_zero {a b : Nat} (hn : ¬ wNan a) (hi : ¬ wInf a) (hz : ¬ wZero a) (hzb : wZero b) :
    fdiv a b = (2 ^ 23 * 255 + xorSign a b, .none) := by
  obtain ⟨m, e, hvala, hm⟩ := f32val_of_finite hn hi
  obtain ⟨f, hvalb⟩ := f32val_of_wZero hzb
  rw [fdiv_eq, hvala, hvalb, divVal_fin_zero, if_neg (mt hm.1 hz), roundF32_inf, f32Inf_xorSign]

/-! ### Square roots -/

theorem fsqrt_nan {a : Nat} (hn : wNan a) : (fsqrt a).1 = 0x7FC00000 ∧ ((fsqrt a).2.nv = true ↔ wSnan a) := by
  obtain ⟨sig, hval, hsig⟩ := f32val_of_wNan hn
  rw [fsqrt_eq, hval, sqrtVal_nan, roundF32_nanOf_nv, roundF32_nanOf]
  exact ⟨rfl, by rw [List.any_cons, List.any_nil, Bool.or_false]; exact hsig⟩

theorem fsqrt_negative {a : Nat} (ha : a < 2 ^ 32) (hneg : 2 ^ 31 < a) (hn : ¬ wNan a) : fsqrt a = (0x7FC00000, .NV) := by
  have hsign : f32Sign a = true := by rw [f32Sign_eq, decide_eq_true_eq]; omega
  by_cases hi : wInf a
  · rw [fsqrt_eq, f32val_of_wInf hi, hsign]
    rfl
  · obtain ⟨m, e, hval, hm⟩ := f32val_of_finite hn hi
    have hm0 : m ≠ 0 := fun h0 => by
      have hz := wZero_iff.1 (hm.1 h0)
      omega
    rw [fsqrt_eq, hval, hsign, sqrtVal_negative, if_neg hm0, roundF32_invalid]

end Sys2Proof.Machine
end

section
/-! PROOFS. The statement on the number formats. -/

open Sys2Proof Sys2Proof.Machine

/-- Settles O60: each operation answers its special operands before anything is rounded, and rounding makes no NaN but the canonical one. -/
theorem fpSpecialValues : Obligations.FpSpecialValues := by
  intro a b c ha hb _
  have hsub : CanonicalNans a b (fsub a b) := fsub_eq a b ▸ subVal_nanRule.canonicalNans a b
  refine ⟨?_, fsqrt_nan, fsqrt_negative ha, ?_, ?_, fdiv_zero_zero, fdiv_finite_zero, ?_, fadd_comm a b, fmul_comm a b, fsub_eq_fadd⟩
  · simp only [List.forall_mem_cons, List.not_mem_nil, false_implies, implies_true, and_true]
    exact ⟨addVal_nanRule.canonicalNans a b, hsub, mulVal_nanRule.canonicalNans a b, divVal_nanRule.canonicalNans a b,
      minVal_nanRule.canonicalNans a b, maxVal_nanRule.canonicalNans a b⟩
  · exact fun hia hib => ⟨fadd_inf_of_ne ha hb hia hib, fun h => h ▸ fadd_inf_self ha hia, fdiv_inf_inf hia hib⟩
  · intro hia hzb
    rw [fmul_comm b a, ffma_inf_zero hia hzb, ffma_zero_inf hia hzb]
    exact ⟨fmul_inf_zero hia hzb, fmul_inf_zero hia hzb, rfl, rfl, rfl, rfl⟩
  · exact fun hn hi h => h ▸ fadd_flip hn hi

end

section
/-! PROOFS. Row commands and poisoned places (R109, R172, R178): an item is popped poisoned where its own mark or its place in the backing
store is, and a row command popped so is not run. -/

namespace Sys2Proof.Machine

/-- The backing address that the front item of a queue is popped from (R178). -/
def State.frontPlace (s : State) (q : Nat) : Nat := s.rdAt F.QUE_BACKING_base q + (s.queue q).head % s.depth q * 64

theorem State.popFront_poison {s : State} {q : Nat} {it : Item} {is : List Item} (h : (s.queue q).items = it :: is) :
    (s.popFront q).1.poison = (it.poison || s.poisonAt (s.frontPlace q)) := by
  simp only [State.popFront, h, State.frontPlace]

/-- The row engine of a core takes a command now: it runs, is not stopped, and the front item of its command queue is visible to it (R109). -/
def State.takesRowCommand (s : State) (core q : Nat) : Bool :=
  s.alive && s.coreWorks core && decide (core < 256) && s.mayPop core q && s.visible q && !(s.rowAt (s.phys core)).stopped && s.coreServed core

/-- A command in a poisoned place is consumed as a poisoned item, whatever its own poison bit says and whatever it asks for. -/
theorem State.rowCommand_of_poisoned_place {s : State} {core act q : Nat} {it : Item} {is : List Item}
    (hq : s.rdAt F.ROW_CTRL_cmd_queue (s.phys core) = q) (htakes : s.takesRowCommand core q = true) (hitems : (s.queue q).items = it :: is)
    (hplace : s.poisonAt (s.frontPlace q) = true) : s.rowCommand core act = (s.popFront q).2.itemPoison core q := by
  have hpop : (s.popFront q).1.poison = true := by rw [State.popFront_poison hitems, hplace, Bool.or_true]
  simp only [State.takesRowCommand, Bool.and_eq_true, Bool.not_eq_true'] at htakes
  simp [State.rowCommand, hq, htakes, hitems, hpop]

/-- A SOFTMAX_FWD context of one block: FP32 to slot 8, its record in slot 100 (R106). -/
def softmaxCtx : List Nat := [2 ^ 60, 2 ^ 52 + 2 ^ 40, 0, 0, 0, 0, 8 * 2 ^ 52 + 100 * 2 ^ 4, 0]

/-- START of context 0, not poisoned itself (R109). -/
def startItem : Item := { data := wordBytes [2 ^ 60, 0, 0, 0, 0, 0, 0, 0] }

/-- An open step in which core 0's command queue, of 16 items at the start of a heap at HBM address 0, holds START of the cached context 0, and
the granule that the item lies in is poisoned. -/
def poisonedStart : State :=
  (((((({ mode := .running, step := .opened, queues := [(0, { items := [startItem] })], row := [(0, { cache := [(0, softmaxCtx)] })],
           mem := { hbmPoison := [(0, true)] } } : State).wrAt F.MEM_REGION_size 7 1).wrAt F.QUE_CFG_backing 0 2).wrAt F.QUE_CFG_log2_depth 0 4).wrAt
    F.QUE_CFG_enable 0 1).wrAt F.ROW_CTRL_ctx_count 0 1)

/-- The queue's configuration passes the checks of R177. -/
theorem poisonedStart_queueError : poisonedStart.queueError 0 = 0 := by decide

/-- Core 0 takes the command. -/
theorem poisonedStart_takes : poisonedStart.alive = true ∧ poisonedStart.coreWorks 0 = true ∧ poisonedStart.mayPop 0 0 = true ∧
    poisonedStart.visible 0 = true ∧ (poisonedStart.rowAt 0).stopped = false ∧ poisonedStart.coreServed 0 = true := by decide

/-- It is START of a context that is in order, clean and idle. -/
theorem poisonedStart_context : poisonedStart.ctxWords 0 0 = some softmaxCtx ∧
    poisonedStart.poisonAt ((poisonedStart.ctxAddr 0 0).getD 0) = false ∧ (poisonedStart.rowAt 0).idleFor 0 = true ∧
    ((poisonedStart.popFront 0).2.cacheCtx 0 0 softmaxCtx).ctxCode 0 softmaxCtx = 0 := by decide

theorem startItem_fields : fld (wd (bytesWords startItem.data) 0) 63 60 = 1 ∧ fld (wd (bytesWords startItem.data) 0) 59 48 = 0 := by
  decide

theorem poisonedStart_rowCommand : poisonedStart.rowCommand 0 1 = (poisonedStart.popFront 0).2.itemPoison 0 0 :=
  State.rowCommand_of_poisoned_place (it := startItem) (is := []) (by decide) (by decide) rfl (by decide)

/-- The poisoned item discards the step, and no record has had a START. -/
theorem poisonedStart_started : ((poisonedStart.rowCommand 0 1).rowAt 0).started = [] := by
  rw [poisonedStart_rowCommand]
  decide

end Sys2Proof.Machine
end

section
/-! PROOFS. The statement on the row engine. -/

open Sys2Proof Sys2Proof.Machine

/-- Refutes O25: a START whose item is clean but whose place in the backing store is poisoned is popped as a poisoned item (R178), so the step
fails and no record of its context is started. The statement asks for the item's own poison bit alone. -/
theorem not_rowEngine : ¬ Obligations.RowEngine := by
  intro h
  obtain ⟨-, -, -, -, hcommands, -⟩ := h
  obtain ⟨halive, hworks, hpop, hvisible, hstopped, hserved⟩ := poisonedStart_takes
  obtain ⟨hwords, hclean, hidle, hcode⟩ := poisonedStart_context
  obtain ⟨haction, hctx⟩ := startItem_fields
  have hstart := hcommands poisonedStart 0 startItem [] softmaxCtx halive hworks (by decide)
  simp only [hctx] at hstart
  obtain ⟨t, hexec, hrecords, -⟩ := (hstart hpop hvisible hstopped hserved rfl rfl hwords hclean hidle hcode).1 haction
  have ht : exec (.rowCmdStart 0) poisonedStart = .next (poisonedStart.rowCommand 0 1) := rfl
  obtain rfl := Host.Outcome.next.inj (ht.symm.trans hexec)
  have hmem := hrecords 0 (by decide)
  rw [show poisonedStart.phys 0 = 0 by decide, poisonedStart_started] at hmem
  exact List.not_mem_nil hmem

end

section
/-! PROOFS. Placement in HBM (R158): a granule's place among the 736 outside the carve-out is an affine map of `j` with a unit of
Z/736, and 23 of the 24 pseudo-channels of each block take one of them, the carve-out's own one left out. -/

namespace Sys2Proof.Machine

-- In parallel, each declaration that waits for the kernel's check of those before it would hold a thread and its stack.
set_option Elab.async false

/-! ### The unit and the turns -/

/-- `u` of R158 is odd, and 23 does not divide it. -/
theorem coprime_of_hash (h : Nat) : Nat.Coprime (if (2 * (h % 2 ^ 16 % 368) + 1) % 23 = 0 then 2 * (h % 2 ^ 16 % 368) + 1 + 2
    else 2 * (h % 2 ^ 16 % 368) + 1) 736 := by
  have hunit : ∀ u, u % 2 = 1 → ¬ 23 ∣ u → Nat.Coprime u 736 := fun u hodd h23 => by
    have htwo : Nat.Coprime u (2 ^ 5) := (Nat.coprime_two_right.2 (Nat.odd_iff.2 hodd)).pow_right 5
    have hprime : Nat.Coprime u 23 := ((Nat.Prime.coprime_iff_not_dvd (by norm_num)).2 h23).symm
    exact htwo.mul_right hprime
  split <;> exact hunit _ (by omega) (by omega)

/-- `jp` of R158, from the hash. -/
def placeTurn (h j : Nat) : Nat :=
  ((if (2 * (h % 2 ^ 16 % 368) + 1) % 23 = 0 then 2 * (h % 2 ^ 16 % 368) + 1 + 2 else 2 * (h % 2 ^ 16 % 368) + 1) * j +
    h / 2 ^ 16 % 2 ^ 16 % 736) % 736

theorem placeTurn_lt (h j : Nat) : placeTurn h j < 736 := by
  unfold placeTurn
  exact Nat.mod_lt _ (by norm_num)

theorem placeTurn_inj {h i j : Nat} (hi : i < 736) (hj : j < 736) (heq : placeTurn h i = placeTurn h j) : i = j :=
  (Nat.ModEq.cancel_left_of_coprime (coprime_of_hash h).symm (Nat.ModEq.add_right_cancel' _ heq)).eq_of_lt_of_lt hi hj

/-! ### The channels left out -/

/-- The pseudo-channel of turn `t`: in each block of 24 position `c` is left out. -/
def placeSkip (c t : Nat) : Nat := 24 * (t / 23) + if c ≤ t % 23 then t % 23 + 1 else t % 23

theorem placeSkip_lt {t : Nat} (c : Nat) (h : t < 736) : placeSkip c t < 768 := by
  unfold placeSkip
  split <;> omega

/-- A granule outside the carve-out never lies on the carve-out's position of a block. -/
theorem placeSkip_mod_ne (c t : Nat) : placeSkip c t % 24 ≠ c := by
  unfold placeSkip
  split <;> omega

theorem placeSkip_inj {c t u : Nat} (h : placeSkip c t = placeSkip c u) : t = u := by
  unfold placeSkip at h
  split at h <;> split at h <;> omega

/-! ### The channels of the 768 granules that share an offset -/

/-- The pseudo-channel of the granule with numbers `j` and `l`. -/
def channelAt (key l j : Nat) : Nat := if 736 ≤ j then 24 * (j - 736) + l % 24 else placeSkip (l % 24) (placeTurn (mix (key ^^^ l)) j)

theorem hbmPlace_eq (key j : Nat) {l b : Nat} (hl : l < 2 ^ 22) (hb : b < 256) :
    hbmPlace key ((j * 2 ^ 22 + l) * 256 + b) = (channelAt key l j, l * 256 + b) := by
  have hg : ∀ g, (g * 256 + b) / 256 = g ∧ (g * 256 + b) % 256 = b := by omega
  have hj : (j * 2 ^ 22 + l) / 2 ^ 22 = j := by rw [Nat.mul_comm, Nat.mul_add_div (Nat.two_pow_pos 22), Nat.div_eq_of_lt hl, Nat.add_zero]
  have hl' : (j * 2 ^ 22 + l) % 2 ^ 22 = l := Nat.mul_add_mod_of_lt hl
  simp only [hbmPlace, (hg _).1, (hg _).2, hj, hl', channelAt, placeSkip, placeTurn]
  split <;> rfl

theorem channelAt_lt {key l j : Nat} (hj : j < 768) : channelAt key l j < 768 := by
  unfold channelAt
  split
  · omega
  · exact placeSkip_lt _ (placeTurn_lt _ j)

theorem channelAt_inj {key l i j : Nat} (h : channelAt key l i = channelAt key l j) : i = j := by
  have hi := placeSkip_mod_ne (l % 24) (placeTurn (mix (key ^^^ l)) i)
  have hj := placeSkip_mod_ne (l % 24) (placeTurn (mix (key ^^^ l)) j)
  unfold channelAt at h
  split at h <;> split at h
  · omega
  · omega
  · omega
  · exact placeTurn_inj (by omega) (by omega) (placeSkip_inj h)

/-- One granule each: 768 different channels are all of them. -/
theorem channelAt_surj (key l : Nat) {p : Nat} (hp : p < 768) : ∃ j, j < 768 ∧ channelAt key l j = p := by
  have hmaps : Set.MapsTo (channelAt key l) (Finset.range 768) (Finset.range 768) := fun j hj => by
    simpa using channelAt_lt (by simpa using hj)
  have hsurj := Finset.surjOn_of_injOn_of_card_le _ hmaps (fun _ _ _ _ h => channelAt_inj h) le_rfl
  obtain ⟨j, hj, hjp⟩ := hsurj (show p ∈ ((Finset.range 768 : Finset Nat) : Set Nat) by simpa using hp)
  exact ⟨j, by simpa using hj, hjp⟩

theorem channelAt_carve (key other l : Nat) {j : Nat} (h : 736 ≤ j) : channelAt key l j = channelAt other l j := by
  rw [channelAt, channelAt, if_pos h, if_pos h]

end Sys2Proof.Machine
end

section
open Sys2Proof Sys2Proof.Machine

set_option Elab.async false

/-- Settles O55: outside the carve-out the place is an affine bijection of Z/736, and the carve-out takes what the skip leaves out. -/
theorem hbmPlacementIsABijection : Obligations.HbmPlacementIsABijection := by
  intro key l b hl hb
  simp only [hbmPlace_eq _ _ hl hb]
  exact ⟨fun j hj => ⟨channelAt_lt hj, trivial⟩, fun i j _ _ h => channelAt_inj h, fun p hp => channelAt_surj key l hp,
    fun other j hj _ => by rw [channelAt_carve key other l hj]⟩

end

section
/-! PROOFS. Events (R341, R346 to R348): what recording one leaves as it was, and what raising one adds to that. -/

namespace Sys2Proof.Machine

set_option Elab.async false

/-! ### Recording an event -/

/-- The state without what recording an event changes beside registers. -/
def State.sansRecord (s : State) : State := { s with regs := [], outbox := [], ev := {}, mgmt := {} }

def recordFields : List Field := [F.ERR_SEV_COUNT_count, F.ERR_LOG_record, F.ERR_EVENT_SEQ_seq, F.STW_STATUS_sessions]

/-- From `s` to `t` events have been recorded, and nothing else has happened. -/
abbrev State.Records : State → State → Prop := State.SameBut State.sansRecord recordFields

section
variable {s t : State}

theorem State.Records.wrAt (h : s.Records t) {f : Field} {i v : Nat}
    (hf : f.slot % 2 ^ 64 ∈ recordFields.map Field.slot := by decide) : s.Records (t.wrAt f i v) :=
  State.SameBut.wrAt h rfl hf

theorem State.Records.withEv (h : s.Records t) {ev : EventSt} : s.Records { t with ev } := h.frame

theorem State.Records.mgmtTo (h : s.Records t) {id kind : Nat} {body : List Nat} : s.Records (t.mgmtTo id kind body) := by
  unfold State.mgmtTo
  split
  · exact h
  · exact .ite h.frame (.ite (State.Records.wrAt (.frame h)) h.frame)

theorem State.Records.mgmtAll (h : s.Records t) {roles : List Nat} {kind : Nat} {body : List Nat} :
    s.Records (t.mgmtAll roles kind body) :=
  h.foldl fun _ _ hu => State.Records.mgmtTo hu

theorem State.Records.sendRecord (h : s.Records t) {ws : List Nat} : s.Records (t.sendRecord ws) := .mgmtAll h.frame

theorem State.Records.fileRecord (h : s.Records t) {seq : Nat} {ws : List Nat} : s.Records (t.fileRecord seq ws) :=
  State.Records.withEv (h.foldl fun _ _ hu => State.Records.wrAt hu)

theorem State.Records.closeWindow (h : s.Records t) {w : Window} : s.Records (t.closeWindow w) :=
  State.Records.sendRecord (State.Records.fileRecord (State.Records.withEv h))

theorem State.Records.appendRecord (h : s.Records t) {e : Event} {unit : Nat} {detail : List Nat} :
    s.Records (t.appendRecord e unit detail) := by
  unfold State.appendRecord
  extract_lets u _ _ v _
  have hu : s.Records u := h.foldl fun _ _ hu => State.Records.closeWindow hu
  have hv : s.Records v := State.Records.fileRecord (State.Records.wrAt hu)
  exact .ite (State.Records.withEv hv) (State.Records.sendRecord hv)

theorem State.Records.countRepeat (h : s.Records t) {w : Window} {sev : Nat} : s.Records (t.countRepeat w sev) :=
  State.Records.withEv (State.Records.wrAt h)

theorem State.Records.record (h : s.Records t) {e : Event} {unit : Nat} {detail : List Nat} : s.Records (t.record e unit detail) := by
  unfold State.record
  extract_lets u
  have hu : s.Records u := State.Records.wrAt h
  split
  · exact State.Records.countRepeat hu
  · exact State.Records.appendRecord hu

/-! ### Raising an event -/

/-- An event up to CONTAINED is recorded; what it does to the step is the raising rule's. -/
theorem State.raise_of_contained {e : Event} (he : e.severity ≤ 3) (unit : Nat) (detail : List Nat) :
    s.raise e unit detail = s.record e unit detail := by
  have h5 : e.severity ≠ 5 := by omega
  have h4 : e.severity ≠ 4 := by omega
  simp [State.raise, h5, h4]

theorem State.Records.raise (h : s.Records t) {e : Event} {unit : Nat} {detail : List Nat} (he : e.severity ≤ 3 := by decide) :
    s.Records (t.raise e unit detail) :=
  State.raise_of_contained he unit detail ▸ .record h

theorem State.Records.mem_eq (h : s.Records t) : t.mem = s.mem := (congrArg State.mem h.rest :)

theorem State.Records.job_eq (h : s.Records t) : t.job = s.job := (congrArg State.job h.rest :)

theorem State.Records.mode_eq (h : s.Records t) : t.mode = s.mode := (congrArg State.mode h.rest :)

end

/-- FAILED is entered with a record, from any state with auxiliary power. -/
theorem State.enterFailed_spec {s : State} (hpower : s.powered = true) (cause : Nat) :
    (s.enterFailed cause).mode = .failed ∧ ∃ m, State.Records { s with mode := m } (s.enterFailed cause) := by
  have hoff : s.mode ≠ .off := by simpa [State.powered] using hpower
  by_cases hfailed : s.mode = .failed
  · have hstay : s.enterFailed cause = s := by simp [State.enterFailed, hfailed]
    rw [hstay]
    exact ⟨hfailed, s.mode, .refl _ _ s⟩
  · have henter : s.enterFailed cause = State.record { s with mode := .failed } .MODULE_FAILED 0xFFFF [cause] := by
      simp [State.enterFailed, hfailed, hoff]
    have hrecords : State.Records { s with mode := .failed } (s.enterFailed cause) := henter ▸ .record (.refl _ _ _)
    exact ⟨hrecords.mode_eq, .failed, hrecords⟩

end Sys2Proof.Machine
end

section
/-! PROOFS. What a failed step and a warning leave of HBM and its counts (R31, R33, R168, R172, R311 to R313, R364).

An uncorrectable error can end the step or the job, and with it everything an attempt holds. `State.Reacts s t` says that `t` comes from `s`
by such reactions: the bytes of HBM and their poison marks, the state of the scrub and of the monitors, and registers other than those listed
are as before. As with `State.Keeps`, the rule of an operation reads `s.Reacts t → s.Reacts (t.op …)`, in the model's order. -/

namespace Sys2Proof.Machine

set_option Elab.async false

/-- What no reaction to an error changes beside registers. -/
def State.sansReaction (s : State) : State :=
  { mem := { s.mem with tile := {}, oc := {}, refetches := [] }, job := { active := s.job.active } }

def reactionFields : List Field :=
  recordFields ++ carryFields ++
  [F.UPD_REJECT_valid, F.UPD_REJECT_source, F.UPD_REJECT_reason, F.UPD_REJECT_entry, F.UPD_STATUS_table_loaded, F.UPD_STATUS_ucode_loaded,
   F.UPD_LOAD_load_table, F.UPD_LOAD_load_ucode, F.UPD_STATUS_phase, F.ERR_FM_result, F.ERR_STATUS_local_discards,
   F.QUE_STATUS_underrun, F.QUE_STATUS_overrun, F.QUE_STATUS_frame_err, F.QUE_STATUS_credits, F.ROW_CTRL_flush_ctx,
   F.SCH_COCOON_free, F.SCH_COCOON_reserved_units, F.SCH_COCOON_CTRL_fw_stalled, F.SCH_COCOON_CTRL_bw_stalled,
   F.SCH_RUN_running, F.SCH_RUN_stopping, F.SCH_RUN_steps_left, F.CHK_CANARY_STATUS_running, F.CHK_TEST_STATUS_deferred,
   F.FAB_COLL_STATUS_in_flight, F.CHK_INPUT_WAIT_ticks, F.MOD_STEP_replay_count, F.CHK_MOLT_COUNT_discards, F.CHK_MOLT_LAST_valid,
   F.CHK_MOLT_LAST_cause, F.CHK_MOLT_LAST_origin, F.CHK_MOLT_STATUS_last_decision, F.MEM_POISON_COUNT_consumed,
   F.MEM_POISON_LAST_valid, F.MEM_POISON_LAST_region, F.MEM_POISON_LAST_point, F.MEM_POISON_LAST_address,
   F.CHK_CHRYS_COORD_gathering, F.CHK_CHRYS_COORD_done_count, F.CHK_CHRYS_COORD_pending, F.CHK_CHRYS_INSTAR_instar,
   F.CHK_CHRYS_STATUS_slot, F.CHK_CHRYS_STATUS_state, F.CHK_CHRYS_STATUS_code, F.CHK_CHRYS_STATUS_fence, F.CHK_CHRYS_BYTES_bytes]

/-- From `s` to `t` the module has reacted to errors, and nothing else has happened. -/
structure State.Reacts (s t : State) : Prop where
  same : State.SameBut State.sansReaction reactionFields s t

section
variable {s t u : State}

/-! #### Rules for any program -/

theorem State.Reacts.refl (s : State) : s.Reacts s := ⟨.refl _ _ s⟩

theorem State.Reacts.trans (h : s.Reacts t) (k : t.Reacts u) : s.Reacts u := ⟨h.same.trans k.same⟩

theorem State.Reacts.ite {c : Prop} [Decidable c] (h : s.Reacts t) (k : s.Reacts u) : s.Reacts (if c then t else u) := by
  split <;> assumption

theorem State.Reacts.foldl {α : Type} {xs : List α} {f : State → α → State} (h : s.Reacts t)
    (hf : ∀ u x, s.Reacts u → s.Reacts (f u x)) : s.Reacts (xs.foldl f t) := by
  induction xs generalizing t with
  | nil => exact h
  | cons x xs ih => exact ih (hf t x h)

/-- A change of what the relation does not speak of. -/
theorem State.Reacts.frame {outbox : List Output} {drawn : Nat} {mode : ModState} {step : StepState} {job : JobSt} {barrier : BarrierSt}
    {mirror : MirrorSt} {canary : CanarySt} {test : TestSt} {ev : EventSt} {mem : MemSt} {queues : Sparse Queue} {waits : List Wait}
    {stalled : List Stalled} {ops : List CounterOp} {rings : Sparse Ring} {sched : SchedSt} {upd : UpdSt} {fab : FabSt} {chrys : ChrysSt}
    {mgmt : MgmtSt} {arr : Sparse ArrSt} {row : Sparse RowSt} {vec : Sparse VecSt} {xfers : List Xfer} (h : s.Reacts t)
    (hjob : job.active = t.job.active := by rfl)
    (hmem : { mem with tile := {}, oc := {}, refetches := [] } = { t.mem with tile := {}, oc := {}, refetches := [] } := by rfl) :
    s.Reacts { t with
      outbox, drawn, mode, step, job, barrier, mirror, canary, test, ev, mem, queues, waits, stalled, ops, rings, sched, upd, fab, chrys,
      mgmt, arr, row, vec, xfers } :=
  ⟨h.same.frame (by simp only [State.sansReaction, hjob, hmem])⟩

theorem State.Reacts.wrAt (h : s.Reacts t) {f : Field} {i v : Nat}
    (hf : f.slot % 2 ^ 64 ∈ reactionFields.map Field.slot := by decide) : s.Reacts (t.wrAt f i v) :=
  ⟨h.same.wrAt rfl hf⟩

theorem State.Reacts.wr (h : s.Reacts t) {f : Field} {v : Nat}
    (hf : f.slot % 2 ^ 64 ∈ reactionFields.map Field.slot := by decide) : s.Reacts (t.wr f v) := h.wrAt hf

theorem State.Reacts.add (h : s.Reacts t) {f : Field} {n : Nat}
    (hf : f.slot % 2 ^ 64 ∈ reactionFields.map Field.slot := by decide) : s.Reacts (t.add f n) := h.wrAt hf

theorem State.Reacts.addSat (h : s.Reacts t) {f : Field} {n : Nat}
    (hf : f.slot % 2 ^ 64 ∈ reactionFields.map Field.slot := by decide) : s.Reacts (t.addSat f n) := h.wrAt hf

theorem State.Reacts.clearAt (h : s.Reacts t) {fs : List Field} {i : Nat}
    (hfs : ∀ f ∈ fs, f.slot % 2 ^ 64 ∈ reactionFields.map Field.slot := by decide) : s.Reacts (t.clearAt fs i) := by
  induction fs generalizing t with
  | nil => exact h
  | cons f fs ih => exact ih (h.wrAt (hfs f (by simp))) fun g hg => hfs g (by simp [hg])

theorem State.Reacts.clear (h : s.Reacts t) {fs : List Field}
    (hfs : ∀ f ∈ fs, f.slot % 2 ^ 64 ∈ reactionFields.map Field.slot := by decide) : s.Reacts (t.clear fs) := h.clearAt hfs

/-- Registers other than those listed read as before. -/
theorem State.Reacts.rdAt_eq (h : s.Reacts t) (f : Field) (i : Nat)
    (hf : f.slot % 2 ^ 64 ∉ reactionFields.map Field.slot := by decide) : t.rdAt f i = s.rdAt f i :=
  h.same.regs.rdAt_eq f i hf

/-! #### Events, flits and messages -/

theorem State.Records.reacts (h : s.Records t) : s.Reacts t := ⟨h.mono fun _ _ hab => (congrArg State.sansReaction hab :)⟩

theorem State.Sends.reacts (h : s.Sends t) : s.Reacts t := ⟨h.mono fun _ _ hab => (congrArg State.sansReaction hab :)⟩

theorem State.Reacts.mgmtAll (h : s.Reacts t) {roles : List Nat} {kind : Nat} {body : List Nat} : s.Reacts (t.mgmtAll roles kind body) :=
  h.trans (State.Records.mgmtAll (.refl _ _ t)).reacts

theorem State.Reacts.record (h : s.Reacts t) {e : Event} {unit : Nat} {detail : List Nat} : s.Reacts (t.record e unit detail) :=
  h.trans (State.Records.record (.refl _ _ t)).reacts

theorem State.Reacts.enterFailed (h : s.Reacts t) {cause : Nat} : s.Reacts (t.enterFailed cause) := .ite h h.frame.record

theorem State.Reacts.raise (h : s.Reacts t) {e : Event} {unit : Nat} {detail : List Nat} : s.Reacts (t.raise e unit detail) :=
  .ite h.record.enterFailed (.ite h.record.frame h.record)

theorem State.Reacts.raiseRec (h : s.Reacts t) {e : Event} {unit : Nat} {r : List Field} {i : Nat} : s.Reacts (t.raiseRec e unit r i) :=
  h.raise

theorem State.Reacts.launch (h : s.Reacts t) {k : Nat} {f : Flit} {tag : Nat} : s.Reacts (t.launch k f tag) :=
  h.trans (State.Sends.launch (.refl _ _ t)).reacts

theorem State.Reacts.sendFlit (h : s.Reacts t) {f : Flit} {tag : Nat} : s.Reacts (t.sendFlit f tag) :=
  h.trans (State.Sends.sendFlit (.refl _ _ t)).reacts

theorem State.Reacts.sendBarrier (h : s.Reacts t) {dst kind code cause flags count origin digest : Nat} :
    s.Reacts (t.sendBarrier dst kind code cause flags count origin digest) :=
  h.sendFlit

/-! #### Loads that waited for the end of the step -/

theorem State.Reacts.rejectTable (h : s.Reacts t) {source code entry : Nat} : s.Reacts (t.rejectTable source code entry) :=
  h.wr.wr.wr.wr.raiseRec

theorem State.Reacts.loadTable (h : s.Reacts t) : s.Reacts t.loadTable := by
  unfold State.loadTable
  extract_lets _ _ _ _
  split
  · exact h.rejectTable
  · exact h.frame.wr

theorem State.Reacts.loadUcode (h : s.Reacts t) : s.Reacts t.loadUcode := by
  rw [show State.loadUcode = _ from by delta State.loadUcode; rfl]
  extract_lets +onlyGivenNames _ _
  split
  · exact h.rejectTable
  · exact h.frame.wr

theorem State.Reacts.settleLoads (h : s.Reacts t) : s.Reacts t.settleLoads :=
  .ite h (.ite (.loadUcode (.wr (.ite h.wr.loadTable h))) (.ite h.wr.loadTable h))

/-! #### The end of an attempt -/

theorem State.Reacts.answer (h : s.Reacts t) {code fmSeq result : Nat} : s.Reacts (t.answer code fmSeq result) := h.frame.wr.mgmtAll

theorem State.Reacts.finishDirectives (h : s.Reacts t) {code : Nat} : s.Reacts (t.finishDirectives code) :=
  h.frame.foldl fun _ _ hu => hu.answer

theorem State.Reacts.settleSteps (h : s.Reacts t) : s.Reacts t.settleSteps := h.frame

theorem State.Reacts.resetQueue (h : s.Reacts t) {q : Nat} : s.Reacts (t.resetQueue q) := .ite h.frame.clearAt.wrAt h.frame.clearAt

theorem State.Reacts.resetQueues (h : s.Reacts t) : s.Reacts t.resetQueues := h.foldl fun _ _ hu => hu.resetQueue

theorem State.Reacts.abandonPushes (h : s.Reacts t) : s.Reacts t.abandonPushes := h.frame

theorem State.Reacts.endWaits (h : s.Reacts t) : s.Reacts t.endWaits := h.frame

theorem State.Reacts.undefineStores (h : s.Reacts t) : s.Reacts t.undefineStores := h.frame

theorem State.Reacts.resetSpaces (h : s.Reacts t) : s.Reacts t.resetSpaces := h.frame

theorem State.Reacts.flushDecisions (h : s.Reacts t) : s.Reacts t.flushDecisions :=
  h.foldl fun _ _ hu => .ite (hu.foldl (fun _ _ hu' => hu'.launch)) hu

theorem State.Reacts.resetUpd (h : s.Reacts t) : s.Reacts t.resetUpd := h.frame.wr

theorem State.Reacts.resetArrays (h : s.Reacts t) : s.Reacts t.resetArrays := h.frame.foldl fun _ _ hu => hu.wrAt

theorem State.Reacts.dropContexts (h : s.Reacts t) : s.Reacts t.dropContexts := h.frame

theorem State.Reacts.resetVec (h : s.Reacts t) : s.Reacts t.resetVec := h.frame

theorem State.Reacts.endAttempt (h : s.Reacts t) : s.Reacts t.endAttempt :=
  h.flushDecisions.resetQueues.abandonPushes.endWaits.undefineStores.resetSpaces.resetUpd.resetArrays.resetVec.frame.wr.clear.wr.wr.wr

theorem State.Reacts.askPartner (h : s.Reacts t) {g instar : Nat} : s.Reacts (t.askPartner g instar) := h.sendFlit

theorem State.Reacts.askCopy (h : s.Reacts t) {r : Refetch} : s.Reacts (t.askCopy r) := .ite h.sendFlit h.askPartner

theorem State.Reacts.askAgain (h : s.Reacts t) : s.Reacts t.askAgain := by
  unfold State.askAgain
  extract_lets _ _ u
  have hu : s.Reacts u := h.frame.foldl fun _ _ hu => hu.askCopy
  split
  · exact hu.foldl fun _ _ hu' => hu'.askPartner
  · exact hu

theorem State.Reacts.promoteRx (h : s.Reacts t) : s.Reacts t.promoteRx := h.frame

theorem State.Reacts.endInputWait (h : s.Reacts t) : s.Reacts t.endInputWait := by
  unfold State.endInputWait
  extract_lets _
  split
  · exact h.frame.add
  · exact h

theorem State.Reacts.enterHeld (h : s.Reacts t) : s.Reacts t.enterHeld :=
  .ite h.frame.endInputWait.finishDirectives.settleLoads.settleSteps h

theorem State.Reacts.enterDraining (h : s.Reacts t) : s.Reacts t.enterDraining :=
  .ite h.endInputWait.frame.clear.finishDirectives.settleLoads.settleSteps h

theorem State.Reacts.atBoundary (h : s.Reacts t) : s.Reacts t.atBoundary := by
  unfold State.atBoundary
  extract_lets _
  split
  · exact h.frame.enterHeld
  · exact h.enterDraining
  · exact h

/-! #### Votes and discards -/

theorem State.Reacts.toDiscarded (h : s.Reacts t) :
    s.Reacts { t with step := .discarded, barrier := {}, job := { t.job with holdAfter := false } } := h.frame

theorem State.Reacts.discardStep (h : s.Reacts t) {cause origin : Nat} {hold : Bool} : s.Reacts (t.discardStep cause origin hold) := by
  unfold State.discardStep
  extract_lets _ _ u v w _ _ u' v'
  have hu : s.Reacts u := .ite h.frame h
  have hv : s.Reacts v := hu.endAttempt.dropContexts
  have hw : s.Reacts w := hv.wr.addSat.wr.wr.wr
  have hu' : s.Reacts u' := hw.toDiscarded.promoteRx.askAgain
  have hv' : s.Reacts v' := .ite hu'.enterHeld hu'
  exact .ite hv'.atBoundary h

theorem State.Reacts.decideDiscard (h : s.Reacts t) {cause origin : Nat} : s.Reacts (t.decideDiscard cause origin) :=
  .discardStep (.foldl (.wr (.ite h h.add)) (fun _ _ hu => hu.sendBarrier))

theorem State.Reacts.passFail (h : s.Reacts t) : s.Reacts t.passFail := .ite (.ite h h.decideDiscard) (.ite h h.sendBarrier.frame)

theorem State.Reacts.voteFail (h : s.Reacts t) {cause : Nat} : s.Reacts (t.voteFail cause) := h.frame.passFail

theorem State.Reacts.failStep (h : s.Reacts t) {cause : Nat} {hold : Bool} : s.Reacts (t.failStep cause hold) := by
  unfold State.failStep
  extract_lets _ u _
  have hu : s.Reacts u := .ite h.frame h
  exact .ite (.ite hu hu.voteFail) (.ite hu.frame.enterHeld hu)

theorem State.Reacts.fatalJob (h : s.Reacts t) {e : Event} {unit : Nat} {detail : List Nat} {cause : Nat} :
    s.Reacts (t.fatalJob e unit detail cause) :=
  h.raise.failStep

theorem State.Reacts.consumed (h : s.Reacts t) {point a : Nat} : s.Reacts (t.consumed point a) := .ite h.addSat h.addSat.wr.wr.wr.wr

theorem State.Reacts.poisonFatal (h : s.Reacts t) {a : Nat} : s.Reacts (t.poisonFatal a) := h.consumed.fatalJob

theorem State.Reacts.requestCopy (h : s.Reacts t) {g : Nat} {resend : Bool} : s.Reacts (t.requestCopy g resend) :=
  .ite h (.ite h.poisonFatal h.frame.askCopy)

/-! #### Warnings -/

theorem State.Reacts.sendChrys (h : s.Reacts t) {dst kind flags slot code instar piece pieces digest : Nat} :
    s.Reacts (t.sendChrys dst kind flags slot code instar piece pieces digest) :=
  h.sendFlit

theorem State.Reacts.nvmeWrite (h : s.Reacts t) {f ctrl ns lba blocks what : Nat} {data : List Byte} :
    s.Reacts (t.nvmeWrite f ctrl ns lba blocks what data) :=
  h.frame

theorem State.Reacts.sendCommand (h : s.Reacts t) {w : Writer} {f k : Nat} : s.Reacts (t.sendCommand w f k) :=
  .ite h.nvmeWrite (.ite h.nvmeWrite h.nvmeWrite)

theorem State.Reacts.issueWrite (h : s.Reacts t) {w : Writer} {k : Nat} : s.Reacts (t.issueWrite w k) := by
  rw [show State.issueWrite = _ from by delta State.issueWrite; rfl]
  extract_lets +onlyGivenNames u
  have hu : s.Reacts u := h.sendCommand
  split
  · exact hu.frame
  · exact hu

theorem State.Reacts.setWriter (h : s.Reacts t) {w : Option Writer} : s.Reacts (t.setWriter w) := h.frame

theorem State.Reacts.countDone (h : s.Reacts t) {instar rank piece pieces digest : Nat} {failed : Bool} :
    s.Reacts (t.countDone instar rank piece pieces digest failed) := by
  unfold State.countDone
  extract_lets _
  split
  · extract_lets _
    exact .ite h.frame.wr h
  · exact h

theorem State.Reacts.sendDone (h : s.Reacts t) {instar slot piece pieces digest : Nat} {failed : Bool} {code : Nat} :
    s.Reacts (t.sendDone instar slot piece pieces digest failed code) :=
  .ite h.countDone h.sendChrys

theorem State.Reacts.stopWriter (h : s.Reacts t) {code : Nat} : s.Reacts (t.stopWriter code) := by
  unfold State.stopWriter
  extract_lets u v
  have hu : s.Reacts u := h.setWriter.wr.wr.wr
  have hv : s.Reacts v := hu.raiseRec.settleSteps
  split
  · exact h
  · exact .ite hv hv.sendDone

theorem State.Reacts.issueAll (h : s.Reacts t) {w : Writer} : s.Reacts (t.issueAll w) := h.foldl fun _ _ hu => hu.issueWrite

theorem State.Reacts.takeCut (h : s.Reacts t) {instar slot : Nat} : s.Reacts (t.takeCut instar slot) := by
  unfold State.takeCut
  extract_lets _ _ _ _ _ _ u v
  have hu : s.Reacts u := h.setWriter.wr.wr.wr.wr.wr
  have hv : s.Reacts v := hu.finishDirectives
  exact .ite hv.stopWriter (.ite hv.wr hv.wr.issueAll)

theorem State.Reacts.onCut (h : s.Reacts t) {now : Bool} {instar slot : Nat} : s.Reacts (t.onCut now instar slot) :=
  .ite (.sendDone (.ite h h.wr)) (.ite h.takeCut h.frame)

theorem State.Reacts.issueCut (h : s.Reacts t) : s.Reacts t.issueCut := by
  unfold State.issueCut
  extract_lets _ _ _ _ u _ v w u'
  have hu : s.Reacts u := .ite h.nvmeWrite h
  have hv : s.Reacts v := hu.frame
  have hw : s.Reacts w := hv.wr.wr.wr
  have hu' : s.Reacts u' := hw.foldl fun _ _ hu' => hu'.sendChrys
  exact hu'.onCut

theorem State.Reacts.coordRequest (h : s.Reacts t) : s.Reacts t.coordRequest := .ite h (.ite h.wr h.issueCut)

theorem State.Reacts.warn (h : s.Reacts t) : s.Reacts t.warn := .ite (.ite h.frame.raise.coordRequest h.frame.raise.sendChrys) h

end

end Sys2Proof.Machine
end

section
/-! PROOFS. Granules of HBM (R15, R157, R170): storing bytes, clearing and setting marks, anywhere in HBM with the carve-out. -/

namespace Sys2Proof.Machine

set_option Elab.async false

theorem place_of_lt {a : Nat} (h : a < 0xC000000000) : place a = .hbm a ∨ place a = .carve a := by
  unfold place
  split_ifs <;> simp

theorem State.poisonAt_of_lt (s : State) {a : Nat} (h : a < 0xC000000000) : s.poisonAt a = sget false s.mem.hbmPoison (a / 64) := by
  rcases place_of_lt h with hp | hp <;> simp [State.poisonAt, hp]

theorem State.poisonAt_wrAt (s : State) (f : Field) (i v : Nat) {a : Nat} (h : a < 0xC000000000) :
    (s.wrAt f i v).poisonAt a = s.poisonAt a := by
  rw [State.poisonAt_of_lt _ h, State.poisonAt_of_lt _ h, State.wrAt_mem]

/-- Marking a granule changes the marks, and what the scrub remembers of rewrites. -/
theorem State.setPoison_of_lt (s : State) {a : Nat} (v : Bool) (h : a < 0xC000000000) :
    ∃ r, s.setPoison a v = { s with mem := { s.mem with hbmPoison := sset false s.mem.hbmPoison (a / 64) v, rewritten := r } } := by
  rcases place_of_lt h with hp | hp <;> exact ⟨_, by rw [State.setPoison, hp]⟩

theorem State.poisonAt_setPoison_same (s : State) {a : Nat} (v : Bool) (h : a < 0xC000000000) : (s.setPoison a v).poisonAt a = v := by
  obtain ⟨r, hset⟩ := s.setPoison_of_lt v h
  rw [State.poisonAt_of_lt _ h, hset, sget_sset_same]

theorem State.poke_of_lt (s : State) {a : Nat} (b : Byte) (h : a < 0xC000000000) :
    s.poke a b = { s with mem := { s.mem with hbm := s.mem.hbm.write a b } } := by
  rcases place_of_lt h with hp | hp <;> simp [State.poke, hp]

/-- Bytes stored in HBM change its image there, and nothing else. -/
theorem State.storeRaw_of_le (bs : List Byte) : ∀ (s : State) (a : Nat), a + bs.length ≤ 0xC000000000 →
    ∃ m, s.storeRaw a bs = { s with mem := { s.mem with hbm := m } } ∧
      ∀ c, (c < a ∨ a + bs.length ≤ c) → m.read c = s.mem.hbm.read c := by
  induction bs with
  | nil => exact fun s _ _ => ⟨s.mem.hbm, rfl, fun _ _ => rfl⟩
  | cons b bs ih =>
    intro s a hlen
    simp only [List.length_cons] at hlen ⊢
    obtain ⟨m, hstore, hread⟩ := ih (s.poke a b) (a + 1) (by omega)
    rw [State.poke_of_lt s b (by omega)] at hstore hread
    refine ⟨m, by rw [State.storeRaw, State.poke_of_lt s b (by omega), hstore], fun c hc => ?_⟩
    rw [hread c (by omega)]
    exact Image.read_write_other _ _ (by omega)

/-- A byte whose place in HBM reads as before reads as before. -/
theorem State.peek_withHbm (s : State) (m : Image) {c : Nat} (h : m.read c = s.mem.hbm.read c) :
    State.peek { s with mem := { s.mem with hbm := m } } c = s.peek c := by
  unfold State.peek
  split
  next x hx =>
    obtain rfl := place_eq_hbm_iff (.inl hx)
    exact h
  next x hx =>
    obtain rfl := place_eq_hbm_iff (.inr hx)
    exact h
  all_goals rfl

/-! ### A whole granule written clean (R170) -/

theorem unitsOf_granule {g : Nat} (hg : g % 64 = 0) (h : g + 64 ≤ 0xB800000000) : unitsOf g 64 = [g] := by
  have hplace : place g = .hbm g := if_pos (by omega)
  have hcount : (g + 63) / 64 - g / 64 + 1 = 1 := by omega
  have haddr : g / 64 * 64 = g := by omega
  simp [unitsOf, unitStep, hplace, hcount, haddr]

theorem State.storeN_granule (s : State) {g : Nat} {bs : List Byte} (hg : g % 64 = 0) (h : g + 64 ≤ 0xB800000000)
    (hlen : bs.length = 64) : s.storeN g bs = (s.storeRaw g bs).setPoison g false := by
  have hplace : place g = .hbm g := if_pos (by omega)
  have haddr : g / 64 * 64 = g := by omega
  simp [State.storeN, hlen, unitsOf_granule hg h, unitBytes, hplace, haddr]

/-- The granule reads what was written and is clean, and every other byte reads as before. -/
theorem State.storeN_granule_spec (s : State) {g : Nat} {bs : List Byte} (hg : g % 64 = 0) (h : g + 64 ≤ 0xB800000000)
    (hlen : bs.length = 64) : (s.storeN g bs).loadN g 64 = bs ∧ (s.storeN g bs).poisonAt g = false ∧
      ∀ a, (a < g ∨ g + 64 ≤ a) → (s.storeN g bs).peek a = s.peek a := by
  rw [s.storeN_granule hg h hlen]
  refine ⟨List.ext_getElem (by simp [State.loadN, hlen]) fun k hk hk' => ?_, State.poisonAt_setPoison_same _ _ (by omega), fun a ha => ?_⟩
  · simp only [State.loadN, List.getElem_map, List.getElem_range]
    rw [State.peek_setPoison, State.peek_storeRaw_inside _ _ _ _ (by omega) hk']
  · rw [State.peek_setPoison, State.peek_storeRaw_outside _ _ _ _ (by omega) (by omega)]

/-- Nor does anything change beside the image of HBM, its marks and what the scrub remembers of rewrites. -/
theorem State.storeN_granule_frame (s : State) {g : Nat} {bs : List Byte} (hg : g % 64 = 0) (h : g + 64 ≤ 0xB800000000)
    (hlen : bs.length = 64) : ∃ m p r, s.storeN g bs = { s with mem := { s.mem with hbm := m, hbmPoison := p, rewritten := r } } := by
  obtain ⟨m, hstore, -⟩ := State.storeRaw_of_le bs s g (by omega)
  obtain ⟨r, hset⟩ := State.setPoison_of_lt (s.storeRaw g bs) false (a := g) (by omega)
  rw [s.storeN_granule hg h hlen, hset, hstore]
  exact ⟨_, _, _, rfl⟩

end Sys2Proof.Machine
end

section
/-! PROOFS. The scrubs and the counts of errors (R165, R167 to R169). -/

namespace Sys2Proof.Machine

set_option Elab.async false

/-! ### What the code finds in a granule (R167, R168) -/

section
variable {s t : State} {a : Nat} {c : CodeCheck}

/-- Reactions to errors leave the marks of HBM. -/
theorem State.Reacts.poisonAt_eq (h : s.Reacts t) (ha : a < 0xC000000000) : t.poisonAt a = s.poisonAt a := by
  have hmarks : t.mem.hbmPoison = s.mem.hbmPoison := (congrArg (fun x : State => x.mem.hbmPoison) h.same.rest :)
  rw [State.poisonAt_of_lt _ ha, State.poisonAt_of_lt _ ha, hmarks]

theorem State.Reacts.scrubAt_eq (h : s.Reacts t) : t.mem.scrubAt = s.mem.scrubAt :=
  (congrArg (fun x : State => x.mem.scrubAt) h.same.rest :)

theorem State.uncorrectable_of_poisoned (h : s.poisonAt a = true) : s.uncorrectable a = s := by
  simp [State.uncorrectable, h]

/-- A clean granule is marked and counted; the rest is reaction. -/
theorem State.uncorrectable_reacts (h : s.poisonAt a = false) :
    State.Reacts ((s.setPoison a true).addAt F.MEM_UE_COUNT_count (s.stackOf a) 1) (s.uncorrectable a) := by
  unfold State.uncorrectable
  extract_lets k again u v
  have hu : State.Reacts ((s.setPoison a true).addAt F.MEM_UE_COUNT_count k 1) u := (State.Reacts.refl _).raise
  have hv : State.Reacts ((s.setPoison a true).addAt F.MEM_UE_COUNT_count k 1) v := .ite hu.raise.warn hu
  rw [if_neg (by simp [h])]
  split
  · exact .ite hv.requestCopy (.ite hv.requestCopy hv)
  · exact hv

/-- However it was, the granule is poisoned then. -/
theorem State.uncorrectable_poisonAt (ha : a < 0xC000000000) : (s.uncorrectable a).poisonAt a = true := by
  cases h : s.poisonAt a with
  | true => rwa [State.uncorrectable_of_poisoned h]
  | false =>
    rw [(State.uncorrectable_reacts h).poisonAt_eq ha, State.addAt, State.poisonAt_wrAt _ _ _ _ ha]
    exact s.poisonAt_setPoison_same true ha

theorem State.uncorrectable_scrubAt (ha : a < 0xC000000000) : (s.uncorrectable a).mem.scrubAt = s.mem.scrubAt := by
  cases h : s.poisonAt a with
  | true => rw [State.uncorrectable_of_poisoned h]
  | false =>
    obtain ⟨r, hset⟩ := s.setPoison_of_lt true ha
    rw [(State.uncorrectable_reacts h).scrubAt_eq, hset]
    rfl

/-- A clean granule is counted once in its stack. -/
theorem State.uncorrectable_count (ha : a < 0xC000000000) (h : s.poisonAt a = false) :
    (s.uncorrectable a).rdAt F.MEM_UE_COUNT_count (s.stackOf a) =
      (s.rdAt F.MEM_UE_COUNT_count (s.stackOf a) + 1) % 2 ^ F.MEM_UE_COUNT_count.width := by
  obtain ⟨r, hset⟩ := s.setPoison_of_lt true ha
  rw [(State.uncorrectable_reacts h).rdAt_eq F.MEM_UE_COUNT_count, State.rdAt_addAt_same, hset]
  rfl

/-- A miscorrection counts in the stack and rewrites the granule, and nothing else changes but the count of draws. -/
theorem State.miscorrect_spec (ha : a + 64 ≤ 0xC000000000) :
    (s.miscorrect a).mem.scrubAt = s.mem.scrubAt ∧
      (s.miscorrect a).rdAt F.MEM_CE_COUNT_count (s.stackOf a) =
        (s.rdAt F.MEM_CE_COUNT_count (s.stackOf a) + 1) % 2 ^ F.MEM_CE_COUNT_count.width ∧
      ∀ b, (b < a ∨ a + 64 ≤ b) → (s.miscorrect a).peek b = s.peek b := by
  have hlen : ((List.range 64).map (fun k => Config.memFill s.drawn (a + k))).length = 64 := by simp
  obtain ⟨m, hstore, hread⟩ := State.storeRaw_of_le _ s a (hlen ▸ ha)
  rw [hlen] at hread
  unfold State.miscorrect
  rw [hstore]
  refine ⟨rfl, State.rdAt_addAt_same _ _ _ _, fun b hb => ?_⟩
  exact (sameMemory_wrAt _ F.MEM_CE_COUNT_count _ _ (by decide) (by decide) b).trans (s.peek_withHbm m (hread b hb))

/-! The cases of the check. -/

theorem State.checkCode_of_none (hm : c.moved = false) (hc : c.symbols = 0) : s.checkCode a c = s := by
  simp [State.checkCode, hm, hc]

theorem State.checkCode_of_corrected (hm : c.moved = false) (hlow : 1 ≤ c.symbols) (hhigh : c.symbols ≤ 3) :
    s.checkCode a c = s.addAt F.MEM_CE_COUNT_count (s.stackOf a) 1 := by
  have hne : c.symbols ≠ 0 := by omega
  simp [State.checkCode, hm, hne, hhigh]

theorem State.checkCode_of_other (hm : c.moved = false) (hlow : 6 ≤ c.symbols) (ho : c.other = true) :
    s.checkCode a c = s.miscorrect a := by
  have hne : c.symbols ≠ 0 := by omega
  have hmany : ¬ c.symbols ≤ 3 := by omega
  simp [State.checkCode, hm, hne, hmany, hlow, ho]

theorem State.checkCode_of_uncorrectable (h : c.moved = true ∨ (4 ≤ c.symbols ∧ ¬(6 ≤ c.symbols ∧ c.other = true))) :
    s.checkCode a c = s.uncorrectable a := by
  rcases h with hm | ⟨hlow, ho⟩
  · simp [State.checkCode, hm]
  · have hne : c.symbols ≠ 0 := by omega
    have hmany : ¬ c.symbols ≤ 3 := by omega
    simp only [State.checkCode, hne, hmany, ho, if_false, ite_self]

/-- Whatever it finds, the scrub stays where it is. -/
theorem State.checkCode_scrubAt (ha : a + 64 ≤ 0xC000000000) : (s.checkCode a c).mem.scrubAt = s.mem.scrubAt := by
  unfold State.checkCode
  split_ifs
  · exact State.uncorrectable_scrubAt (by omega)
  · rfl
  · rfl
  · exact (State.miscorrect_spec ha).1
  · exact State.uncorrectable_scrubAt (by omega)

/-- An error that is corrected, or taken for one, is counted in its stack and changes no byte of another granule. -/
theorem State.checkCode_counts (ha : a + 64 ≤ 0xC000000000) (hm : c.moved = false)
    (h : (1 ≤ c.symbols ∧ c.symbols ≤ 3) ∨ (6 ≤ c.symbols ∧ c.other = true)) :
    (s.checkCode a c).rdAt F.MEM_CE_COUNT_count (s.stackOf a) =
        (s.rdAt F.MEM_CE_COUNT_count (s.stackOf a) + 1) % 2 ^ F.MEM_CE_COUNT_count.width ∧
      ∀ b, (b < a ∨ a + 64 ≤ b) → (s.checkCode a c).peek b = s.peek b := by
  rcases h with ⟨hlow, hhigh⟩ | ⟨hlow, ho⟩
  · rw [State.checkCode_of_corrected hm hlow hhigh]
    exact ⟨State.rdAt_addAt_same _ _ _ _, fun b _ => sameMemory_wrAt _ F.MEM_CE_COUNT_count _ _ (by decide) (by decide) b⟩
  · rw [State.checkCode_of_other hm hlow ho]
    exact (State.miscorrect_spec ha).2

end

/-! ### Where the scrub stands (R168) -/

/-- The address of a granule of the scrub lies in HBM. -/
theorem scrubAddr_le {n : Nat} (h : n < hbmGranules) : scrubAddr n + 64 ≤ 0xC000000000 := by
  have hn : n / 3072 < 2 ^ 22 := by
    rw [Nat.div_lt_iff_lt_mul (by norm_num)]
    exact h
  have hj : n / 4 % 768 < 768 := Nat.mod_lt _ (by norm_num)
  have hb : n % 4 < 4 := Nat.mod_lt _ (by norm_num)
  simp only [scrubAddr]
  omega

/-- The state after a check: a demand read's find leaves the scrub where it is. -/
def State.afterCheck (s : State) (demand : Bool) : State := if demand then s else s.scrubOn

theorem State.afterCheck_scrubAt (s : State) (demand : Bool) : (s.afterCheck demand).mem.scrubAt =
    if demand then s.mem.scrubAt else if s.mem.scrubAt + 1 < hbmGranules then s.mem.scrubAt + 1 else 0 := by
  cases demand
  · simp only [State.afterCheck, State.scrubOn, Bool.false_eq_true, if_false]
    split <;> rfl
  · rfl

theorem State.scrubOn_memory (s : State) : sameMemory s s.scrubOn := by
  unfold State.scrubOn
  refine .ite (.trans (fun _ => rfl) (sameMemory_wrAt _ _ _ _)) (.trans (.trans (fun _ => rfl) (sameMemory_wrAt _ _ _ _)) (sameMemory_wrAt _ _ _ _))

theorem State.scrubOn_hbmPoison (s : State) : s.scrubOn.mem.hbmPoison = s.mem.hbmPoison := by
  unfold State.scrubOn
  dsimp only
  split <;> rfl

/-- Moving on shows in MEM_SCRUB_STATUS alone. -/
theorem State.scrubOn_rdAt (s : State) {f : Field} (i : Nat) (hposition : f.slot ≠ F.MEM_SCRUB_STATUS_position.slot := by decide)
    (hpasses : f.slot ≠ F.MEM_SCRUB_STATUS_passes.slot := by decide) (hf : f.slot < 2 ^ 64 := by decide) :
    s.scrubOn.rdAt f i = s.rdAt f i := by
  unfold State.scrubOn
  dsimp only
  split
  · exact State.rdAt_wrAt_other _ _ _ _ _ _ (Field.key_ne_of_slot _ _ _ _ hf (by decide) hposition)
  · refine (State.rdAt_wrAt_other _ _ _ _ _ _ (Field.key_ne_of_slot _ _ _ _ hf (by decide) hpasses)).trans ?_
    exact State.rdAt_wrAt_other _ _ _ _ _ _ (Field.key_ne_of_slot _ _ _ _ hf (by decide) hposition)

/-- So after a check memory, marks and counts are those the check has left. -/
theorem State.afterCheck_frame (s : State) (demand : Bool) : sameMemory s (s.afterCheck demand) ∧
    (∀ a, a < 0xC000000000 → (s.afterCheck demand).poisonAt a = s.poisonAt a) ∧
    (∀ k, (s.afterCheck demand).rdAt F.MEM_CE_COUNT_count k = s.rdAt F.MEM_CE_COUNT_count k) ∧
    ∀ k, (s.afterCheck demand).rdAt F.MEM_UE_COUNT_count k = s.rdAt F.MEM_UE_COUNT_count k := by
  cases demand
  · refine ⟨s.scrubOn_memory, fun a ha => ?_, fun k => s.scrubOn_rdAt k, fun k => s.scrubOn_rdAt k⟩
    rw [State.poisonAt_of_lt _ ha, State.poisonAt_of_lt _ ha]
    exact congrArg (sget false · (a / 64)) s.scrubOn_hbmPoison
  · exact ⟨.refl s, fun _ _ => rfl, fun _ => rfl, fun _ => rfl⟩

/-- PATROL_SCRUB checks one granule, of the scrub or of a demand read, and moves on where the scrub has read it. -/
theorem execPatrolScrub_eq {s : State} {c : CodeCheck} {a : Nat} (halive : s.alive = true) (hmode : s.mode ≠ .dormant)
    (henable : s.isSet F.MEM_CTRL_scrub_enable = true) (hdemand : ∀ b, c.demand = some b → b < 0xC000000000 ∧ a = b / 64 * 64)
    (hscrub : c.demand = none → a = scrubAddr s.mem.scrubAt) :
    exec (.patrolScrub c) s = .next ((s.checkCode a c).afterCheck c.demand.isSome) := by
  show execPatrolScrub c s = _
  cases hc : c.demand with
  | none => simp [execPatrolScrub, halive, hmode, henable, hc, hscrub hc, State.afterCheck]
  | some b =>
    obtain ⟨hb, rfl⟩ := hdemand b hc
    simp [execPatrolScrub, halive, hc, hb, State.afterCheck]

/-- The granule checked lies in HBM. -/
theorem checkedGranule_le {s : State} {c : CodeCheck} {a : Nat} (hat : s.mem.scrubAt < hbmGranules)
    (hdemand : ∀ b, c.demand = some b → b < 0xC000000000 ∧ a = b / 64 * 64) (hscrub : c.demand = none → a = scrubAddr s.mem.scrubAt) :
    a + 64 ≤ 0xC000000000 := by
  cases hc : c.demand with
  | none => exact hscrub hc ▸ scrubAddr_le hat
  | some b =>
    obtain ⟨hb, rfl⟩ := hdemand b hc
    omega

/-! ### Idle scrub of the stores (R165) -/

/-- A corrected word counts in MEM_SRAM_CE. -/
def State.sramCounted (s : State) (oc corrected : Bool) : State :=
  if corrected then (if oc then s.addSat F.MEM_SRAM_CE_operand_cache 1 else s.addSat F.MEM_SRAM_CE_tile_store 1) else s

/-- An uncorrectable word poisons its granule, slot or scale entry. -/
def MemSt.sramMarked (m : MemSt) (n : Nat) (oc uncorrectable : Bool) (off : Nat) : MemSt :=
  if !uncorrectable then m
  else if oc then { m with ocPoison := sset false m.ocPoison ((n * 0x80000 + off % 0x80000) / 64) true }
  else { m with tilePoison := sset false m.tilePoison (tileUnit n (off % 0x400000)) true }

/-- The scrub marks what it finds and moves to the offset read. -/
def State.sramMarked (s : State) (n : Nat) (oc uncorrectable : Bool) (off : Nat) : State :=
  { s with mem := { s.mem.sramMarked n oc uncorrectable off with sramAt := off } }

theorem execSramScrub_eq {s : State} {n : Nat} (halive : s.alive = true) (hn : n < 272) (oc c u : Bool) (off : Nat) :
    exec (.sramScrub n oc c u off) s = .next ((s.sramCounted oc c).sramMarked n oc u off) := by
  show execSramScrub n oc c u off s = _
  simp [execSramScrub, halive, hn, State.sramCounted, State.sramMarked, MemSt.sramMarked]

theorem State.rd_sramCounted_ocache (s : State) : (s.sramCounted true true).rd F.MEM_SRAM_CE_operand_cache =
    min (s.rd F.MEM_SRAM_CE_operand_cache + 1) (2 ^ F.MEM_SRAM_CE_operand_cache.width - 1) := State.rdAt_addSatAt_same _ _ _ _

theorem State.rd_sramCounted_tile (s : State) : (s.sramCounted false true).rd F.MEM_SRAM_CE_tile_store =
    min (s.rd F.MEM_SRAM_CE_tile_store + 1) (2 ^ F.MEM_SRAM_CE_tile_store.width - 1) := State.rdAt_addSatAt_same _ _ _ _

theorem State.sramCounted_mem (s : State) (oc c : Bool) : (s.sramCounted oc c).mem = s.mem := by
  cases c <;> cases oc <;> rfl

theorem State.sramCounted_memory (s : State) (oc c : Bool) : sameMemory s (s.sramCounted oc c) :=
  .ite (.ite (sameMemory_wrAt _ _ _ _) (sameMemory_wrAt _ _ _ _)) (.refl s)

section
variable (s : State) (n off : Nat)

theorem State.rd_sramMarked (oc u : Bool) (f : Field) : (s.sramMarked n oc u off).rd f = s.rd f := rfl

theorem State.sramMarked_ocache :
    sget false (s.sramMarked n true true off).mem.ocPoison ((n * 0x80000 + off % 0x80000) / 64) = true := by
  simp [State.sramMarked, MemSt.sramMarked]

theorem State.sramMarked_tile : sget false (s.sramMarked n false true off).mem.tilePoison (tileUnit n (off % 0x400000)) = true := by
  simp [State.sramMarked, MemSt.sramMarked]

theorem State.sramMarked_none (oc : Bool) : (s.sramMarked n oc false off).mem.ocPoison = s.mem.ocPoison ∧
    (s.sramMarked n oc false off).mem.tilePoison = s.mem.tilePoison := ⟨rfl, rfl⟩

/-- Marks of the stores are no bytes. -/
theorem State.sramMarked_memory (oc u : Bool) : sameMemory s (s.sramMarked n oc u off) := by
  unfold State.sramMarked MemSt.sramMarked
  split_ifs <;> exact fun _ => rfl

end

end Sys2Proof.Machine
end

section
/-! PROOFS. The monitors of memory (R161, R169): the hourly trend of corrected errors and the windows of 100 ms. -/

namespace Sys2Proof.Machine

set_option Elab.async false

/-! ### The trend of corrected errors (R169) -/

/-- A stack has passed the threshold since the last whole hour. -/
def State.trendExceeded (s : State) (k : Nat) : Bool :=
  decide (s.rd F.MEM_CE_THRESH_per_hour < s.rdAt F.MEM_CE_COUNT_count k - sget 0 s.mem.ceHour k)

/-- The stacks noted after stack `k` has been compared. -/
def State.ceNoted (s : State) (k : Nat) : List Nat :=
  if s.job.active && s.trendExceeded k && !s.mem.ceRaised.contains k then s.mem.ceRaised ++ [k] else s.mem.ceRaised

theorem State.mem_ceNoted {s : State} {j : Nat} (k : Nat) (h : j ∈ s.mem.ceRaised) : j ∈ s.ceNoted k := by
  unfold State.ceNoted
  split
  · exact List.mem_append_left _ h
  · exact h

theorem State.self_mem_ceNoted {s : State} {k : Nat} (hactive : s.job.active = true) (h : s.trendExceeded k = true) : k ∈ s.ceNoted k := by
  by_cases hraised : k ∈ s.mem.ceRaised <;> simp [State.ceNoted, hactive, h, hraised]

/-- Comparing a stack takes its count and notes it; the rest is reaction. -/
theorem State.ceTrend_reacts (s : State) (k : Nat) : State.Reacts
    { s with mem := { s.mem with ceHour := sset 0 s.mem.ceHour k (s.rdAt F.MEM_CE_COUNT_count k), ceRaised := s.ceNoted k } }
    (s.ceTrend k) := by
  unfold State.ceTrend State.ceNoted
  dsimp only
  split
  next h =>
    rw [if_pos (by exact h)]
    exact (State.Reacts.refl _).raise.warn
  next h =>
    rw [if_neg (by exact h)]
    exact .refl _

/-- From `s` to `t` the stacks `ks` have been compared with the threshold. -/
structure State.Compared (s : State) (ks : List Nat) (t : State) : Prop where
  active : t.job.active = s.job.active
  thresh : t.rd F.MEM_CE_THRESH_per_hour = s.rd F.MEM_CE_THRESH_per_hour
  count : ∀ k, t.rdAt F.MEM_CE_COUNT_count k = s.rdAt F.MEM_CE_COUNT_count k
  hourNo : t.mem.ceHourNo = s.mem.ceHourNo
  taken : ∀ k ∈ ks, sget 0 t.mem.ceHour k = s.rdAt F.MEM_CE_COUNT_count k
  other : ∀ k, k ∉ ks → sget 0 t.mem.ceHour k = sget 0 s.mem.ceHour k
  raised : ∀ k ∈ s.mem.ceRaised, k ∈ t.mem.ceRaised
  noted : s.job.active = true → ∀ k ∈ ks, s.trendExceeded k = true → k ∈ t.mem.ceRaised

theorem State.compared_ceTrend (s : State) (k : Nat) : s.Compared [k] (s.ceTrend k) := by
  have h := s.ceTrend_reacts k
  have hhour : (s.ceTrend k).mem.ceHour = sset 0 s.mem.ceHour k (s.rdAt F.MEM_CE_COUNT_count k) :=
    (congrArg (fun x : State => x.mem.ceHour) h.same.rest :)
  have hraised : (s.ceTrend k).mem.ceRaised = s.ceNoted k := (congrArg (fun x : State => x.mem.ceRaised) h.same.rest :)
  exact {
    active := (congrArg (fun x : State => x.job.active) h.same.rest :)
    thresh := h.rdAt_eq F.MEM_CE_THRESH_per_hour 0
    count := h.rdAt_eq F.MEM_CE_COUNT_count
    hourNo := (congrArg (fun x : State => x.mem.ceHourNo) h.same.rest :)
    taken := fun j hj => by rw [List.mem_singleton.1 hj, hhour, sget_sset_same]
    other := fun j hj => by rw [hhour, sget_sset_other _ _ _ (by simpa using hj)]
    raised := fun j hj => hraised ▸ State.mem_ceNoted k hj
    noted := fun hactive j hj hexceeds => by
      obtain rfl := List.mem_singleton.1 hj
      exact hraised ▸ State.self_mem_ceNoted hactive hexceeds }

theorem State.Compared.cons {s t u : State} {k : Nat} {ks : List Nat} (h : s.Compared [k] t) (hs : t.Compared ks u) (hk : k ∉ ks) :
    s.Compared (k :: ks) u where
  active := hs.active.trans h.active
  thresh := hs.thresh.trans h.thresh
  count j := (hs.count j).trans (h.count j)
  hourNo := hs.hourNo.trans h.hourNo
  taken j hj := by
    rcases List.mem_cons.1 hj with rfl | hj
    · exact (hs.other j hk).trans (h.taken j (by simp))
    · exact (hs.taken j hj).trans (h.count j)
  other j hj := by
    simp only [List.mem_cons, not_or] at hj
    exact (hs.other j hj.2).trans (h.other j (by simpa using hj.1))
  raised j hj := hs.raised j (h.raised j hj)
  noted hactive j hj hexceeds := by
    rcases List.mem_cons.1 hj with rfl | hj
    · exact hs.raised j (h.noted hactive j (by simp) hexceeds)
    · refine hs.noted (h.active.trans hactive) j hj ?_
      have hne : j ∉ [k] := fun e => hk (List.mem_singleton.1 e ▸ hj)
      rwa [State.trendExceeded, h.thresh, h.count, h.other j hne]

theorem State.compared_each {ks : List Nat} (hks : ks.Nodup) (s : State) : s.Compared ks (s.each ks State.ceTrend) := by
  induction ks generalizing s with
  | nil => exact ⟨rfl, rfl, fun _ => rfl, rfl, nofun, fun _ _ => rfl, fun _ h => h, nofun⟩
  | cons k ks ih =>
    obtain ⟨hk, hks⟩ := List.nodup_cons.1 hks
    exact (s.compared_ceTrend k).cons (ih hks _) hk

theorem execMemCeHourly_eq {s : State} (halive : s.alive = true) (hhour : s.mem.ceHourNo < s.tick / hourTicks) :
    exec .memCeHourly s = .next (State.each { s with mem := { s.mem with ceHourNo := s.tick / hourTicks } } (List.range 12) State.ceTrend) := by
  show execMemCeHourly s = _
  rw [execMemCeHourly, if_pos (by simp [halive, hhour])]

/-! ### Hot windows (R161) -/

/-- The hot windows in a row of a channel after a window of depth `d`. -/
def State.nextHot (s : State) (mean d p : Nat) : Nat :=
  if channelHot (s.rd F.MEM_IMB_CTRL_factor) mean d then sget 0 s.mem.hot p + 1 else 0

/-- Those of all channels after a window. -/
def State.nextHots (s : State) (ds : List Nat) : Sparse Nat := (ds.take 768).zipIdx.foldl (fun h p =>
  if channelHot (s.rd F.MEM_IMB_CTRL_factor) (imbMean ds) p.1 then sset 0 h p.2 (sget 0 s.mem.hot p.2 + 1) else sset 0 h p.2 0) []

/-- Each value set at its own index: the value set last is read back. -/
theorem sget_foldl_zipIdx {f : Sparse Nat → Nat × Nat → Sparse Nat} {g : Nat → Nat → Nat}
    (hf : ∀ h p, f h p = sset 0 h p.2 (g p.1 p.2)) (xs : List Nat) : ∀ (n : Nat) (m : Sparse Nat) (p : Nat),
    sget 0 ((xs.zipIdx n).foldl f m) p = if n ≤ p ∧ p < n + xs.length then g (xs.getD (p - n) 0) p else sget 0 m p := by
  induction xs with
  | nil =>
    intro n m p
    rw [if_neg (by simp)]
    rfl
  | cons x xs ih =>
    intro n m p
    simp only [List.zipIdx_cons, List.foldl_cons, List.length_cons]
    rw [ih, hf, sget_sset]
    rcases Nat.lt_trichotomy p n with hp | rfl | hp
    · rw [if_neg (by omega), if_neg (by omega), if_neg (by omega)]
    · rw [if_neg (by omega), if_pos rfl, if_pos (by omega), Nat.sub_self]
      rfl
    · have hshift : p - n = p - (n + 1) + 1 := by omega
      rw [if_neg (by omega : ¬ p = n), hshift, List.getD_cons_succ]
      exact if_congr (by omega) rfl rfl

theorem State.sget_nextHots (s : State) {ds : List Nat} (hlen : ds.length = 768) {p : Nat} (hp : p < 768) :
    sget 0 (s.nextHots ds) p = s.nextHot (imbMean ds) (ds.getD p 0) p := by
  have htake : ds.take 768 = ds := List.take_of_length_le hlen.le
  rw [State.nextHots, htake, sget_foldl_zipIdx (g := s.nextHot (imbMean ds)) (fun h q => ?_), if_pos (by omega), Nat.sub_zero]
  unfold State.nextHot
  split <;> rfl

theorem mem_of_sget?_eq_some {α : Type} {m : Sparse α} {i : Nat} {v : α} (h : sget? m i = some v) : (i, v) ∈ m := by
  induction m with
  | nil => cases h
  | cons q m ih =>
    obtain ⟨k, w⟩ := q
    simp only [sget?] at h
    split at h
    next hk => simp_all
    next => exact List.mem_cons_of_mem _ (ih h)

/-- A channel that counts hot windows is listed. -/
theorem mem_of_sget_pos {m : Sparse Nat} {i : Nat} (h : 0 < sget 0 m i) : (i, sget 0 m i) ∈ m := by
  cases hi : sget? m i with
  | none => simp [sget, hi] at h
  | some v =>
    have hv : sget 0 m i = v := by simp [sget, hi]
    exact hv ▸ mem_of_sget?_eq_some hi

/-- MEM_IMB_STATUS shows channel `p`, and MEM_IMBALANCE is raised. -/
def State.showImbalance (s : State) (p ratio : Nat) : State :=
  (((s.wr F.MEM_IMB_STATUS_valid 1).wr F.MEM_IMB_STATUS_pc p).wr F.MEM_IMB_STATUS_ratio ratio).raiseRec .MEM_IMBALANCE p Rec.memImbStatus

theorem State.showImbalance_records (s : State) (p ratio : Nat) : State.Records
    (((s.wr F.MEM_IMB_STATUS_valid 1).wr F.MEM_IMB_STATUS_pc p).wr F.MEM_IMB_STATUS_ratio ratio) (s.showImbalance p ratio) :=
  State.Records.raise (e := .MEM_IMBALANCE) (.refl _ _ _)

theorem State.showImbalance_mem (s : State) (p ratio : Nat) : (s.showImbalance p ratio).mem = s.mem :=
  (s.showImbalance_records p ratio).mem_eq

theorem State.showImbalance_memory (s : State) (p ratio : Nat) : sameMemory s (s.showImbalance p ratio) :=
  .trans (.trans (sameMemory_wrAt _ _ _ _) (sameMemory_wrAt _ _ _ _))
    (.trans (sameMemory_wrAt _ F.MEM_IMB_STATUS_ratio _ _) (s.showImbalance_records p ratio).memory)

theorem State.showImbalance_valid (s : State) (p ratio : Nat) : (s.showImbalance p ratio).rd F.MEM_IMB_STATUS_valid = 1 := by
  rw [State.rd, (s.showImbalance_records p ratio).regs.rdAt_eq F.MEM_IMB_STATUS_valid 0]
  refine (State.rd_wr_other _ _ _ _ (by decide)).trans ((State.rd_wr_other _ _ _ _ (by decide)).trans ?_)
  rw [State.rd_wr_same]
  rfl

/-- A window counts once. -/
theorem execImbalanceWindow_of_counted {s : State} (ds : List Nat) (h : s.tick / msTicks 100 ≤ s.mem.imbWindow) :
    exec (.imbalanceWindow ds) s = .next s := by
  show execImbalanceWindow ds s = _
  rw [execImbalanceWindow, if_neg (by simp [h])]

/-- A new window counts for every channel, and one that has been hot for long enough is shown. -/
theorem execImbalanceWindow_of_new {s : State} (ds : List Nat) (halive : s.alive = true) (hactive : s.job.active = true)
    (henable : s.isSet F.MEM_IMB_CTRL_enable = true) (hnew : s.mem.imbWindow < s.tick / msTicks 100) :
    ∃ t, exec (.imbalanceWindow ds) s = .next t ∧ sameMemory s t ∧ t.mem.imbWindow = s.tick / msTicks 100 ∧
      t.mem.hot = s.nextHots ds ∧
      ∀ x ∈ s.nextHots ds, 10 * s.rd F.MEM_IMB_CTRL_duration_s ≤ x.2 → t.rd F.MEM_IMB_STATUS_valid = 1 := by
  show ∃ t, execImbalanceWindow ds s = .next t ∧ _
  rw [execImbalanceWindow, if_pos (by simp [halive, hactive, henable, hnew])]
  dsimp only
  split
  next p hfind =>
    split
    next hvalid => exact ⟨_, rfl, fun _ => rfl, rfl, rfl, fun _ _ _ => eq_of_beq hvalid⟩
    next hvalid =>
      refine ⟨_, rfl, .trans (fun _ => rfl) (State.showImbalance_memory _ _ _), ?_, ?_, fun _ _ _ => State.showImbalance_valid _ _ _⟩
      · exact congrArg MemSt.imbWindow (State.showImbalance_mem _ _ _)
      · exact congrArg MemSt.hot (State.showImbalance_mem _ _ _)
  next hfind =>
    refine ⟨_, rfl, fun _ => rfl, rfl, rfl, fun x hx hlong => ?_⟩
    exact absurd (decide_eq_true hlong) (List.find?_eq_none.1 hfind x hx)

end Sys2Proof.Machine
end

section
/-! PROOFS. Refetches, resends, poison in the carve-out and resident ranges (R166, R172 to R174). -/

namespace Sys2Proof.Machine

set_option Elab.async false

/-! ### Registers of other fields -/

theorem State.rdAt_wrAt_of_slot_ne (s : State) (f g : Field) (i j v : Nat) (hne : g.slot ≠ f.slot) (hf : f.slot < 2 ^ 64)
    (hg : g.slot < 2 ^ 64) : (s.wrAt f i v).rdAt g j = s.rdAt g j :=
  s.rdAt_wrAt_other f g i j v (Field.key_ne_of_slot _ _ _ _ hg hf hne)

theorem State.rd_addSat_same (s : State) (f : Field) (n : Nat) : (s.addSat f n).rd f = min (s.rd f + n) (2 ^ f.width - 1) :=
  s.rdAt_addSatAt_same f 0 n

theorem State.rd_addSat_other (s : State) (f g : Field) (n : Nat) (h : g.key 0 ≠ f.key 0) : (s.addSat f n).rd g = s.rd g :=
  s.rd_wr_other f g _ h

/-! ### Refetches (R172, R173) -/

/-- The state without an outstanding request. -/
def State.dropRefetch (s : State) (r : Refetch) : State := { s with mem := { s.mem with refetches := s.mem.refetches.erase r } }

/-- A granule of the committed bank that a clean reply rewrites, and the event. -/
def State.rewriteClean (s : State) (g : Nat) (bs : List Byte) : State :=
  ((s.storeN g bs).addSat F.MEM_POISON_COUNT_refetches 1).raise .MEM_REFETCH ((s.storeN g bs).stackOf g)

/-- A clean reply that is awaited is written where the granule is still poisoned and lies in the committed bank whole. -/
theorem execRefetchReply_awaited {s : State} {g : Nat} {bs : List Byte} {r : Refetch} (halive : s.alive = true)
    (hbank : s.regionOf g = s.bank) (hwriter : s.chrys.writer = none) (hlen : bs.length = 64)
    (hfind : s.mem.refetches.find? (fun r => r.granule == g && r.resend == false && r.instar == s.instar) = some r) :
    exec (.refetchReply g s.instar bs false) s = .next (if s.poisonAt g && s.inRegion s.bank g 64 then (s.dropRefetch r).rewriteClean g bs
      else s.dropRefetch r) := by
  have hregion : (s.regionOf g == 2) = false := by
    have hlt : s.bank < 2 := s.rdAt_lt F.MOD_STEP_active_bank 0
    rw [hbank]
    exact beq_false_of_ne (by omega)
  have hheld : (s.dropRefetch r).heldInstar g false = s.instar := if_pos hbank
  have hpoison : (s.dropRefetch r).poisonAt g = s.poisonAt g := rfl
  have hwhole : (s.dropRefetch r).inRegion (s.dropRefetch r).bank g 64 = s.inRegion s.bank g 64 := rfl
  show execRefetchReply g s.instar bs false s = _
  rw [execRefetchReply, if_pos halive, hregion, State.copyReply]
  simp only [hwriter, hfind]
  rw [← State.dropRefetch, hheld, hpoison, hwhole]
  simp only [hlen, State.rewriteClean, beq_self_eq_true, Bool.false_or, Bool.true_and, ne_eq, not_true_eq_false, decide_false,
    Bool.or_false, Bool.not_eq_true', Bool.false_eq_true, if_false]
  cases s.poisonAt g && s.inRegion s.bank g 64 <;> rfl

theorem sameMemory.loadN_eq {s t : State} (h : sameMemory s t) (a n : Nat) : t.loadN a n = s.loadN a n := by
  simp only [State.loadN, h (a + _)]

/-- The rewrite clears the mark, counts and changes no other byte. -/
theorem State.rewriteClean_spec (s : State) {g : Nat} {bs : List Byte} (hg : g % 64 = 0) (h : g + 64 ≤ 0xB800000000)
    (hlen : bs.length = 64) : (s.rewriteClean g bs).mem.refetches = s.mem.refetches ∧
      (s.rewriteClean g bs).loadN g 64 = bs ∧ (s.rewriteClean g bs).poisonAt g = false ∧
      (∀ a, (a < g ∨ g + 64 ≤ a) → (s.rewriteClean g bs).peek a = s.peek a) ∧
      (s.rewriteClean g bs).rd F.MEM_POISON_COUNT_refetches =
        min (s.rd F.MEM_POISON_COUNT_refetches + 1) (2 ^ F.MEM_POISON_COUNT_refetches.width - 1) := by
  obtain ⟨hload, hclean, hpeek⟩ := s.storeN_granule_spec hg h hlen
  obtain ⟨m, p, r, hstore⟩ := s.storeN_granule_frame hg h hlen
  have hrecords : State.Records ((s.storeN g bs).addSat F.MEM_POISON_COUNT_refetches 1) (s.rewriteClean g bs) :=
    State.Records.raise (e := .MEM_REFETCH) (.refl _ _ _)
  have hmem : (s.rewriteClean g bs).mem = (s.storeN g bs).mem := hrecords.mem_eq
  have hmemory : sameMemory (s.storeN g bs) (s.rewriteClean g bs) := .trans (sameMemory_wrAt _ _ _ _) hrecords.memory
  refine ⟨?_, (hmemory.loadN_eq g 64).trans hload, ?_, fun a ha => (hmemory a).trans (hpeek a ha), ?_⟩
  · rw [hmem, hstore]
  · rwa [State.poisonAt_of_lt _ (by omega), hmem, ← State.poisonAt_of_lt _ (by omega)]
  · rw [State.rd, hrecords.regs.rdAt_eq F.MEM_POISON_COUNT_refetches 0]
    refine (State.rd_addSat_same _ _ _).trans ?_
    rw [hstore]
    rfl

/-! ### Resends (R172) -/

theorem execResendRequest_of_other {s : State} {a k : Nat} (h : s.heldInstar a false ≠ k) :
    exec (.resendRequest a k s.partner) s = .next s := by
  show execResendRequest a k s.partner s = _
  simp [execResendRequest, State.resendGranule, h]

/-- The granule leaves under the address of a resend, with its mark. -/
theorem execResendRequest_of_held {s : State} {a : Nat} (halive : s.alive = true) (hactive : s.job.active = true)
    (hregion : s.regionOf a < 2) (hcopy : s.regionOf a ≠ s.bank ∨ s.poisonAt a = false) :
    exec (.resendRequest a (s.heldInstar a false) s.partner) s = .next (s.sendFlit
      (s.envelope s.partner (2 ^ 47 + 2 ^ 45 + a) .readData 1 false (bit (s.poisonAt a)) (s.loadN a 64))) := by
  have hfatal : ¬ ((decide (s.regionOf a = s.bank) && s.poisonAt a) = true) := by
    rcases hcopy with h | h <;> simp [h]
  show execResendRequest a (s.heldInstar a false) s.partner s = _
  simp only [execResendRequest, halive, if_true, State.resendGranule, hactive, hregion, beq_self_eq_true, decide_true, Bool.and_self]
  rw [if_neg (by simpa using hfatal)]

/-! ### Poison consumed (R172, R174) -/

/-- A consumption is recorded if no other is, and counted; nothing but MEM_POISON_LAST and MEM_POISON_COUNT changes. -/
theorem State.consumed_spec (s : State) (point a : Nat) : (s.consumed point a).mode = s.mode ∧ sameMemory s (s.consumed point a) ∧
    (s.consumed point a).rd F.MEM_POISON_LAST_valid = 1 ∧
    (s.isSet F.MEM_POISON_LAST_valid = false → (s.consumed point a).rd F.MEM_POISON_LAST_point = point % 2 ^ 4 ∧
      (s.consumed point a).rd F.MEM_POISON_LAST_address = a / 64 * 64 % 2 ^ 48) ∧
    (s.consumed point a).rd F.MEM_POISON_COUNT_consumed =
      min (s.rd F.MEM_POISON_COUNT_consumed + 1) (2 ^ F.MEM_POISON_COUNT_consumed.width - 1) := by
  have hkeep : (s.addSat F.MEM_POISON_COUNT_consumed 1).isSet F.MEM_POISON_LAST_valid = s.isSet F.MEM_POISON_LAST_valid := by
    rw [State.isSet, State.isSet, State.rd_addSat_other _ _ _ _ (by decide)]
  have hcount : sameMemory s (s.addSat F.MEM_POISON_COUNT_consumed 1) := sameMemory_wrAt _ _ _ _
  unfold State.consumed
  extract_lets u r
  cases hvalid : u.isSet F.MEM_POISON_LAST_valid with
  | true =>
    have hset : s.isSet F.MEM_POISON_LAST_valid = true := hkeep ▸ hvalid
    rw [if_pos rfl]
    exact ⟨rfl, hcount, eq_of_beq hvalid, fun hunset => absurd hset (by simp [hunset]), State.rd_addSat_same _ _ _⟩
  | false =>
    rw [if_neg (by decide)]
    refine ⟨rfl, hcount.trans (.trans (.trans (sameMemory_wrAt _ F.MEM_POISON_LAST_valid _ _) (sameMemory_wrAt _ F.MEM_POISON_LAST_region _ _))
      (.trans (sameMemory_wrAt _ F.MEM_POISON_LAST_point _ _) (sameMemory_wrAt _ _ _ _))), ?_, fun _ => ⟨?_, ?_⟩, ?_⟩
    · simp (disch := decide) only [State.rd_wr_other, State.rd_wr_same]
      rfl
    · simp (disch := decide) only [State.rd_wr_other, State.rd_wr_same]
      rfl
    · simp (disch := decide) only [State.rd_wr_same]
      rfl
    · simp (disch := decide) only [State.rd_wr_other]
      exact State.rd_addSat_same _ _ _

theorem State.Records.withMode {s t : State} (h : s.Records t) (m : ModState) : State.Records { s with mode := m } { t with mode := m } :=
  ⟨(congrArg (fun x : State => { x with mode := m }) h.rest :), h.regs⟩

theorem State.Records.ofMode {s t : State} {m : ModState} (h : State.Records { s with mode := m } t) :
    sameMemory s t ∧ State.RegsBut recordFields s t :=
  ⟨.trans (fun _ => rfl) h.memory, h.regs⟩

/-- A FATAL_MODULE event enters FAILED with auxiliary power present; beside that, events are recorded. -/
theorem State.raise_fatalModule {s : State} {e : Event} (he : e.severity = 5) (hpower : s.powered = true) (unit : Nat) (detail : List Nat) :
    (s.raise e unit detail).mode = .failed ∧ ∃ m, State.Records { s with mode := m } (s.raise e unit detail) := by
  have hrecord : s.Records (s.record e unit detail) := .record (.refl _ _ s)
  have hraise : s.raise e unit detail = (s.record e unit detail).enterFailed e.code := if_pos he
  obtain ⟨hfailed, m, henter⟩ := (s.record e unit detail).enterFailed_spec (by rwa [State.powered, hrecord.mode_eq]) e.code
  rw [hraise]
  exact ⟨hfailed, m, (hrecord.withMode m).trans henter⟩

theorem lt_of_place_eq_carve {a b : Nat} (h : place a = .carve b) : a < 0xC000000000 := by
  unfold place at h
  split_ifs at h
  assumption

theorem State.consumePoison_of_carve {s : State} {a b : Nat} (h : place a = .carve b) :
    s.consumePoison a = (s.consumed 8 b).raise .MEM_POISON_CTRL 0xFFFF (s.consumed 8 b).poisonDetail := by
  rw [State.consumePoison, h]

theorem execCarveOutPoisonRead_eq {s : State} {a b : Nat} (held : Bool) (hplace : place a = .carve b) (hpower : s.powered = true)
    (hpoison : s.poisonAt a = true) : exec (.carveOutPoisonRead ⟨a, held⟩) s = .next (if held then s.consumePoison a
      else (s.consumePoison a).raise .MEM_CTRL_FATAL 0xFFFF (s.consumePoison a).poisonDetail) := by
  show execCarveOutPoisonRead ⟨a, held⟩ s = _
  simp only [execCarveOutPoisonRead, hplace, hpower, hpoison, Bool.and_self, if_true]

theorem State.consumePoison_records {s : State} {a b : Nat} (h : place a = .carve b) : State.Records (s.consumed 8 a) (s.consumePoison a) := by
  obtain rfl : b = a := place_eq_hbm_iff (.inr h)
  rw [State.consumePoison_of_carve h]
  exact State.Records.raise (e := .MEM_POISON_CTRL) (.refl _ _ _)

/-- A poisoned read of the carve-out consumes the poison, and events are recorded; it fails the module unless it is contained. -/
theorem execCarveOutPoisonRead_spec {s : State} {a b : Nat} (held : Bool) (hplace : place a = .carve b) (hpower : s.powered = true)
    (hpoison : s.poisonAt a = true) : ∃ t, exec (.carveOutPoisonRead ⟨a, held⟩) s = .next t ∧
      t.mode = (if held then s.mode else .failed) ∧ sameMemory (s.consumed 8 a) t ∧ State.RegsBut recordFields (s.consumed 8 a) t := by
  rw [execCarveOutPoisonRead_eq held hplace hpower hpoison]
  have hrecords := s.consumePoison_records hplace
  generalize s.consumePoison a = u at hrecords ⊢
  have hmode : u.mode = s.mode := hrecords.mode_eq.trans (s.consumed_spec 8 a).1
  cases held with
  | true => exact ⟨u, rfl, hmode, hrecords.memory, hrecords.regs⟩
  | false =>
    simp only [Bool.false_eq_true, if_false]
    obtain ⟨hfailed, m, hfatal⟩ := State.raise_fatalModule (e := .MEM_CTRL_FATAL) (by decide) (by rwa [State.powered, hmode]) 0xFFFF
      u.poisonDetail
    exact ⟨_, rfl, hfailed, State.Records.ofMode ((hrecords.withMode m).trans hfatal)⟩

/-! ### Resident ranges (R166) -/

theorem fld_mod (v hi lo : Nat) : fld v hi lo % 2 ^ (hi + 1 - lo) = fld v hi lo := Nat.mod_mod _ _

theorem execTsResidentWrite_of_alive {s : State} (h : s.alive = true) (i v : Nat) :
    exec (.tsResidentWrite i v) s = .next (s.writeResident i v) := by
  show execTsResidentWrite i v s = _
  rw [execTsResidentWrite, if_pos h]

/-- A write is ignored while a step is open, and outside the array. -/
theorem State.writeResident_of_closed {s : State} {i : Nat} (v : Nat) (h : s.stepOpen = true ∨ 1024 ≤ i) : s.writeResident i v = s := by
  rcases h with h | h <;> simp [State.writeResident, h]

/-- One whose range would run past its window is ignored whole. -/
theorem State.writeResident_of_bad (s : State) (i : Nat) {v : Nat} (hvalid : bitAt v 0 = true)
    (h : 3968 < fld v 63 52 + fld v 51 40 ∨ 4096 < fld v 39 28 + fld v 27 15) : s.writeResident i v = s := by
  rcases h with h | h <;> simp [State.writeResident, hvalid, h]

/-- Any other fills the five fields of its register. -/
theorem State.writeResident_of_good {s : State} {i v : Nat} (hopen : s.stepOpen = false) (hi : i < 1024)
    (h : bitAt v 0 = true → fld v 63 52 + fld v 51 40 ≤ 3968 ∧ fld v 39 28 + fld v 27 15 ≤ 4096) :
    s.writeResident i v = ((((s.wrAt F.MEM_TS_RESIDENT_slot_first i (fld v 63 52)).wrAt F.MEM_TS_RESIDENT_slot_count i (fld v 51 40)).wrAt
      F.MEM_TS_RESIDENT_entry_first i (fld v 39 28)).wrAt F.MEM_TS_RESIDENT_entry_count i (fld v 27 15)).wrAt
      F.MEM_TS_RESIDENT_valid i (fld v 0 0) := by
  have hwhole : (bitAt v 0 && (decide (3968 < fld v 63 52 + fld v 51 40) || decide (4096 < fld v 39 28 + fld v 27 15))) = false := by
    cases hvalid : bitAt v 0 with
    | false => rfl
    | true =>
      obtain ⟨hslots, hentries⟩ := h hvalid
      simp [hslots, hentries]
  rw [State.writeResident, if_neg (by simp [hwhole, hopen, hi])]

/-- The register then reads as it was written, and memory is as before. -/
theorem State.writeResident_spec {s : State} {i v : Nat} (hopen : s.stepOpen = false) (hi : i < 1024)
    (h : bitAt v 0 = true → fld v 63 52 + fld v 51 40 ≤ 3968 ∧ fld v 39 28 + fld v 27 15 ≤ 4096) :
    sameMemory s (s.writeResident i v) ∧ (s.writeResident i v).rdAt F.MEM_TS_RESIDENT_slot_first i = fld v 63 52 ∧
      (s.writeResident i v).rdAt F.MEM_TS_RESIDENT_slot_count i = fld v 51 40 ∧
      (s.writeResident i v).rdAt F.MEM_TS_RESIDENT_entry_first i = fld v 39 28 ∧
      (s.writeResident i v).rdAt F.MEM_TS_RESIDENT_entry_count i = fld v 27 15 ∧
      (s.writeResident i v).rdAt F.MEM_TS_RESIDENT_valid i = fld v 0 0 := by
  rw [State.writeResident_of_good hopen hi h]
  refine ⟨?_, ?_⟩
  · exact .trans (sameMemory_wrAt _ _ _ _) (.trans (.trans (sameMemory_wrAt _ F.MEM_TS_RESIDENT_slot_count _ _)
      (sameMemory_wrAt _ F.MEM_TS_RESIDENT_entry_first _ _)) (.trans (sameMemory_wrAt _ F.MEM_TS_RESIDENT_entry_count _ _) (sameMemory_wrAt _ _ _ _)))
  · simp (disch := decide) only [State.rdAt_wrAt_of_slot_ne, State.rdAt_wrAt_same]
    exact ⟨fld_mod v 63 52, fld_mod v 51 40, fld_mod v 39 28, fld_mod v 27 15, fld_mod v 0 0⟩

end Sys2Proof.Machine
end

section
/-! PROOFS. The statements on the memory unit. -/

open Sys2Proof Sys2Proof.Machine

set_option Elab.async false

/-- Settles O26: a check of a granule ends in one of the cases of R167, and what follows an uncorrectable one changes neither marks nor counts;
the monitors' clauses are what their folds leave at each stack and channel. -/
theorem scrubAndMonitors : Obligations.ScrubAndMonitors := by
  refine ⟨fun s c a halive hmode henable hat hdemand hscrub => ?_, fun s n off oc c u halive hn => ?_, fun s halive hhour => ?_,
    fun s ds halive hactive henable hlen => ⟨execImbalanceWindow_of_counted ds, fun hnew => ?_⟩⟩
  case refine_1 =>
    have ha : a + 64 ≤ 0xC000000000 := checkedGranule_le hat hdemand hscrub
    obtain ⟨hmemory, hmark, hce, hue⟩ := (s.checkCode a c).afterCheck_frame c.demand.isSome
    have hmarked := hmark a (by omega)
    refine ⟨_, execPatrolScrub_eq halive hmode henable hdemand hscrub, ?_, fun hm hc => ?_, fun hm hlow hhigh => ?_, fun hm hc => ?_,
      fun hc => ?_⟩
    · rw [State.afterCheck_scrubAt, State.checkCode_scrubAt ha]
    · rw [State.checkCode_of_none hm hc] at hmemory hce ⊢
      exact ⟨hmemory, hce⟩
    · rw [State.checkCode_of_corrected hm hlow hhigh] at hmemory hmarked ⊢
      exact ⟨.trans (sameMemory_wrAt _ _ _ _) hmemory, hmarked.trans (s.poisonAt_wrAt _ _ _ (by omega))⟩
    · obtain ⟨hcount, hpeek⟩ := State.checkCode_counts (s := s) ha hm hc
      exact ⟨(hce _).trans hcount, fun b hb => (hmemory b).trans (hpeek b hb)⟩
    · rw [State.checkCode_of_uncorrectable hc] at hmarked hue ⊢
      exact ⟨hmarked.trans (State.uncorrectable_poisonAt (by omega)),
        fun hclean => (hue _).trans (State.uncorrectable_count (by omega) hclean)⟩
  case refine_2 =>
    obtain ⟨hoc, htile⟩ := (s.sramCounted oc c).sramMarked_none n off oc
    refine ⟨_, execSramScrub_eq halive hn oc c u off, (s.sramCounted_memory oc c).trans (State.sramMarked_memory _ n off oc u), ?_, ?_, ?_,
      ?_, ?_⟩
    · rintro rfl rfl
      rw [State.rd_sramMarked, State.rd_sramCounted_ocache]
    · rintro rfl rfl
      rw [State.rd_sramMarked, State.rd_sramCounted_tile]
    · rintro rfl rfl
      exact State.sramMarked_ocache _ n off
    · rintro rfl rfl
      exact State.sramMarked_tile _ n off
    · rintro rfl
      rw [hoc, htile, State.sramCounted_mem]
      exact ⟨rfl, rfl⟩
  case refine_3 =>
    have hcompared := State.compared_each (ks := List.range 12) List.nodup_range { s with mem := { s.mem with ceHourNo := s.tick / hourTicks } }
    refine ⟨_, execMemCeHourly_eq halive hhour, hcompared.hourNo, fun k hk => hcompared.taken k (List.mem_range.2 hk), fun k hk hactive hexceeds => ?_⟩
    exact hcompared.noted hactive k (List.mem_range.2 hk) (decide_eq_true hexceeds)
  case refine_4 =>
    obtain ⟨t, hexec, hmemory, hwindow, hhot, hshown⟩ := execImbalanceWindow_of_new ds halive hactive henable hnew
    refine ⟨t, hexec, hmemory, hwindow, fun p hp => ?_, fun p hp hpos hlong => ?_⟩
    · rw [hhot, s.sget_nextHots hlen hp, State.nextHot]
    · rw [hhot] at hpos hlong
      exact hshown _ (mem_of_sget_pos hpos) hlong

/-- Settles O27: each clause is a case of its command's handler, and the events raised on the way change neither memory nor its counts. -/
theorem refetchesAndResidents : Obligations.RefetchesAndResidents := by
  refine ⟨fun s g bs r halive hbank hwriter hg hle hlen hfind => ?_, fun s a k h => execResendRequest_of_other h,
    fun s a halive hactive hregion hcopy => ?_, fun s a b held hplace hpower hpoison => ?_, fun s i v halive => ?_⟩
  case refine_1 =>
    refine ⟨_, execRefetchReply_awaited halive hbank hwriter hlen hfind, ?_⟩
    obtain ⟨hrequests, hrest⟩ := (s.dropRefetch r).rewriteClean_spec hg hle hlen
    split
    next hboth =>
      refine ⟨hrequests, fun _ _ => hrest, fun hclean => ?_⟩
      simp [hclean] at hboth
    next hboth =>
      exact ⟨rfl, fun hpoison hwhole => absurd (by simp [hpoison, hwhole]) hboth, fun _ _ => rfl⟩
  case refine_2 =>
    exact ⟨_, execResendRequest_of_held halive hactive hregion hcopy, (State.Sends.sendFlit (.refl _ _ s)).memory,
      s.sendFlit_onItsWay _ 0 _ fun _ => ⟨rfl, rfl, rfl⟩⟩
  case refine_3 =>
    obtain ⟨t, hexec, hmode, hrecorded, hregs⟩ := execCarveOutPoisonRead_spec held hplace hpower hpoison
    obtain ⟨-, hmemory, hvalid, hfirst, hcount⟩ := s.consumed_spec 8 a
    have ha : a < 0xC000000000 := lt_of_place_eq_carve hplace
    refine ⟨t, hexec, hmode, hmemory.trans hrecorded, (hregs.rdAt_eq F.MEM_POISON_LAST_valid 0).trans hvalid, fun hunset => ?_,
      (hregs.rdAt_eq F.MEM_POISON_COUNT_consumed 0).trans hcount⟩
    obtain ⟨hpoint, haddr⟩ := hfirst hunset
    exact ⟨(hregs.rdAt_eq F.MEM_POISON_LAST_point 0).trans hpoint,
      (hregs.rdAt_eq F.MEM_POISON_LAST_address 0).trans (haddr.trans (Nat.mod_eq_of_lt (by omega)))⟩
  case refine_4 =>
    rw [execTsResidentWrite_of_alive halive]
    refine ⟨fun h => by rw [State.writeResident_of_closed v h], fun hvalid h => by rw [State.writeResident_of_bad s i hvalid h],
      fun hopen hi h => ⟨_, rfl, State.writeResident_spec hopen hi h⟩⟩

end
